-- ==== Sys2Proof/Word.lean ====
section
/-! DEFINITION. The word types: a 32-bit register or parameter word (R72, R42) and a byte. -/
namespace Sys2Proof

/-- A register word, a header word or a parameter word. -/
abbrev Word := BitVec 32
/-- One byte of a frame, an image or a buffer. -/
abbrev Byte := BitVec 8

end Sys2Proof
end

