-- ==== Sys2Proof/Syntax.lean ====
section
/-! DEFINITION. The commands of the module: one constructor of `Instr` per row of spec/opcode_table.json. A row with an
opcode (R60) takes a `Packet`: the command as the module meets it, on either channel. Every other row is a register
operation, an event on a pin, a link or a timer, with the values the outside supplies as its operands. -/
namespace Sys2Proof

/-- A command packet as the module meets it (R42 to R44, R64): the channel (R33: 0 the PCIe rings, 1 the service port; 2 stands for a service-port
command whose host has left, R65),
the header fields, the reserved header bits, the words after the header (`inl`), the parameter buffer's contents as
host memory holds them when the module reads it (`pbuf`, INDIRECT only) and whether that read failed on PCIe.
The last three are what the module meets while it runs the command: whether it can finish within 10 µs (`slow`, R53),
whether an internal step exceeds its time (`late`, R51), and the values it measures or reads from outside (`env`; the
meaning that uses them says what they are). -/
structure Packet where
  chan    : Nat := 0
  ver     : Nat := 1
  flags   : Nat := 0
  opcode  : Nat := 0
  tag     : Nat := 0
  plen    : Nat := 0
  target  : Nat := 0
  rsvB    : Nat := 0
  ctx     : Nat := 0
  rsvC    : Nat := 0
  inl     : List Word := []
  pbuf    : List Word := []
  pbufErr : Bool := false
  slow    : Bool := false
  late    : Bool := false
  env     : List Nat := []
  deriving DecidableEq, Repr









/-- A phase of a lane's training ends; what the receiver's adaptation has reached: CTLE, VGA, then the moves of the 24 receive FFE and 8
DFE taps. -/
structure TrainEnd where
  lane : Nat
  eq   : List Int
  deriving DecidableEq, Repr

/-- What the hunt of the `sub`-th FEC, PCS or virtual lane of a lane sees: the lane number its markers carry, and the evidence: 64 sync
headers, the nibble mismatches of 2 markers, or 16 control block types. -/
structure MarkerSeen where
  sub  : Nat
  num  : Nat
  seen : List Nat
  deriving DecidableEq, Repr

/-- What a lane in lock sees: the sync headers of a stretch of at most 64, or the nibble mismatches of 5 markers. -/
structure LossSeen where
  lane : Nat
  seen : List Nat
  deriving DecidableEq, Repr

/-- What a FOM window measures: the mean square error, in the adaptation loop's units, and the steps that the 24 receive FFE and 8 DFE
taps take in it. -/
structure FomSeen where
  mse   : Nat
  moves : List Int
  deriving DecidableEq, Repr

/-- The bits a lane's checker has received, from seeding on. -/
structure CheckerBits where
  lane : Nat
  rx   : List Bool
  deriving DecidableEq, Repr

/-- The rail of a domain falls to this many mV. -/
structure RailFall where
  dom : Nat
  mv  : Nat
  deriving DecidableEq, Repr

/-- A command of the module: one constructor per row of spec/opcode_table.json. -/
inductive Instr where
  -- Command packets and the rings (chapter 02)
  | nop (p : Packet)
  | identify (p : Packet)
  | fenceCmd (p : Packet)
  | getStatus (p : Packet)
  /-- A write of `value` to CMD_SQ_TAIL on a channel. -/
  | cmdSqDoorbell (chan value : Nat)
  | cmdCqHeadWrite (chan value : Nat)
  /-- A write of CMD_CTL with EN 1, and this IRQ_EN. -/
  | cmdRingEnable (chan : Nat) (irqEn : Bool)
  | cmdRingDisable (chan : Nat) (irqEn : Bool)
  | cmdFetchError
  /-- The PENDING command of this index ends in the background; the values it met. -/
  | pendingComplete (index : Nat) (late : Bool) (env : List Nat)
  | fenceWaitEnd
  | cqReplyRelease
  | heldCommandRelease
  | cmdIrqCoalTimeout
  /-- A USB bulk OUT transfer: its words, and whether it was cut short. -/
  | svcCommandFrame (words : List Word) (short : Bool)
  | svcPortDisconnect
  | pktDmaEnable (chan : Nat)
  | pktDmaDisable (chan : Nat)
  | pktTxDoorbell (chan ring value : Nat)
  /-- The DMA takes the next entry of transmit ring `ring`: the entry's eight words, the frame's bytes without FCS. -/
  | pktTxFrame (ring : Nat) (entry : List Word) (bytes : List Nat)
  | pktRxDoorbell (chan ring value : Nat)
  /-- A picked port 512 frame is written to its receive ring; `addrs` are the buffer addresses of its entries. -/
  | pktRxDeliver (addrs : List Nat)
  /-- A PCIe error on a packet DMA access: 0 transmit entry or buffer read, 1 head writeback, 2 receive write; the ring. -/
  | pktDmaError (kind ring : Nat)
  /-- The coalescing time of a ring elapses: 0 to 3 transmit, 4 to 11 receive. -/
  | pktIrqCoalTimeout (ring : Nat)
  -- Register interface (chapter 03)
  | snapshot (p : Packet)
  /-- A write: channel, offset, the words of the request, whether every byte enable is set. -/
  | registerWrite (chan offset : Nat) (words : List Word) (full : Bool)
  /-- A read of `count` words. -/
  | rcRegisterRead (chan offset count : Nat)
  | pairLoRead (chan offset : Nat)
  /-- A vendor control request on endpoint 0 that asks for data: bmRequestType, bRequest, wValue, wIndex, wLength. -/
  | svcRegisterRead (reqType req wValue wIndex wLength : Nat)
  | svcRegisterWrite (reqType req wValue wIndex wLength : Nat) (data : Word)
  /-- A write of a block's PAIR_COMMIT: 0 to 7 the boughs, 8 the TUN block. -/
  | pairCommit (block : Nat) (value : Word)
  | pairApply (block : Nat)
  | glbResetWarm (chan : Nat) (key : Nat)
  | glbResetCold (chan : Nat) (key : Nat)
  -- Lanes (chapter 04)
  | laneCfg (p : Packet)
  | laneTest (p : Packet)
  | eyeScan (p : Packet)
  | laneFom (p : Packet)
  /-- Calibration of a waking lane ends; whether it passed. -/
  | laneCalDone (lane : Nat) (pass : Bool)
  | laneSignalDetect (lane : Nat)
  | laneSignalLoss (lane : Nat)
  /-- A training frame: its 64 information bits, whether its marker came at the spacing, whether the marker is inverted. -/
  | laneTrainFrame (lane info : Nat) (marker inverted : Bool)
  | laneTrainPhaseEnd (e : TrainEnd)
  | laneTrainTimeout (lane : Nat)
  /-- What a lane's hunt sees, and whether the match is inverted. -/
  | laneLock (lane : Nat) (m : MarkerSeen) (inverted : Bool)
  | laneHuntTimeout (lane : Nat)
  /-- Lock may be lost. -/
  | laneLockLoss (e : LossSeen)
  | laneRetryTimer (lane : Nat)
  /-- A FOM window ends with level half-distance `a`, in the adaptation loop's units. -/
  | fomWindowEnd (lane a : Nat) (m : FomSeen)
  /-- A safe point: the step the loop takes (0 none, 1 CTLE, 2 VGA) and its direction. -/
  | laneSafePoint (lane which : Nat) (up : Bool)
  | laneLpiEntry (lane : Nat)
  | steepEntry (port : Nat)
  | steepEidleRx (port : Nat)
  | steepBurstRx (port : Nat)
  | laneWakeRequest (lane : Nat)
  | steepStaleTimer (port : Nat)
  | laneWakeLimit (lane : Nat)
  | prbsCheckerLock (e : CheckerBits)
  /-- The bits the checker has compared since it locked, and the places of those that were wrong, rising. -/
  | prbsCheckerLockLoss (lane bits : Nat) (errs : List Nat)
  | twigDeepDoze (twig : Nat)
  | twigPllWake (twig : Nat)
  -- Ports, MAC and FEC (chapter 05)
  | portCfg (p : Packet)
  | portEnable (p : Packet)
  | portStatus (p : Packet)
  | pfcCfg (p : Packet)
  | ptpCfg (p : Packet)
  /-- Every FEC or PCS lane is locked and deskewed, fault-free for 10 µs. -/
  | portAligned (port : Nat)
  | portAlignTimeout (port : Nat)
  | portAlignRetry (port : Nat)
  /-- A fault begins: local, or remote. -/
  | portFaultStart (port : Nat) (remote : Bool)
  | portHoldoffExpire (port : Nat)
  | portFaultClear (port : Nat)
  /-- A frame at the lands: its bytes from DA to FCS, whether a codeword left errored blocks in it. -/
  | rxFrame (port : Nat) (bytes : List Nat) (errored : Bool)
  /-- A timer of a port runs out: priority 0 to 7, or 8 the pause timer. -/
  | pauseTimerExpire (port prio : Nat)
  | portLpiIdle (port : Nat)
  | tsPop (chan port : Nat) (value : Word)
  -- Root links (chapter 06)
  /-- The next flit of a direction arrives at its receiving end (UP at the Tun, DN at the bough), with some bits inverted on
  the way: those of `body` in its first 480 bits, those of `crc` in its CRC. -/
  | flitRx (cluster : Nat) (dn : Bool) (body crc : Nat)
  | nakRepeat (cluster : Nat) (dn : Bool)
  | rootClkLoss (cluster : Nat) (dn : Bool)
  | rootLaneSwap (cluster : Nat) (dn : Bool)
  /-- The pattern of a swap ends; the spares (64, 65) whose alignment failed in it. -/
  | rootSwapPatternEnd (cluster : Nat) (dn : Bool) (failed : List Nat)
  /-- An unused spare (64 or 65) is re-deskewed; whether its pattern passed. -/
  | rootSpareDeskew (cluster : Nat) (dn : Bool) (spare : Nat) (pass : Bool)
  /-- A cluster trains: the lanes that failed in each direction, and whether the forwarded clocks locked. -/
  | rootClusterTrain (cluster : Nat) (failUp failDn : List Nat) (clock : Bool)
  | pinMapChange (bough : Nat)
  /-- FENCE or END of the map change under way is the next thing a cluster delivers. -/
  | repinFenceRx (cluster : Nat)
  | repinEndWaitExpire (bough : Nat)
  | reseqGapSkip (port : Nat)
  -- Pipes (chapter 07)
  /-- A pipe takes the next ready frame into parser slot `slot`; `tail` is the stage from which the frame's tail has arrived, 0
  where it had arrived at entry. -/
  | pipeFrameEntry (pipe slot tail : Nat)
  /-- A lookup engine returns the result of the pipe's frame number `n`; `mem` from 1 to 4 names an internal memory of the pipe in
  which it met an uncorrectable error meanwhile (R498), 0 none. -/
  | clsResultReturn (pipe n mem : Nat)
  /-- The pipe's oldest frame leaves; whether the root-link input has no room for it (R157). -/
  | pipeDispose (pipe : Nat) (excess : Bool)
  /-- The next frame of a port leaves the resequencing buffer through egress; the bytes the MAC has sent of it when a bad mark or
  its excess length reaches the MAC, 0 where it has not begun. -/
  | egressProcess (port sent : Nat)
  | pipeDozeEntry (pipe : Nat)
  | pipeWake (pipe : Nat)
  | pipeFosterStart (pipe : Nat)
  | pipeFosterHandback (pipe : Nat)
  | pipeNoProgress (pipe : Nat)
  -- Hop microcode and the control stores (chapter 08)
  | progLoad (p : Packet)
  | progPatch (p : Packet)
  | storeModeSet (p : Packet)
  | progActivate (p : Packet)
  | progRead (p : Packet)
  /-- Walker `n` of a store (0 to 7 the boughs', 8 the Tun's) runs on to its next safe point. -/
  | walkerSafePoint (store n : Nat)
  /-- The watchdog of R206 meets a context: walker 0 to 3 of a store, or 4 + e for Grist engine e. -/
  | safeWatchdog (store ctx : Nat)
  /-- A store word shows an error: on a fetch or scrub, correctable or not. -/
  | storeScrub (store addr : Nat) (corrected : Bool)
  | patchSetCurrent (store : Nat)
  -- Forwarding tables and learning (chapter 09)
  | tblProfile (p : Packet)
  | tblInsert (p : Packet)
  | tblDelete (p : Packet)
  | tblLookup (p : Packet)
  /-- `env`: first 0, or 1 + the number of entries moved before a PCIe error; then the entries that host memory holds. -/
  | tblDma (p : Packet)
  /-- `env`: the entries of the shadow image. -/
  | tblAudit (p : Packet)
  | tblLock (p : Packet)
  | tblLearnCfg (p : Packet)
  | learnExecute (bough : Nat)
  | ageTick (bough table : Nat)
  | learnRecordWrite (bough : Nat)
  /-- A write of TBL_LEARN_CTL with EN 1. -/
  | learnRingEnable (bough : Nat) (irqEn : Bool)
  -- Classifier (chapter 10)
  | clsWrite (p : Packet)
  | clsRead (p : Packet)
  | clsTreeLoad (p : Packet)
  /-- The scrubber checks an entry of a partition. -/
  | tcamScrub (partition index : Nat)
  -- Path spreading and flow pinning (chapter 11)
  | ecmpGroupSet (p : Packet)
  | ecmpMemberSet (p : Packet)
  | hashCfg (p : Packet)
  | flowletSweep (bough : Nat)
  | imbWindowEnd (bough : Nat)
  -- The shared buffer (chapter 12)
  | poolCfg (p : Packet)
  | queueCfg (p : Packet)
  | qholdCfg (p : Packet)
  /-- The first cell of a frame reaches write requester `r`: the cluster's next frame, or an internal writer's. -/
  | frameAdmit (r : Nat) (internal : Bool)
  /-- One Tun clock of the allocator; the bit errors that its bank reads show, as (logical bank, uncorrectable). -/
  | allocatorMatch (flips : List (Nat × Bool))
  | frameEofArrive (r : Nat) (internal : Bool)
  /-- A port's scheduler decides; whether the picked queue's list is broken, and how many of its frames are then wholly readable. -/
  | schedPick (port : Nat) (broken : Bool) (readable : Nat)
  /-- An ACK covers the last flit of the oldest frame that a cluster carries DN. -/
  | dnAck (cluster : Nat)
  | portHoldEnter (port : Nat)
  | qholdDeadline (port : Nat)
  /-- The flush engine returns `n` cells. -/
  | flushFree (n : Nat)
  | tallyPass
  /-- The migrator copies up to `n` rows of each bank under replacement; the bit errors its reads show, as (cell, uncorrectable). -/
  | bankReplace (n : Nat) (flips : List (Nat × Bool))
  | bankLeaveService (lbank : Nat)
  -- The Cellar (chapter 13)
  | spillCfg (p : Packet)
  | rackBlock (q : Nat)
  /-- The channel confirms the rack write; the bursts it repeated. -/
  | rackWriteDone (q repeats : Nat)
  | drawIssue (q : Nat)
  /-- A block is read: the bursts repeated, the single-bit errors corrected, the cells whose data is uncorrectable, whether a
  tag or the header is. -/
  | drawComplete (q bseq repeats corrected : Nat) (poison : List Nat) (tagBad : Bool)
  /-- Read timing is retrained: whether it passed; the device's temperature in °C. -/
  | cellarRetrain (ch : Nat) (pass : Bool) (temp : Nat)
  | cellarChannelRetire (ch : Nat)
  | cellarChannelDead (ch : Nat)
  /-- A write of CELLAR_WIN_CTL. -/
  | cellarWinAccess (chan : Nat) (value : Word)
  /-- The access ends: 0 without error, 1 corrected, 2 uncorrectable. -/
  | cellarWinDone (result : Nat)
  -- Scheduling, shaping and policing (chapter 14)
  | schedCfg (p : Packet)
  | shaperCfg (p : Packet)
  | wredCfg (p : Packet)
  | pfcWdCfg (p : Packet)
  | hwmRead (p : Packet)
  | meterCfg (p : Packet)
  | meterRead (p : Packet)
  | pfcXoffChange (port : Nat)
  | pfcRefreshTimer (port : Nat)
  | pfcWdCheck (q : Nat)
  -- Telemetry (chapter 15)
  | telemStreamCfg (p : Packet)
  | sapFlag (p : Packet)
  | telemRead (p : Packet)
  | tagCfg (p : Packet)
  | ioamCfg (p : Packet)
  | perfCfg (p : Packet)
  | perfRead (p : Packet)
  | todSet
  | todStep
  /-- TOD crosses a whole second. -/
  | ppsOutEdge
  | ppsInEdge
  | exportFrameBuild (stream : Nat)
  | exportFlushTimer (stream : Nat)
  | exportFrameLost
  /-- The INTERVAL of a counter set ends; the set by a TARGET of R384. -/
  | perfIntervalEnd (target : Nat)
  -- Grist engines (chapter 16)
  | gristGroupOpen (p : Packet)
  | gristGroupClose (p : Packet)
  | gristGroupStatus (p : Packet)
  /-- The oldest frame of a cluster's staging buffer meets its engine. -/
  | gristContrib (cluster : Nat)
  | gristChunkTimeout (group chunk : Nat)
  /-- The chunk that holds a group's token emits its packets, or passes the token once they are linked. -/
  | gristEmit (group : Nat)
  /-- A slot's refused packet is offered again. -/
  | gristResultRetry (slot : Nat)
  /-- The oldest frame of a cluster's staging buffer is a result, FAIL or NACK for a CHILD group. -/
  | gristParentRx (cluster : Nat)
  | gristCloseTimeout (group : Nat)
  /-- An error of a physical engine (the CAUSE of R418) touches a chunk. -/
  | gristChunkReset (engine cause group chunk : Nat)
  /-- A leaving engine's slot goes to a spare; whether that spare wakes and passes its self-test. -/
  | gristEngineTakeover (engine : Nat) (pass : Bool)
  | gristSlotLoss (engine : Nat)
  | gristEngineDoze (engine : Nat)
  -- Modes, start-up and lifecycle (chapter 17)
  | setMode (p : Packet)
  | unitGraft (p : Packet)
  | unitRestore (p : Packet)
  | unitRetire (p : Packet)
  | unitState (p : Packet)
  | dozeCfg (p : Packet)
  | bootStart
  /-- The power manager looks at the waiting step: the power measured at the rails in 0.1 W, VIN_MIN in 10 mV. -/
  | steepStepGrant (pIn vinMin : Nat)
  | domainPowerGood (dom mv : Nat)
  | regulatorFail (dom mv : Nat)
  | drainComplete
  | drainLimitExpire
  /-- The memory self-test of a quadrant's or Grist group's domain ends; the banks or engines that failed. -/
  | selfTestDone (dom : Nat) (fails : List Nat)
  /-- A channel's training ends: at 20 Gb/s (0), at 16 Gb/s (1), or failed (2). -/
  | cellarTrainingDone (chan result : Nat)
  -- Clocks (chapter 18)
  | clkSwitch (p : Packet)
  | clkTrim (p : Packet)
  | clkStatus (p : Packet)
  | clkSrcEnWrite (src en : Nat)
  | clkTrimWrite (src code : Nat)
  | chainEnWrite (pll en : Nat)
  /-- The monitor windows that end together, as (source, count). -/
  | clkMonitorWindow (counts : List (Nat × Nat))
  | clkSourceReady (src : Nat)
  | clkStartTimeout (src : Nat)
  | clkSourceRetry (src : Nat)
  | muxForceSelect (pll : Nat)
  /-- A relocking PLL reaches lock, or fails to within its time. -/
  | pllLocked (pll : Nat) (pass : Bool)
  | pllLockLoss (pll : Nat)
  /-- A trim measurement of an oscillator (0 SIRC, 1 FIRC): its error in ppm. -/
  | trimMeasure (osc : Nat) (ppm : Int)
  /-- A SIRC period, in FIRC cycles, as the checking counter measures it. -/
  | sircFault (cycles : Nat)
  | usbSofMark
  -- Power, droop and thermal control (chapter 19)
  | pwrHint (p : Packet)
  | pwrOpp (p : Packet)
  | pwrCap (p : Packet)
  | pwrStatus (p : Packet)
  | pwrPriv (p : Packet)
  | vinRangeEvent
  | vinBackInRange
  | vinUndervoltage
  | vinPowerLoss
  | vinRecover
  /-- The hardware input limit starts or stops acting. -/
  | hwIlim (acts : Bool)
  /-- A tick: VIN (10 mV), input current (0.1 A), energy drawn in the µs (mJ), each domain's E and M (0.1 W), and whether the last
  1 ms window counts as over cap for droop stretching. -/
  | capTick (vin iin mj : Nat) (doms : List (Nat × Nat)) (above : Bool)
  | capUnmet
  | oppStep (quad : Nat)
  | droopTrip (e : RailFall)
  /-- A tripped rail recovers, after this many stretched clocks. -/
  | droopRecover (dom clocks : Nat)
  /-- A 1 ms window of a domain: the means of E and M (0.1 W), and whether it lay wholly in one band with no droop, step or mode
  change, and whether it holds a power-up or power-down of the domain. -/
  | estWindow (dom e m : Nat) (whole cut : Bool)
  /-- A sensor's sample in °C: of the domain's die, or of its regulator. -/
  | thermalSample (dom : Nat) (regulator : Bool) (temp : Nat)
  | thermalShutdown
  | hintActivate (id : Nat)
  | hintExpire (id : Nat)
  | regulatorProtectionTrip (dom mv : Nat)
  -- Faults and recovery (chapter 20)
  | fltAck (p : Packet)
  | fltHistory (p : Packet)
  | fltMask (p : Packet)
  | fltInject (p : Packet)
  | faultEventCollect
  | errPulseEnd
  | fltHistSelWrite (index : Nat)
  | lockstepMismatch (pc : Nat)
  | malthouseWatchdog
  -- Firmware images and update (chapter 21)
  | fwBegin (p : Packet)
  | fwBlock (p : Packet)
  | fwVerify (p : Packet)
  | fwActivate (p : Packet)
  | fwInfo (p : Packet)
  | fwCheckin
  | fwCheckinTimeout
  /-- A DFU download block, and how many flash operations fail while it is written. -/
  | dfuDownload (bytes : List Nat) (fails : Nat)
  | dfuManifest
  -- Pins, JTAG, SMBus, service port (chapters 21 and 22)
  /-- POR_N (0) or RST_N (1) goes low. -/
  | porAssert (pin : Nat)
  /-- POR_N or RST_N is released, with the levels of GPIO0 to 15. -/
  | porRelease (pin levels : Nat)
  | jtagInstruction (code : Nat)
  | testLogicReset
  /-- A transfer: whether it is a Block Read, its command code, and whether the host NACKed the PEC it read. -/
  | smbBlockRead (block : Bool) (code : Nat) (pecNack : Bool)
  | smbAlertResponse
  | usbConnect
  deriving DecidableEq, Repr

end Sys2Proof
end

