-- ==== Sys2Proof/Decode.lean ====
section
/-! DEFINITION. Words that spell commands. The table gives no row bits (its `fields` are empty): the module's commands are packets,
register accesses and events, not words of one encoding, so no word spells one. -/
namespace Sys2Proof

/-- The command a word of `nbits` bits spells: none, as no row of the table has bits. -/
def decodeTableWord (_nbits _w : Nat) : Option Instr := none

end Sys2Proof
end

