-- ==== Sys2Proof/Config.lean ====
section
/-! DEFINITION. What the spec leaves open: values that a chip or its vendor fixes and the spec does not state. A free
value is an opaque constant: no proof can see what it is. The log entries name each. -/
namespace Sys2Proof.Config

/-- The `n`-th free word: a value the spec leaves open, drawn in the order the machine meets such values. -/
opaque freeWord : Nat → Nat

/-- The 160-bit content of a control store word that no command has written, by the version of the running image, store and
address: the vendor's ROM and patch words, and what the customer region holds before it is written (R193, R211). -/
opaque storeWord : Nat → Nat → Nat → Nat

/-- Vendor match register n of a store (R211), by the version of the running image, store and register. -/
opaque vendorMatch : Nat → Nat → Nat → Nat

/-- Where a vendor's long routine starts (R192), by the version of the running image, store and context: walkers 0 to 3, then the
sequencers. -/
opaque vendorEntry : Nat → Nat → Nat → Nat

/-- A word of a unit of a vendor base program (R214), by the program's identifier (R513), section TYPE, index and word. -/
opaque baseUnit : Nat → Nat → Nat → Nat → Nat

/-- The voltage offset of an operating point (R472) by power index and OPP; the rail adds it modulo 81, less 40 mV. -/
opaque oppOffset : Nat → Nat → Nat

/-- What a lane's test pattern or training signal starts from, by pattern and lane (R101, R115 give no seed). -/
opaque patternSeed : Nat → Nat → Nat

/-- Bit `n` of SSPRBS (IEEE 802.3 Clause 120 defines it, this spec does not). -/
opaque ssprbs : Nat → Bool

/-- The SRv6 behaviour that a stage's action names in the vendor base program (R186), by stage and action code: 0 for none. -/
opaque srv6Of : Nat → Nat → Nat

/-- What action data give H.Encaps (R186; the vendor's layout is not stated): source address, segments, first word's traffic class
and flow label, hop limit. -/
opaque srv6Src : Nat → BitVec 128
@[inherit_doc srv6Src] opaque srv6Segs : Nat → List (BitVec 128)
@[inherit_doc srv6Src] opaque srv6First : Nat → BitVec 28
@[inherit_doc srv6Src] opaque srv6Hop : Nat → BitVec 8

/-- The serial number fused at test (R62). -/
opaque serial : BitVec 64

/-- The version of the ROM loader, ROM_VER (R62). -/
opaque romVer : BitVec 16

/-- The clock rate of the Cellar's channels in MHz, which the spec does not state (R382, R449). -/
opaque cellarMhz : BitVec 16

end Sys2Proof.Config
end

