-- ==== Sys2Proof/Machine/Tab.lean ====
section
/-! DEFINITION. Sparse tables: a list of (key, value) entries in one canonical form. The keys rise strictly, and no entry
holds the value its key reads as when it is not listed, so that equal tables are equal data. A key is a pair of
numbers (a bough and an index, a register's position and its element, ...). What an unlisted key reads as is given by
the caller of `tabGet` and `tabSet`, once for every table, in the accessor that owns the table. -/
namespace Sys2Proof.Machine

/-- A key of a sparse table. -/
abbrev Key := Nat × Nat

/-- Keys in lexicographic order. -/
def keyLt (a b : Key) : Bool := decide (a.1 < b.1) || (decide (a.1 = b.1) && decide (a.2 < b.2))

/-- A sparse table. -/
abbrev Tab (α : Type) := List (Key × α)

/-- The value at key `k`; `d` where the table does not list `k`. -/
def tabGet {α : Type} : Tab α → Key → α → α
  | [], _, d => d
  | (k', v) :: t, k, d => if k' = k then v else tabGet t k d

/-- The table without key `k`. -/
def tabDel {α : Type} : Tab α → Key → Tab α
  | [], _ => []
  | (k', v) :: t, k => if k' = k then tabDel t k else (k', v) :: tabDel t k

/-- The table with `v` listed at `k`, in its place in the key order. -/
def tabPut {α : Type} : Tab α → Key → α → Tab α
  | [], k, v => [(k, v)]
  | (k', v') :: t, k, v =>
    if k' = k then (k, v) :: t
    else if keyLt k k' then (k, v) :: (k', v') :: t
    else (k', v') :: tabPut t k v

/-- Write `v` at key `k` of a table whose unlisted value at `k` is `d`, keeping the canonical form. -/
def tabSet {α : Type} [DecidableEq α] (t : Tab α) (k : Key) (v d : α) : Tab α :=
  if v = d then tabDel t k else tabPut t k v

/-- Every key of the table lies above `k`. -/
def tabAbove {α : Type} (k : Key) : Tab α → Bool
  | [] => true
  | (k', _) :: t => keyLt k k' && tabAbove k t

/-- The canonical form, for a table whose unlisted value at key `k` is `d k`: keys strictly rising, no entry equal to
what its key reads as when unlisted. -/
def tabWf {α : Type} [DecidableEq α] (d : Key → α) : Tab α → Bool
  | [] => true
  | (k, v) :: t => tabAbove k t && decide (v ≠ d k) && tabWf d t

/-- The keys a table lists. -/
def tabKeys {α : Type} (t : Tab α) : List Key := t.map Prod.fst

/-- How many listed entries have first key `a`. -/
def tabCount {α : Type} (t : Tab α) (a : Nat) : Nat := (t.filter (fun e => e.1.1 == a)).length

/-- The table without the entries of first key `a`. -/
def tabDropRow {α : Type} (t : Tab α) (a : Nat) : Tab α := t.filter (fun e => e.1.1 != a)

/-- The entries of first key `a`, as (second key, value) pairs, in order. -/
def tabRow {α : Type} (t : Tab α) (a : Nat) : List (Nat × α) :=
  t.filterMap (fun e => if e.1.1 == a then some (e.1.2, e.2) else none)

end Sys2Proof.Machine
end

