-- ==== Sys2Proof/Machine/RegMap.lean ====
section
/-! DEFINITION. The register map of the module: every register of the spec by name, its offset in BAR0 (R72, R73), its
power domain, the masks of its access types (R78), its reset word, and every named field. One row per row of the
spec's register tables (R40, R71, R86, R90, R125, R150, R166, R167, R191, R225, R254, R272, R293, R323, R338, R361,
R387, R388, R417, R418, R462, R490, R510, R528, R544). The pipe and bough performance sets of R388 carry the prefixes
P and B (PPERF, BPERF); TELEM_Q_C0 to C5 are the six queue counters of R366 in its order. -/
namespace Sys2Proof.Machine

/-- Every register of BAR0, by its name in the spec. A 64-bit SNAP pair is one name. -/
inductive Reg where
  | GLB_ID
  | GLB_FW_VER
  | GLB_MODE
  | GLB_RESET_CAUSE
  | GLB_RESET_CTL
  | GLB_STRAP
  | GLB_SCRATCH
  | GLB_DEV_ID
  | GLB_SNAP_SEQ
  | GLB_SNAP_TIME_LO
  | GLB_SNAP_TIME_HI
  | GLB_BUSERR_ADDR
  | GLB_BUSERR_INFO
  | CLK_EVENT
  | CLK_TRIM_CTL
  | CLK_SRC
  | CLK_PLL
  | PWR_STAT
  | PWR_EVENT
  | PWR_ALERT_MASK
  | PWR_VIN
  | PWR_CAP_CUR
  | PWR_TOTAL
  | PWR_INDEX
  | PWR_QUAD
  | PWR_ENERGY
  | PWR_DROOP_CNT
  | PWR_CAP_STEPS
  | PWR_EST_MISMATCH
  | PWR_DOM_V
  | PWR_DOM_P
  | FLT_TOP_LO
  | FLT_TOP_HI
  | FLT_STATUS
  | FLT_PIN_CTL
  | FLT_PIN_MASK_LO
  | FLT_PIN_MASK_HI
  | FLT_CLASS_CTL
  | FLT_HIST_SEL
  | FLT_HIST_DATA
  | FLT_HIST_SEQ
  | FLT_SEQ
  | FLT_SRC_LAST
  | FLT_SRC_CNT
  | CMD_CTL
  | CMD_STATUS
  | CMD_SQ_BASE_LO
  | CMD_SQ_BASE_HI
  | CMD_SQ_SIZE
  | CMD_SQ_TAIL
  | CMD_SQ_HEAD
  | CMD_CQ_BASE_LO
  | CMD_CQ_BASE_HI
  | CMD_CQ_SIZE
  | CMD_CQ_HEAD
  | CMD_CQ_TAIL
  | CMD_IRQ_CTL
  | PKT_CTL
  | PKT_STATUS
  | PKT_RX_MAP0
  | PKT_RX_MAP1
  | PKT_TX_BASE_LO
  | PKT_TX_BASE_HI
  | PKT_TX_SIZE
  | PKT_TX_TAIL
  | PKT_TX_HEAD
  | PKT_TX_WB_LO
  | PKT_TX_WB_HI
  | PKT_TX_IRQ
  | PKT_RX_BASE_LO
  | PKT_RX_BASE_HI
  | PKT_RX_SIZE
  | PKT_RX_TAIL
  | PKT_RX_HEAD
  | PKT_RX_IRQ
  | PKT_TX_FRAMES
  | PKT_TX_BAD
  | PKT_RX_FRAMES
  | PKT_RX_BAD
  | PKT_RX_NORING
  | MSIX_TABLE
  | MSIX_PBA
  | SVC_FW_STATUS
  | SVC_FW_EVENT
  | SVC_OTP
  | SVC_USB
  | SMB_STATUS
  | GPIO_IN
  | GPIO_OUT
  | GPIO_OE
  | LANE_STATUS
  | LANE_EVENT
  | LANE_FOM_REG
  | LANE_PRBS_STATUS
  | LANE_PRBS_ERR
  | LANE_PRBS_BITS
  | LANE_UNLOCK
  | LANE_TRAIN_TIME
  | PORT_MODE
  | PORT_STATUS
  | PORT_EVENT
  | PORT_TS_ID
  | PORT_TS_LO
  | PORT_TS_HI
  | PORT_TS_POP
  | RX_FRAMES
  | RX_BYTES
  | RX_FCS_ERR
  | RX_RUNT
  | RX_OVERSIZE
  | RX_STOMPED
  | RX_CTRL
  | TX_FRAMES
  | TX_BYTES
  | TX_STOMP
  | TX_CTRL
  | FEC_CW
  | FEC_CORR_CW
  | FEC_UNCORR_CW
  | FEC_SYM_CORR
  | LINK_DOWN_CNT
  | PFC_RX
  | PFC_TX
  | BOUGH_LINK_CHG0
  | BOUGH_LINK_CHG1
  | BOUGH_PAIR_COMMIT
  | BOUGH_PAIR_STATUS
  | ROOT_STATUS
  | ROOT_EVENT
  | ROOT_SPARE_MAP
  | ROOT_CRC_UP
  | ROOT_CRC_DN
  | ROOT_REPLAY_UP
  | ROOT_REPLAY_DN
  | ROOT_FLITS_UP
  | ROOT_FLITS_DN
  | ROOT_LANE_SEL
  | ROOT_LANE_ERR
  | ROOT_MAP_UP
  | ROOT_MAP_DN
  | ROOT_MAP_EPOCH
  | ROOT_RESEQ
  | ROOT_REPIN_DROP
  | ROOT_RESEQ_SKIP
  | ROOT_IN_DROP
  | PIPE_STATUS
  | PIPE_EVENT
  | PIPE_REORDER
  | PIPE_FRAMES
  | PIPE_PROG_DROP
  | PIPE_NO_DEST
  | PIPE_PARSE_ERR
  | PIPE_LEN_DROP
  | PIPE_MIRROR
  | PIPE_PUNT
  | PIPE_STALL
  | PIPE_WAKE
  | PIPE_EG_FRAMES
  | PIPE_EG_OVERSIZE
  | TWIG_FIFO
  | TWIG_IN_DROP
  | TWIG_FOSTER_DROP
  | UC_STATUS
  | UC_EVENT
  | UC_FAULT_ADDR
  | UC_FOOTPRINT
  | UC_FAULT_CNT
  | UC_OVERRUN_CNT
  | UC_ECC_CNT
  | UC_WALKER
  | UC_MATCH
  | TBL_STATUS
  | TBL_EVENT
  | TBL_SEED
  | TBL_LEARN_CTL
  | TBL_LEARN_BASE_LO
  | TBL_LEARN_BASE_HI
  | TBL_LEARN_SIZE
  | TBL_LEARN_HEAD
  | TBL_LEARN_TAIL
  | TBL_LEARN_FIFO
  | TBL_OCC
  | TBL_LEARN_OK
  | TBL_LEARN_DROP
  | TBL_LEARN_FAIL
  | TBL_EVICT
  | TBL_AGED
  | TBL_PAR_ERR
  | TBL_LEARN_LOST
  | TBL_CNT_RANGE
  | CLS_STATUS
  | CLS_EVENT
  | CLS_MISS
  | CLS_PAR_INDEX
  | CLS_LOOKUPS
  | CLS_HITS
  | CLS_PAR_ERR
  | PS_EVENT
  | PS_IMB_LAST
  | PS_IMB_TIME_LO
  | PS_IMB_TIME_HI
  | PS_SEED
  | PS_PIN_SEED
  | PS_GRP_SEL
  | PS_GRP_MON
  | PS_SLOT_SEL
  | PS_SLOT_BYTES_LO
  | PS_SLOT_BYTES_HI
  | PS_WIN
  | PS_CTL
  | PS_FL_NEW
  | PS_FL_COLLIDE
  | PS_GROUP_INVALID
  | PS_MEMBER_INVALID
  | PS_RESEEDS
  | PS_RESEED_SUPP
  | PS_SPRAYED
  | PPERF_CYC
  | PPERF_CNT
  | PPERF_SEL
  | PPERF_STATUS
  | BPERF_CYC
  | BPERF_CNT
  | BPERF_SEL
  | BPERF_STATUS
  | TUN_STATUS
  | TUN_EVENT
  | TUN_FREE
  | TUN_INFLIGHT
  | TUN_POOL_CFG
  | TUN_HR_CFG
  | TUN_HR_PG
  | TUN_PAIR_COMMIT
  | TUN_PAIR_STATUS
  | TUN_POOL_USED
  | TUN_HR_USED
  | TUN_TALLY_CTL
  | TUN_TALLY_STATUS
  | TUN_MIGRATE
  | TUN_ADMIT
  | TUN_DROP_POOL
  | TUN_DROP_HR
  | TUN_DROP_GUARD
  | TUN_DOWN_DROP
  | TUN_BAD_DROP
  | TUN_CT_FRAMES
  | TUN_CT_STOMP
  | TUN_SOJOURN_DROP
  | TUN_FLUSH_DROP
  | TUN_POISON
  | TUN_ECC_CORR
  | TUN_LEAK_RECLAIM
  | TUN_WRITE_STALL
  | TUN_BANK_MAP
  | TUN_BANK_STATUS
  | TUN_ING_USED
  | TUN_ING_HR
  | TUN_Q_CFG0
  | TUN_Q_CFG1
  | TUN_Q_LEN
  | TUN_Q_HR
  | TUN_PORT_HOLD
  | CELLAR_STATUS
  | CELLAR_EVENT
  | CELLAR_FREE
  | CELLAR_EXT
  | CELLAR_WIN_ADDR
  | CELLAR_WIN_CTL
  | CELLAR_WIN_DATA
  | CELLAR_RACKED
  | CELLAR_DRAWN
  | CELLAR_ECC_CORR
  | CELLAR_ECC_UNCORR
  | CELLAR_EDC_RETRY
  | CELLAR_BLOCK_LOST
  | CELLAR_DRAW_STARVE
  | CELLAR_CH_STATUS
  | CELLAR_CH_FREE
  | CELLAR_Q_CFG0
  | CELLAR_Q_CFG1
  | CELLAR_Q_CFG2
  | CELLAR_Q_BLOCKS
  | SCHED_EVENT
  | SCHED_CTL
  | SCHED_WD_LAST
  | SCHED_WRED_DROP
  | SCHED_ECN_MARK
  | SCHED_WD_DROP
  | SCHED_WD_TRIPS
  | SCHED_Q_CFG
  | SCHED_Q_MIN
  | SCHED_Q_MAX
  | SCHED_Q_DEFICIT
  | SCHED_Q_HWM_CELLS
  | SCHED_Q_HWM_SOJ
  | SCHED_Q_WRED_AVG
  | SCHED_Q_STATE
  | SCHED_P_MAX
  | SCHED_P_CFG
  | SCHED_P_PFC
  | SCHED_P_TH
  | TELEM_TOD_LO
  | TELEM_TOD_HI
  | TELEM_TOD_SET_LO
  | TELEM_TOD_SET_HI
  | TELEM_TOD_CTL
  | TELEM_TOD_RATE
  | TELEM_PPS_IN_LO
  | TELEM_PPS_IN_HI
  | TELEM_EVENT
  | TELEM_PERF_CTL
  | TELEM_REC_LOST
  | TELEM_FLAG_FULL
  | IOAM_SKIP
  | IOAM_OVF
  | TELEM_STR_STATUS
  | TELEM_STR_SEQ
  | TELEM_STR_FRAMES
  | TELEM_STR_RECORDS
  | TELEM_STR_LOST
  | PERF_CYC
  | PERF_CNT
  | PERF_SEL
  | PERF_STATUS
  | TELEM_Q_CFG
  | TELEM_Q_SOJ_TH
  | TELEM_Q_C0
  | TELEM_Q_C1
  | TELEM_Q_C2
  | TELEM_Q_C3
  | TELEM_Q_C4
  | TELEM_Q_C5
  | TELEM_Q_HIST
  | GRIST_G_STATUS
  | GRIST_G_EVENT
  | GRIST_G_LAST
  | GRIST_G_LIMIT
  | GRIST_CONTRIB
  | GRIST_DUP
  | GRIST_BAD
  | GRIST_AHEAD
  | GRIST_STALE
  | GRIST_NOGROUP
  | GRIST_NACK_TX
  | GRIST_RESULTS
  | GRIST_FAILED
  | GRIST_RES_DROP
  | GRIST_RESET
  | GRIST_E_STATUS
  | GRIST_E_FAULT
  | GRIST_SCRATCH
  | GRIST_CTL
  | GRIST_SLOT_MAP
  deriving DecidableEq, Repr

/-- The power domain that holds a register (R73 and the owning chapters); a number is the domain instance in the order
of R488, starting with 0 for the always-on domain. -/
inductive RegDom where
  | fixed (n : Nat)
  | boughDig
  | boughSerdes
  | bankQuad
  | gristGroup
  | gristEngine
  | store
  deriving DecidableEq, Repr

/-- How a register is held: one word, or a live counter of `width` bits read through snapshots (R82). -/
inductive RegKind where
  | plain
  | snap (width : Nat)
  deriving DecidableEq, Repr

/-- One register array: the offset of its element 0; its dimensions as (count, stride), outermost first; its domain; its
kind; the masks of its RW and RC bits; whether it is of type MW; its reset word where that does not depend on the
index; and, for the control-store registers, the base and count of the Tun store's copy (R225). -/
structure RegInfo where
  base : Nat
  dims : List (Nat × Nat) := []
  dom  : RegDom := .fixed 0
  kind : RegKind := .plain
  rw   : Nat := 0
  rc   : Nat := 0
  mw   : Bool := false
  rst  : Nat := 0
  alt  : Option (Nat × Nat) := none
  deriving DecidableEq, Repr

/-- The register table. -/
def Reg.info : Reg → RegInfo
  | .GLB_ID => { base := 0x0, rst := 0x6C204800 }
  | .GLB_FW_VER => { base := 0x4 }
  | .GLB_MODE => { base := 0x8 }
  | .GLB_RESET_CAUSE => { base := 0xC, rc := 0xFF, rst := 0x1 }
  | .GLB_RESET_CTL => { base := 0x10 }
  | .GLB_STRAP => { base := 0x14 }
  | .GLB_SCRATCH => { base := 0x18, rw := 0xFFFFFFFF }
  | .GLB_DEV_ID => { base := 0x1C, rw := 0xFFFF }
  | .GLB_SNAP_SEQ => { base := 0x20 }
  | .GLB_SNAP_TIME_LO => { base := 0x24 }
  | .GLB_SNAP_TIME_HI => { base := 0x28 }
  | .GLB_BUSERR_ADDR => { base := 0x2C }
  | .GLB_BUSERR_INFO => { base := 0x30, rc := 0xFFFF }
  | .CLK_EVENT => { base := 0x100000, rc := 0xFF3F }
  | .CLK_TRIM_CTL => { base := 0x100004, rw := 0x33, rst := 0x3 }
  | .CLK_SRC => { base := 0x100010, dims := [(6, 0x4)], rw := 0xFF01, rst := 0x1 }
  | .CLK_PLL => { base := 0x100100, dims := [(130, 0x4)], rw := 0x100, rc := 0xFF0000, rst := 0x100 }
  | .PWR_STAT => { base := 0x200000 }
  | .PWR_EVENT => { base := 0x200004, rc := 0x7FF }
  | .PWR_ALERT_MASK => { base := 0x200008, rw := 0x1F }
  | .PWR_VIN => { base := 0x20000C }
  | .PWR_CAP_CUR => { base := 0x200010, rst := 0x27128000 }
  | .PWR_TOTAL => { base := 0x200014 }
  | .PWR_INDEX => { base := 0x200018 }
  | .PWR_QUAD => { base := 0x200020, dims := [(4, 0x4)], rst := 0x700 }
  | .PWR_ENERGY => { base := 0x200040, kind := .snap 64 }
  | .PWR_DROOP_CNT => { base := 0x200048, kind := .snap 64 }
  | .PWR_CAP_STEPS => { base := 0x200050, kind := .snap 64 }
  | .PWR_EST_MISMATCH => { base := 0x200058, kind := .snap 64 }
  | .PWR_DOM_V => { base := 0x200100, dims := [(27, 0x8)] }
  | .PWR_DOM_P => { base := 0x200104, dims := [(27, 0x8)] }
  | .FLT_TOP_LO => { base := 0x300000, rc := 0xFFFFFFFF }
  | .FLT_TOP_HI => { base := 0x300004, rc := 0x3FF }
  | .FLT_STATUS => { base := 0x300008, rc := 0xFF00 }
  | .FLT_PIN_CTL => { base := 0x30000C, rw := 0x1 }
  | .FLT_PIN_MASK_LO => { base := 0x300010, rw := 0xFFFFFFFF }
  | .FLT_PIN_MASK_HI => { base := 0x300014, rw := 0x3FF }
  | .FLT_CLASS_CTL => { base := 0x300018, rw := 0xF0F, rst := 0xF0C }
  | .FLT_HIST_SEL => { base := 0x30001C, rw := 0x1F }
  | .FLT_HIST_DATA => { base := 0x300020, dims := [(4, 0x4)] }
  | .FLT_HIST_SEQ => { base := 0x300030 }
  | .FLT_SEQ => { base := 0x300034 }
  | .FLT_SRC_LAST => { base := 0x300100, dims := [(42, 0x8)] }
  | .FLT_SRC_CNT => { base := 0x300104, dims := [(42, 0x8)], rc := 0x7FFFFFF }
  | .CMD_CTL => { base := 0x400000, dom := .fixed 1, rw := 0x3 }
  | .CMD_STATUS => { base := 0x400004, dom := .fixed 1, rc := 0x6E }
  | .CMD_SQ_BASE_LO => { base := 0x400008, dom := .fixed 1, rw := 0xFFFFFFC0 }
  | .CMD_SQ_BASE_HI => { base := 0x40000C, dom := .fixed 1, rw := 0xFFFFFFFF }
  | .CMD_SQ_SIZE => { base := 0x400010, dom := .fixed 1, rw := 0x1FFFF }
  | .CMD_SQ_TAIL => { base := 0x400014, dom := .fixed 1, rw := 0xFFFF }
  | .CMD_SQ_HEAD => { base := 0x400018, dom := .fixed 1 }
  | .CMD_CQ_BASE_LO => { base := 0x400020, dom := .fixed 1, rw := 0xFFFFFFC0 }
  | .CMD_CQ_BASE_HI => { base := 0x400024, dom := .fixed 1, rw := 0xFFFFFFFF }
  | .CMD_CQ_SIZE => { base := 0x400028, dom := .fixed 1, rw := 0x1FFFF }
  | .CMD_CQ_HEAD => { base := 0x40002C, dom := .fixed 1, rw := 0xFFFF }
  | .CMD_CQ_TAIL => { base := 0x400030, dom := .fixed 1 }
  | .CMD_IRQ_CTL => { base := 0x400034, dom := .fixed 1, rw := 0xFFFFFF, rst := 0x1 }
  | .PKT_CTL => { base := 0x410000, dom := .fixed 1, rw := 0x1 }
  | .PKT_STATUS => { base := 0x410004, dom := .fixed 1, rc := 0xE }
  | .PKT_RX_MAP0 => { base := 0x410008, dom := .fixed 1, rw := 0x77777777, rst := 0x76543210 }
  | .PKT_RX_MAP1 => { base := 0x41000C, dom := .fixed 1, rw := 0x77777777, rst := 0x76543210 }
  | .PKT_TX_BASE_LO => { base := 0x410100, dims := [(4, 0x20)], dom := .fixed 1, rw := 0xFFFFFFC0 }
  | .PKT_TX_BASE_HI => { base := 0x410104, dims := [(4, 0x20)], dom := .fixed 1, rw := 0xFFFFFFFF }
  | .PKT_TX_SIZE => { base := 0x410108, dims := [(4, 0x20)], dom := .fixed 1, rw := 0x1FFFF }
  | .PKT_TX_TAIL => { base := 0x41010C, dims := [(4, 0x20)], dom := .fixed 1, rw := 0xFFFF }
  | .PKT_TX_HEAD => { base := 0x410110, dims := [(4, 0x20)], dom := .fixed 1 }
  | .PKT_TX_WB_LO => { base := 0x410114, dims := [(4, 0x20)], dom := .fixed 1, rw := 0xFFFFFFF1 }
  | .PKT_TX_WB_HI => { base := 0x410118, dims := [(4, 0x20)], dom := .fixed 1, rw := 0xFFFFFFFF }
  | .PKT_TX_IRQ => { base := 0x41011C, dims := [(4, 0x20)], dom := .fixed 1, rw := 0x1FFFFFF, rst := 0x1 }
  | .PKT_RX_BASE_LO => { base := 0x410200, dims := [(8, 0x20)], dom := .fixed 1, rw := 0xFFFFFFC0 }
  | .PKT_RX_BASE_HI => { base := 0x410204, dims := [(8, 0x20)], dom := .fixed 1, rw := 0xFFFFFFFF }
  | .PKT_RX_SIZE => { base := 0x410208, dims := [(8, 0x20)], dom := .fixed 1, rw := 0xF1FFFF, rst := 0xB00000 }
  | .PKT_RX_TAIL => { base := 0x41020C, dims := [(8, 0x20)], dom := .fixed 1, rw := 0xFFFF }
  | .PKT_RX_HEAD => { base := 0x410210, dims := [(8, 0x20)], dom := .fixed 1 }
  | .PKT_RX_IRQ => { base := 0x410214, dims := [(8, 0x20)], dom := .fixed 1, rw := 0x1FFFFFF, rst := 0x1 }
  | .PKT_TX_FRAMES => { base := 0x410300, dom := .fixed 1, kind := .snap 64 }
  | .PKT_TX_BAD => { base := 0x410308, dom := .fixed 1, kind := .snap 64 }
  | .PKT_RX_FRAMES => { base := 0x410310, dom := .fixed 1, kind := .snap 64 }
  | .PKT_RX_BAD => { base := 0x410318, dom := .fixed 1, kind := .snap 64 }
  | .PKT_RX_NORING => { base := 0x410320, dom := .fixed 1, kind := .snap 64 }
  | .MSIX_TABLE => { base := 0x440000, dims := [(128, 0x4)], dom := .fixed 1, rw := 0xFFFFFFFF }
  | .MSIX_PBA => { base := 0x441000, dims := [(2, 0x4)], dom := .fixed 1 }
  | .SVC_FW_STATUS => { base := 0x500000 }
  | .SVC_FW_EVENT => { base := 0x500004, rc := 0xF }
  | .SVC_OTP => { base := 0x500008 }
  | .SVC_USB => { base := 0x50000C, rst := 0x20 }
  | .SMB_STATUS => { base := 0x501000, rc := 0x300 }
  | .GPIO_IN => { base := 0x501004 }
  | .GPIO_OUT => { base := 0x501008, mw := true }
  | .GPIO_OE => { base := 0x50100C, mw := true }
  | .LANE_STATUS => { base := 0x1010000, dims := [(8, 0x200000), (64, 0x100)], dom := .boughSerdes }
  | .LANE_EVENT => { base := 0x1010004, dims := [(8, 0x200000), (64, 0x100)], dom := .boughSerdes, rc := 0xFF01FF }
  | .LANE_FOM_REG => { base := 0x1010008, dims := [(8, 0x200000), (64, 0x100)], dom := .boughSerdes, rst := 0x3FF00000 }
  | .LANE_PRBS_STATUS => { base := 0x101000C, dims := [(8, 0x200000), (64, 0x100)], dom := .boughSerdes }
  | .LANE_PRBS_ERR => { base := 0x1010010, dims := [(8, 0x200000), (64, 0x100)], dom := .boughSerdes, kind := .snap 48 }
  | .LANE_PRBS_BITS => { base := 0x1010018, dims := [(8, 0x200000), (64, 0x100)], dom := .boughSerdes, kind := .snap 48 }
  | .LANE_UNLOCK => { base := 0x1010020, dims := [(8, 0x200000), (64, 0x100)], dom := .boughSerdes, kind := .snap 64 }
  | .LANE_TRAIN_TIME => { base := 0x1010028, dims := [(8, 0x200000), (64, 0x100)], dom := .boughSerdes }
  | .PORT_MODE => { base := 0x1020000, dims := [(8, 0x200000), (64, 0x200)], dom := .boughDig, rw := 0x7FF }
  | .PORT_STATUS => { base := 0x1020004, dims := [(8, 0x200000), (64, 0x200)], dom := .boughDig }
  | .PORT_EVENT => { base := 0x1020008, dims := [(8, 0x200000), (64, 0x200)], dom := .boughDig, rc := 0x7F }
  | .PORT_TS_ID => { base := 0x102000C, dims := [(8, 0x200000), (64, 0x200)], dom := .boughDig }
  | .PORT_TS_LO => { base := 0x1020010, dims := [(8, 0x200000), (64, 0x200)], dom := .boughDig }
  | .PORT_TS_HI => { base := 0x1020014, dims := [(8, 0x200000), (64, 0x200)], dom := .boughDig }
  | .PORT_TS_POP => { base := 0x1020018, dims := [(8, 0x200000), (64, 0x200)], dom := .boughDig }
  | .RX_FRAMES => { base := 0x1020020, dims := [(8, 0x200000), (64, 0x200)], dom := .boughDig, kind := .snap 64 }
  | .RX_BYTES => { base := 0x1020028, dims := [(8, 0x200000), (64, 0x200)], dom := .boughDig, kind := .snap 64 }
  | .RX_FCS_ERR => { base := 0x1020030, dims := [(8, 0x200000), (64, 0x200)], dom := .boughDig, kind := .snap 64 }
  | .RX_RUNT => { base := 0x1020038, dims := [(8, 0x200000), (64, 0x200)], dom := .boughDig, kind := .snap 64 }
  | .RX_OVERSIZE => { base := 0x1020040, dims := [(8, 0x200000), (64, 0x200)], dom := .boughDig, kind := .snap 64 }
  | .RX_STOMPED => { base := 0x1020048, dims := [(8, 0x200000), (64, 0x200)], dom := .boughDig, kind := .snap 64 }
  | .RX_CTRL => { base := 0x1020050, dims := [(8, 0x200000), (64, 0x200)], dom := .boughDig, kind := .snap 64 }
  | .TX_FRAMES => { base := 0x1020058, dims := [(8, 0x200000), (64, 0x200)], dom := .boughDig, kind := .snap 64 }
  | .TX_BYTES => { base := 0x1020060, dims := [(8, 0x200000), (64, 0x200)], dom := .boughDig, kind := .snap 64 }
  | .TX_STOMP => { base := 0x1020068, dims := [(8, 0x200000), (64, 0x200)], dom := .boughDig, kind := .snap 64 }
  | .TX_CTRL => { base := 0x1020070, dims := [(8, 0x200000), (64, 0x200)], dom := .boughDig, kind := .snap 64 }
  | .FEC_CW => { base := 0x1020078, dims := [(8, 0x200000), (64, 0x200)], dom := .boughDig, kind := .snap 64 }
  | .FEC_CORR_CW => { base := 0x1020080, dims := [(8, 0x200000), (64, 0x200)], dom := .boughDig, kind := .snap 64 }
  | .FEC_UNCORR_CW => { base := 0x1020088, dims := [(8, 0x200000), (64, 0x200)], dom := .boughDig, kind := .snap 64 }
  | .FEC_SYM_CORR => { base := 0x1020090, dims := [(8, 0x200000), (64, 0x200)], dom := .boughDig, kind := .snap 64 }
  | .LINK_DOWN_CNT => { base := 0x1020098, dims := [(8, 0x200000), (64, 0x200)], dom := .boughDig, kind := .snap 64 }
  | .PFC_RX => { base := 0x10200A0, dims := [(8, 0x200000), (64, 0x200), (8, 0x8)], dom := .boughDig, kind := .snap 64 }
  | .PFC_TX => { base := 0x10200E0, dims := [(8, 0x200000), (64, 0x200), (8, 0x8)], dom := .boughDig, kind := .snap 64 }
  | .BOUGH_LINK_CHG0 => { base := 0x1030000, dims := [(8, 0x200000)], dom := .boughDig, rc := 0xFFFFFFFF }
  | .BOUGH_LINK_CHG1 => { base := 0x1030004, dims := [(8, 0x200000)], dom := .boughDig, rc := 0xFFFFFFFF }
  | .BOUGH_PAIR_COMMIT => { base := 0x1030010, dims := [(8, 0x200000)], dom := .boughDig }
  | .BOUGH_PAIR_STATUS => { base := 0x1030014, dims := [(8, 0x200000)], dom := .boughDig, rc := 0x8 }
  | .ROOT_STATUS => { base := 0x1040000, dims := [(8, 0x200000), (16, 0x80)], dom := .fixed 26, rst := 0xA0 }
  | .ROOT_EVENT => { base := 0x1040004, dims := [(8, 0x200000), (16, 0x80)], dom := .fixed 26, rc := 0xFF }
  | .ROOT_SPARE_MAP => { base := 0x1040008, dims := [(8, 0x200000), (16, 0x80)], dom := .fixed 26, rst := 0x7F7F7F7F }
  | .ROOT_CRC_UP => { base := 0x1040010, dims := [(8, 0x200000), (16, 0x80)], dom := .fixed 26, kind := .snap 64 }
  | .ROOT_CRC_DN => { base := 0x1040018, dims := [(8, 0x200000), (16, 0x80)], dom := .fixed 26, kind := .snap 64 }
  | .ROOT_REPLAY_UP => { base := 0x1040020, dims := [(8, 0x200000), (16, 0x80)], dom := .fixed 26, kind := .snap 64 }
  | .ROOT_REPLAY_DN => { base := 0x1040028, dims := [(8, 0x200000), (16, 0x80)], dom := .fixed 26, kind := .snap 64 }
  | .ROOT_FLITS_UP => { base := 0x1040030, dims := [(8, 0x200000), (16, 0x80)], dom := .fixed 26, kind := .snap 64 }
  | .ROOT_FLITS_DN => { base := 0x1040038, dims := [(8, 0x200000), (16, 0x80)], dom := .fixed 26, kind := .snap 64 }
  | .ROOT_LANE_SEL => { base := 0x1040040, dims := [(8, 0x200000), (16, 0x80)], dom := .fixed 26, rw := 0x17F }
  | .ROOT_LANE_ERR => { base := 0x1040044, dims := [(8, 0x200000), (16, 0x80)], dom := .fixed 26 }
  | .ROOT_MAP_UP => { base := 0x1040800, dims := [(8, 0x200000), (32, 0x4)], dom := .fixed 26 }
  | .ROOT_MAP_DN => { base := 0x1040880, dims := [(8, 0x200000), (32, 0x4)], dom := .fixed 26 }
  | .ROOT_MAP_EPOCH => { base := 0x1040900, dims := [(8, 0x200000)], dom := .fixed 26 }
  | .ROOT_RESEQ => { base := 0x1040904, dims := [(8, 0x200000)], dom := .fixed 26 }
  | .ROOT_REPIN_DROP => { base := 0x1040908, dims := [(8, 0x200000)], dom := .fixed 26, kind := .snap 64 }
  | .ROOT_RESEQ_SKIP => { base := 0x1040910, dims := [(8, 0x200000)], dom := .fixed 26, kind := .snap 64 }
  | .ROOT_IN_DROP => { base := 0x1040918, dims := [(8, 0x200000)], dom := .fixed 26, kind := .snap 64 }
  | .PIPE_STATUS => { base := 0x1050000, dims := [(8, 0x200000), (8, 0x400)], dom := .boughDig, rst := 0x400000 }
  | .PIPE_EVENT => { base := 0x1050004, dims := [(8, 0x200000), (8, 0x400)], dom := .boughDig, rc := 0x7F }
  | .PIPE_REORDER => { base := 0x1050008, dims := [(8, 0x200000), (8, 0x400)], dom := .boughDig, rc := 0x7F0000 }
  | .PIPE_FRAMES => { base := 0x1050010, dims := [(8, 0x200000), (8, 0x400)], dom := .boughDig, kind := .snap 64 }
  | .PIPE_PROG_DROP => { base := 0x1050018, dims := [(8, 0x200000), (8, 0x400)], dom := .boughDig, kind := .snap 64 }
  | .PIPE_NO_DEST => { base := 0x1050020, dims := [(8, 0x200000), (8, 0x400)], dom := .boughDig, kind := .snap 64 }
  | .PIPE_PARSE_ERR => { base := 0x1050028, dims := [(8, 0x200000), (8, 0x400)], dom := .boughDig, kind := .snap 64 }
  | .PIPE_LEN_DROP => { base := 0x1050030, dims := [(8, 0x200000), (8, 0x400)], dom := .boughDig, kind := .snap 64 }
  | .PIPE_MIRROR => { base := 0x1050038, dims := [(8, 0x200000), (8, 0x400)], dom := .boughDig, kind := .snap 64 }
  | .PIPE_PUNT => { base := 0x1050040, dims := [(8, 0x200000), (8, 0x400)], dom := .boughDig, kind := .snap 64 }
  | .PIPE_STALL => { base := 0x1050048, dims := [(8, 0x200000), (8, 0x400)], dom := .boughDig, kind := .snap 64 }
  | .PIPE_WAKE => { base := 0x1050050, dims := [(8, 0x200000), (8, 0x400)], dom := .boughDig, kind := .snap 64 }
  | .PIPE_EG_FRAMES => { base := 0x1050058, dims := [(8, 0x200000), (8, 0x400)], dom := .boughDig, kind := .snap 64 }
  | .PIPE_EG_OVERSIZE => { base := 0x1050060, dims := [(8, 0x200000), (8, 0x400)], dom := .boughDig, kind := .snap 64 }
  | .TWIG_FIFO => { base := 0x1052000, dims := [(8, 0x200000), (8, 0x40)], dom := .boughDig, rc := 0xFF0000 }
  | .TWIG_IN_DROP => { base := 0x1052008, dims := [(8, 0x200000), (8, 0x40)], dom := .boughDig, kind := .snap 64 }
  | .TWIG_FOSTER_DROP => { base := 0x1052010, dims := [(8, 0x200000), (8, 0x40)], dom := .boughDig, kind := .snap 64 }
  | .UC_STATUS => { base := 0x1060000, dims := [(8, 0x200000)], dom := .store, rst := 0x28, alt := some (0x23F0000, 1) }
  | .UC_EVENT => { base := 0x1060004, dims := [(8, 0x200000)], dom := .store, rc := 0x7F, alt := some (0x23F0004, 1) }
  | .UC_FAULT_ADDR => { base := 0x1060008, dims := [(8, 0x200000)], dom := .store, alt := some (0x23F0008, 1) }
  | .UC_FOOTPRINT => { base := 0x106000C, dims := [(8, 0x200000)], dom := .store, alt := some (0x23F000C, 1) }
  | .UC_FAULT_CNT => { base := 0x1060010, dims := [(8, 0x200000)], dom := .store, kind := .snap 64, alt := some (0x23F0010, 1) }
  | .UC_OVERRUN_CNT => { base := 0x1060018, dims := [(8, 0x200000)], dom := .store, kind := .snap 64, alt := some (0x23F0018, 1) }
  | .UC_ECC_CNT => { base := 0x1060020, dims := [(8, 0x200000)], dom := .store, kind := .snap 64, alt := some (0x23F0020, 1) }
  | .UC_WALKER => { base := 0x1060040, dims := [(8, 0x200000), (4, 0x4)], dom := .store, alt := some (0x23F0040, 4) }
  | .UC_MATCH => { base := 0x1060100, dims := [(8, 0x200000), (32, 0x4)], dom := .store, alt := some (0x23F0100, 16) }
  | .TBL_STATUS => { base := 0x1070000, dims := [(8, 0x200000)], dom := .boughDig }
  | .TBL_EVENT => { base := 0x1070004, dims := [(8, 0x200000)], dom := .boughDig, rc := 0x7F }
  | .TBL_SEED => { base := 0x1070008, dims := [(8, 0x200000)], dom := .boughDig, rst := 0x1 }
  | .TBL_LEARN_CTL => { base := 0x107000C, dims := [(8, 0x200000)], dom := .boughDig, rw := 0x3 }
  | .TBL_LEARN_BASE_LO => { base := 0x1070010, dims := [(8, 0x200000)], dom := .boughDig, rw := 0xFFFFFF80 }
  | .TBL_LEARN_BASE_HI => { base := 0x1070014, dims := [(8, 0x200000)], dom := .boughDig, rw := 0xFFFFFFFF }
  | .TBL_LEARN_SIZE => { base := 0x1070018, dims := [(8, 0x200000)], dom := .boughDig, rw := 0x1FFFF }
  | .TBL_LEARN_HEAD => { base := 0x107001C, dims := [(8, 0x200000)], dom := .boughDig, rw := 0xFFFF }
  | .TBL_LEARN_TAIL => { base := 0x1070020, dims := [(8, 0x200000)], dom := .boughDig }
  | .TBL_LEARN_FIFO => { base := 0x1070024, dims := [(8, 0x200000)], dom := .boughDig, rc := 0x7FF0000 }
  | .TBL_OCC => { base := 0x1070040, dims := [(8, 0x200000), (16, 0x4)], dom := .boughDig }
  | .TBL_LEARN_OK => { base := 0x1070090, dims := [(8, 0x200000)], dom := .boughDig, kind := .snap 64 }
  | .TBL_LEARN_DROP => { base := 0x1070098, dims := [(8, 0x200000)], dom := .boughDig, kind := .snap 64 }
  | .TBL_LEARN_FAIL => { base := 0x10700A0, dims := [(8, 0x200000)], dom := .boughDig, kind := .snap 64 }
  | .TBL_EVICT => { base := 0x10700A8, dims := [(8, 0x200000)], dom := .boughDig, kind := .snap 64 }
  | .TBL_AGED => { base := 0x10700B0, dims := [(8, 0x200000)], dom := .boughDig, kind := .snap 64 }
  | .TBL_PAR_ERR => { base := 0x10700B8, dims := [(8, 0x200000)], dom := .boughDig, kind := .snap 64 }
  | .TBL_LEARN_LOST => { base := 0x10700C0, dims := [(8, 0x200000)], dom := .boughDig, kind := .snap 64 }
  | .TBL_CNT_RANGE => { base := 0x10700C8, dims := [(8, 0x200000)], dom := .boughDig, kind := .snap 64 }
  | .CLS_STATUS => { base := 0x1080000, dims := [(8, 0x200000), (8, 0x40)], dom := .boughDig }
  | .CLS_EVENT => { base := 0x1080004, dims := [(8, 0x200000), (8, 0x40)], dom := .boughDig, rc := 0xF }
  | .CLS_MISS => { base := 0x1080008, dims := [(8, 0x200000), (8, 0x40)], dom := .boughDig }
  | .CLS_PAR_INDEX => { base := 0x108000C, dims := [(8, 0x200000), (8, 0x40)], dom := .boughDig }
  | .CLS_LOOKUPS => { base := 0x1080010, dims := [(8, 0x200000), (8, 0x40)], dom := .boughDig, kind := .snap 64 }
  | .CLS_HITS => { base := 0x1080018, dims := [(8, 0x200000), (8, 0x40)], dom := .boughDig, kind := .snap 64 }
  | .CLS_PAR_ERR => { base := 0x1080020, dims := [(8, 0x200000), (8, 0x40)], dom := .boughDig, kind := .snap 64 }
  | .PS_EVENT => { base := 0x1090000, dims := [(8, 0x200000)], dom := .boughDig, rc := 0x1F }
  | .PS_IMB_LAST => { base := 0x1090004, dims := [(8, 0x200000)], dom := .boughDig }
  | .PS_IMB_TIME_LO => { base := 0x1090008, dims := [(8, 0x200000)], dom := .boughDig }
  | .PS_IMB_TIME_HI => { base := 0x109000C, dims := [(8, 0x200000)], dom := .boughDig }
  | .PS_SEED => { base := 0x1090010, dims := [(8, 0x200000), (4, 0x4)], dom := .boughDig }
  | .PS_PIN_SEED => { base := 0x1090020, dims := [(8, 0x200000)], dom := .boughDig, rst := 0x100 }
  | .PS_GRP_SEL => { base := 0x1090024, dims := [(8, 0x200000)], dom := .boughDig, rw := 0x1FFF }
  | .PS_GRP_MON => { base := 0x1090028, dims := [(8, 0x200000)], dom := .boughDig }
  | .PS_SLOT_SEL => { base := 0x109002C, dims := [(8, 0x200000)], dom := .boughDig, rw := 0xFFFF }
  | .PS_SLOT_BYTES_LO => { base := 0x1090030, dims := [(8, 0x200000)], dom := .boughDig }
  | .PS_SLOT_BYTES_HI => { base := 0x1090034, dims := [(8, 0x200000)], dom := .boughDig }
  | .PS_WIN => { base := 0x1090038, dims := [(8, 0x200000)], dom := .boughDig }
  | .PS_CTL => { base := 0x109003C, dims := [(8, 0x200000)], dom := .boughDig, rw := 0x1 }
  | .PS_FL_NEW => { base := 0x1090040, dims := [(8, 0x200000)], dom := .boughDig, kind := .snap 64 }
  | .PS_FL_COLLIDE => { base := 0x1090048, dims := [(8, 0x200000)], dom := .boughDig, kind := .snap 64 }
  | .PS_GROUP_INVALID => { base := 0x1090050, dims := [(8, 0x200000)], dom := .boughDig, kind := .snap 64 }
  | .PS_MEMBER_INVALID => { base := 0x1090058, dims := [(8, 0x200000)], dom := .boughDig, kind := .snap 64 }
  | .PS_RESEEDS => { base := 0x1090060, dims := [(8, 0x200000)], dom := .boughDig, kind := .snap 64 }
  | .PS_RESEED_SUPP => { base := 0x1090068, dims := [(8, 0x200000)], dom := .boughDig, kind := .snap 64 }
  | .PS_SPRAYED => { base := 0x1090070, dims := [(8, 0x200000)], dom := .boughDig, kind := .snap 64 }
  | .PPERF_CYC => { base := 0x10A0000, dims := [(8, 0x200000), (8, 0x80)], dom := .boughDig, kind := .snap 64 }
  | .PPERF_CNT => { base := 0x10A0008, dims := [(8, 0x200000), (8, 0x80), (8, 0x8)], dom := .boughDig, kind := .snap 48 }
  | .PPERF_SEL => { base := 0x10A0048, dims := [(8, 0x200000), (8, 0x80), (8, 0x4)], dom := .boughDig }
  | .PPERF_STATUS => { base := 0x10A0068, dims := [(8, 0x200000), (8, 0x80)], dom := .boughDig, rc := 0xFF2 }
  | .BPERF_CYC => { base := 0x10A0400, dims := [(8, 0x200000)], dom := .boughDig, kind := .snap 64 }
  | .BPERF_CNT => { base := 0x10A0408, dims := [(8, 0x200000), (4, 0x8)], dom := .boughDig, kind := .snap 48 }
  | .BPERF_SEL => { base := 0x10A0428, dims := [(8, 0x200000), (4, 0x4)], dom := .boughDig }
  | .BPERF_STATUS => { base := 0x10A0438, dims := [(8, 0x200000)], dom := .boughDig, rc := 0xFF2 }
  | .TUN_STATUS => { base := 0x2000000, dom := .fixed 1, rst := 0x200 }
  | .TUN_EVENT => { base := 0x2000004, dom := .fixed 1, rc := 0xFF }
  | .TUN_FREE => { base := 0x2000008, dom := .fixed 1, rst := 0x180000 }
  | .TUN_INFLIGHT => { base := 0x200000C, dom := .fixed 1 }
  | .TUN_POOL_CFG => { base := 0x2000010, dims := [(4, 0x4)], dom := .fixed 1, rw := 0x1FFFFF }
  | .TUN_HR_CFG => { base := 0x2000020, dom := .fixed 1, rw := 0x1FFFFF }
  | .TUN_HR_PG => { base := 0x2000024, dom := .fixed 1, rw := 0xFFFF }
  | .TUN_PAIR_COMMIT => { base := 0x2000028, dom := .fixed 1 }
  | .TUN_PAIR_STATUS => { base := 0x200002C, dom := .fixed 1, rc := 0x8 }
  | .TUN_POOL_USED => { base := 0x2000030, dims := [(4, 0x4)], dom := .fixed 1 }
  | .TUN_HR_USED => { base := 0x2000040, dom := .fixed 1 }
  | .TUN_TALLY_CTL => { base := 0x2000044, dom := .fixed 1, rw := 0x3FFF1, rst := 0x641 }
  | .TUN_TALLY_STATUS => { base := 0x2000048, dom := .fixed 1 }
  | .TUN_MIGRATE => { base := 0x200004C, dom := .fixed 1 }
  | .TUN_ADMIT => { base := 0x2000050, dom := .fixed 1, kind := .snap 64 }
  | .TUN_DROP_POOL => { base := 0x2000058, dom := .fixed 1, kind := .snap 64 }
  | .TUN_DROP_HR => { base := 0x2000060, dom := .fixed 1, kind := .snap 64 }
  | .TUN_DROP_GUARD => { base := 0x2000068, dom := .fixed 1, kind := .snap 64 }
  | .TUN_DOWN_DROP => { base := 0x2000070, dom := .fixed 1, kind := .snap 64 }
  | .TUN_BAD_DROP => { base := 0x2000078, dom := .fixed 1, kind := .snap 64 }
  | .TUN_CT_FRAMES => { base := 0x2000080, dom := .fixed 1, kind := .snap 64 }
  | .TUN_CT_STOMP => { base := 0x2000088, dom := .fixed 1, kind := .snap 64 }
  | .TUN_SOJOURN_DROP => { base := 0x2000090, dom := .fixed 1, kind := .snap 64 }
  | .TUN_FLUSH_DROP => { base := 0x2000098, dom := .fixed 1, kind := .snap 64 }
  | .TUN_POISON => { base := 0x20000A0, dom := .fixed 1, kind := .snap 64 }
  | .TUN_ECC_CORR => { base := 0x20000A8, dom := .fixed 1, kind := .snap 64 }
  | .TUN_LEAK_RECLAIM => { base := 0x20000B0, dom := .fixed 1, kind := .snap 64 }
  | .TUN_WRITE_STALL => { base := 0x20000B8, dom := .fixed 1, kind := .snap 64 }
  | .TUN_BANK_MAP => { base := 0x2001000, dims := [(512, 0x4)], dom := .fixed 1 }
  | .TUN_BANK_STATUS => { base := 0x2002000, dims := [(528, 0x4)], dom := .bankQuad }
  | .TUN_ING_USED => { base := 0x2004000, dims := [(4096, 0x4)], dom := .fixed 1 }
  | .TUN_ING_HR => { base := 0x2008000, dims := [(4096, 0x4)], dom := .fixed 1 }
  | .TUN_Q_CFG0 => { base := 0x2010000, dims := [(10240, 0x10)], dom := .fixed 1, rst := 0x20000000 }
  | .TUN_Q_CFG1 => { base := 0x2010004, dims := [(10240, 0x10)], dom := .fixed 1 }
  | .TUN_Q_LEN => { base := 0x2010008, dims := [(10240, 0x10)], dom := .fixed 1, rst := 0x80000000 }
  | .TUN_Q_HR => { base := 0x201000C, dims := [(10240, 0x10)], dom := .fixed 1 }
  | .TUN_PORT_HOLD => { base := 0x2040000, dims := [(512, 0x4)], dom := .fixed 1, rst := 0x3E8 }
  | .CELLAR_STATUS => { base := 0x2C00000, dom := .fixed 25, rst := 0x10 }
  | .CELLAR_EVENT => { base := 0x2C00004, dom := .fixed 25, rc := 0xFF }
  | .CELLAR_FREE => { base := 0x2C00008, dom := .fixed 25, rst := 0x2AAAA0 }
  | .CELLAR_EXT => { base := 0x2C0000C, dom := .fixed 25, rst := 0x8000800 }
  | .CELLAR_WIN_ADDR => { base := 0x2C00010, dom := .fixed 25, rw := 0x13FFFFFF }
  | .CELLAR_WIN_CTL => { base := 0x2C00014, dom := .fixed 25, rc := 0x200 }
  | .CELLAR_WIN_DATA => { base := 0x2C00040, dims := [(16, 0x4)], dom := .fixed 25, rw := 0xFFFFFFFF }
  | .CELLAR_RACKED => { base := 0x2C00080, dom := .fixed 25, kind := .snap 64 }
  | .CELLAR_DRAWN => { base := 0x2C00088, dom := .fixed 25, kind := .snap 64 }
  | .CELLAR_ECC_CORR => { base := 0x2C00090, dom := .fixed 25, kind := .snap 64 }
  | .CELLAR_ECC_UNCORR => { base := 0x2C00098, dom := .fixed 25, kind := .snap 64 }
  | .CELLAR_EDC_RETRY => { base := 0x2C000A0, dom := .fixed 25, kind := .snap 64 }
  | .CELLAR_BLOCK_LOST => { base := 0x2C000A8, dom := .fixed 25, kind := .snap 64 }
  | .CELLAR_DRAW_STARVE => { base := 0x2C000B0, dom := .fixed 25, kind := .snap 64 }
  | .CELLAR_CH_STATUS => { base := 0x2C00100, dims := [(16, 0x4)], dom := .fixed 25, rst := 0x18 }
  | .CELLAR_CH_FREE => { base := 0x2C00140, dims := [(16, 0x4)], dom := .fixed 25, rst := 0x2AAAA }
  | .CELLAR_Q_CFG0 => { base := 0x2C10000, dims := [(10240, 0x10)], dom := .fixed 25, rst := 0x100000 }
  | .CELLAR_Q_CFG1 => { base := 0x2C10004, dims := [(10240, 0x10)], dom := .fixed 25, rst := 0x400 }
  | .CELLAR_Q_CFG2 => { base := 0x2C10008, dims := [(10240, 0x10)], dom := .fixed 25, rst := 0x100000 }
  | .CELLAR_Q_BLOCKS => { base := 0x2C1000C, dims := [(10240, 0x10)], dom := .fixed 25 }
  | .SCHED_EVENT => { base := 0x2400000, dom := .fixed 1, rc := 0x3 }
  | .SCHED_CTL => { base := 0x2400004, dom := .fixed 1, rw := 0x1 }
  | .SCHED_WD_LAST => { base := 0x2400008, dom := .fixed 1 }
  | .SCHED_WRED_DROP => { base := 0x2400010, dom := .fixed 1, kind := .snap 64 }
  | .SCHED_ECN_MARK => { base := 0x2400018, dom := .fixed 1, kind := .snap 64 }
  | .SCHED_WD_DROP => { base := 0x2400020, dom := .fixed 1, kind := .snap 64 }
  | .SCHED_WD_TRIPS => { base := 0x2400028, dom := .fixed 1, kind := .snap 64 }
  | .SCHED_Q_CFG => { base := 0x2410000, dims := [(10240, 0x20)], dom := .fixed 1, rst := 0x1 }
  | .SCHED_Q_MIN => { base := 0x2410004, dims := [(10240, 0x20)], dom := .fixed 1 }
  | .SCHED_Q_MAX => { base := 0x2410008, dims := [(10240, 0x20)], dom := .fixed 1 }
  | .SCHED_Q_DEFICIT => { base := 0x241000C, dims := [(10240, 0x20)], dom := .fixed 1 }
  | .SCHED_Q_HWM_CELLS => { base := 0x2410010, dims := [(10240, 0x20)], dom := .fixed 1, rc := 0x1FFFFFF }
  | .SCHED_Q_HWM_SOJ => { base := 0x2410014, dims := [(10240, 0x20)], dom := .fixed 1, rc := 0xFFFFFFFF }
  | .SCHED_Q_WRED_AVG => { base := 0x2410018, dims := [(10240, 0x20)], dom := .fixed 1 }
  | .SCHED_Q_STATE => { base := 0x241001C, dims := [(10240, 0x20)], dom := .fixed 1 }
  | .SCHED_P_MAX => { base := 0x2460000, dims := [(640, 0x10)], dom := .fixed 1 }
  | .SCHED_P_CFG => { base := 0x2460004, dims := [(640, 0x10)], dom := .fixed 1, rst := 0x14 }
  | .SCHED_P_PFC => { base := 0x2460008, dims := [(640, 0x10)], dom := .fixed 1 }
  | .SCHED_P_TH => { base := 0x246000C, dims := [(640, 0x10)], dom := .fixed 1, rst := 0x2000400 }
  | .TELEM_TOD_LO => { base := 0x3000000, dom := .fixed 1 }
  | .TELEM_TOD_HI => { base := 0x3000004, dom := .fixed 1 }
  | .TELEM_TOD_SET_LO => { base := 0x3000008, dom := .fixed 1, rw := 0xFFFFFFFF }
  | .TELEM_TOD_SET_HI => { base := 0x300000C, dom := .fixed 1, rw := 0xFFFFFFFF }
  | .TELEM_TOD_CTL => { base := 0x3000010, dom := .fixed 1, rw := 0xFF0300, rst := 0x640000 }
  | .TELEM_TOD_RATE => { base := 0x3000014, dom := .fixed 1, rw := 0xFFFFFFFF }
  | .TELEM_PPS_IN_LO => { base := 0x3000018, dom := .fixed 1 }
  | .TELEM_PPS_IN_HI => { base := 0x300001C, dom := .fixed 1 }
  | .TELEM_EVENT => { base := 0x3000020, dom := .fixed 1, rc := 0x7 }
  | .TELEM_PERF_CTL => { base := 0x3000024, dom := .fixed 1, rw := 0x1 }
  | .TELEM_REC_LOST => { base := 0x3000028, dom := .fixed 1, kind := .snap 64 }
  | .TELEM_FLAG_FULL => { base := 0x3000030, dom := .fixed 1, kind := .snap 64 }
  | .IOAM_SKIP => { base := 0x3000038, dom := .fixed 1, kind := .snap 64 }
  | .IOAM_OVF => { base := 0x3000040, dom := .fixed 1, kind := .snap 64 }
  | .TELEM_STR_STATUS => { base := 0x3000100, dims := [(8, 0x20)], dom := .fixed 1 }
  | .TELEM_STR_SEQ => { base := 0x3000104, dims := [(8, 0x20)], dom := .fixed 1 }
  | .TELEM_STR_FRAMES => { base := 0x3000108, dims := [(8, 0x20)], dom := .fixed 1, kind := .snap 64 }
  | .TELEM_STR_RECORDS => { base := 0x3000110, dims := [(8, 0x20)], dom := .fixed 1, kind := .snap 64 }
  | .TELEM_STR_LOST => { base := 0x3000118, dims := [(8, 0x20)], dom := .fixed 1, kind := .snap 64 }
  | .PERF_CYC => { base := 0x3080000, dims := [(9, 0x40)], dom := .fixed 1, kind := .snap 64 }
  | .PERF_CNT => { base := 0x3080008, dims := [(9, 0x40), (4, 0x8)], dom := .fixed 1, kind := .snap 48 }
  | .PERF_SEL => { base := 0x3080028, dims := [(9, 0x40), (4, 0x4)], dom := .fixed 1 }
  | .PERF_STATUS => { base := 0x3080038, dims := [(9, 0x40)], dom := .fixed 1, rc := 0xFF2 }
  | .TELEM_Q_CFG => { base := 0x3100000, dims := [(10240, 0x80)], dom := .fixed 1 }
  | .TELEM_Q_SOJ_TH => { base := 0x3100004, dims := [(10240, 0x80)], dom := .fixed 1 }
  | .TELEM_Q_C0 => { base := 0x3100008, dims := [(10240, 0x80)], dom := .fixed 1, kind := .snap 64 }
  | .TELEM_Q_C1 => { base := 0x3100010, dims := [(10240, 0x80)], dom := .fixed 1, kind := .snap 64 }
  | .TELEM_Q_C2 => { base := 0x3100018, dims := [(10240, 0x80)], dom := .fixed 1, kind := .snap 64 }
  | .TELEM_Q_C3 => { base := 0x3100020, dims := [(10240, 0x80)], dom := .fixed 1, kind := .snap 64 }
  | .TELEM_Q_C4 => { base := 0x3100028, dims := [(10240, 0x80)], dom := .fixed 1, kind := .snap 64 }
  | .TELEM_Q_C5 => { base := 0x3100030, dims := [(10240, 0x80)], dom := .fixed 1, kind := .snap 64 }
  | .TELEM_Q_HIST => { base := 0x3100040, dims := [(10240, 0x80), (16, 0x4)], dom := .fixed 1, kind := .snap 32 }
  | .GRIST_G_STATUS => { base := 0x2800000, dims := [(4, 0x1000)], dom := .gristGroup, rst := 0xFFFF0000 }
  | .GRIST_G_EVENT => { base := 0x2800004, dims := [(4, 0x1000)], dom := .gristGroup, rc := 0xFF }
  | .GRIST_G_LAST => { base := 0x2800008, dims := [(4, 0x1000)], dom := .gristGroup }
  | .GRIST_G_LIMIT => { base := 0x280000C, dims := [(4, 0x1000)], dom := .gristGroup, rst := 0x10 }
  | .GRIST_CONTRIB => { base := 0x2800010, dims := [(4, 0x1000)], dom := .gristGroup, kind := .snap 64 }
  | .GRIST_DUP => { base := 0x2800018, dims := [(4, 0x1000)], dom := .gristGroup, kind := .snap 64 }
  | .GRIST_BAD => { base := 0x2800020, dims := [(4, 0x1000)], dom := .gristGroup, kind := .snap 64 }
  | .GRIST_AHEAD => { base := 0x2800028, dims := [(4, 0x1000)], dom := .gristGroup, kind := .snap 64 }
  | .GRIST_STALE => { base := 0x2800030, dims := [(4, 0x1000)], dom := .gristGroup, kind := .snap 64 }
  | .GRIST_NOGROUP => { base := 0x2800038, dims := [(4, 0x1000)], dom := .gristGroup, kind := .snap 64 }
  | .GRIST_NACK_TX => { base := 0x2800040, dims := [(4, 0x1000)], dom := .gristGroup, kind := .snap 64 }
  | .GRIST_RESULTS => { base := 0x2800048, dims := [(4, 0x1000)], dom := .gristGroup, kind := .snap 64 }
  | .GRIST_FAILED => { base := 0x2800050, dims := [(4, 0x1000)], dom := .gristGroup, kind := .snap 64 }
  | .GRIST_RES_DROP => { base := 0x2800058, dims := [(4, 0x1000)], dom := .gristGroup, kind := .snap 64 }
  | .GRIST_RESET => { base := 0x2800060, dims := [(4, 0x1000)], dom := .gristGroup, kind := .snap 64 }
  | .GRIST_E_STATUS => { base := 0x2880000, dims := [(68, 0x20)], dom := .gristEngine }
  | .GRIST_E_FAULT => { base := 0x2880004, dims := [(68, 0x20)], dom := .gristEngine, rc := 0xFFFF }
  | .GRIST_SCRATCH => { base := 0x2900000, dom := .fixed 21, rst := 0x2000 }
  | .GRIST_CTL => { base := 0x2900004, dom := .fixed 21, rw := 0x1 }
  | .GRIST_SLOT_MAP => { base := 0x2900100, dims := [(64, 0x4)], dom := .fixed 21, rst := 0x80 }

def Reg.all0 : List Reg := [
  Reg.GLB_ID, Reg.GLB_FW_VER, Reg.GLB_MODE, Reg.GLB_RESET_CAUSE, Reg.GLB_RESET_CTL, Reg.GLB_STRAP, Reg.GLB_SCRATCH, Reg.GLB_DEV_ID,
  Reg.GLB_SNAP_SEQ, Reg.GLB_SNAP_TIME_LO, Reg.GLB_SNAP_TIME_HI, Reg.GLB_BUSERR_ADDR, Reg.GLB_BUSERR_INFO, Reg.CLK_EVENT, Reg.CLK_TRIM_CTL, Reg.CLK_SRC,
  Reg.CLK_PLL, Reg.PWR_STAT, Reg.PWR_EVENT, Reg.PWR_ALERT_MASK, Reg.PWR_VIN, Reg.PWR_CAP_CUR, Reg.PWR_TOTAL, Reg.PWR_INDEX,
  Reg.PWR_QUAD, Reg.PWR_ENERGY, Reg.PWR_DROOP_CNT, Reg.PWR_CAP_STEPS, Reg.PWR_EST_MISMATCH, Reg.PWR_DOM_V, Reg.PWR_DOM_P, Reg.FLT_TOP_LO,
  Reg.FLT_TOP_HI, Reg.FLT_STATUS, Reg.FLT_PIN_CTL, Reg.FLT_PIN_MASK_LO, Reg.FLT_PIN_MASK_HI, Reg.FLT_CLASS_CTL, Reg.FLT_HIST_SEL, Reg.FLT_HIST_DATA,
  Reg.FLT_HIST_SEQ, Reg.FLT_SEQ, Reg.FLT_SRC_LAST, Reg.FLT_SRC_CNT, Reg.CMD_CTL, Reg.CMD_STATUS, Reg.CMD_SQ_BASE_LO, Reg.CMD_SQ_BASE_HI,
  Reg.CMD_SQ_SIZE, Reg.CMD_SQ_TAIL, Reg.CMD_SQ_HEAD, Reg.CMD_CQ_BASE_LO, Reg.CMD_CQ_BASE_HI, Reg.CMD_CQ_SIZE, Reg.CMD_CQ_HEAD, Reg.CMD_CQ_TAIL,
  Reg.CMD_IRQ_CTL, Reg.PKT_CTL, Reg.PKT_STATUS, Reg.PKT_RX_MAP0]

def Reg.all1 : List Reg := [
  Reg.PKT_RX_MAP1, Reg.PKT_TX_BASE_LO, Reg.PKT_TX_BASE_HI, Reg.PKT_TX_SIZE, Reg.PKT_TX_TAIL, Reg.PKT_TX_HEAD, Reg.PKT_TX_WB_LO, Reg.PKT_TX_WB_HI,
  Reg.PKT_TX_IRQ, Reg.PKT_RX_BASE_LO, Reg.PKT_RX_BASE_HI, Reg.PKT_RX_SIZE, Reg.PKT_RX_TAIL, Reg.PKT_RX_HEAD, Reg.PKT_RX_IRQ, Reg.PKT_TX_FRAMES,
  Reg.PKT_TX_BAD, Reg.PKT_RX_FRAMES, Reg.PKT_RX_BAD, Reg.PKT_RX_NORING, Reg.MSIX_TABLE, Reg.MSIX_PBA, Reg.SVC_FW_STATUS, Reg.SVC_FW_EVENT,
  Reg.SVC_OTP, Reg.SVC_USB, Reg.SMB_STATUS, Reg.GPIO_IN, Reg.GPIO_OUT, Reg.GPIO_OE, Reg.LANE_STATUS, Reg.LANE_EVENT,
  Reg.LANE_FOM_REG, Reg.LANE_PRBS_STATUS, Reg.LANE_PRBS_ERR, Reg.LANE_PRBS_BITS, Reg.LANE_UNLOCK, Reg.LANE_TRAIN_TIME, Reg.PORT_MODE, Reg.PORT_STATUS,
  Reg.PORT_EVENT, Reg.PORT_TS_ID, Reg.PORT_TS_LO, Reg.PORT_TS_HI, Reg.PORT_TS_POP, Reg.RX_FRAMES, Reg.RX_BYTES, Reg.RX_FCS_ERR,
  Reg.RX_RUNT, Reg.RX_OVERSIZE, Reg.RX_STOMPED, Reg.RX_CTRL, Reg.TX_FRAMES, Reg.TX_BYTES, Reg.TX_STOMP, Reg.TX_CTRL,
  Reg.FEC_CW, Reg.FEC_CORR_CW, Reg.FEC_UNCORR_CW, Reg.FEC_SYM_CORR]

def Reg.all2 : List Reg := [
  Reg.LINK_DOWN_CNT, Reg.PFC_RX, Reg.PFC_TX, Reg.BOUGH_LINK_CHG0, Reg.BOUGH_LINK_CHG1, Reg.BOUGH_PAIR_COMMIT, Reg.BOUGH_PAIR_STATUS, Reg.ROOT_STATUS,
  Reg.ROOT_EVENT, Reg.ROOT_SPARE_MAP, Reg.ROOT_CRC_UP, Reg.ROOT_CRC_DN, Reg.ROOT_REPLAY_UP, Reg.ROOT_REPLAY_DN, Reg.ROOT_FLITS_UP, Reg.ROOT_FLITS_DN,
  Reg.ROOT_LANE_SEL, Reg.ROOT_LANE_ERR, Reg.ROOT_MAP_UP, Reg.ROOT_MAP_DN, Reg.ROOT_MAP_EPOCH, Reg.ROOT_RESEQ, Reg.ROOT_REPIN_DROP, Reg.ROOT_RESEQ_SKIP,
  Reg.ROOT_IN_DROP, Reg.PIPE_STATUS, Reg.PIPE_EVENT, Reg.PIPE_REORDER, Reg.PIPE_FRAMES, Reg.PIPE_PROG_DROP, Reg.PIPE_NO_DEST, Reg.PIPE_PARSE_ERR,
  Reg.PIPE_LEN_DROP, Reg.PIPE_MIRROR, Reg.PIPE_PUNT, Reg.PIPE_STALL, Reg.PIPE_WAKE, Reg.PIPE_EG_FRAMES, Reg.PIPE_EG_OVERSIZE, Reg.TWIG_FIFO,
  Reg.TWIG_IN_DROP, Reg.TWIG_FOSTER_DROP, Reg.UC_STATUS, Reg.UC_EVENT, Reg.UC_FAULT_ADDR, Reg.UC_FOOTPRINT, Reg.UC_FAULT_CNT, Reg.UC_OVERRUN_CNT,
  Reg.UC_ECC_CNT, Reg.UC_WALKER, Reg.UC_MATCH, Reg.TBL_STATUS, Reg.TBL_EVENT, Reg.TBL_SEED, Reg.TBL_LEARN_CTL, Reg.TBL_LEARN_BASE_LO,
  Reg.TBL_LEARN_BASE_HI, Reg.TBL_LEARN_SIZE, Reg.TBL_LEARN_HEAD, Reg.TBL_LEARN_TAIL]

def Reg.all3 : List Reg := [
  Reg.TBL_LEARN_FIFO, Reg.TBL_OCC, Reg.TBL_LEARN_OK, Reg.TBL_LEARN_DROP, Reg.TBL_LEARN_FAIL, Reg.TBL_EVICT, Reg.TBL_AGED, Reg.TBL_PAR_ERR,
  Reg.TBL_LEARN_LOST, Reg.TBL_CNT_RANGE, Reg.CLS_STATUS, Reg.CLS_EVENT, Reg.CLS_MISS, Reg.CLS_PAR_INDEX, Reg.CLS_LOOKUPS, Reg.CLS_HITS,
  Reg.CLS_PAR_ERR, Reg.PS_EVENT, Reg.PS_IMB_LAST, Reg.PS_IMB_TIME_LO, Reg.PS_IMB_TIME_HI, Reg.PS_SEED, Reg.PS_PIN_SEED, Reg.PS_GRP_SEL,
  Reg.PS_GRP_MON, Reg.PS_SLOT_SEL, Reg.PS_SLOT_BYTES_LO, Reg.PS_SLOT_BYTES_HI, Reg.PS_WIN, Reg.PS_CTL, Reg.PS_FL_NEW, Reg.PS_FL_COLLIDE,
  Reg.PS_GROUP_INVALID, Reg.PS_MEMBER_INVALID, Reg.PS_RESEEDS, Reg.PS_RESEED_SUPP, Reg.PS_SPRAYED, Reg.PPERF_CYC, Reg.PPERF_CNT, Reg.PPERF_SEL,
  Reg.PPERF_STATUS, Reg.BPERF_CYC, Reg.BPERF_CNT, Reg.BPERF_SEL, Reg.BPERF_STATUS, Reg.TUN_STATUS, Reg.TUN_EVENT, Reg.TUN_FREE,
  Reg.TUN_INFLIGHT, Reg.TUN_POOL_CFG, Reg.TUN_HR_CFG, Reg.TUN_HR_PG, Reg.TUN_PAIR_COMMIT, Reg.TUN_PAIR_STATUS, Reg.TUN_POOL_USED, Reg.TUN_HR_USED,
  Reg.TUN_TALLY_CTL, Reg.TUN_TALLY_STATUS, Reg.TUN_MIGRATE, Reg.TUN_ADMIT]

def Reg.all4 : List Reg := [
  Reg.TUN_DROP_POOL, Reg.TUN_DROP_HR, Reg.TUN_DROP_GUARD, Reg.TUN_DOWN_DROP, Reg.TUN_BAD_DROP, Reg.TUN_CT_FRAMES, Reg.TUN_CT_STOMP, Reg.TUN_SOJOURN_DROP,
  Reg.TUN_FLUSH_DROP, Reg.TUN_POISON, Reg.TUN_ECC_CORR, Reg.TUN_LEAK_RECLAIM, Reg.TUN_WRITE_STALL, Reg.TUN_BANK_MAP, Reg.TUN_BANK_STATUS, Reg.TUN_ING_USED,
  Reg.TUN_ING_HR, Reg.TUN_Q_CFG0, Reg.TUN_Q_CFG1, Reg.TUN_Q_LEN, Reg.TUN_Q_HR, Reg.TUN_PORT_HOLD, Reg.CELLAR_STATUS, Reg.CELLAR_EVENT,
  Reg.CELLAR_FREE, Reg.CELLAR_EXT, Reg.CELLAR_WIN_ADDR, Reg.CELLAR_WIN_CTL, Reg.CELLAR_WIN_DATA, Reg.CELLAR_RACKED, Reg.CELLAR_DRAWN, Reg.CELLAR_ECC_CORR,
  Reg.CELLAR_ECC_UNCORR, Reg.CELLAR_EDC_RETRY, Reg.CELLAR_BLOCK_LOST, Reg.CELLAR_DRAW_STARVE, Reg.CELLAR_CH_STATUS, Reg.CELLAR_CH_FREE, Reg.CELLAR_Q_CFG0, Reg.CELLAR_Q_CFG1,
  Reg.CELLAR_Q_CFG2, Reg.CELLAR_Q_BLOCKS, Reg.SCHED_EVENT, Reg.SCHED_CTL, Reg.SCHED_WD_LAST, Reg.SCHED_WRED_DROP, Reg.SCHED_ECN_MARK, Reg.SCHED_WD_DROP,
  Reg.SCHED_WD_TRIPS, Reg.SCHED_Q_CFG, Reg.SCHED_Q_MIN, Reg.SCHED_Q_MAX, Reg.SCHED_Q_DEFICIT, Reg.SCHED_Q_HWM_CELLS, Reg.SCHED_Q_HWM_SOJ, Reg.SCHED_Q_WRED_AVG,
  Reg.SCHED_Q_STATE, Reg.SCHED_P_MAX, Reg.SCHED_P_CFG, Reg.SCHED_P_PFC]

def Reg.all5 : List Reg := [
  Reg.SCHED_P_TH, Reg.TELEM_TOD_LO, Reg.TELEM_TOD_HI, Reg.TELEM_TOD_SET_LO, Reg.TELEM_TOD_SET_HI, Reg.TELEM_TOD_CTL, Reg.TELEM_TOD_RATE, Reg.TELEM_PPS_IN_LO,
  Reg.TELEM_PPS_IN_HI, Reg.TELEM_EVENT, Reg.TELEM_PERF_CTL, Reg.TELEM_REC_LOST, Reg.TELEM_FLAG_FULL, Reg.IOAM_SKIP, Reg.IOAM_OVF, Reg.TELEM_STR_STATUS,
  Reg.TELEM_STR_SEQ, Reg.TELEM_STR_FRAMES, Reg.TELEM_STR_RECORDS, Reg.TELEM_STR_LOST, Reg.PERF_CYC, Reg.PERF_CNT, Reg.PERF_SEL, Reg.PERF_STATUS,
  Reg.TELEM_Q_CFG, Reg.TELEM_Q_SOJ_TH, Reg.TELEM_Q_C0, Reg.TELEM_Q_C1, Reg.TELEM_Q_C2, Reg.TELEM_Q_C3, Reg.TELEM_Q_C4, Reg.TELEM_Q_C5,
  Reg.TELEM_Q_HIST, Reg.GRIST_G_STATUS, Reg.GRIST_G_EVENT, Reg.GRIST_G_LAST, Reg.GRIST_G_LIMIT, Reg.GRIST_CONTRIB, Reg.GRIST_DUP, Reg.GRIST_BAD,
  Reg.GRIST_AHEAD, Reg.GRIST_STALE, Reg.GRIST_NOGROUP, Reg.GRIST_NACK_TX, Reg.GRIST_RESULTS, Reg.GRIST_FAILED, Reg.GRIST_RES_DROP, Reg.GRIST_RESET,
  Reg.GRIST_E_STATUS, Reg.GRIST_E_FAULT, Reg.GRIST_SCRATCH, Reg.GRIST_CTL, Reg.GRIST_SLOT_MAP]

/-- Every register, in the order of the table. -/
def Reg.all : List Reg := List.flatten [Reg.all0, Reg.all1, Reg.all2, Reg.all3, Reg.all4, Reg.all5]

/-- A named field of a register: `w` bits from bit `lo`. -/
structure Fld where
  reg : Reg
  lo  : Nat
  w   : Nat
  deriving DecidableEq, Repr

def GLB_ID.MINOR : Fld := ⟨.GLB_ID, 0, 4⟩
def GLB_ID.MAJOR : Fld := ⟨.GLB_ID, 4, 4⟩
def GLB_ID.PART : Fld := ⟨.GLB_ID, 8, 16⟩
def GLB_ID.FAMILY : Fld := ⟨.GLB_ID, 24, 8⟩
def GLB_FW_VER.BUILD : Fld := ⟨.GLB_FW_VER, 0, 16⟩
def GLB_FW_VER.MINOR : Fld := ⟨.GLB_FW_VER, 16, 8⟩
def GLB_FW_VER.MAJOR : Fld := ⟨.GLB_FW_VER, 24, 7⟩
def GLB_FW_VER.SLOT : Fld := ⟨.GLB_FW_VER, 31, 1⟩
def GLB_MODE.MODE : Fld := ⟨.GLB_MODE, 0, 3⟩
def GLB_MODE.GOAL : Fld := ⟨.GLB_MODE, 4, 3⟩
def GLB_MODE.CHANGING : Fld := ⟨.GLB_MODE, 8, 1⟩
def GLB_RESET_CAUSE.POR : Fld := ⟨.GLB_RESET_CAUSE, 0, 1⟩
def GLB_RESET_CAUSE.PIN : Fld := ⟨.GLB_RESET_CAUSE, 1, 1⟩
def GLB_RESET_CAUSE.COLD : Fld := ⟨.GLB_RESET_CAUSE, 2, 1⟩
def GLB_RESET_CAUSE.WARM : Fld := ⟨.GLB_RESET_CAUSE, 3, 1⟩
def GLB_RESET_CAUSE.WDOG : Fld := ⟨.GLB_RESET_CAUSE, 4, 1⟩
def GLB_RESET_CAUSE.THERM : Fld := ⟨.GLB_RESET_CAUSE, 5, 1⟩
def GLB_RESET_CAUSE.REVERT : Fld := ⟨.GLB_RESET_CAUSE, 6, 1⟩
def GLB_RESET_CAUSE.VIN_LOW : Fld := ⟨.GLB_RESET_CAUSE, 7, 1⟩
def GLB_RESET_CTL.ACTION : Fld := ⟨.GLB_RESET_CTL, 0, 4⟩
def GLB_RESET_CTL.KEY : Fld := ⟨.GLB_RESET_CTL, 16, 16⟩
def GLB_STRAP.STRAP : Fld := ⟨.GLB_STRAP, 0, 16⟩
def GLB_SCRATCH.DATA : Fld := ⟨.GLB_SCRATCH, 0, 32⟩
def GLB_DEV_ID.DEV : Fld := ⟨.GLB_DEV_ID, 0, 16⟩
def GLB_SNAP_SEQ.SEQ : Fld := ⟨.GLB_SNAP_SEQ, 0, 32⟩
def GLB_SNAP_TIME_LO.NS : Fld := ⟨.GLB_SNAP_TIME_LO, 0, 32⟩
def GLB_SNAP_TIME_HI.NS : Fld := ⟨.GLB_SNAP_TIME_HI, 0, 32⟩
def GLB_BUSERR_ADDR.OFFSET : Fld := ⟨.GLB_BUSERR_ADDR, 0, 26⟩
def GLB_BUSERR_INFO.COUNT : Fld := ⟨.GLB_BUSERR_INFO, 0, 16⟩
def GLB_BUSERR_INFO.WRITE : Fld := ⟨.GLB_BUSERR_INFO, 16, 1⟩
def GLB_BUSERR_INFO.CAUSE : Fld := ⟨.GLB_BUSERR_INFO, 17, 2⟩
def GLB_BUSERR_INFO.CHAN : Fld := ⟨.GLB_BUSERR_INFO, 19, 1⟩
def CLK_EVENT.SRC_TRIP : Fld := ⟨.CLK_EVENT, 0, 6⟩
def CLK_EVENT.HOLD : Fld := ⟨.CLK_EVENT, 8, 1⟩
def CLK_EVENT.NO_SOURCE : Fld := ⟨.CLK_EVENT, 9, 1⟩
def CLK_EVENT.START_TIMEOUT : Fld := ⟨.CLK_EVENT, 10, 1⟩
def CLK_EVENT.TRIM_LIMIT : Fld := ⟨.CLK_EVENT, 11, 1⟩
def CLK_EVENT.TOD_COARSE : Fld := ⟨.CLK_EVENT, 12, 1⟩
def CLK_EVENT.LOCK_LOSS : Fld := ⟨.CLK_EVENT, 13, 1⟩
def CLK_EVENT.EN_REFUSED : Fld := ⟨.CLK_EVENT, 14, 1⟩
def CLK_EVENT.SIRC_FAULT : Fld := ⟨.CLK_EVENT, 15, 1⟩
def CLK_TRIM_CTL.SIRC_AUTO : Fld := ⟨.CLK_TRIM_CTL, 0, 1⟩
def CLK_TRIM_CTL.FIRC_AUTO : Fld := ⟨.CLK_TRIM_CTL, 1, 1⟩
def CLK_TRIM_CTL.REF : Fld := ⟨.CLK_TRIM_CTL, 4, 2⟩
def CLK_TRIM_CTL.SOF_SEEN : Fld := ⟨.CLK_TRIM_CTL, 8, 1⟩
def CLK_SRC.EN : Fld := ⟨.CLK_SRC, 0, 1⟩
def CLK_SRC.STATE : Fld := ⟨.CLK_SRC, 1, 2⟩
def CLK_SRC.EXT : Fld := ⟨.CLK_SRC, 3, 1⟩
def CLK_SRC.TRIM : Fld := ⟨.CLK_SRC, 8, 8⟩
def CLK_SRC.COUNT : Fld := ⟨.CLK_SRC, 16, 12⟩
def CLK_PLL.SRC : Fld := ⟨.CLK_PLL, 0, 3⟩
def CLK_PLL.STATE : Fld := ⟨.CLK_PLL, 4, 2⟩
def CLK_PLL.CHAIN_EN : Fld := ⟨.CLK_PLL, 8, 1⟩
def CLK_PLL.LOCK_LOSS : Fld := ⟨.CLK_PLL, 16, 8⟩
def PWR_STAT.CAP_LEVEL : Fld := ⟨.PWR_STAT, 0, 2⟩
def PWR_STAT.CAP_UNMET : Fld := ⟨.PWR_STAT, 2, 1⟩
def PWR_STAT.HW_ILIM : Fld := ⟨.PWR_STAT, 3, 1⟩
def PWR_STAT.THROTTLE : Fld := ⟨.PWR_STAT, 4, 1⟩
def PWR_STAT.GUARD_WIDE : Fld := ⟨.PWR_STAT, 5, 1⟩
def PWR_STAT.HINTS : Fld := ⟨.PWR_STAT, 6, 5⟩
def PWR_STAT.PRIV_CNT : Fld := ⟨.PWR_STAT, 16, 5⟩
def PWR_EVENT.VIN_RANGE : Fld := ⟨.PWR_EVENT, 0, 1⟩
def PWR_EVENT.CAP_UNMET : Fld := ⟨.PWR_EVENT, 1, 1⟩
def PWR_EVENT.HW_ILIM : Fld := ⟨.PWR_EVENT, 2, 1⟩
def PWR_EVENT.DROOP : Fld := ⟨.PWR_EVENT, 3, 1⟩
def PWR_EVENT.DROOP_FREEZE : Fld := ⟨.PWR_EVENT, 4, 1⟩
def PWR_EVENT.EST_MISMATCH : Fld := ⟨.PWR_EVENT, 5, 1⟩
def PWR_EVENT.RECAL_DONE : Fld := ⟨.PWR_EVENT, 6, 1⟩
def PWR_EVENT.BAND_REFRESH : Fld := ⟨.PWR_EVENT, 7, 1⟩
def PWR_EVENT.THROTTLE : Fld := ⟨.PWR_EVENT, 8, 1⟩
def PWR_EVENT.TEMP_MAX : Fld := ⟨.PWR_EVENT, 9, 1⟩
def PWR_EVENT.OPP_CHANGE : Fld := ⟨.PWR_EVENT, 10, 1⟩
def PWR_ALERT_MASK.MASK : Fld := ⟨.PWR_ALERT_MASK, 0, 5⟩
def PWR_VIN.VIN : Fld := ⟨.PWR_VIN, 0, 13⟩
def PWR_VIN.IIN : Fld := ⟨.PWR_VIN, 16, 11⟩
def PWR_CAP_CUR.P_CAP : Fld := ⟨.PWR_CAP_CUR, 0, 11⟩
def PWR_CAP_CUR.I_LIMIT : Fld := ⟨.PWR_CAP_CUR, 12, 7⟩
def PWR_CAP_CUR.P_SET : Fld := ⟨.PWR_CAP_CUR, 19, 11⟩
def PWR_TOTAL.MEAS : Fld := ⟨.PWR_TOTAL, 0, 11⟩
def PWR_TOTAL.EST : Fld := ⟨.PWR_TOTAL, 16, 11⟩
def PWR_INDEX.PIDX : Fld := ⟨.PWR_INDEX, 0, 4⟩
def PWR_QUAD.OPP : Fld := ⟨.PWR_QUAD, 0, 3⟩
def PWR_QUAD.TARGET : Fld := ⟨.PWR_QUAD, 4, 3⟩
def PWR_QUAD.CEIL : Fld := ⟨.PWR_QUAD, 8, 3⟩
def PWR_QUAD.FLOOR : Fld := ⟨.PWR_QUAD, 12, 3⟩
def PWR_QUAD.STEPPING : Fld := ⟨.PWR_QUAD, 15, 1⟩
def PWR_QUAD.FREQ : Fld := ⟨.PWR_QUAD, 16, 12⟩
def PWR_QUAD.FROZEN : Fld := ⟨.PWR_QUAD, 28, 1⟩
def PWR_DOM_V.MV : Fld := ⟨.PWR_DOM_V, 0, 12⟩
def PWR_DOM_V.TEMP : Fld := ⟨.PWR_DOM_V, 16, 8⟩
def PWR_DOM_V.STATE : Fld := ⟨.PWR_DOM_V, 24, 3⟩
def PWR_DOM_V.BAND : Fld := ⟨.PWR_DOM_V, 27, 2⟩
def PWR_DOM_V.CAL_OK : Fld := ⟨.PWR_DOM_V, 29, 1⟩
def PWR_DOM_P.MEAS : Fld := ⟨.PWR_DOM_P, 0, 15⟩
def PWR_DOM_P.WIDE : Fld := ⟨.PWR_DOM_P, 15, 1⟩
def PWR_DOM_P.EST : Fld := ⟨.PWR_DOM_P, 16, 15⟩
def FLT_TOP_LO.SRC : Fld := ⟨.FLT_TOP_LO, 0, 32⟩
def FLT_TOP_HI.SRC : Fld := ⟨.FLT_TOP_HI, 0, 10⟩
def FLT_STATUS.HANDLING : Fld := ⟨.FLT_STATUS, 0, 1⟩
def FLT_STATUS.FATAL : Fld := ⟨.FLT_STATUS, 1, 1⟩
def FLT_STATUS.ENTRIES : Fld := ⟨.FLT_STATUS, 2, 6⟩
def FLT_STATUS.HIST_LOST : Fld := ⟨.FLT_STATUS, 8, 8⟩
def FLT_PIN_CTL.LEVEL : Fld := ⟨.FLT_PIN_CTL, 0, 1⟩
def FLT_PIN_MASK_LO.MASK : Fld := ⟨.FLT_PIN_MASK_LO, 0, 32⟩
def FLT_PIN_MASK_HI.MASK : Fld := ⟨.FLT_PIN_MASK_HI, 0, 10⟩
def FLT_CLASS_CTL.PIN : Fld := ⟨.FLT_CLASS_CTL, 0, 4⟩
def FLT_CLASS_CTL.HIST : Fld := ⟨.FLT_CLASS_CTL, 8, 4⟩
def FLT_HIST_SEL.INDEX : Fld := ⟨.FLT_HIST_SEL, 0, 5⟩
def FLT_HIST_DATA.WORD : Fld := ⟨.FLT_HIST_DATA, 0, 32⟩
def FLT_HIST_SEQ.SEQ : Fld := ⟨.FLT_HIST_SEQ, 0, 32⟩
def FLT_SEQ.NEXT : Fld := ⟨.FLT_SEQ, 0, 32⟩
def FLT_SRC_LAST.CODE : Fld := ⟨.FLT_SRC_LAST, 0, 16⟩
def FLT_SRC_LAST.TARGET : Fld := ⟨.FLT_SRC_LAST, 16, 16⟩
def FLT_SRC_CNT.COUNT : Fld := ⟨.FLT_SRC_CNT, 0, 16⟩
def FLT_SRC_CNT.LOST : Fld := ⟨.FLT_SRC_CNT, 16, 8⟩
def FLT_SRC_CNT.MAXCLASS : Fld := ⟨.FLT_SRC_CNT, 24, 3⟩
def CMD_CTL.EN : Fld := ⟨.CMD_CTL, 0, 1⟩
def CMD_CTL.IRQ_EN : Fld := ⟨.CMD_CTL, 1, 1⟩
def CMD_STATUS.RUN : Fld := ⟨.CMD_STATUS, 0, 1⟩
def CMD_STATUS.CFG_ERR : Fld := ⟨.CMD_STATUS, 1, 1⟩
def CMD_STATUS.DB_ERR : Fld := ⟨.CMD_STATUS, 2, 1⟩
def CMD_STATUS.FETCH_ERR : Fld := ⟨.CMD_STATUS, 3, 1⟩
def CMD_STATUS.CQ_FULL : Fld := ⟨.CMD_STATUS, 4, 1⟩
def CMD_STATUS.SVC_SEEN : Fld := ⟨.CMD_STATUS, 5, 1⟩
def CMD_STATUS.SVC_ERR : Fld := ⟨.CMD_STATUS, 6, 1⟩
def CMD_STATUS.PEND_CNT : Fld := ⟨.CMD_STATUS, 8, 7⟩
def CMD_SQ_BASE_LO.ADDR : Fld := ⟨.CMD_SQ_BASE_LO, 6, 26⟩
def CMD_SQ_BASE_HI.ADDR : Fld := ⟨.CMD_SQ_BASE_HI, 0, 32⟩
def CMD_SQ_SIZE.ENTRIES : Fld := ⟨.CMD_SQ_SIZE, 0, 17⟩
def CMD_SQ_TAIL.TAIL : Fld := ⟨.CMD_SQ_TAIL, 0, 16⟩
def CMD_SQ_HEAD.HEAD : Fld := ⟨.CMD_SQ_HEAD, 0, 16⟩
def CMD_CQ_BASE_LO.ADDR : Fld := ⟨.CMD_CQ_BASE_LO, 6, 26⟩
def CMD_CQ_BASE_HI.ADDR : Fld := ⟨.CMD_CQ_BASE_HI, 0, 32⟩
def CMD_CQ_SIZE.ENTRIES : Fld := ⟨.CMD_CQ_SIZE, 0, 17⟩
def CMD_CQ_HEAD.HEAD : Fld := ⟨.CMD_CQ_HEAD, 0, 16⟩
def CMD_CQ_TAIL.TAIL : Fld := ⟨.CMD_CQ_TAIL, 0, 16⟩
def CMD_IRQ_CTL.COAL_CNT : Fld := ⟨.CMD_IRQ_CTL, 0, 8⟩
def CMD_IRQ_CTL.COAL_TIME : Fld := ⟨.CMD_IRQ_CTL, 8, 16⟩
def PKT_CTL.EN : Fld := ⟨.PKT_CTL, 0, 1⟩
def PKT_STATUS.RUN : Fld := ⟨.PKT_STATUS, 0, 1⟩
def PKT_STATUS.CFG_ERR : Fld := ⟨.PKT_STATUS, 1, 1⟩
def PKT_STATUS.DB_ERR : Fld := ⟨.PKT_STATUS, 2, 1⟩
def PKT_STATUS.DMA_ERR : Fld := ⟨.PKT_STATUS, 3, 1⟩
def PKT_RX_MAP0.RING0 : Fld := ⟨.PKT_RX_MAP0, 0, 3⟩
def PKT_RX_MAP0.RING1 : Fld := ⟨.PKT_RX_MAP0, 4, 3⟩
def PKT_RX_MAP0.RING2 : Fld := ⟨.PKT_RX_MAP0, 8, 3⟩
def PKT_RX_MAP0.RING3 : Fld := ⟨.PKT_RX_MAP0, 12, 3⟩
def PKT_RX_MAP0.RING4 : Fld := ⟨.PKT_RX_MAP0, 16, 3⟩
def PKT_RX_MAP0.RING5 : Fld := ⟨.PKT_RX_MAP0, 20, 3⟩
def PKT_RX_MAP0.RING6 : Fld := ⟨.PKT_RX_MAP0, 24, 3⟩
def PKT_RX_MAP0.RING7 : Fld := ⟨.PKT_RX_MAP0, 28, 3⟩
def PKT_RX_MAP1.RING8 : Fld := ⟨.PKT_RX_MAP1, 0, 3⟩
def PKT_RX_MAP1.RING9 : Fld := ⟨.PKT_RX_MAP1, 4, 3⟩
def PKT_RX_MAP1.RING10 : Fld := ⟨.PKT_RX_MAP1, 8, 3⟩
def PKT_RX_MAP1.RING11 : Fld := ⟨.PKT_RX_MAP1, 12, 3⟩
def PKT_RX_MAP1.RING12 : Fld := ⟨.PKT_RX_MAP1, 16, 3⟩
def PKT_RX_MAP1.RING13 : Fld := ⟨.PKT_RX_MAP1, 20, 3⟩
def PKT_RX_MAP1.RING14 : Fld := ⟨.PKT_RX_MAP1, 24, 3⟩
def PKT_RX_MAP1.RING15 : Fld := ⟨.PKT_RX_MAP1, 28, 3⟩
def PKT_TX_BASE_LO.ADDR : Fld := ⟨.PKT_TX_BASE_LO, 6, 26⟩
def PKT_TX_BASE_HI.ADDR : Fld := ⟨.PKT_TX_BASE_HI, 0, 32⟩
def PKT_TX_SIZE.ENTRIES : Fld := ⟨.PKT_TX_SIZE, 0, 17⟩
def PKT_TX_TAIL.TAIL : Fld := ⟨.PKT_TX_TAIL, 0, 16⟩
def PKT_TX_HEAD.HEAD : Fld := ⟨.PKT_TX_HEAD, 0, 16⟩
def PKT_TX_WB_LO.EN : Fld := ⟨.PKT_TX_WB_LO, 0, 1⟩
def PKT_TX_WB_LO.ADDR : Fld := ⟨.PKT_TX_WB_LO, 4, 28⟩
def PKT_TX_WB_HI.ADDR : Fld := ⟨.PKT_TX_WB_HI, 0, 32⟩
def PKT_TX_IRQ.COAL_CNT : Fld := ⟨.PKT_TX_IRQ, 0, 8⟩
def PKT_TX_IRQ.COAL_TIME : Fld := ⟨.PKT_TX_IRQ, 8, 16⟩
def PKT_TX_IRQ.IRQ_EN : Fld := ⟨.PKT_TX_IRQ, 24, 1⟩
def PKT_RX_BASE_LO.ADDR : Fld := ⟨.PKT_RX_BASE_LO, 6, 26⟩
def PKT_RX_BASE_HI.ADDR : Fld := ⟨.PKT_RX_BASE_HI, 0, 32⟩
def PKT_RX_SIZE.ENTRIES : Fld := ⟨.PKT_RX_SIZE, 0, 17⟩
def PKT_RX_SIZE.BUF_LOG2 : Fld := ⟨.PKT_RX_SIZE, 20, 4⟩
def PKT_RX_TAIL.TAIL : Fld := ⟨.PKT_RX_TAIL, 0, 16⟩
def PKT_RX_HEAD.HEAD : Fld := ⟨.PKT_RX_HEAD, 0, 16⟩
def PKT_RX_IRQ.COAL_CNT : Fld := ⟨.PKT_RX_IRQ, 0, 8⟩
def PKT_RX_IRQ.COAL_TIME : Fld := ⟨.PKT_RX_IRQ, 8, 16⟩
def PKT_RX_IRQ.IRQ_EN : Fld := ⟨.PKT_RX_IRQ, 24, 1⟩
def MSIX_TABLE.DATA : Fld := ⟨.MSIX_TABLE, 0, 32⟩
def MSIX_PBA.PEND : Fld := ⟨.MSIX_PBA, 0, 32⟩
def SVC_FW_STATUS.RUN_SLOT : Fld := ⟨.SVC_FW_STATUS, 0, 1⟩
def SVC_FW_STATUS.ACTIVE : Fld := ⟨.SVC_FW_STATUS, 1, 1⟩
def SVC_FW_STATUS.TRIAL : Fld := ⟨.SVC_FW_STATUS, 2, 1⟩
def SVC_FW_STATUS.STATE_A : Fld := ⟨.SVC_FW_STATUS, 4, 2⟩
def SVC_FW_STATUS.STATE_B : Fld := ⟨.SVC_FW_STATUS, 6, 2⟩
def SVC_FW_STATUS.SESSION : Fld := ⟨.SVC_FW_STATUS, 8, 2⟩
def SVC_FW_STATUS.BLOCKS : Fld := ⟨.SVC_FW_STATUS, 16, 7⟩
def SVC_FW_STATUS.CHECKIN_MS : Fld := ⟨.SVC_FW_STATUS, 24, 8⟩
def SVC_FW_EVENT.REVERTED : Fld := ⟨.SVC_FW_EVENT, 0, 1⟩
def SVC_FW_EVENT.BOOT_FALLBACK : Fld := ⟨.SVC_FW_EVENT, 1, 1⟩
def SVC_FW_EVENT.FLASH_ERR : Fld := ⟨.SVC_FW_EVENT, 2, 1⟩
def SVC_FW_EVENT.OTP_WRITE : Fld := ⟨.SVC_FW_EVENT, 3, 1⟩
def SVC_OTP.MIN_SVN : Fld := ⟨.SVC_OTP, 0, 7⟩
def SVC_OTP.KEY0_REV : Fld := ⟨.SVC_OTP, 8, 1⟩
def SVC_OTP.KEY1_REV : Fld := ⟨.SVC_OTP, 9, 1⟩
def SVC_USB.CONN : Fld := ⟨.SVC_USB, 0, 1⟩
def SVC_USB.CONFIGURED : Fld := ⟨.SVC_USB, 1, 1⟩
def SVC_USB.DFU_STATE : Fld := ⟨.SVC_USB, 4, 4⟩
def SVC_USB.DFU_STATUS : Fld := ⟨.SVC_USB, 8, 8⟩
def SMB_STATUS.ADDR : Fld := ⟨.SMB_STATUS, 0, 7⟩
def SMB_STATUS.PEC_ERR : Fld := ⟨.SMB_STATUS, 8, 1⟩
def SMB_STATUS.NACKED : Fld := ⟨.SMB_STATUS, 9, 1⟩
def GPIO_IN.LEVEL : Fld := ⟨.GPIO_IN, 0, 16⟩
def GPIO_OUT.DATA : Fld := ⟨.GPIO_OUT, 0, 16⟩
def GPIO_OUT.MASK : Fld := ⟨.GPIO_OUT, 16, 16⟩
def GPIO_OE.DATA : Fld := ⟨.GPIO_OE, 0, 16⟩
def GPIO_OE.MASK : Fld := ⟨.GPIO_OE, 16, 16⟩
def LANE_STATUS.LSTATE : Fld := ⟨.LANE_STATUS, 0, 3⟩
def LANE_STATUS.SIG : Fld := ⟨.LANE_STATUS, 3, 1⟩
def LANE_STATUS.RATE : Fld := ⟨.LANE_STATUS, 4, 4⟩
def LANE_STATUS.RX_INV : Fld := ⟨.LANE_STATUS, 8, 1⟩
def LANE_STATUS.POL_AUTO : Fld := ⟨.LANE_STATUS, 9, 1⟩
def LANE_STATUS.RX_LOGICAL : Fld := ⟨.LANE_STATUS, 10, 3⟩
def LANE_STATUS.LOCK : Fld := ⟨.LANE_STATUS, 13, 1⟩
def LANE_STATUS.FROZEN : Fld := ⟨.LANE_STATUS, 14, 1⟩
def LANE_STATUS.READAPT : Fld := ⟨.LANE_STATUS, 15, 1⟩
def LANE_STATUS.CTLE : Fld := ⟨.LANE_STATUS, 16, 6⟩
def LANE_STATUS.TRAIN_PHASE : Fld := ⟨.LANE_STATUS, 24, 3⟩
def LANE_EVENT.LOCK_LOSS : Fld := ⟨.LANE_EVENT, 0, 1⟩
def LANE_EVENT.TRAIN_FAIL : Fld := ⟨.LANE_EVENT, 1, 1⟩
def LANE_EVENT.POL_FLIP : Fld := ⟨.LANE_EVENT, 2, 1⟩
def LANE_EVENT.ORDER_MISMATCH : Fld := ⟨.LANE_EVENT, 3, 1⟩
def LANE_EVENT.FOM_DRIFT : Fld := ⟨.LANE_EVENT, 4, 1⟩
def LANE_EVENT.READAPT_DONE : Fld := ⟨.LANE_EVENT, 5, 1⟩
def LANE_EVENT.READAPT_UNDO : Fld := ⟨.LANE_EVENT, 6, 1⟩
def LANE_EVENT.FOM_LOW : Fld := ⟨.LANE_EVENT, 7, 1⟩
def LANE_EVENT.STEEP_FAIL : Fld := ⟨.LANE_EVENT, 8, 1⟩
def LANE_EVENT.UNLOCK_CNT : Fld := ⟨.LANE_EVENT, 16, 8⟩
def LANE_FOM_REG.FOM : Fld := ⟨.LANE_FOM_REG, 0, 10⟩
def LANE_FOM_REG.FOM_LINKUP : Fld := ⟨.LANE_FOM_REG, 10, 10⟩
def LANE_FOM_REG.FOM_LOWEST : Fld := ⟨.LANE_FOM_REG, 20, 10⟩
def LANE_FOM_REG.VALID : Fld := ⟨.LANE_FOM_REG, 31, 1⟩
def LANE_PRBS_STATUS.CHK_LOCK : Fld := ⟨.LANE_PRBS_STATUS, 0, 1⟩
def LANE_TRAIN_TIME.US : Fld := ⟨.LANE_TRAIN_TIME, 0, 20⟩
def PORT_MODE.LANES : Fld := ⟨.PORT_MODE, 0, 4⟩
def PORT_MODE.SPEED : Fld := ⟨.PORT_MODE, 4, 4⟩
def PORT_MODE.FEC : Fld := ⟨.PORT_MODE, 8, 3⟩
def PORT_STATUS.PSTATE : Fld := ⟨.PORT_STATUS, 0, 3⟩
def PORT_STATUS.LF : Fld := ⟨.PORT_STATUS, 3, 1⟩
def PORT_STATUS.RF : Fld := ⟨.PORT_STATUS, 4, 1⟩
def PORT_STATUS.LPI_TX : Fld := ⟨.PORT_STATUS, 5, 1⟩
def PORT_STATUS.LPI_RX : Fld := ⟨.PORT_STATUS, 6, 1⟩
def PORT_STATUS.LANES_UP : Fld := ⟨.PORT_STATUS, 8, 8⟩
def PORT_STATUS.LANES_ACT : Fld := ⟨.PORT_STATUS, 16, 4⟩
def PORT_STATUS.SPEED_ACT : Fld := ⟨.PORT_STATUS, 20, 4⟩
def PORT_STATUS.FEC_ACT : Fld := ⟨.PORT_STATUS, 24, 3⟩
def PORT_EVENT.LINK_UP : Fld := ⟨.PORT_EVENT, 0, 1⟩
def PORT_EVENT.LINK_DOWN : Fld := ⟨.PORT_EVENT, 1, 1⟩
def PORT_EVENT.LOCAL_FAULT : Fld := ⟨.PORT_EVENT, 2, 1⟩
def PORT_EVENT.REMOTE_FAULT : Fld := ⟨.PORT_EVENT, 3, 1⟩
def PORT_EVENT.LANE_DUP : Fld := ⟨.PORT_EVENT, 4, 1⟩
def PORT_EVENT.ALIGN_FAIL : Fld := ⟨.PORT_EVENT, 5, 1⟩
def PORT_EVENT.TS_OVF : Fld := ⟨.PORT_EVENT, 6, 1⟩
def PORT_TS_ID.VALID : Fld := ⟨.PORT_TS_ID, 0, 1⟩
def PORT_TS_ID.ID : Fld := ⟨.PORT_TS_ID, 16, 16⟩
def PORT_TS_LO.NS : Fld := ⟨.PORT_TS_LO, 0, 32⟩
def PORT_TS_HI.NS : Fld := ⟨.PORT_TS_HI, 0, 32⟩
def PORT_TS_POP.POP : Fld := ⟨.PORT_TS_POP, 0, 1⟩
def BOUGH_LINK_CHG0.PORT : Fld := ⟨.BOUGH_LINK_CHG0, 0, 32⟩
def BOUGH_LINK_CHG1.PORT : Fld := ⟨.BOUGH_LINK_CHG1, 0, 32⟩
def BOUGH_PAIR_COMMIT.GROUP : Fld := ⟨.BOUGH_PAIR_COMMIT, 0, 16⟩
def BOUGH_PAIR_COMMIT.GO : Fld := ⟨.BOUGH_PAIR_COMMIT, 31, 1⟩
def BOUGH_PAIR_STATUS.BUSY : Fld := ⟨.BOUGH_PAIR_STATUS, 0, 1⟩
def BOUGH_PAIR_STATUS.RESULT : Fld := ⟨.BOUGH_PAIR_STATUS, 1, 2⟩
def BOUGH_PAIR_STATUS.MISMATCH : Fld := ⟨.BOUGH_PAIR_STATUS, 3, 1⟩
def BOUGH_PAIR_STATUS.GROUP : Fld := ⟨.BOUGH_PAIR_STATUS, 16, 16⟩
def ROOT_STATUS.CSTATE : Fld := ⟨.ROOT_STATUS, 0, 3⟩
def ROOT_STATUS.SPARE_UP : Fld := ⟨.ROOT_STATUS, 4, 2⟩
def ROOT_STATUS.SPARE_DN : Fld := ⟨.ROOT_STATUS, 6, 2⟩
def ROOT_EVENT.REPLAY_UP : Fld := ⟨.ROOT_EVENT, 0, 1⟩
def ROOT_EVENT.REPLAY_DN : Fld := ⟨.ROOT_EVENT, 1, 1⟩
def ROOT_EVENT.SWAP_UP : Fld := ⟨.ROOT_EVENT, 2, 1⟩
def ROOT_EVENT.SWAP_DN : Fld := ⟨.ROOT_EVENT, 3, 1⟩
def ROOT_EVENT.UNATTR : Fld := ⟨.ROOT_EVENT, 4, 1⟩
def ROOT_EVENT.CLK_LOSS : Fld := ⟨.ROOT_EVENT, 5, 1⟩
def ROOT_EVENT.RETIRED : Fld := ⟨.ROOT_EVENT, 6, 1⟩
def ROOT_EVENT.END_TIMEOUT : Fld := ⟨.ROOT_EVENT, 7, 1⟩
def ROOT_SPARE_MAP.UP_S0 : Fld := ⟨.ROOT_SPARE_MAP, 0, 7⟩
def ROOT_SPARE_MAP.UP_S1 : Fld := ⟨.ROOT_SPARE_MAP, 8, 7⟩
def ROOT_SPARE_MAP.DN_S0 : Fld := ⟨.ROOT_SPARE_MAP, 16, 7⟩
def ROOT_SPARE_MAP.DN_S1 : Fld := ⟨.ROOT_SPARE_MAP, 24, 7⟩
def ROOT_LANE_SEL.LANE : Fld := ⟨.ROOT_LANE_SEL, 0, 7⟩
def ROOT_LANE_SEL.DIR : Fld := ⟨.ROOT_LANE_SEL, 8, 1⟩
def ROOT_LANE_ERR.WIN : Fld := ⟨.ROOT_LANE_ERR, 0, 8⟩
def ROOT_LANE_ERR.TOTAL : Fld := ⟨.ROOT_LANE_ERR, 8, 24⟩
def ROOT_MAP_UP.ENTRY0 : Fld := ⟨.ROOT_MAP_UP, 0, 4⟩
def ROOT_MAP_UP.ENTRY1 : Fld := ⟨.ROOT_MAP_UP, 4, 4⟩
def ROOT_MAP_UP.ENTRY2 : Fld := ⟨.ROOT_MAP_UP, 8, 4⟩
def ROOT_MAP_UP.ENTRY3 : Fld := ⟨.ROOT_MAP_UP, 12, 4⟩
def ROOT_MAP_UP.ENTRY4 : Fld := ⟨.ROOT_MAP_UP, 16, 4⟩
def ROOT_MAP_UP.ENTRY5 : Fld := ⟨.ROOT_MAP_UP, 20, 4⟩
def ROOT_MAP_UP.ENTRY6 : Fld := ⟨.ROOT_MAP_UP, 24, 4⟩
def ROOT_MAP_UP.ENTRY7 : Fld := ⟨.ROOT_MAP_UP, 28, 4⟩
def ROOT_MAP_DN.ENTRY0 : Fld := ⟨.ROOT_MAP_DN, 0, 4⟩
def ROOT_MAP_DN.ENTRY1 : Fld := ⟨.ROOT_MAP_DN, 4, 4⟩
def ROOT_MAP_DN.ENTRY2 : Fld := ⟨.ROOT_MAP_DN, 8, 4⟩
def ROOT_MAP_DN.ENTRY3 : Fld := ⟨.ROOT_MAP_DN, 12, 4⟩
def ROOT_MAP_DN.ENTRY4 : Fld := ⟨.ROOT_MAP_DN, 16, 4⟩
def ROOT_MAP_DN.ENTRY5 : Fld := ⟨.ROOT_MAP_DN, 20, 4⟩
def ROOT_MAP_DN.ENTRY6 : Fld := ⟨.ROOT_MAP_DN, 24, 4⟩
def ROOT_MAP_DN.ENTRY7 : Fld := ⟨.ROOT_MAP_DN, 28, 4⟩
def ROOT_MAP_EPOCH.UP : Fld := ⟨.ROOT_MAP_EPOCH, 0, 16⟩
def ROOT_MAP_EPOCH.DN : Fld := ⟨.ROOT_MAP_EPOCH, 16, 16⟩
def ROOT_RESEQ.USED : Fld := ⟨.ROOT_RESEQ, 0, 12⟩
def ROOT_RESEQ.HOLD : Fld := ⟨.ROOT_RESEQ, 12, 1⟩
def PIPE_STATUS.USTATE : Fld := ⟨.PIPE_STATUS, 0, 3⟩
def PIPE_STATUS.OWN : Fld := ⟨.PIPE_STATUS, 3, 1⟩
def PIPE_STATUS.FOSTER_VALID : Fld := ⟨.PIPE_STATUS, 4, 1⟩
def PIPE_STATUS.FOSTER_TWIG : Fld := ⟨.PIPE_STATUS, 5, 6⟩
def PIPE_STATUS.SERVED_BY : Fld := ⟨.PIPE_STATUS, 16, 6⟩
def PIPE_STATUS.SERVED_VALID : Fld := ⟨.PIPE_STATUS, 22, 1⟩
def PIPE_EVENT.PARSE_ERR : Fld := ⟨.PIPE_EVENT, 0, 1⟩
def PIPE_EVENT.NO_DEST : Fld := ⟨.PIPE_EVENT, 1, 1⟩
def PIPE_EVENT.LEN_DROP : Fld := ⟨.PIPE_EVENT, 2, 1⟩
def PIPE_EVENT.STALL : Fld := ⟨.PIPE_EVENT, 3, 1⟩
def PIPE_EVENT.FOSTER_START : Fld := ⟨.PIPE_EVENT, 4, 1⟩
def PIPE_EVENT.FOSTER_END : Fld := ⟨.PIPE_EVENT, 5, 1⟩
def PIPE_EVENT.EG_OVERSIZE : Fld := ⟨.PIPE_EVENT, 6, 1⟩
def PIPE_REORDER.OCC : Fld := ⟨.PIPE_REORDER, 0, 7⟩
def PIPE_REORDER.HWM : Fld := ⟨.PIPE_REORDER, 16, 7⟩
def TWIG_FIFO.USED : Fld := ⟨.TWIG_FIFO, 0, 8⟩
def TWIG_FIFO.HWM : Fld := ⟨.TWIG_FIFO, 16, 8⟩
def UC_STATUS.MODE : Fld := ⟨.UC_STATUS, 0, 1⟩
def UC_STATUS.SEAL_LOCK : Fld := ⟨.UC_STATUS, 1, 1⟩
def UC_STATUS.ACT_BANK : Fld := ⟨.UC_STATUS, 2, 1⟩
def UC_STATUS.VALID0 : Fld := ⟨.UC_STATUS, 3, 1⟩
def UC_STATUS.VALID1 : Fld := ⟨.UC_STATUS, 4, 1⟩
def UC_STATUS.BASE0 : Fld := ⟨.UC_STATUS, 5, 1⟩
def UC_STATUS.BASE1 : Fld := ⟨.UC_STATUS, 6, 1⟩
def UC_STATUS.SWITCHING : Fld := ⟨.UC_STATUS, 7, 1⟩
def UC_STATUS.SW_PIPE : Fld := ⟨.UC_STATUS, 8, 3⟩
def UC_STATUS.PATCH_SET : Fld := ⟨.UC_STATUS, 12, 1⟩
def UC_EVENT.FETCH_FAULT : Fld := ⟨.UC_EVENT, 0, 1⟩
def UC_EVENT.OVERRUN : Fld := ⟨.UC_EVENT, 1, 1⟩
def UC_EVENT.ECC_CORR : Fld := ⟨.UC_EVENT, 2, 1⟩
def UC_EVENT.ECC_UNCORR : Fld := ⟨.UC_EVENT, 3, 1⟩
def UC_EVENT.SAFE_WDOG : Fld := ⟨.UC_EVENT, 4, 1⟩
def UC_EVENT.PATCH_DONE : Fld := ⟨.UC_EVENT, 5, 1⟩
def UC_EVENT.SWITCH_DONE : Fld := ⟨.UC_EVENT, 6, 1⟩
def UC_FAULT_ADDR.ADDR : Fld := ⟨.UC_FAULT_ADDR, 0, 15⟩
def UC_FAULT_ADDR.CAUSE : Fld := ⟨.UC_FAULT_ADDR, 16, 3⟩
def UC_FAULT_ADDR.SRC : Fld := ⟨.UC_FAULT_ADDR, 20, 8⟩
def UC_FAULT_ADDR.PIPE : Fld := ⟨.UC_FAULT_ADDR, 28, 3⟩
def UC_FOOTPRINT.LO : Fld := ⟨.UC_FOOTPRINT, 0, 13⟩
def UC_FOOTPRINT.HI : Fld := ⟨.UC_FOOTPRINT, 16, 13⟩
def UC_FOOTPRINT.EN : Fld := ⟨.UC_FOOTPRINT, 31, 1⟩
def UC_WALKER.PC : Fld := ⟨.UC_WALKER, 0, 15⟩
def UC_WALKER.STATE : Fld := ⟨.UC_WALKER, 16, 2⟩
def UC_MATCH.ROM_ADDR : Fld := ⟨.UC_MATCH, 0, 14⟩
def UC_MATCH.PATCH : Fld := ⟨.UC_MATCH, 16, 9⟩
def UC_MATCH.EN : Fld := ⟨.UC_MATCH, 31, 1⟩
def TBL_STATUS.PROFILE : Fld := ⟨.TBL_STATUS, 0, 2⟩
def TBL_STATUS.CHANGING : Fld := ⟨.TBL_STATUS, 2, 1⟩
def TBL_STATUS.AUDIT : Fld := ⟨.TBL_STATUS, 3, 1⟩
def TBL_STATUS.DMA : Fld := ⟨.TBL_STATUS, 4, 1⟩
def TBL_STATUS.LQ_USED : Fld := ⟨.TBL_STATUS, 8, 9⟩
def TBL_EVENT.PARITY : Fld := ⟨.TBL_EVENT, 0, 1⟩
def TBL_EVENT.LEARN_DROP : Fld := ⟨.TBL_EVENT, 1, 1⟩
def TBL_EVENT.LEARN_FAIL : Fld := ⟨.TBL_EVENT, 2, 1⟩
def TBL_EVENT.RING_FULL : Fld := ⟨.TBL_EVENT, 3, 1⟩
def TBL_EVENT.LOST : Fld := ⟨.TBL_EVENT, 4, 1⟩
def TBL_EVENT.AGE_SLOW : Fld := ⟨.TBL_EVENT, 5, 1⟩
def TBL_EVENT.CFG_ERR : Fld := ⟨.TBL_EVENT, 6, 1⟩
def TBL_SEED.SEED : Fld := ⟨.TBL_SEED, 0, 32⟩
def TBL_LEARN_CTL.EN : Fld := ⟨.TBL_LEARN_CTL, 0, 1⟩
def TBL_LEARN_CTL.IRQ_EN : Fld := ⟨.TBL_LEARN_CTL, 1, 1⟩
def TBL_LEARN_BASE_LO.ADDR : Fld := ⟨.TBL_LEARN_BASE_LO, 7, 25⟩
def TBL_LEARN_BASE_HI.ADDR : Fld := ⟨.TBL_LEARN_BASE_HI, 0, 32⟩
def TBL_LEARN_SIZE.RECORDS : Fld := ⟨.TBL_LEARN_SIZE, 0, 17⟩
def TBL_LEARN_HEAD.HEAD : Fld := ⟨.TBL_LEARN_HEAD, 0, 16⟩
def TBL_LEARN_TAIL.TAIL : Fld := ⟨.TBL_LEARN_TAIL, 0, 16⟩
def TBL_LEARN_FIFO.USED : Fld := ⟨.TBL_LEARN_FIFO, 0, 11⟩
def TBL_LEARN_FIFO.HWM : Fld := ⟨.TBL_LEARN_FIFO, 16, 11⟩
def TBL_OCC.VALID : Fld := ⟨.TBL_OCC, 0, 23⟩
def CLS_STATUS.MODE : Fld := ⟨.CLS_STATUS, 0, 2⟩
def CLS_STATUS.ACT_HALF : Fld := ⟨.CLS_STATUS, 2, 1⟩
def CLS_STATUS.SWITCHING : Fld := ⟨.CLS_STATUS, 3, 1⟩
def CLS_STATUS.VALID_CNT : Fld := ⟨.CLS_STATUS, 4, 14⟩
def CLS_STATUS.DEPTH : Fld := ⟨.CLS_STATUS, 18, 5⟩
def CLS_EVENT.PARITY : Fld := ⟨.CLS_EVENT, 0, 1⟩
def CLS_EVENT.TREE_PAR : Fld := ⟨.CLS_EVENT, 1, 1⟩
def CLS_EVENT.SWITCH_DONE : Fld := ⟨.CLS_EVENT, 2, 1⟩
def CLS_EVENT.TREE_REJECT : Fld := ⟨.CLS_EVENT, 3, 1⟩
def CLS_MISS.MISS_DATA : Fld := ⟨.CLS_MISS, 0, 24⟩
def CLS_PAR_INDEX.INDEX : Fld := ⟨.CLS_PAR_INDEX, 0, 13⟩
def CLS_PAR_INDEX.NODE : Fld := ⟨.CLS_PAR_INDEX, 16, 11⟩
def CLS_PAR_INDEX.HALF : Fld := ⟨.CLS_PAR_INDEX, 27, 1⟩
def PS_EVENT.HOT : Fld := ⟨.PS_EVENT, 0, 1⟩
def PS_EVENT.RESEED : Fld := ⟨.PS_EVENT, 1, 1⟩
def PS_EVENT.SUPPRESSED : Fld := ⟨.PS_EVENT, 2, 1⟩
def PS_EVENT.GROUP_INVALID : Fld := ⟨.PS_EVENT, 3, 1⟩
def PS_EVENT.MEMBER_INVALID : Fld := ⟨.PS_EVENT, 4, 1⟩
def PS_IMB_LAST.GROUP : Fld := ⟨.PS_IMB_LAST, 0, 13⟩
def PS_IMB_LAST.SEED_SEL : Fld := ⟨.PS_IMB_LAST, 16, 2⟩
def PS_IMB_LAST.RESEEDED : Fld := ⟨.PS_IMB_LAST, 18, 1⟩
def PS_IMB_LAST.RATIO : Fld := ⟨.PS_IMB_LAST, 24, 8⟩
def PS_IMB_TIME_LO.NS : Fld := ⟨.PS_IMB_TIME_LO, 0, 32⟩
def PS_IMB_TIME_HI.NS : Fld := ⟨.PS_IMB_TIME_HI, 0, 32⟩
def PS_SEED.SEED : Fld := ⟨.PS_SEED, 0, 32⟩
def PS_PIN_SEED.SEED : Fld := ⟨.PS_PIN_SEED, 0, 32⟩
def PS_GRP_SEL.GROUP : Fld := ⟨.PS_GRP_SEL, 0, 13⟩
def PS_GRP_MON.HOT_RUN : Fld := ⟨.PS_GRP_MON, 0, 8⟩
def PS_GRP_MON.RATIO : Fld := ⟨.PS_GRP_MON, 8, 8⟩
def PS_GRP_MON.EVAL : Fld := ⟨.PS_GRP_MON, 16, 1⟩
def PS_SLOT_SEL.SLOT : Fld := ⟨.PS_SLOT_SEL, 0, 16⟩
def PS_SLOT_BYTES_LO.COUNT : Fld := ⟨.PS_SLOT_BYTES_LO, 0, 32⟩
def PS_SLOT_BYTES_HI.COUNT : Fld := ⟨.PS_SLOT_BYTES_HI, 0, 32⟩
def PS_WIN.ELAPSED : Fld := ⟨.PS_WIN, 0, 12⟩
def PS_WIN.SEQ : Fld := ⟨.PS_WIN, 16, 16⟩
def PS_CTL.IRQ_EN : Fld := ⟨.PS_CTL, 0, 1⟩
def PPERF_SEL.EVENT : Fld := ⟨.PPERF_SEL, 0, 10⟩
def PPERF_SEL.EN : Fld := ⟨.PPERF_SEL, 16, 1⟩
def PPERF_STATUS.RUN : Fld := ⟨.PPERF_STATUS, 0, 1⟩
def PPERF_STATUS.DONE : Fld := ⟨.PPERF_STATUS, 1, 1⟩
def PPERF_STATUS.OVF : Fld := ⟨.PPERF_STATUS, 4, 8⟩
def BPERF_SEL.EVENT : Fld := ⟨.BPERF_SEL, 0, 10⟩
def BPERF_SEL.EN : Fld := ⟨.BPERF_SEL, 16, 1⟩
def BPERF_STATUS.RUN : Fld := ⟨.BPERF_STATUS, 0, 1⟩
def BPERF_STATUS.DONE : Fld := ⟨.BPERF_STATUS, 1, 1⟩
def BPERF_STATUS.OVF : Fld := ⟨.BPERF_STATUS, 4, 8⟩
def TUN_STATUS.LBANKS : Fld := ⟨.TUN_STATUS, 0, 10⟩
def TUN_STATUS.MIGRATING : Fld := ⟨.TUN_STATUS, 16, 1⟩
def TUN_STATUS.AUDIT : Fld := ⟨.TUN_STATUS, 17, 1⟩
def TUN_STATUS.FLUSHING : Fld := ⟨.TUN_STATUS, 18, 1⟩
def TUN_EVENT.LEAK : Fld := ⟨.TUN_EVENT, 0, 1⟩
def TUN_EVENT.XLINK : Fld := ⟨.TUN_EVENT, 1, 1⟩
def TUN_EVENT.POISON : Fld := ⟨.TUN_EVENT, 2, 1⟩
def TUN_EVENT.DEGRADED : Fld := ⟨.TUN_EVENT, 3, 1⟩
def TUN_EVENT.MIGRATE_DONE : Fld := ⟨.TUN_EVENT, 4, 1⟩
def TUN_EVENT.FLUSH : Fld := ⟨.TUN_EVENT, 5, 1⟩
def TUN_EVENT.GUARD : Fld := ⟨.TUN_EVENT, 6, 1⟩
def TUN_EVENT.WRITE_STALL : Fld := ⟨.TUN_EVENT, 7, 1⟩
def TUN_FREE.CELLS : Fld := ⟨.TUN_FREE, 0, 21⟩
def TUN_INFLIGHT.CELLS : Fld := ⟨.TUN_INFLIGHT, 0, 21⟩
def TUN_POOL_CFG.SIZE : Fld := ⟨.TUN_POOL_CFG, 0, 21⟩
def TUN_HR_CFG.SIZE : Fld := ⟨.TUN_HR_CFG, 0, 21⟩
def TUN_HR_PG.CELLS : Fld := ⟨.TUN_HR_PG, 0, 16⟩
def TUN_PAIR_COMMIT.GROUP : Fld := ⟨.TUN_PAIR_COMMIT, 0, 16⟩
def TUN_PAIR_COMMIT.GO : Fld := ⟨.TUN_PAIR_COMMIT, 31, 1⟩
def TUN_PAIR_STATUS.BUSY : Fld := ⟨.TUN_PAIR_STATUS, 0, 1⟩
def TUN_PAIR_STATUS.RESULT : Fld := ⟨.TUN_PAIR_STATUS, 1, 2⟩
def TUN_PAIR_STATUS.MISMATCH : Fld := ⟨.TUN_PAIR_STATUS, 3, 1⟩
def TUN_PAIR_STATUS.GROUP : Fld := ⟨.TUN_PAIR_STATUS, 16, 16⟩
def TUN_POOL_USED.CELLS : Fld := ⟨.TUN_POOL_USED, 0, 21⟩
def TUN_HR_USED.CELLS : Fld := ⟨.TUN_HR_USED, 0, 21⟩
def TUN_TALLY_CTL.EN : Fld := ⟨.TUN_TALLY_CTL, 0, 1⟩
def TUN_TALLY_CTL.PERIOD : Fld := ⟨.TUN_TALLY_CTL, 4, 14⟩
def TUN_TALLY_STATUS.PASSES : Fld := ⟨.TUN_TALLY_STATUS, 0, 16⟩
def TUN_TALLY_STATUS.SUSPECT : Fld := ⟨.TUN_TALLY_STATUS, 16, 16⟩
def TUN_MIGRATE.FROM : Fld := ⟨.TUN_MIGRATE, 0, 10⟩
def TUN_MIGRATE.TO : Fld := ⟨.TUN_MIGRATE, 16, 10⟩
def TUN_MIGRATE.ACTIVE : Fld := ⟨.TUN_MIGRATE, 31, 1⟩
def TUN_BANK_MAP.PHYS : Fld := ⟨.TUN_BANK_MAP, 0, 10⟩
def TUN_BANK_STATUS.USTATE : Fld := ⟨.TUN_BANK_STATUS, 0, 3⟩
def TUN_BANK_STATUS.LBANK : Fld := ⟨.TUN_BANK_STATUS, 4, 9⟩
def TUN_BANK_STATUS.MAPPED : Fld := ⟨.TUN_BANK_STATUS, 13, 1⟩
def TUN_BANK_STATUS.FREE : Fld := ⟨.TUN_BANK_STATUS, 16, 12⟩
def TUN_ING_USED.CELLS : Fld := ⟨.TUN_ING_USED, 0, 21⟩
def TUN_ING_HR.CELLS : Fld := ⟨.TUN_ING_HR, 0, 16⟩
def TUN_Q_CFG0.MIN : Fld := ⟨.TUN_Q_CFG0, 0, 16⟩
def TUN_Q_CFG0.POOL : Fld := ⟨.TUN_Q_CFG0, 16, 2⟩
def TUN_Q_CFG0.ALPHA : Fld := ⟨.TUN_Q_CFG0, 18, 4⟩
def TUN_Q_CFG0.DY : Fld := ⟨.TUN_Q_CFG0, 22, 3⟩
def TUN_Q_CFG0.DR : Fld := ⟨.TUN_Q_CFG0, 25, 3⟩
def TUN_Q_CFG0.LOSSLESS : Fld := ⟨.TUN_Q_CFG0, 28, 1⟩
def TUN_Q_CFG0.CT_EN : Fld := ⟨.TUN_Q_CFG0, 29, 1⟩
def TUN_Q_CFG1.MAX_SOJ : Fld := ⟨.TUN_Q_CFG1, 0, 20⟩
def TUN_Q_CFG1.PRI : Fld := ⟨.TUN_Q_CFG1, 24, 3⟩
def TUN_Q_LEN.LEN : Fld := ⟨.TUN_Q_LEN, 0, 21⟩
def TUN_Q_LEN.EMPTY : Fld := ⟨.TUN_Q_LEN, 31, 1⟩
def TUN_Q_HR.CELLS : Fld := ⟨.TUN_Q_HR, 0, 21⟩
def TUN_PORT_HOLD.QHOLD : Fld := ⟨.TUN_PORT_HOLD, 0, 17⟩
def TUN_PORT_HOLD.STATE : Fld := ⟨.TUN_PORT_HOLD, 24, 2⟩
def CELLAR_STATUS.CHANS : Fld := ⟨.CELLAR_STATUS, 0, 5⟩
def CELLAR_STATUS.SPILLING : Fld := ⟨.CELLAR_STATUS, 16, 14⟩
def CELLAR_EVENT.SPILL_FULL : Fld := ⟨.CELLAR_EVENT, 0, 1⟩
def CELLAR_EVENT.DRAW_STARVE : Fld := ⟨.CELLAR_EVENT, 1, 1⟩
def CELLAR_EVENT.ECC_UNCORR : Fld := ⟨.CELLAR_EVENT, 2, 1⟩
def CELLAR_EVENT.BLOCK_LOST : Fld := ⟨.CELLAR_EVENT, 3, 1⟩
def CELLAR_EVENT.CH_RETIRED : Fld := ⟨.CELLAR_EVENT, 4, 1⟩
def CELLAR_EVENT.RATE_FALLBACK : Fld := ⟨.CELLAR_EVENT, 5, 1⟩
def CELLAR_EVENT.EXT_CLEARED : Fld := ⟨.CELLAR_EVENT, 6, 1⟩
def CELLAR_EVENT.WIN_ERR : Fld := ⟨.CELLAR_EVENT, 7, 1⟩
def CELLAR_FREE.SLOTS : Fld := ⟨.CELLAR_FREE, 0, 22⟩
def CELLAR_EXT.TELEM_MIB : Fld := ⟨.CELLAR_EXT, 0, 13⟩
def CELLAR_EXT.WALK_MIB : Fld := ⟨.CELLAR_EXT, 16, 13⟩
def CELLAR_WIN_ADDR.LINE : Fld := ⟨.CELLAR_WIN_ADDR, 0, 26⟩
def CELLAR_WIN_ADDR.PART : Fld := ⟨.CELLAR_WIN_ADDR, 28, 1⟩
def CELLAR_WIN_CTL.GO : Fld := ⟨.CELLAR_WIN_CTL, 0, 1⟩
def CELLAR_WIN_CTL.WRITE : Fld := ⟨.CELLAR_WIN_CTL, 1, 1⟩
def CELLAR_WIN_CTL.BUSY : Fld := ⟨.CELLAR_WIN_CTL, 8, 1⟩
def CELLAR_WIN_CTL.ERR : Fld := ⟨.CELLAR_WIN_CTL, 9, 1⟩
def CELLAR_WIN_DATA.DATA : Fld := ⟨.CELLAR_WIN_DATA, 0, 32⟩
def CELLAR_CH_STATUS.USTATE : Fld := ⟨.CELLAR_CH_STATUS, 0, 3⟩
def CELLAR_CH_STATUS.RATE : Fld := ⟨.CELLAR_CH_STATUS, 3, 1⟩
def CELLAR_CH_STATUS.ALLOW : Fld := ⟨.CELLAR_CH_STATUS, 4, 1⟩
def CELLAR_CH_STATUS.TEMP : Fld := ⟨.CELLAR_CH_STATUS, 8, 8⟩
def CELLAR_CH_FREE.SLOTS : Fld := ⟨.CELLAR_CH_FREE, 0, 18⟩
def CELLAR_Q_CFG0.SPILL_EN : Fld := ⟨.CELLAR_Q_CFG0, 0, 1⟩
def CELLAR_Q_CFG0.ON : Fld := ⟨.CELLAR_Q_CFG0, 4, 21⟩
def CELLAR_Q_CFG1.HEAD : Fld := ⟨.CELLAR_Q_CFG1, 0, 16⟩
def CELLAR_Q_CFG2.MAXBLK : Fld := ⟨.CELLAR_Q_CFG2, 0, 22⟩
def CELLAR_Q_BLOCKS.BLOCKS : Fld := ⟨.CELLAR_Q_BLOCKS, 0, 22⟩
def CELLAR_Q_BLOCKS.SPILLING : Fld := ⟨.CELLAR_Q_BLOCKS, 31, 1⟩
def SCHED_EVENT.WD_TRIP : Fld := ⟨.SCHED_EVENT, 0, 1⟩
def SCHED_EVENT.WD_RESTORE : Fld := ⟨.SCHED_EVENT, 1, 1⟩
def SCHED_CTL.WD_IRQ_EN : Fld := ⟨.SCHED_CTL, 0, 1⟩
def SCHED_WD_LAST.QID : Fld := ⟨.SCHED_WD_LAST, 0, 14⟩
def SCHED_WD_LAST.CAUSE : Fld := ⟨.SCHED_WD_LAST, 16, 2⟩
def SCHED_WD_LAST.STATE : Fld := ⟨.SCHED_WD_LAST, 18, 1⟩
def SCHED_Q_CFG.WEIGHT : Fld := ⟨.SCHED_Q_CFG, 0, 11⟩
def SCHED_Q_CFG.WRED_EN : Fld := ⟨.SCHED_Q_CFG, 16, 1⟩
def SCHED_Q_CFG.ECN_EN : Fld := ⟨.SCHED_Q_CFG, 17, 1⟩
def SCHED_Q_CFG.W : Fld := ⟨.SCHED_Q_CFG, 18, 4⟩
def SCHED_Q_CFG.WD_EN : Fld := ⟨.SCHED_Q_CFG, 22, 1⟩
def SCHED_Q_CFG.ACTION : Fld := ⟨.SCHED_Q_CFG, 23, 1⟩
def SCHED_Q_MIN.RATE : Fld := ⟨.SCHED_Q_MIN, 0, 22⟩
def SCHED_Q_MAX.RATE : Fld := ⟨.SCHED_Q_MAX, 0, 22⟩
def SCHED_Q_DEFICIT.BYTES : Fld := ⟨.SCHED_Q_DEFICIT, 0, 19⟩
def SCHED_Q_HWM_CELLS.CELLS : Fld := ⟨.SCHED_Q_HWM_CELLS, 0, 25⟩
def SCHED_Q_HWM_SOJ.NS : Fld := ⟨.SCHED_Q_HWM_SOJ, 0, 32⟩
def SCHED_Q_WRED_AVG.AVG : Fld := ⟨.SCHED_Q_WRED_AVG, 0, 25⟩
def SCHED_Q_STATE.ELIG : Fld := ⟨.SCHED_Q_STATE, 0, 1⟩
def SCHED_Q_STATE.UNDER_MIN : Fld := ⟨.SCHED_Q_STATE, 1, 1⟩
def SCHED_Q_STATE.MAX_BLOCK : Fld := ⟨.SCHED_Q_STATE, 2, 1⟩
def SCHED_Q_STATE.STOPPED : Fld := ⟨.SCHED_Q_STATE, 3, 1⟩
def SCHED_Q_STATE.WD : Fld := ⟨.SCHED_Q_STATE, 4, 2⟩
def SCHED_P_MAX.RATE : Fld := ⟨.SCHED_P_MAX, 0, 22⟩
def SCHED_P_CFG.ADJ : Fld := ⟨.SCHED_P_CFG, 0, 6⟩
def SCHED_P_CFG.CREDIT_USED : Fld := ⟨.SCHED_P_CFG, 8, 10⟩
def SCHED_P_PFC.XOFF : Fld := ⟨.SCHED_P_PFC, 0, 8⟩
def SCHED_P_PFC.PAUSE_XOFF : Fld := ⟨.SCHED_P_PFC, 8, 1⟩
def SCHED_P_TH.XOFF_TH : Fld := ⟨.SCHED_P_TH, 0, 16⟩
def SCHED_P_TH.XON_TH : Fld := ⟨.SCHED_P_TH, 16, 16⟩
def TELEM_TOD_LO.NS : Fld := ⟨.TELEM_TOD_LO, 0, 32⟩
def TELEM_TOD_HI.NS : Fld := ⟨.TELEM_TOD_HI, 0, 32⟩
def TELEM_TOD_SET_LO.VALUE : Fld := ⟨.TELEM_TOD_SET_LO, 0, 32⟩
def TELEM_TOD_SET_HI.VALUE : Fld := ⟨.TELEM_TOD_SET_HI, 0, 32⟩
def TELEM_TOD_CTL.SET : Fld := ⟨.TELEM_TOD_CTL, 0, 1⟩
def TELEM_TOD_CTL.STEP : Fld := ⟨.TELEM_TOD_CTL, 1, 1⟩
def TELEM_TOD_CTL.PPS_OUT_EN : Fld := ⟨.TELEM_TOD_CTL, 8, 1⟩
def TELEM_TOD_CTL.PPS_IN_EN : Fld := ⟨.TELEM_TOD_CTL, 9, 1⟩
def TELEM_TOD_CTL.PPS_WIDTH : Fld := ⟨.TELEM_TOD_CTL, 16, 8⟩
def TELEM_TOD_RATE.RATE : Fld := ⟨.TELEM_TOD_RATE, 0, 32⟩
def TELEM_PPS_IN_LO.NS : Fld := ⟨.TELEM_PPS_IN_LO, 0, 32⟩
def TELEM_PPS_IN_HI.NS : Fld := ⟨.TELEM_PPS_IN_HI, 0, 32⟩
def TELEM_EVENT.PPS_IN : Fld := ⟨.TELEM_EVENT, 0, 1⟩
def TELEM_EVENT.LOSS : Fld := ⟨.TELEM_EVENT, 1, 1⟩
def TELEM_EVENT.FLAG_FULL : Fld := ⟨.TELEM_EVENT, 2, 1⟩
def TELEM_PERF_CTL.COUNTER_READ_EN : Fld := ⟨.TELEM_PERF_CTL, 0, 1⟩
def TELEM_STR_STATUS.EN : Fld := ⟨.TELEM_STR_STATUS, 0, 1⟩
def TELEM_STR_STATUS.GAP : Fld := ⟨.TELEM_STR_STATUS, 1, 1⟩
def TELEM_STR_STATUS.BACKLOG : Fld := ⟨.TELEM_STR_STATUS, 4, 24⟩
def TELEM_STR_SEQ.SEQ : Fld := ⟨.TELEM_STR_SEQ, 0, 32⟩
def PERF_SEL.EVENT : Fld := ⟨.PERF_SEL, 0, 10⟩
def PERF_SEL.EN : Fld := ⟨.PERF_SEL, 16, 1⟩
def PERF_STATUS.RUN : Fld := ⟨.PERF_STATUS, 0, 1⟩
def PERF_STATUS.DONE : Fld := ⟨.PERF_STATUS, 1, 1⟩
def PERF_STATUS.OVF : Fld := ⟨.PERF_STATUS, 4, 8⟩
def TELEM_Q_CFG.STREAM : Fld := ⟨.TELEM_Q_CFG, 0, 3⟩
def TELEM_Q_CFG.SAP_EN : Fld := ⟨.TELEM_Q_CFG, 3, 1⟩
def TELEM_Q_CFG.DROP_ALL : Fld := ⟨.TELEM_Q_CFG, 4, 1⟩
def TELEM_Q_SOJ_TH.NS : Fld := ⟨.TELEM_Q_SOJ_TH, 0, 32⟩
def GRIST_G_STATUS.OPEN : Fld := ⟨.GRIST_G_STATUS, 0, 13⟩
def GRIST_G_STATUS.SLOTS_UP : Fld := ⟨.GRIST_G_STATUS, 16, 16⟩
def GRIST_G_EVENT.CHUNK_FAIL : Fld := ⟨.GRIST_G_EVENT, 0, 1⟩
def GRIST_G_EVENT.NACK : Fld := ⟨.GRIST_G_EVENT, 1, 1⟩
def GRIST_G_EVENT.RESET : Fld := ⟨.GRIST_G_EVENT, 2, 1⟩
def GRIST_G_EVENT.TAKEOVER : Fld := ⟨.GRIST_G_EVENT, 3, 1⟩
def GRIST_G_EVENT.DEGRADED : Fld := ⟨.GRIST_G_EVENT, 4, 1⟩
def GRIST_G_EVENT.RES_DROP : Fld := ⟨.GRIST_G_EVENT, 5, 1⟩
def GRIST_G_EVENT.BAD : Fld := ⟨.GRIST_G_EVENT, 6, 1⟩
def GRIST_G_EVENT.NOGROUP : Fld := ⟨.GRIST_G_EVENT, 7, 1⟩
def GRIST_G_LAST.GROUP : Fld := ⟨.GRIST_G_LAST, 0, 20⟩
def GRIST_G_LAST.CAUSE : Fld := ⟨.GRIST_G_LAST, 24, 4⟩
def GRIST_G_LIMIT.LIM : Fld := ⟨.GRIST_G_LIMIT, 0, 5⟩
def GRIST_E_STATUS.USTATE : Fld := ⟨.GRIST_E_STATUS, 0, 3⟩
def GRIST_E_STATUS.SLOT : Fld := ⟨.GRIST_E_STATUS, 4, 6⟩
def GRIST_E_STATUS.MAPPED : Fld := ⟨.GRIST_E_STATUS, 10, 1⟩
def GRIST_E_STATUS.CHUNKS : Fld := ⟨.GRIST_E_STATUS, 16, 7⟩
def GRIST_E_FAULT.CNT : Fld := ⟨.GRIST_E_FAULT, 0, 16⟩
def GRIST_E_FAULT.CAUSE : Fld := ⟨.GRIST_E_FAULT, 16, 4⟩
def GRIST_SCRATCH.FREE : Fld := ⟨.GRIST_SCRATCH, 0, 14⟩
def GRIST_CTL.IRQ_EN : Fld := ⟨.GRIST_CTL, 0, 1⟩
def GRIST_SLOT_MAP.PHYS : Fld := ⟨.GRIST_SLOT_MAP, 0, 7⟩
def GRIST_SLOT_MAP.VALID : Fld := ⟨.GRIST_SLOT_MAP, 7, 1⟩

/-- The low byte of the reset word of `ROOT_MAP` word w repeats entries 8w to 8w + 7 modulo 16 (R167). -/
def rootMapWord (w : Nat) : Nat :=
  (List.range 8).foldl (fun a n => a + ((8 * w + n) % 16) * 16 ^ n) 0

/-- The reference source each PLL has at reset (R449): FIRC (1) for SYSPLL, SREF0 (4) for the twig LC PLLs, XA (2) for the others. -/
def pllSrcReset (i : Nat) : Nat := if i = 4 then 1 else if 0x40 ≤ i ∧ i < 0x80 then 4 else 2

/-- The reset word of element `i` of a register: the table's, with the elements whose reset depends on the index. -/
def resetWord (r : Reg) (i : Nat) : Word :=
  BitVec.ofNat 32 (match r with
  | .ROOT_MAP_UP => rootMapWord (i % 32)
  | .ROOT_MAP_DN => rootMapWord (i % 32)
  | .PIPE_STATUS => r.info.rst + i * 2 ^ 16
  | .PS_SEED => 1 + i % 4
  | .TUN_POOL_CFG => if i = 0 then 0x17B000 else 0
  | .TUN_BANK_MAP => i
  | .TUN_BANK_STATUS => if i < 512 then 3 + i * 2 ^ 4 + 2 ^ 13 + 3072 * 2 ^ 16 else 0
  | .TUN_Q_CFG1 => (i % 8) * 2 ^ 24
  | .GRIST_E_STATUS => if i < 64 then 3 + i * 2 ^ 4 + 2 ^ 10 else 0
  | .GRIST_SLOT_MAP => i + 128
  | .CLK_SRC => if i = 0 then r.info.rst + 4 else r.info.rst
  | .CLK_PLL => r.info.rst + pllSrcReset i
  | .MSIX_TABLE => if i % 4 = 3 then 1 else 0
  | _ => r.info.rst)

end Sys2Proof.Machine
end

