-- ==== Sys2Proof/Machine/State.lean ====
section
/-! DEFINITION. The state of the module: plain data. Every register of the spec's tables lives in `regs` (one home, with
the table's reset word for an element nothing has written), every live counter in `ctr`; the state that is no register
(queues, engines, tables, flash, timers) is one structure per block. -/
namespace Sys2Proof.Machine

/-- A reason to stop with a fault. No command of this hardware ends in one: a bus error, a refused command and a FATAL
event are all effects the spec describes. Kept as a closed type because the machine interface asks for one; safe. -/
inductive Fault where
  /-- Raised by nothing: the spec leaves no access of this block without an answer (R74). Safe. -/
  | none
  deriving DecidableEq, Repr

/-- A reason to refuse a command of the table. -/
inductive Refusal where
  /-- A row that has no meaning yet, by its mnemonic. Raised by exec alone; safe. -/
  | notModelled (mnemonic : String)
  deriving DecidableEq, Repr

/-! ## What the module sends to the outside -/

/-- What a lane's transmitter sends (R95, R117): nothing, at high impedance; electrical idle; the rate's training signal; idle
data; data; the test pattern; received symbols, retimed. -/
inductive LaneTx where
  | highZ
  | elecIdle
  | training
  | idleData
  | data
  | pattern
  | retimed
  deriving DecidableEq, Repr

/-- The outputs of the module: the model's own record, newest first, of what a host, the board or a link partner would
see. Nothing the module does depends on it. -/
inductive Out where
  /-- A write into host memory, word by word from a byte address (R37, R45, R68, R70). -/
  | hostWrite (addr : Nat) (words : List Word)
  /-- Bytes written into host memory (received frames, R70; table DMA, R249). -/
  | hostBytes (addr : Nat) (bytes : List Nat)
  /-- A completion entry written at a host address of the CQ in a single memory write (R37, R46). -/
  | completion (addr : Nat) (words : List Word)
  /-- A reply frame on the service port (R64). -/
  | usbReply (words : List Word)
  /-- An MSI-X message (R41, R71). -/
  | msix (vector : Nat)
  /-- The data a register read returns, on a channel (0 PCIe, 1 service port); none where the read is aborted or
  stalled (R74). -/
  | readData (chan : Nat) (offset : Nat) (data : Option (List Word))
  /-- A refused write on the service port: STALL (R74, R77). -/
  | stall (offset : Nat)
  /-- A frame, or the part of it that is sent, on an Ethernet port; `stomp` where it ends in the stomp encoding. -/
  | frameTx (port : Nat) (bytes : List Nat) (stomp : Bool)
  /-- A named signal a port or lane sends: a fault signal, an LPI signal, a pause or PFC frame, a pattern. -/
  | signal (what : String) (unit : Nat) (value : Nat)
  /-- Symbols a lane's transmitter sends, in order: levels 0 to 3 on PAM4 rates, bits on NRZ rates (R94, R101, R116, R121). -/
  | symbols (lane : Nat) (levels : List Nat)
  /-- What a lane's transmitter sends from now on (R95, R117). -/
  | laneTx (lane : Nat) (what : LaneTx)
  /-- A level driven on an output land. -/
  | pin (name : String) (level : Nat)
  /-- A message on an SMBus or DFU or JTAG interface. -/
  | serial (what : String) (data : List Nat)
  deriving DecidableEq, Repr

/-! ## Commands -/

/-- A run of commands that are complete at the module, in the order of R34: `n` submission entries, or one service-port
command by its words, with whether its host has left since (R65). -/
inductive SeqRun where
  | sq (n : Nat)
  | svc (words : List Word) (gone : Bool)
  deriving DecidableEq, Repr

/-- A reply (R46) before it is written. -/
structure Rep where
  status  : Nat := 0
  detail  : Nat := 0
  results : List Word := []
  /-- The command goes on: an event of the module gives the final reply. -/
  later   : Bool := false
  /-- No chapter gives this status a DETAIL (R48): the reply carries a free value. -/
  anyDetail : Bool := false
  deriving DecidableEq, Repr

/-- A reply that waits for room in the CQ (R38). -/
structure HeldRep where
  pkt : Packet
  rep : Rep
  deriving DecidableEq, Repr

/-- Why a PENDING command has not replied yet: its effect is still to come in the background, it waits on a unit that
a recovery holds (R52), or it is under way and an event ends it. -/
inductive JobStage where
  | work
  | held
  | running
  deriving DecidableEq, Repr

/-- A PENDING command (R53). -/
structure Job where
  pkt   : Packet
  stage : JobStage
  deriving DecidableEq, Repr

/-- Why the execution sequence is blocked (R43, R51, R52): the command waits under FENCE; it waits on a unit that a recovery
holds; its effect is still to come; it is under way and an event ends it. -/
inductive BlockWhy where
  | fence
  | held
  | work
  | running
  deriving DecidableEq, Repr

/-- The command that blocks the execution sequence. -/
structure Blocked where
  pkt : Packet
  why : BlockWhy
  deriving DecidableEq, Repr

/-- The command interface beside its registers (R34 to R57). -/
structure CmdSt where
  seqRuns   : List SeqRun := []
  phase     : Bool := false
  heldReps  : List HeldRep := []
  jobs      : List Job := []
  blocked   : Option Blocked := none
  irqCnt    : Nat := 0
  irqFirst  : Nat := 0
  pause     : Bool := false
  snapOff   : List Nat := []
  deriving DecidableEq, Repr

/-- A register access that waits for the hold of Q0's clock to end (R457): its channel (0 PCIe, 1 the service port), offset, and the words
of a write with whether every byte enable is set, or the count of a read. -/
structure BusAcc where
  chan  : Nat
  off   : Nat
  write : Option (List Word × Bool)
  count : Nat
  deriving DecidableEq, Repr

/-- The packet DMA beside its registers (R67 to R70): the transmit ring served last (3 at reset, so that ring 0 is served first: DESIGN
CHOICE, R68 names no first ring), and by ring (0 to 3 transmit, 4 to 11
receive, second key 0 and 1) the frames counted toward its interrupt and when the first of them was counted. -/
structure PktSt where
  lastTx : Nat := 3
  irq    : Tab Nat := []
  deriving DecidableEq, Repr

/-! ## Faults -/

/-- An event on its way to the collector (R491, R493). -/
structure FltEv where
  src    : Nat
  code   : Nat
  cls    : Nat
  target : Nat
  detail : Nat
  inj    : Bool := false
  deriving DecidableEq, Repr

/-- An event waiting at the collector, with its arrival in SIRC cycles (R492). -/
structure FltWait where
  cycle : Nat
  ev    : FltEv
  deriving DecidableEq, Repr

/-- An entry of the history (R494). -/
structure HistEnt where
  seq    : Nat
  time   : Nat
  target : Nat
  code   : Nat
  cls    : Nat
  tsrc   : Bool
  inj    : Bool
  merge  : Nat
  detail : Nat
  deriving DecidableEq, Repr

/-- One error that counts toward permanence (R500): the unit, the mechanism (its event code), the moment, and whether
it was planted (R508). -/
structure PermEnt where
  target : Nat
  mech   : Nat
  time   : Nat
  inj    : Bool
  deriving DecidableEq, Repr

/-- A planted hardware error that has not been met yet (R508). -/
structure Planted where
  target : Nat
  kind   : Nat
  loc    : Nat
  deriving DecidableEq, Repr

/-- The fault collector beside its registers (R491 to R502). -/
structure FltSt where
  waiting     : List FltWait := []
  hist        : List HistEnt := []
  handleFrom  : Nat := 0
  pulse       : Bool := false
  /-- When the last entry that drives a pulse was made (R497). -/
  pulseAt     : Nat := 0
  errN        : Bool := true
  perm        : List PermEnt := []
  planted     : List Planted := []
  lastTod     : Nat := 0
  lastTodAt   : Nat := 0
  fatal       : Bool := false
  deriving DecidableEq, Repr

/-! ## Units -/

/-- What the module holds for one unit of R435: the cause of its last change (R443), and whether a recovery holds it. Its
unit state and role are kept beside them. -/
structure UnitRec where
  ust   : Nat := 0
  cause : Nat := 0
  held  : Bool := false
  /-- The role (R443); 0xFFF for none. -/
  role  : Nat := 0xFFF
  deriving DecidableEq, Repr

/-- A recovery under way (R31): its name, the unit it repairs, the resources it touches, its start and the wait it
reports in µs. -/
structure Recovery where
  target : Nat
  uses   : List Nat
  start  : Nat
  wait   : Nat
  deriving DecidableEq, Repr

/-! ## Lanes (chapter 04) -/

/-- A lane's standing configuration (R123). -/
structure LaneCfg where
  rate     : Nat := 0
  txInv    : Bool := false
  rxPol    : Nat := 0
  adaptBg  : Bool := true
  ctleMin  : Nat := 0
  ctleMax  : Nat := 40
  txMode   : Bool := false
  txPreset : Nat := 1
  fomMin   : Nat := 0
  drift    : Nat := 15
  deriving DecidableEq, Repr

/-- A lane's test functions (R115, R116). -/
structure LaneTest where
  gen     : Bool := false
  chk     : Bool := false
  pattern : Nat := 0
  loop    : Nat := 0
  txDrive : Bool := false
  inj     : Nat := 0
  injLen  : Nat := 0
  injRate : Nat := 0
  symSh   : Nat := 0
  userLo  : Nat := 0
  userHi  : Nat := 0
  /-- When the generator was started. -/
  genAt   : Nat := 0
  deriving DecidableEq, Repr

/-- A Lane-400 lane's training as a requester (R101 to R103): the request repeated in every frame, 0 for hold; the one to send once
RESP is back at 0; since when the first stands; handshakes made; the preset or tap step under trial; the FOM windows still to
measure and their sum; the best preset and its sum, or the sum to beat; the steps without gain; whether the step on its way
undoes the last; whether the phase's search is over; when the phase began; COUNT. -/
structure TrainReq where
  req     : Nat := 0
  want    : Nat := 0
  reqAt   : Nat := 0
  shakes  : Nat := 0
  idx     : Nat := 0
  wins    : Nat := 0
  sum     : Nat := 0
  best    : Nat := 1
  bestSum : Nat := 0
  dry     : Nat := 0
  undo    : Bool := false
  ended   : Bool := false
  phaseAt : Nat := 0
  count   : Nat := 0xFF
  deriving DecidableEq, Repr

/-- A lane beside its registers: the configuration software set and the part of it in force, the transmit taps in
1/128 of full swing, c(−3) first, the receive FFE (4 pre, main, 19 post) and DFE taps in 1/256 of main (R105), the CDR phase
and the bit position of the block or marker (R119), the FEC, PCS or virtual lanes locked so far with the numbers they carry
(R100, R133, R134), the training protocol (R101 to R103) with the QPRBS13 history it goes on from, re-adaptation (R107), low
power with the temperature at a steep entry and the end of STEEP_MAX_IDLE (R118 to R121), and tests. -/
structure Lane where
  cfg       : LaneCfg := {}
  act       : LaneCfg := {}
  taps      : List Int := [0, 0, 0, 128, 0]
  vga       : Nat := 0
  ffe       : List Int := List.replicate 4 0 ++ [256] ++ List.replicate 19 0
  dfe       : List Int := List.replicate 8 0
  cdr       : Nat := 0
  align     : Nat := 0
  locked    : List (Nat × Nat) := []
  qprbs     : Nat := 0
  trainer   : TrainReq := {}
  goodMk    : Nat := 0
  badMk     : Nat := 0
  frameLock : Bool := false
  validT1   : Nat := 0
  readyRx   : Nat := 0
  resp      : Nat := 0
  partnerId : Nat := 0
  idKnown   : Bool := false
  train     : Bool := false
  steepCap  : Bool := false
  trainAt   : Nat := 0
  fails     : Nat := 0
  retry     : Bool := false
  driftRun  : Nat := 0
  lowRun    : Nat := 0
  readSteps : Nat := 0
  readKept  : Bool := false
  readCtle  : Nat := 0
  readVga   : Nat := 0
  stepFom   : Nat := 0
  stepWhich : Nat := 0
  stepUp    : Bool := false
  stepUndo  : Bool := false
  /-- The FOM window under way overlaps a freeze (R108). -/
  winFrozen : Bool := false
  /-- A FOM window has ended and its safe point is still to come (R106). -/
  safeDue   : Bool := false
  steepIdle : Bool := false
  idleEnd   : Nat := 0
  idleTemp  : Nat := 0
  scanning  : Bool := false
  test      : LaneTest := {}
  maxIdle   : Nat := 10
  /-- When the lane entered its link state (R96). -/
  since     : Nat := 0
  deriving DecidableEq, Repr

/-- A twig beside its registers: its PLL setting (R93, 0 setting N, 1 setting E), its doze policy, the policy of the idle period under
way and when that began (R438). -/
structure Twig where
  setting : Nat := 0
  newSet  : Option Nat := none
  deepEn  : Bool := false
  deepUs  : Nat := 1000
  enNow   : Bool := false
  usNow   : Nat := 1000
  idleAt  : Nat := 0
  deriving DecidableEq, Repr

/-! ## Ports (chapter 05) -/

/-- A port beside its registers: PORT_CFG words 1 and 2 (R129), pause and PFC settings (R144) and running timers by
priority as end times in ns, 0 none (R145), PTP settings (R148), the timestamp FIFO as (id, stamp), oldest first
(R147), whether it is enabled (R138), the group a PORT_CFG waits to apply
(R131; empty for none), whether the port has gone down since it was last up (R314). -/
structure Port where
  enabled  : Bool := false
  maxFrame : Nat := 9216
  lpiIdle  : Nat := 0
  steepEn  : Bool := false
  train    : Bool := false
  holdoff  : Nat := 0
  reconf   : List Nat := []
  retry    : Bool := false
  wentDown : Bool := false
  pfcMode  : Nat := 0
  rxEn     : Nat := 0
  txEn     : Nat := 0
  txQuanta : Nat := 0xFFFF
  refresh  : Nat := 0x7FFF
  qmask    : List Nat := [1, 2, 4, 8, 16, 32, 64, 128]
  timers   : List Nat := [0, 0, 0, 0, 0, 0, 0, 0]
  pauseEnd : Nat := 0
  oneStep  : Bool := false
  twoStep  : Bool := false
  inAdj    : Nat := 0
  egAdj    : Nat := 0
  tsFifo   : List (Nat × Nat) := []
  /-- When the port entered its state, or ALIGN_FAIL (R136). -/
  since    : Nat := 0
  /-- When the fault that holds began (R137). -/
  faultAt  : Nat := 0
  deriving DecidableEq, Repr

/-- A SyncE output (R148, R149): its port, whether it is enabled, the moment until which a change of port holds it low, and the divisor
of the clock it carries, 0 while low. -/
structure SyncOut where
  port : Nat := 0
  en   : Bool := false
  low  : Nat := 0
  div  : Nat := 0
  deriving DecidableEq, Repr

/-- The SyncE outputs. -/
structure SyncE where
  out0 : SyncOut := {}
  out1 : SyncOut := {}
  deriving DecidableEq, Repr

/-- The commit under way of a block's PAIRED groups (R86, R87): its group and the sample taken. -/
structure PairCommit where
  group  : Nat
  sample : List Nat
  deriving DecidableEq, Repr

/-! ## Root links (chapter 06) -/

/-- A flit that failed its CRC, kept beside the SEQ it took the place of (R159), and whether a planted error failed it. -/
structure FailedFlit where
  seq  : Nat
  flit : Nat
  inj  : Bool
  deriving DecidableEq, Repr

/-- A DATA or CTRL flit that the sender keeps until an ACK covers it (R158): its SEQ, its 512 bits, and how many units of the direction's
stream it carries (a payload word of a frame, or a FENCE or END). -/
structure SentFlit where
  seq   : Nat
  flit  : Nat
  units : Nat
  deriving DecidableEq, Repr

/-- One direction of a cluster (R151 to R163). Receiver: the next expected SEQ; whether it waits for a replay, and has a NAK to send;
the flits that failed; the CTRL flits of a MAP still to come. Sender: the next SEQ; the retry buffer, oldest first, and how many of
its last flits are to be sent again; the payloads of CTRL flits that wait. How far into the stream, counted in units from the front
item, flits have been sent, accepted and acknowledged. Half width (R163). Lanes: whether CTRL SWAP has been received, and the pattern
is being sent; the errors charged as (physical lane, ns) in the last millisecond, the errors charged since reset by (lane, 0), lanes
that failed, the logical positions whose swap is under way. -/
structure RootDir where
  expect  : Nat := 0
  nak     : Bool := false
  nakDue  : Bool := false
  failed  : List FailedFlit := []
  mapLeft : Nat := 0
  nextSeq : Nat := 0
  retry   : List SentFlit := []
  again   : Nat := 0
  ctl     : List Nat := []
  txPos   : Nat := 0
  rxPos   : Nat := 0
  ackPos  : Nat := 0
  half    : Bool := false
  swapRx  : Bool := false
  swapOn  : Bool := false
  charges : List (Nat × Nat) := []
  totals  : Tab Nat := []
  dead    : List Nat := []
  swaps   : List Nat := []
  /-- When the NAK was last asked for (R158), and when the swap's pattern began (R160). -/
  nakAt   : Nat := 0
  swapAt  : Nat := 0
  deriving DecidableEq, Repr

/-- A cluster beside its registers: its two directions, why it leaves service (the CAUSE of code 0x0502, 0 none; 15 a
graft, 14 a retirement by command), whether its forwarded clock is gone, and the CSTATE that a swap returns to. -/
structure Cluster where
  up      : RootDir := {}
  dn      : RootDir := {}
  cause   : Nat := 0
  clkGone : Bool := false
  back    : Nat := 2
  deriving DecidableEq, Repr

/-- A frame on the UP direction, with its descriptor (R156). `head` is set once its first cell has met admission, `gone` once the Tun
has refused it: its flits are still to come. -/
structure UpFrame where
  qid    : Nat
  grist  : Bool
  repin  : Bool
  pin    : Nat
  inPort : Nat
  color  : Nat
  inTs   : Nat
  fmeta  : Nat
  bytes  : List Nat
  bad    : Bool
  head   : Bool := false
  gone   : Bool := false
  exp    : List Nat := []
  gtag   : List Nat := []
  deriving DecidableEq, Repr

/-- What a cluster carries UP, in the order sent: frames, and the CTRL flits FENCE and END of R162. -/
inductive UpItem where
  | frame (f : UpFrame)
  | fence (epoch : Nat)
  | fin
  deriving DecidableEq, Repr

/-- A frame on the DN direction, with its descriptor (R156); `fid` is its id in the Tun, `exp` names an export frame (R377), `got` is set once the bough has received
it whole, `dup` where the bough had received an earlier copy, `since` when it entered the resequencing buffer. -/
structure DnFrame where
  outPort : Nat
  q       : Nat
  ce      : Bool
  pseq    : Nat
  inTs    : Nat
  sojourn : Nat
  fmeta   : Nat
  pin     : Nat
  bytes   : List Nat
  bad     : Bool
  fid     : Nat := 0
  exp     : List Nat := []
  got     : Bool := false
  dup     : Bool := false
  since   : Nat := 0
  deriving DecidableEq, Repr

/-- A pinning map change that is asked for (R161): 0 a cluster retires, 1 is grafted, 2 is restored,
3 retires as permanent after a wait for another change (R31); and when. -/
structure MapReq where
  kind    : Nat
  cluster : Nat
  since   : Nat
  deriving DecidableEq, Repr

/-- The map change under way (R162): its request, the PINs whose cluster changed, the clusters whose FENCE or END is
still to come, its start. -/
structure MapRun where
  req     : MapReq
  pins    : List Nat
  waiting : List Nat
  start   : Nat
  deriving DecidableEq, Repr

/-- A bough's side of its root link: map changes asked for and under way, the clusters last used for spreading (16 for none)
in each direction, the PINs that the last UP change moved (R162), the frames whose cluster drains and takes no new ones (R163), the
resequencing buffer, the frames in it whose turn has come while their queue is stopped (R342), the next PSEQ of each port as
(port, PSEQ). -/
structure RootBough where
  asked   : List MapReq := []
  run     : Option MapRun := none
  lastUp  : Nat := 16
  lastDn  : Nat := 16
  repins  : List Nat := []
  upWait  : List UpFrame := []
  reseq   : List DnFrame := []
  waiting : List DnFrame := []
  nextSeq : Tab Nat := []
  deriving DecidableEq, Repr

/-! ## Pipes: sources (chapter 07) -/

/-- A frame that waits for a pipe: its ingress port, its bytes from DA to FCS, whether it is marked bad, its ingress stamp, the
moment it entered its FIFO in ns, HOST_META of a host frame's entry (R68). -/
structure InFrame where
  port  : Nat
  bytes : List Nat
  bad   : Bool := false
  ts    : Nat := 0
  since : Nat := 0
  hmeta : Nat := 0
  deriving DecidableEq, Repr


/-- The packet header vector of a frame and what its routines hold (R173, R178, R201): containers by (id, 0), the valid bits of
the 64 header instances, the action data bus, condition vector 2, the flags Z, C, N, EQ (bits 0 to 3) and the low four bits of
the last ALU result, the loop counter; whether TEL.NO_SKETCH and TEL.EXPORT were set (R367, R369). -/
structure Phv where
  cont     : Tab Nat := []
  valid    : Nat := 0
  adb      : Nat := 0
  look     : Nat := 4
  flags    : Nat := 0
  alu      : Nat := 0
  loop     : Nat := 0
  noSketch : Bool := false
  flagIns  : Bool := false
  deriving DecidableEq, Repr

/-- A parsed header (R176): its instance, where it lay in the frame, its length, the fields extracted as (offset in the header,
width, container). -/
structure Span where
  inst : Nat
  off  : Nat
  len  : Nat
  exts : List (Nat × Nat × Nat)
  deriving DecidableEq, Repr

/-- A frame in a pipe (R172): its number from the pipe's start (R180), the twig whose partitions serve it (R189), the stage
from which its tail has arrived, the program bank and match-register set it entered with (R210, R222), what was parsed,
the classifier key of stage 5, its result once it has returned, whether stages 6 to 15 have run, whether a routine ended in a
fetch fault (R208); HASH_P, the sketch indices and the group entry that stage 12 reads (R275), where ECMP_EN is 1; when it entered;
what its lookup engine found, and whether it was dealt before a switch still under way (R269); the SRv6 behaviour that a lookup of the
base program named with its action data, and the frame it made (R186). -/
structure PFrame where
  n      : Nat
  twig   : Nat
  src    : InFrame
  tail   : Nat := 0
  bank   : Nat := 0
  set    : Nat := 0
  spans  : List Span := []
  cursor : Nat := 0
  phv    : Phv := {}
  key    : Nat := 0
  cls    : Option Nat := none
  ran    : Bool := false
  failed : Bool := false
  hashP  : Nat := 0
  sketch : List Nat := []
  grpId  : Nat := 0
  grp    : Option Nat := none
  since  : Nat := 0
  found  : Nat := 0
  before : Bool := false
  srv6   : Option (Nat × Nat) := none
  out    : Option (List Nat) := none
  deriving DecidableEq, Repr

/-- A pipe beside its registers: the number its next frame takes (R180), IDLE_US of its doze policy (R438); why it leaves or
returns (R188, R190: 0 it does not, 1 grafted, 2 retired by command, 3 permanent, 4 restored, 5 permanent and waiting for the
fostering of a pipe near it), since when, and when that recovery
could begin (R31); what its performance counters read as while it is in DOZE (R75); since when it holds frames and has disposed of
none (R501), when its FIFOs were last not empty (R187), up to when its stalls are counted (R180), its IDLE_US in use. -/
structure PipeRec where
  count : Nat := 0
  idle  : Nat := 50
  leave : Nat := 0
  since : Nat := 0
  began : Nat := 0
  froze : List Word := []
  held  : Nat := 0
  fed   : Nat := 0
  stall : Nat := 0
  /-- IDLE_US of the idle period under way (R438). -/
  usNow : Nat := 50
  deriving DecidableEq, Repr

/-- What a pipe partition holds for telemetry: the flag set, oldest value first (R369), random tagging (R373, R374), IOAM
settings (R381). -/
structure PipePart where
  flagSet : List Nat := []
  tagEn   : Bool := false
  tagN    : Nat := 24
  ioEn    : Bool := false
  nsId    : Nat := 0
  nodeId  : Nat := 0
  wideId  : Nat := 0
  nsData  : Nat := 0
  nsWide  : Nat := 0
  deriving DecidableEq, Repr

/-! ## Control stores (chapter 08) -/

/-- A control store beside its registers (0 to 7 the boughs', 8 the Tun's): the match registers of the PREVIOUS set, a new
set that waits to become current (R210), the image whose vendor patch words and registers each of the three sets has (R211; 0 none,
else 1 + its version), whether each bank's unwritten units are the vendor base program's (R214, R218), and the identifier of that
program where it is not the running image's (R513, R518). The switch under way (R222): the bank it goes to, the pipes still to
switch, those switched, the end of the reload that runs (0 while frames drain), and whether boughs of lower number go first. -/
structure StoreRec where
  prevSet : List Word := []
  nextSet : Option (List Word) := none
  vend    : Nat := 0
  prevVend : Nat := 0
  nextVend : Option Nat := none
  sw      : Option Nat := none
  left    : List Nat := []
  did     : List Nat := []
  swAt    : Nat := 0
  after   : Bool := false
  vendor0 : Bool := true
  vendor1 : Bool := false
  base0   : Option Nat := none
  base1   : Option Nat := none
  deriving DecidableEq, Repr

/-- A long-routine context beside its registers (R192, R205): scratch words, the action data bus, loop counter, flags of the
last ALU result, the last table operation's outcome, its LFSR position, pending requests, the words and WAIT words run
since a safe point, the PATCH_SET it uses (R210), its next address at the last safe point. A sequencer's STATE has no register: `run`
holds it. -/
structure Walker where
  scratch : Tab Nat := []
  adb     : Nat := 0
  loop    : Nat := 0
  flags   : Nat := 0
  top     : Nat := 0
  fault   : Bool := false
  preempt : Bool := false
  intr    : Bool := false
  stop    : Bool := false
  words   : Nat := 0
  waits   : Nat := 0
  set     : Nat := 0
  run     : Nat := 0
  pc      : Option Nat := none
  deriving DecidableEq, Repr

/-! ## Forwarding tables (chapter 09) -/

/-- A request in a bough's learn queue (R239, R242): 1 learn, 2 refresh, 3 delete, 11 age; the table, the key, action and
data, SRC of R243, and the walker it came from (4 for none). -/
structure LearnReq where
  op     : Nat
  table  : Nat
  key    : Nat
  action : Nat := 0
  data   : Nat := 0
  src    : Nat := 9
  walker : Nat := 4
  deriving DecidableEq, Repr

/-- A learn record that waits for the ring (R243): words 0 (without PHASE) and 1, its time, the entry. -/
structure LearnRec where
  w0    : Nat
  w1    : Nat
  time  : Nat
  entry : Nat
  deriving DecidableEq, Repr

/-- A bough's tables beside their entries and registers: the words that describe a profile 3 (R229), learn configuration
words by (table, 0), the learn queue and the ageing requests that wait behind it, the tables whose next ageing pass is due when
this one ends, when each table's next pass is due by (table, 0) (R242), the records waiting and those lost since, the ring's SEQ and PHASE, its last interrupt, spare lines used
and lines without a spare (R501). -/
structure TblRec where
  caps    : List Nat := []
  learn   : Tab Nat := []
  queue   : List LearnReq := []
  ageWait : List LearnReq := []
  ageDue  : List Nat := []
  ageNext : Tab Nat := []
  recs    : List LearnRec := []
  lost    : Nat := 0
  seq     : Nat := 0
  phase   : Bool := false
  irqAt   : Option Nat := none
  spares  : Nat := 0
  dead    : List (Nat × Nat) := []
  deriving DecidableEq, Repr

/-! ## Classifier (chapter 10) -/

/-- A classifier TCAM entry (R259). -/
structure TcamEnt where
  value : Nat := 0
  mask  : Nat := 0
  data  : Nat := 0
  valid : Bool := false
  deriving DecidableEq, Repr

/-! ## Path spreading (chapter 11) -/

/-- A flowlet entry (R281). -/
structure Flowlet where
  valid : Bool := false
  gen   : Nat := 0
  group : Nat := 0
  slot  : Nat := 0
  last  : Nat := 0
  deriving DecidableEq, Repr

/-- What the imbalance monitor holds for a group (R290). -/
structure GrpMon where
  hot   : Nat := 0
  ratio : Nat := 0
  eval  : Bool := false
  deriving DecidableEq, Repr

/-- A bough's hashing beside its registers (R274, R285, R288 to R291): the field sets, the reorder-tolerant queues, the
monitor's values, the last reseed of each seed in ns, the start of the window on TOD. -/
structure SpreadRec where
  pinIds   : List Nat := [0xA0, 0xA1, 0xA2, 0xA3, 0xA4, 0xA5, 0xA6, 0xA7, 0x40, 0x41, 0x00]
  pinPort  : Bool := false
  ecmpIds  : List Nat := [0xA0, 0xA1, 0xA2, 0xA3, 0xA4, 0xA5, 0xA6, 0xA7, 0x40, 0x41, 0x00]
  ecmpPort : Bool := false
  rtMask   : Nat := 0
  win      : Nat := 60
  run      : Nat := 30
  thresh   : Nat := 32
  minLog2  : Nat := 36
  auto     : Bool := true
  holdoff  : Nat := 60
  reseeds  : List (Option Nat) := [none, none, none, none]
  winStart : Nat := 0
  deriving DecidableEq, Repr

/-! ## The shared buffer (chapter 12) -/

/-- A frame in the Tun: its record (R297) and what the module keeps with it. Cells are named by their pointers in list order
(R295); 0x1FFFFF stands for a cell that lies in the Cellar. `cells` lists those written so far, `total` is how many the
frame has, `poison` the positions of the POISON cells, `nread` how many cells have been read for dequeue, `marked` whether a POISON cell was met (R312); `bytes` is the frame as the bough sent it, `full` its length before META.TRUNC cut it. `exp` names an
export frame's stream, first sequence number and records (R377), `gtag` a Grist packet's group, chunk and kind (R408). `writer` to `dnClus` are what a trace record reports
(R373); `place` is where its cells are (R298: 0 assembling, 1 on its queue's list, 2 on a hold list, 3 on a flush chain,
4 in flight on DN), `doomed` a frame whose queue was flushed while it was assembling or held (R314). -/
structure TFrame where
  qid     : Nat := 0
  pin     : Nat := 0
  inPort  : Nat := 0
  color   : Nat := 0
  fmeta   : Nat := 0
  inTs    : Nat := 0
  enqTs   : Nat := 0
  hr      : Bool := false
  ct      : Bool := false
  ce      : Bool := false
  repin   : Bool := false
  bytes   : List Nat := []
  total   : Nat := 1
  full    : Nat := 0
  cells   : List Nat := []
  poison  : List Nat := []
  nread   : Nat := 0
  marked  : Bool := false
  eof     : Bool := false
  bad     : Bool := false
  lost    : Bool := false
  racked  : Bool := false
  exp     : List Nat := []
  gtag    : List Nat := []
  writer  : Nat := 0
  arrive  : Nat := 0
  link    : Nat := 0
  pick    : Nat := 0
  depthIn : Nat := 0
  freeIn  : Nat := 0
  pseq    : Nat := 0
  dnClus  : Nat := 0
  place   : Nat := 0
  doomed  : Bool := false
  deriving DecidableEq, Repr

/-- A block of 16 cells in the Cellar (R327): its number in the queue's racked run, its channel and slot, whether it is
racked (0), being drawn (1) or drawn and not yet linked (2), the pointers its drawn cells took, the POISON ones, and
whether it is lost (R335). -/
structure Block where
  bseq   : Nat
  chan   : Nat
  slot   : Nat
  stage  : Nat := 0
  ptrs   : List Nat := []
  poison : List Nat := []
  lost   : Bool := false
  deriving DecidableEq, Repr

/-- A queue's list (R297, R328): its linked frames in link order; while it is split into HEAD, RACKED and TAIL, the cells in
HEAD and the blocks in BSEQ order; the block a rack write is under way for; the next BSEQ; the channel that took its
last block (16 for none); whether it starves (R330). -/
structure TQueue where
  frames  : List Nat := []
  split   : Bool := false
  head    : Nat := 0
  blocks  : List Block := []
  rack    : Option Block := none
  bseq    : Nat := 0
  lastCh  : Nat := 16
  starved : Bool := false
  deriving DecidableEq, Repr

/-- A bank replacement (R319): the physical banks, the logical bank, the rows in use that are not moved yet, whether the old
bank stays GRAFT, whether the move goes back to a restored bank (R321), the cause of the change (R443), when it was
asked for, and the µs it waited for an earlier one (R31). -/
structure Migration where
  src   : Nat
  dst   : Nat
  lbank : Nat
  left  : List Nat
  graft : Bool
  back  : Bool
  cause : Nat
  start : Nat
  wait  : Nat := 0
  deriving DecidableEq, Repr

/-- A logical bank closed to writes (R321): whether it is grafted by command, and the cause it is retired for. -/
structure ClosedBank where
  lbank : Nat
  graft : Bool
  cause : Nat
  deriving DecidableEq, Repr

/-- The Tun's buffer beside its registers: the clock count of the allocator (R299), frames by (frame id, 0), queues by
(queue, 0), the cells off the free maps by (logical bank, row), the frame each write requester assembles by
(requester, 0 cluster or 1 internal writer), frames that internal writers offer, cells in the input buffers (R301),
the accept pointers of iteration 3, the requester each bank granted last to reads and to writes, the cells that a cluster (0) or an
internal reader bound to its requester (1) still has to read as (tag, pointer), the boughs' re-pin hold lists (R162), the flush
chains, the replacements under way and those that wait (R31),
closed banks, the active copy of the plan (R307), the tally audit's memory (R317), when each port's hold began, the
frames on their way to the host's rings, as (frame, receive ring), and to the Malthouse (R16), oldest first. -/
structure TunSt where
  clock    : Nat := 0
  nextFid  : Nat := 1
  frames   : Tab TFrame := []
  queues   : Tab TQueue := []
  used     : Tab Bool := []
  asm      : Tab (Option Nat) := []
  offers   : Tab (List UpFrame) := []
  inBuf    : Tab Nat := []
  acceptAt : Tab Nat := []
  gotRead  : Tab Nat := []
  gotWrite : Tab Nat := []
  reads    : Tab (List (Nat × Nat)) := []
  holds    : Tab (List Nat) := []
  flush    : List Nat := []
  migs     : List Migration := []
  migNext  : List Migration := []
  closed   : List ClosedBank := []
  poolSize : List Nat := [0x17B000, 0, 0, 0]
  hrSize   : Nat := 0
  suspects : List Nat := []
  lenDiff  : Tab Nat := []
  holdAt   : Tab Nat := []
  hostOut  : List (Nat × Nat) := []
  maltOut  : List Nat := []
  deriving DecidableEq, Repr

/-- A Cellar channel that takes no new block (R335): whether it is grafted by command, the cause of the change. -/
structure ChanLeave where
  chan  : Nat
  graft : Bool
  cause : Nat
  deriving DecidableEq, Repr

/-- The Cellar beside its registers: spill slots in use by (channel, slot) as 1 + the queue, extension words by (line,
word), whether the window access under way writes, the channels that leave service, when each channel's retraining ends (R326),
the extension accesses of the last µs as (moment, tenths of a ns) (R334). -/
structure CellarSt where
  slots   : Tab Nat := []
  ext     : Tab Nat := []
  win     : Option Bool := none
  leaving : List ChanLeave := []
  retrain : Tab Nat := []
  extUse  : Tab (List (Nat × Nat)) := []
  deriving DecidableEq, Repr

/-! ## Scheduling and policing (chapter 14) -/

/-- A token bucket (R343): signed tokens in 1/65,536,000 byte as they stood at a moment, and that moment in ns. The rate lies
in a register, the burst here, in bytes. -/
structure Bucket where
  tok   : Int := 0
  time  : Nat := 0
  burst : Nat := 0
  deriving DecidableEq, Repr

/-- A queue's scheduler state beside its registers: its two buckets (R343), AVG in 2^-16 cells and the three WRED profiles as
(MIN_TH, MAX_TH, MAX_P) (R352, R353), the watchdog's settings in ms and what it watches: since when the queue has held
a frame and dequeued none, the causes that have held throughout (bit 0 a timer, bit 1 a port not in RUN), since when a tripped queue's cause has been absent, when the
next 1 ms check is due (R356). -/
structure SQueue where
  min     : Bucket := {}
  max     : Bucket := {}
  avg     : Nat := 0
  prof    : List (Nat × Nat × Nat) := [(0, 0, 0), (0, 0, 0), (0, 0, 0)]
  detect  : Nat := 0
  restore : Nat := 0
  stuck   : Option Nat := none
  cause   : Nat := 0
  absent  : Option Nat := none
  chk     : Nat := 0
  deriving DecidableEq, Repr

/-- A port's scheduler state beside its registers: the DWRR pointer and whether its turn is open (R341), its bucket, the bytes
dequeued ahead of its MAC (R342), the source address of its PFC frames, the XOFF states it has told its partner, the
next PSEQ (R156), when it last sent PFC or pause (R355). -/
structure SPort where
  ptr    : Nat := 11
  turn   : Bool := false
  max    : Bucket := {}
  ahead  : Nat := 0
  sa     : Nat := 0
  told   : Nat := 0
  pseq   : Nat := 0
  sentAt : Nat := 0
  deriving DecidableEq, Repr

/-- A meter (R348): mode and awareness, rates in Mb/s and bursts in bytes, its buckets' tokens in 1/65,536,000 byte at a
moment, the byte counters by colour with the visible and the hidden copies of R82. -/
structure Meter where
  mode  : Bool := false
  aware : Bool := false
  cir   : Nat := 0
  pir   : Nat := 0
  cbs   : Nat := 0
  pbs   : Nat := 0
  tc    : Nat := 0
  tp    : Nat := 0
  time  : Nat := 0
  cnt   : List Nat := [0, 0, 0]
  vis   : List Nat := [0, 0, 0]
  hid   : List Nat := [0, 0, 0]
  deriving DecidableEq, Repr

/-! ## Telemetry (chapter 15) -/

/-- A pending gap record (R377). -/
structure Gap where
  kind     : Nat
  lost     : Nat
  first    : Nat
  last     : Nat
  firstSeq : Nat := 0
  lastSeq  : Nat := 0
  span     : Bool := false
  deriving DecidableEq, Repr

/-- An export stream beside its registers (R376 to R379): its settings, whether its first frame has been built, the records
that wait as their bytes, oldest first, with when each began to wait, the pending gap records in the order they were opened, likewise. -/
structure Stream where
  encap   : Nat := 0
  ipOff   : Nat := 0
  tmpl    : List Nat := []
  dest    : Nat := 0
  maxB    : Nat := 0
  flushUs : Nat := 0
  backlog : Nat := 0
  started : Bool := false
  recs    : List (List Nat) := []
  recAt   : List Nat := []
  gaps    : List Gap := []
  gapAt   : List Nat := []
  deriving DecidableEq, Repr



/-! ## Grist (chapter 16) -/

/-- A destination of a group (R398): its role (0 OUT, 1 NACK, 2 PARENT), how its template is filled in, the queue, HGROUP, HRANK. -/
structure GDest where
  role   : Nat := 0
  encap  : Nat := 0
  ipOff  : Nat := 0
  tmpl   : List Nat := []
  qid    : Nat := 0
  hgroup : Nat := 0
  hrank  : Nat := 0
  deriving DecidableEq, Repr

/-- A chunk of a group's window (R400, R401): its id, the slot it is bound to, its state (0 EMPTY, 1 FILLING, 2 AWAIT, 3 EMITTING),
the bitmap of ranks accepted, the ELEMS of the first, MISMATCH, the stored vectors by (level, index), the value of the root,
whether its timer runs, the NACKs and partials sent, the cause of its failure (0 none), the parent's result it relays as its header
and payload, whether its packets have been handed over. -/
structure GChunk where
  id    : Nat
  slot  : Nat
  st    : Nat := 0
  bits  : Nat := 0
  elems : Option Nat := none
  mis   : Bool := false
  nodes : List (Nat × Nat × List Nat) := []
  root  : List Nat := []
  timer : Option Nat := none
  nacks : Nat := 0
  late  : Nat := 0
  parts : Nat := 0
  fail  : Nat := 0
  relay : List Nat := []
  sent  : Bool := false
  deriving DecidableEq, Repr

/-- A graceful or aborted close (R410): what had been emitted and failed when it began, when that was, whether it is an ABORT. -/
structure GClose where
  emitted : Nat
  failed  : Nat
  since   : Nat
  abort   : Bool := false
  deriving DecidableEq, Repr

/-- An open reduction group (R396 to R411): its owner, engine group, mode (1 CHILD), the mask it opened with, the slots that serve it
now in ascending order, its parameters, destinations, granted pages, chunk slots per slot, the chunks of its window in order, LOW,
what it has emitted and failed, its close. -/
structure GGroup where
  owner   : Nat := 0
  eg      : Nat := 0
  child   : Bool := false
  mask    : Nat := 0
  slots   : List Nat := []
  fanin   : Nat := 1
  inFmt   : Nat := 0
  op      : Nat := 0
  outFmt  : Nat := 0
  maxEl   : Nat := 0
  window  : Nat := 1
  retries : Nat := 0
  timeout : Nat := 0
  first   : Nat := 0
  total   : Nat := 1
  dests   : List GDest := []
  pages   : Nat := 0
  per     : Nat := 0
  chunks  : List GChunk := []
  low     : Nat := 0
  emitted : Nat := 0
  failed  : Nat := 0
  closing : Option GClose := none
  broken  : Bool := false
  deriving DecidableEq, Repr

/-- An engine on its way out (R413): why (1 grafted, 2 retired by command, 3 permanent, 4 it gives its slot back to engine `dest`),
since when, for 3 the spare planned for its slot in `dest` (0 none), and whether a planted error counted toward it. -/
structure GLeave where
  engine : Nat
  kind   : Nat
  since  : Nat
  dest   : Nat := 0
  inj    : Bool := false
  deriving DecidableEq, Repr

/-- The Grist engines beside their registers. -/
structure GristSt where
  /-- Open groups by (GROUP, 0). -/
  groups : Tab (Option GGroup) := []
  /-- GRIST_MAP (R393) by (GROUP, 0): 1 + the engine group of an open group. -/
  map    : Tab Nat := []
  /-- The staging buffers by (cluster, 0), oldest frame first (R394). -/
  stage  : Tab (List UpFrame) := []
  /-- The packet of each slot that the Tun refused, by (slot, 0), when it first did and when it last did (R408). -/
  turned : Tab (Option (UpFrame × Nat × Nat)) := []
  /-- When a slot last had a staged contribution or a chunk in FILLING or EMITTING, by (slot, 0) (R415). -/
  busyAt : Tab Nat := []
  /-- Engines that leave their slots. -/
  leave  : List GLeave := []
  deriving DecidableEq, Repr

/-! ## Modes and start-up (chapter 17) -/

/-- The start-up and the mode changes beside `GLB_MODE`: the Malthouse (0 running; 1 a reset has ended and the ROM loader is to
run, R423; 2 held in reset; 3 restarted alone, the module forwarding), the power domains a steeping still has to step up, the
one that ramps, the domains whose memory self-test runs (R425), the units that failed one in this steeping, LIMIT of a
change to DRAIN in ms, and the reset inputs that are low: 0 POR_N, 1 RST_N, 2 the input voltage. -/
structure LifeSt where
  boot  : Nat := 1
  steps : List Nat := []
  ramp  : Option Nat := none
  tests : List Nat := []
  fresh : List Nat := []
  limit : Nat := 0
  low   : List Nat := []
  /-- When the change to DRAIN was accepted (R430). -/
  since : Nat := 0
  /-- t0 of a steeping in ns; by how much waits for a grant have shifted its schedule; when its last power-good came and its last step
  began (R425, R426). -/
  t0    : Nat := 0
  slip  : Nat := 0
  good  : Nat := 0
  began : Nat := 0
  /-- A change to DORMANT is accepted: the domains go off once its reply is written (R432). -/
  down  : Bool := false
  deriving DecidableEq, Repr

/-! ## Clocks (chapter 18) -/

/-- A PLL beside its register: the source of a commanded switch that waits for the forced path (R455), the source its
fallback waits for (R456), whether it has no source, since when its gate is closed, and whether it is permanent (R501). -/
structure PllRec where
  want  : Option Nat := none
  wait  : Option Nat := none
  noSrc : Bool := false
  since : Nat := 0
  dead  : Bool := false
  deriving DecidableEq, Repr

/-- A source trip whose history entry is still open (R459): the PLLs not yet running again, whether one of them waited for a
starting source or found none, the longest hold in µs so far, and the new source. -/
structure TripRec where
  src    : Nat
  pend   : List Nat
  waited : Bool
  hold   : Nat
  new    : Nat
  deriving DecidableEq, Repr

/-- The clocks beside their registers: the PLLs by (instance, 0), the open trips, the last measured trim errors of SIRC and FIRC
(ppm, as 32-bit words), and whether SIRC is at fault (R448). -/
structure ClkSt where
  plls    : Tab PllRec := []
  trips   : List TripRec := []
  errSirc : Word := 0
  errFirc : Word := 0
  sircBad : Bool := false
  /-- SYSPLL still has to move from FIRC to a crystal (R452). -/
  bootMove : Bool := false
  /-- When each source entered its state (R446), how many monitor windows in a row it has passed since it is STARTING (R447), and from
  when each oscillator may be measured again (R452), by (source, 0). -/
  srcAt    : Tab Nat := []
  goodWin  : Tab Nat := []
  trimAt   : Tab Nat := []
  deriving DecidableEq, Repr

/-! ## Power (chapter 19) -/

/-- A phase hint (R482): its id, announcing context, class, quadrants, start and duration in µs from the reply, when that was, and whether
it is active. -/
structure Hint where
  id     : Nat
  ctx    : Nat
  cls    : Nat
  qmask  : Nat
  start  : Nat
  dur    : Nat
  since  : Nat
  active : Bool := false
  deriving DecidableEq, Repr

/-- A temperature sensor (R484): its last sample in °C, how many consecutive samples have been at the throttle threshold or above,
at 105 °C or above, and below 97 °C, and the thermal steps in force for it. -/
structure Sensor where
  temp  : Nat := 0
  hot   : Nat := 0
  max   : Nat := 0
  cool  : Nat := 0
  steps : Nat := 0
  deriving DecidableEq, Repr

/-- A set of coefficients (R480): the temperature at which it was taken, absent while it holds the values fused at test; its DTH in
mV, 40 as fused (R477); and the factors (ΣM, ΣE) its coefficients have been scaled by, newest first. -/
structure CalSet where
  temp   : Option Nat := none
  dth    : Nat := 40
  scales : List (Nat × Nat) := []
  deriving DecidableEq, Repr

/-- The calibration of a power domain (R479, R480): its sets for the bands L, M and H, which of them is in use, consecutive mismatching
windows, the recalibration (0 none, 1 to 4 the windows still to gather, 5 the checking window) with its sums of E and M. -/
structure DomCal where
  sets   : List CalSet := [{}, {}, {}]
  tag    : Nat := 0
  run    : Nat := 0
  recal  : Nat := 0
  sumE   : Nat := 0
  sumM   : Nat := 0
  deriving DecidableEq, Repr

/-- The power manager beside its registers: privileged contexts (R481), hints (R482), preferences by (context · 4 + class,
quadrant) as OPP + 1 (R483), and per quadrant the DEFAULT OPP, the CEIL of the cap loop, the rail's set voltage in mV
(R473, R476), the cap and droop limits of its Grist group (R474, R477), when its detectors recovered while a limit or a freeze still
holds for it (R477, R478), and until when the last step runs (R476); when the loop ticks next (R474) and when each domain's window ends,
by (domain, 0) (R479);
the domains whose detector is tripped; the cap loop's hold, over-cap and below-cap times in µs, forced doze, the last
U in mW; the VIN samples of the last ms (10 mV, newest first) and the ticks; whether VIN is out of range; sensors by
(domain, 0 on-die or 1 regulator); calibrations by (domain, 0); whether ALERT_N is driven low. -/
structure PwrSt where
  privs   : List Nat := []
  hints   : List Hint := []
  prefs   : Tab Nat := []
  defOpp  : List Nat := [5, 5, 5, 5]
  capCeil : List Nat := [7, 7, 7, 7]
  vset    : List Nat := [0, 0, 0, 0]
  limCap  : List Nat := [16, 16, 16, 16]
  limDrp  : List Nat := [16, 16, 16, 16]
  calmAt  : List (Option Nat) := [none, none, none, none]
  stepAt  : List Nat := [0, 0, 0, 0]
  tickAt  : Nat := 0
  estAt   : Tab Nat := []
  tripped : List Nat := []
  hold    : Nat := 0
  unmet   : Nat := 0
  below   : Nat := 0
  forced  : Bool := false
  lastU   : Nat := 0
  vins    : List Nat := []
  ticks   : Nat := 0
  vinOut  : Bool := false
  sensors : Tab Sensor := []
  cals    : Tab DomCal := []
  alert   : Bool := false
  deriving DecidableEq, Repr

/-! ## Firmware (chapter 21) -/

/-- A block of an image in flash: its 16,384 data words and its check value (R513). -/
structure FwBlock where
  data  : List Word := []
  check : Word := 0
  deriving DecidableEq, Repr

/-- A firmware slot in flash (R511): its state (0 EMPTY, 1 INCOMPLETE, 2 VALID, 3 BAD), the header's and the trailer's bytes, and
which blocks are written, by (index, 0). -/
structure FwSlot where
  state  : Nat := 0
  hdr    : List Nat := []
  trail  : List Nat := []
  blocks : Tab FwBlock := []
  deriving DecidableEq, Repr

/-- A boot-record copy (R512) with its CRC-32C; that of the first one as the module is delivered is good. -/
structure BootCopy where
  active : Nat := 0
  trial  : Option Nat := none
  seq    : Nat := 0
  crc    : Nat := 0xf1398fc5
  deriving DecidableEq, Repr

/-- A `FW_ACTIVATE` under way (R518): the slot, its two flags, whether it came from DFU, and how it ends: 0 open, 1 the slot failed
(with the cause), 2 no check-in, 3 the image has checked in and base programs are changing. -/
structure FwAct where
  slot   : Nat
  raise  : Bool
  revoke : Bool
  dfu    : Bool
  fate   : Nat := 0
  cause  : Nat := 0
  deriving DecidableEq, Repr

/-- Flash, OTP and the update under way: slots by (slot, 0), the two boot-record copies, the OTP's two key hashes, MIN_SVN and the
two revocation bits (R515), the activation, and the bytes of a DFU download not yet written, with the parts of the
image they follow (0 nothing, 1 + n the header and n blocks). -/
structure FwSt where
  slots  : Tab FwSlot := []
  rec0   : BootCopy := {}
  rec1   : BootCopy := {}
  keys   : List Nat := [0, 0]
  minSvn : Nat := 0
  rev    : List Bool := [false, false]
  act    : Option FwAct := none
  dfu    : List Nat := []
  parts  : Nat := 0
  /-- The identifiers of the vendor base programs in use: BASE_ID and TUN_BASE_ID of the running image (R513). -/
  baseId : Nat := 0
  tunId  : Nat := 0
  /-- When the trial under way began (R517). -/
  trialAt : Nat := 0
  deriving DecidableEq, Repr




/-! ## The machine -/

/-- The state of the module. -/
structure State where
  /-- Commands waiting to be taken, first in, first out (the model's queue). -/
  pending   : List Instr := []
  /-- Register words by (register, element); what is not listed reads as its reset word. -/
  regs      : Tab Word := []
  /-- Live counters by (register, element), unlisted 0 (R82, R84). -/
  ctr       : Tab Nat := []
  /-- The visible and the hidden set of holding copies (R82). -/
  snapVis   : Tab Nat := []
  snapHid   : Tab Nat := []
  /-- The HI halves latched by reads of LO, by (channel, register position · 2^16 + element) (R81). -/
  hiLatch   : Tab (Option Word) := []
  /-- Time since power-on in ns, the model's own clock. -/
  now       : Nat := 0
  /-- The counter that free values are drawn by (the model's own). -/
  freeCtr   : Nat := 0
  /-- What the module has sent, newest first (the model's own record). -/
  out       : List Out := []
  cmd       : CmdSt := {}
  pkt       : PktSt := {}
  flt       : FltSt := {}
  /-- Unit records by (class, instance) (R434 to R443). -/
  units     : Tab UnitRec := []
  /-- The record of RETIRED units, kept through every reset but POR (R437), as TARGETs. -/
  retired   : List Nat := []
  recov     : List Recovery := []
  /-- Lanes by (lane, 0). -/
  lanes     : Tab Lane := []
  /-- Twigs by (global twig, 0). -/
  twigs     : Tab Twig := []
  /-- Ports by (port, 0). -/
  ports     : Tab Port := []
  synce     : SyncE := {}
  /-- Commits under way by (block, 0): 0 to 7 the boughs, 8 the TUN block. -/
  pairs     : Tab (Option PairCommit) := []
  /-- Clusters by (global cluster, 0). -/
  clusters  : Tab Cluster := []
  /-- What each cluster carries UP, oldest first, by (global cluster, 0). -/
  upLink    : Tab (List UpItem) := []
  /-- The DN frames each cluster carries that no ACK covers yet, oldest first, by (global cluster, 0). -/
  dnLink    : Tab (List DnFrame) := []
  /-- The boughs' root links by (bough, 0). -/
  rootB     : Tab RootBough := []
  /-- The frames in each pipe's parser and stages by (pipe, 0), in entry order (R169 to R181). -/
  pframes   : Tab (List PFrame) := []
  /-- Pipes by (pipe, 0). -/
  pipes     : Tab PipeRec := []
  /-- Telemetry settings of the partitions by (partition, 0). -/
  parts     : Tab PipePart := []
  /-- The flow sketches by (pipe, row · 65,536 + index) (R367). -/
  sketch    : Tab Nat := []
  /-- The twigs' FIFOs by (twig, 0), oldest frame first (R168). -/
  twigFifo  : Tab (List InFrame) := []
  /-- The FIFOs of injected and recirculated frames (R169): (0, 0) host, (1, 0) Malthouse, (2 + b, 0) recirculation of bough b. -/
  injectQ   : Tab (List InFrame) := []
  /-- The Malthouse's receive buffer (R16), oldest first. -/
  maltRx    : List (List Nat) := []
  /-- RAM words of the control stores by (store, address), 160 bits; none is the content nothing has written (ROM words
  among them). -/
  ucode     : Tab (Option Nat) := []
  /-- Store words that are uncorrectable until written again (R195), as (store, address). -/
  ucodeBad  : List (Nat × Nat) := []
  /-- Written units of the program banks (R215), by (store · 16 + bank · 8 + TYPE, index). -/
  prog      : Tab (List Word) := []
  stores    : Tab StoreRec := []
  /-- Long-routine contexts by (store, walker). -/
  walkers   : Tab Walker := []
  /-- The program bank each pipe runs (R222). -/
  pipeBank  : Tab Nat := []
  /-- Table entries by (bough · 32 + table, slot) as numbers of the entry's size; unlisted 0. -/
  tbl       : Tab Nat := []
  /-- Page locks by (bough · 32 + table, page). -/
  tblLocks  : Tab Bool := []
  /-- Length filters by (bough · 32 + table, length · 65,536 + counter) and prefixes in use by length (R237). -/
  tblFilter : Tab Nat := []
  tblLens   : Tab Nat := []
  tables    : Tab TblRec := []
  /-- Classifier TCAM entries by (partition, index). -/
  tcam      : Tab TcamEnt := []
  /-- Spare TCAM entries used, by (bough, 0) (R501). -/
  tcamSpare : Tab Nat := []
  spreads   : Tab SpreadRec := []
  /-- Flowlet entries by (bough, index). -/
  flowlets  : Tab Flowlet := []
  /-- Monitor records by (bough, group). -/
  grpMon    : Tab GrpMon := []
  /-- Group entries written in the current window, by (bough, group) (R290). -/
  grpNew    : Tab Bool := []
  /-- Bytes charged to slots in the current and in the last completed window, by (bough, slot). -/
  slotBytes : Tab Nat := []
  slotLast  : Tab Nat := []
  tun       : TunSt := {}
  cellar    : CellarSt := {}
  /-- Scheduler records by (queue, 0) and (port, 0). -/
  squeues   : Tab SQueue := []
  sports    : Tab SPort := []
  /-- Meters by (partition, index). -/
  meters    : Tab Meter := []
  /-- Export streams by (stream, 0). -/
  streams   : Tab Stream := []
  /-- Discards of export frames on their way to the exporter (R377), as (stream, first sequence number, records). -/
  expLost   : List (Nat × Nat × Nat) := []
  /-- The end of the INTERVAL of each counter set that runs for one (R384), by (class, instance). -/
  perfInt   : Tab Nat := []
  /-- The IEEE 1588 clock TOD in ns (R362), and the part of a ns that RATE has gathered, in 2^-40 ns. -/
  tod       : Nat := 0
  todFrac   : Nat := 0
  /-- How much of a SIRC cycle has passed while TOD runs from SIRC, in 1/64 ns (R449). -/
  todSirc   : Nat := 0
  /-- The register accesses that wait for Q0's clock, oldest first (R457). -/
  busHeld   : List BusAcc := []
  /-- A set (1) or step (2) of TOD waits for the next Tun clock (R363). -/
  todPend   : Nat := 0
  /-- When the PPS_OUT pulse ends, in ns (R363). -/
  ppsFall   : Option Nat := none
  /-- The part of a clock that each counter set's cycle counter has gathered, in thousandths, by (class, set) (R382). -/
  cycFrac   : Tab Nat := []
  grist     : GristSt := {}
  /-- A change from SERVICE to DRAIN is under way (R429), or a FATAL event has stopped the intakes. -/
  draining  : Bool := false
  life      : LifeSt := {}
  clk       : ClkSt := {}
  pwr       : PwrSt := {}
  fw        : FwSt := {}
  /-- The instruction in force in the JTAG test access port, by its code (R542). -/
  jtagIr    : Nat := 1
  deriving DecidableEq, Repr

/-- Every field at its reset value: the registers at the reset words of their tables (nothing listed), memories and queues
empty, the mode DORMANT (R90, R91). -/
def State.reset : State := {}

end Sys2Proof.Machine
end

