-- ==== Sys2Proof/Machine/Ops.lean ====
section
/-! DEFINITION. The named operations over the state that every family of commands uses: register words and fields, live
counters, unit states, the event path to the fault collector, permanence counts, MSI-X. -/
namespace Sys2Proof.Machine

/-! ## Bits -/

/-- The field of `n` bits from bit `lo` of a word. -/
def bitsAt (w : Word) (lo n : Nat) : Nat := (w.toNat / 2 ^ lo) % 2 ^ n

/-- The word with the field of `n` bits from bit `lo` set to `v` (taken modulo 2^n). -/
def setBits (w : Word) (lo n v : Nat) : Word :=
  BitVec.ofNat 32 (w.toNat - bitsAt w lo n * 2 ^ lo + (v % 2 ^ n) * 2 ^ lo)

/-- The field of `n` bits from bit `lo` of a number. -/
def nbits (w lo n : Nat) : Nat := (w / 2 ^ lo) % 2 ^ n

/-- Bit `i` of a number. -/
def nbit (w i : Nat) : Bool := (w / 2 ^ i) % 2 == 1

/-- A Bool as a bit. -/
def b2n (b : Bool) : Nat := if b then 1 else 0

/-- A word from a number. -/
def wd (n : Nat) : Word := BitVec.ofNat 32 n

/-- The low half of a 64-bit value, as a word. -/
def lo32 (n : Nat) : Word := BitVec.ofNat 32 n
/-- The high half of a 64-bit value. -/
def hi32 (n : Nat) : Word := BitVec.ofNat 32 (n / 2 ^ 32)

/-- The two's complement reading of an `n`-bit field. -/
def signedOf (n v : Nat) : Int :=
  if v % 2 ^ n < 2 ^ (n - 1) then ((v % 2 ^ n : Nat) : Int) else ((v % 2 ^ n : Nat) : Int) - ((2 ^ n : Nat) : Int)

/-- An integer as an `n`-bit two's complement field. -/
def toField (n : Nat) (x : Int) : Nat := (x % ((2 ^ n : Nat) : Int)).toNat

/-- The sum of a list. -/
def sumN (l : List Nat) : Nat := l.foldl (· + ·) 0

/-- ceil(a / b). -/
def ceilDiv (a b : Nat) : Nat := (a + b - 1) / b

/-- The first element of a list that satisfies a test, or `d`. -/
def findD {α : Type} (l : List α) (p : α → Bool) (d : α) : α := (l.find? p).getD d

/-- Fold a state change over a list. -/
def eachIn {α σ : Type} (l : List α) (s : σ) (f : σ → α → σ) : σ := l.foldl f s

/-- Replace element `i` of a list. -/
def setAt {α : Type} (l : List α) (i : Nat) (v : α) : List α := l.set i v

/-! ## Registers (R72, R78) -/

/-- The register word of element `i` of register `r`. -/
def State.reg (s : State) (r : Reg) (i : Nat := 0) : Word := tabGet s.regs (r.ctorIdx, i) (resetWord r i)

/-- Write a whole register word. -/
def State.setReg (s : State) (r : Reg) (i : Nat) (w : Word) : State :=
  { s with regs := tabSet s.regs (r.ctorIdx, i) w (resetWord r i) }

/-- The value of a named field of element `i`. -/
def State.fld (s : State) (f : Fld) (i : Nat := 0) : Nat := bitsAt (s.reg f.reg i) f.lo f.w

/-- Write a named field of element `i`; the other bits of the register keep their values. -/
def State.setFld (s : State) (f : Fld) (i : Nat) (v : Nat) : State :=
  s.setReg f.reg i (setBits (s.reg f.reg i) f.lo f.w v)

/-- A field that does not read as zero. -/
def State.flag (s : State) (f : Fld) (i : Nat := 0) : Bool := s.fld f i != 0

/-- Set a one-bit event field. -/
def State.ev (s : State) (f : Fld) (i : Nat := 0) : State := s.setFld f i 1

/-- Add to a field that saturates at its width. -/
def State.satFld (s : State) (f : Fld) (i : Nat) (n : Nat) : State :=
  s.setFld f i (Nat.min (2 ^ f.w - 1) (s.fld f i + n))

/-- Raise a field to `v` if it is below it (a high-water mark). -/
def State.maxFld (s : State) (f : Fld) (i : Nat) (v : Nat) : State :=
  s.setFld f i (Nat.max (s.fld f i) (Nat.min (2 ^ f.w - 1) v))

/-- The width of a live counter. -/
def ctrWidth (r : Reg) : Nat :=
  match r.info.kind with
  | .snap w => w
  | .plain => 32

/-- A live counter (R82, R84). -/
def State.cnt (s : State) (r : Reg) (i : Nat := 0) : Nat := tabGet s.ctr (r.ctorIdx, i) 0

/-- Set a live counter; it wraps at its width (R84). -/
def State.setCnt (s : State) (r : Reg) (i : Nat) (v : Nat) : State :=
  { s with ctr := tabSet s.ctr (r.ctorIdx, i) (v % 2 ^ ctrWidth r) 0 }

/-- Count `n` more on a live counter. -/
def State.bump (s : State) (r : Reg) (i : Nat := 0) (n : Nat := 1) : State := s.setCnt r i (s.cnt r i + n)

/-- Record something the module sends to the outside. -/
def State.emit (s : State) (o : Out) : State := { s with out := o :: s.out }

/-- The next free value (a value the spec leaves open). -/
def State.free (s : State) : Nat := Config.freeWord s.freeCtr

/-- Go on to the next free value. -/
def State.drawn (s : State) : State := { s with freeCtr := s.freeCtr + 1 }

/-! ## Modes and domains (R90, R419, R466, R488) -/

/-- The operating mode. -/
def State.mode (s : State) : Nat := s.fld GLB_MODE.MODE

/-- DORMANT. -/
abbrev mDORMANT : Nat := 0
/-- RECOVERY. -/
abbrev mRECOVERY : Nat := 1
/-- STEEPING. -/
abbrev mSTEEPING : Nat := 2
/-- SERVICE. -/
abbrev mSERVICE : Nat := 3
/-- DRAIN. -/
abbrev mDRAIN : Nat := 4
/-- TEST. -/
abbrev mTEST : Nat := 5

/-- The modes in which the power domains are up: STEEPING, SERVICE, DRAIN, TEST. -/
def State.modeUp (s : State) : Bool := 2 ≤ s.mode && s.mode ≤ 5

/-- The modes in which frames are forwarded: SERVICE, and DRAIN's emptying. -/
def State.forwarding (s : State) : Bool := s.mode == mSERVICE

/-- Whether power domain instance `n` (in the order of R488, 0 the always-on domain) is on: its rail is power-good. -/
def State.domOn (s : State) (n : Nat) : Bool := n == 0 || s.fld PWR_DOM_V.STATE n == 2

/-- The domain instance of Tun quadrant `q`. -/
def domQuad (q : Nat) : Nat := 1 + q
/-- The domain instance of bough `b`'s digital domain. -/
def domBough (b : Nat) : Nat := 5 + b
/-- The domain instance of bough `b`'s SerDes analog domain. -/
def domSerdes (b : Nat) : Nat := 13 + b
/-- The domain instance of Grist group `g`. -/
def domGrist (g : Nat) : Nat := 21 + g
/-- The Cellar's domain. -/
abbrev domCellar : Nat := 25
/-- The root-link domain. -/
abbrev domRoot : Nat := 26

/-- The instance part of the PWR TARGET of domain `n`, in the order of R488. -/
def pwrInst (n : Nat) : Nat :=
  if n = 0 then 0x001
  else if n < 5 then 0x010 + (n - 1)
  else if n < 13 then 0x020 + (n - 5)
  else if n < 21 then 0x030 + (n - 13)
  else if n < 25 then 0x040 + (n - 21)
  else if n = 25 then 0x050
  else 0x060

/-- The gate of a PLL is closed while its domain is powered: LOCKING or HELD (R449, R457). -/
def State.pllStopped (s : State) (i : Nat) : Bool := s.fld CLK_PLL.STATE i % 2 == 1

/-- The clock of Tun quadrant `q` is stopped. -/
def State.quadStopped (s : State) (q : Nat) : Bool := s.pllStopped (0x10 + q)

/-- The clock of bough `b` is stopped. -/
def State.boughStopped (s : State) (b : Nat) : Bool := s.pllStopped (0x20 + b)

/-! ## TARGETs (R9) -/

/-- A TARGET from its class and instance. -/
def tgt (cls inst : Nat) : Nat := cls * 4096 + inst % 4096
/-- The class of a TARGET. -/
def tCls (t : Nat) : Nat := (t / 4096) % 16
/-- The instance of a TARGET. -/
def tInst (t : Nat) : Nat := t % 4096

/-- Class codes of R9. -/
abbrev cBOUGH : Nat := 1
/-- TWIG. -/
abbrev cTWIG : Nat := 2
/-- LANE. -/
abbrev cLANE : Nat := 3
/-- PORT. -/
abbrev cPORT : Nat := 4
/-- PIPE. -/
abbrev cPIPE : Nat := 5
/-- TUN. -/
abbrev cTUN : Nat := 6
/-- BANK. -/
abbrev cBANK : Nat := 7
/-- GRIST. -/
abbrev cGRIST : Nat := 8
/-- CELLAR. -/
abbrev cCELLAR : Nat := 9
/-- CLK. -/
abbrev cCLK : Nat := 10
/-- PWR. -/
abbrev cPWR : Nat := 11
/-- FLT. -/
abbrev cFLT : Nat := 12
/-- SVC. -/
abbrev cSVC : Nat := 13
/-- ROOT. -/
abbrev cROOT : Nat := 14

/-- Whether R9 lists an instance of a CLK TARGET. -/
def clkInst (i : Nat) : Bool :=
  i ≤ 4 || i == 8 || i == 9 || (0x10 ≤ i && i < 0x14) || (0x20 ≤ i && i < 0x28) || (0x40 ≤ i && i < 0x80)
    || i == 0x80 || i == 0x81

/-- Whether R9 lists an instance of a PWR TARGET. -/
def pwrListed (i : Nat) : Bool :=
  i == 0 || i == 1 || (0x10 ≤ i && i < 0x14) || (0x20 ≤ i && i < 0x28) || (0x30 ≤ i && i < 0x38)
    || (0x40 ≤ i && i < 0x44) || i == 0x50 || i == 0x60

/-- Whether R9 lists the instance `i` of class `c`. -/
def listed (c i : Nat) : Bool :=
  match c with
  | 0 => i == 0
  | 1 => i < 8
  | 2 => i < 64
  | 3 => i < 512
  | 4 => i < 586
  | 5 => i < 64
  | 6 => i < 5
  | 7 => i < 528
  | 8 => i < 68 || (0x100 ≤ i && i < 0x104)
  | 9 => i < 16
  | 10 => clkInst i
  | 11 => pwrListed i
  | 12 => i == 0
  | 13 => i < 3
  | 14 => i < 128
  | _ => false

/-- The Tun quadrant that holds physical bank `n` (R12). -/
def bankQuad (n : Nat) : Nat := if n < 512 then n / 128 else (n - 512) / 4
/-- The quadrant (and Grist group) that holds physical engine `e` (R12). -/
def engineQuad (e : Nat) : Nat := if e < 64 then e / 16 else e - 64
/-- The quadrant that Cellar channel `n` connects to (R11). -/
def chanQuad (n : Nat) : Nat := n / 4

/-- The position of instance `i` of the CLK_PLL array (R449, R462): the low bits of its TARGET. -/
def pllIdx (t : Nat) : Nat := tInst t

/-! ## Units (R434 to R437) -/

/-- OFF. -/
abbrev uOFF : Nat := 0
/-- WAKING. -/
abbrev uWAKING : Nat := 1
/-- READY. -/
abbrev uREADY : Nat := 2
/-- ACTIVE. -/
abbrev uACTIVE : Nat := 3
/-- DOZE. -/
abbrev uDOZE : Nat := 4
/-- DEEP_DOZE. -/
abbrev uDEEP : Nat := 5
/-- GRAFT. -/
abbrev uGRAFT : Nat := 6
/-- RETIRED. -/
abbrev uRETIRED : Nat := 7

/-- A unit's record at reset: OFF, in its own role; the spares have none (R7, R20). -/
def unitReset (c i : Nat) : UnitRec :=
  if (c = 7 ∧ 512 ≤ i) ∨ (c = 8 ∧ 64 ≤ i) then {} else { role := i }

/-- The record of the unit a TARGET names. -/
def State.unit (s : State) (t : Nat) : UnitRec := tabGet s.units (tCls t, tInst t) (unitReset (tCls t) (tInst t))

/-- Write a unit's record. -/
def State.setUnit (s : State) (t : Nat) (u : UnitRec) : State :=
  { s with units := tabSet s.units (tCls t, tInst t) u (unitReset (tCls t) (tInst t)) }

/-- The unit state of a unit. -/
def State.ust (s : State) (t : Nat) : Nat := (s.unit t).ust

/-- Show a unit's state in the USTATE field of its register, for the classes that have one. -/
def State.showUst (s : State) (t u : Nat) : State :=
  match tCls t with
  | 5 => s.setFld PIPE_STATUS.USTATE (tInst t) u
  | 7 => s.setFld TUN_BANK_STATUS.USTATE (tInst t) u
  | 8 => if tInst t < 68 then s.setFld GRIST_E_STATUS.USTATE (tInst t) u else s
  | 9 => s.setFld CELLAR_CH_STATUS.USTATE (tInst t) u
  | _ => s

/-- A unit changes state (R436), for a cause of R443: 0 steeping or reset, 1 doze policy or traffic, 2 command, 3 fault,
4 mode change. -/
def State.setUst (s : State) (t u cause : Nat) : State :=
  (s.setUnit t { s.unit t with ust := u, cause := cause }).showUst t u

/-- A unit becomes RETIRED: recorded in the always-on domain (R437). -/
def State.retire (s : State) (t cause : Nat) : State :=
  let s := s.setUst t uRETIRED cause
  if s.retired.contains t then s else { s with retired := t :: s.retired }

/-- A recovery takes or frees a unit (R32, R443). -/
def State.setHeld (s : State) (t : Nat) (h : Bool) : State := s.setUnit t { s.unit t with held := h }

/-- The MAC of an Ethernet port sends a frame of these bytes, DA to FCS: every frame counts (R140). -/
def State.macSend (s : State) (p : Nat) (bytes : List Nat) (stomp : Bool) : State :=
  ((s.emit (.frameTx p bytes stomp)).bump .TX_FRAMES p).bump .TX_BYTES p bytes.length

/-! ## Events (R491 to R496) -/

/-- The collector source of an event (R491). -/
def srcOf (code t : Nat) : Nat :=
  let i := tInst t
  if code = 0x0101 then 0
  else if (code = 0x0601 ∨ code = 0x0708) ∧ tCls t = 6 then 41
  else match tCls t with
  | 0 => 0
  | 1 => 6 + i
  | 2 => 6 + i / 8
  | 3 => 14 + i / 64
  | 4 => if i < 512 then 6 + i / 64 else if i = 512 then 4 else if i = 513 then 0
         else if i < 578 then 34 + (i - 514) / 16 else 6 + (i - 578)
  | 5 => 6 + i / 8
  | 6 => if i = 0 then 30 else 30 + (i - 1)
  | 7 => 30 + bankQuad i
  | 8 => if i < 0x100 then 34 + engineQuad i else 34 + (i - 0x100)
  | 9 => 38
  | 10 => 1
  | 11 => 2
  | 12 => 3
  | 13 => 5
  | 14 => 22 + i / 16
  | _ => 0

/-- The number of SIRC cycles (4.096 MHz) in a time of `ns`. -/
def sircCycles (ns : Nat) : Nat := ns * 4096 / 1000000

/-- A block reports an event: it waits in the block's 4-event FIFO toward the collector, or is dropped and counted where
that FIFO is full (R492). -/
def State.deliver (s : State) (e : FltEv) : State :=
  if 4 ≤ (s.flt.waiting.filter (fun w => w.ev.src == e.src)).length then
    s.satFld FLT_SRC_CNT.LOST e.src 1
  else
    { s with flt.waiting := s.flt.waiting ++ [{ cycle := sircCycles s.now, ev := e }] }

/-- A block reports the event `code` of class `cls` on `target` with `detail`. -/
def State.raise (s : State) (code cls target detail : Nat) (inj : Bool := false) : State :=
  s.deliver { src := srcOf code target, code := code, cls := cls, target := target, detail := detail, inj := inj }

/-- CORRECTED. -/
abbrev kCORRECTED : Nat := 0
/-- RETRIED. -/
abbrev kRETRIED : Nat := 1
/-- RETIRED. -/
abbrev kRETIRED : Nat := 2
/-- DEGRADED. -/
abbrev kDEGRADED : Nat := 3
/-- FATAL. -/
abbrev kFATAL : Nat := 4

/-! ## Permanence (R500) -/

/-- Count one error of mechanism `mech` on `target` toward permanence. -/
def State.notePerm (s : State) (target mech : Nat) (inj : Bool := false) : State :=
  { s with flt.perm := { target := target, mech := mech, time := s.now, inj := inj } :: s.flt.perm }

/-- How many errors of `mech` on `target` lie in the last `window` ns. -/
def State.permCount (s : State) (target mech window : Nat) : Nat :=
  (s.flt.perm.filter (fun e => e.target == target && e.mech == mech && decide (s.now < e.time + window))).length

/-- Whether one of the errors counted was planted: its consequences carry INJ (R508). -/
def State.permInj (s : State) (target mech window : Nat) : Bool :=
  s.flt.perm.any (fun e => e.target == target && e.mech == mech && decide (s.now < e.time + window) && e.inj)

/-- One millisecond in ns. -/
abbrev msNs : Nat := 1000000
/-- One microsecond in ns. -/
abbrev usNs : Nat := 1000

/-- A planted error is met for the last time, or its storage is written again. -/
def State.unplant (s : State) (e : Planted) : State := { s with flt.planted := s.flt.planted.filter (fun x => x != e) }

/-- The WAIT field of a RETIRED or DEGRADED entry's DETAIL (R499). -/
def withWait (detail waitUs : Nat) : Nat := detail % 2 ^ 20 + Nat.min 4095 waitUs * 2 ^ 20

/-- A recovery that waited for an earlier one begins: its event, made at detection (R28, R493), takes the time it waited in WAIT (R31, R499),
where it still waits for the collector or in the newest history entry it made (DEDUCED: the time is not known earlier). -/
def State.tellWait (s : State) (code target waitUs : Nat) : State :=
  let n := (s.flt.hist.reverse.find? (fun h => h.code == code && h.target == target)).map (·.seq)
  { s with
    flt.waiting := s.flt.waiting.map (fun (w : FltWait) =>
      if w.ev.code = code ∧ w.ev.target = target then { w with ev := { w.ev with detail := withWait w.ev.detail waitUs } } else w),
    flt.hist := if s.flt.waiting.any (fun w => w.ev.code == code && w.ev.target == target) then s.flt.hist
      else s.flt.hist.map (fun (h : HistEnt) => if n = some h.seq then { h with detail := withWait h.detail waitUs } else h) }

/-! ## MSI-X (R41, R71) -/

/-- Raise MSI-X vector `v`: sent, or held in the pending-bit array while the vector's mask bit is set (PRESUMED: the
table layout of PCIe 5.0). -/
def State.msix (s : State) (v : Nat) : State :=
  if bitsAt (s.reg .MSIX_TABLE (4 * v + 3)) 0 1 = 1 then
    s.setReg .MSIX_PBA 0 (setBits (s.reg .MSIX_PBA 0) v 1 1)
  else s.emit (.msix v)

end Sys2Proof.Machine
end

