-- ==== Sys2Proof/Machine/Hash.lean ====
section
/-! DEFINITION. The CRC-32C that every hash and check of the module uses (R549). -/
namespace Sys2Proof.Machine

/-- One input bit of the reflected Castagnoli register (R549, steps 3 and 4). -/
def crcBit (r b : Nat) : Nat := if (r + b) % 2 = 1 then Nat.xor (r / 2) 0x82F63B78 else r / 2

/-- One input byte, least significant bit first. -/
def crcByte (r b : Nat) : Nat := (List.range 8).foldl (fun r i => crcBit r (b / 2 ^ i % 2)) r

/-- The register after a list of bytes, lowest-addressed first, from an initial value; no final inversion. -/
def crcBytes (init : Nat) (bytes : List Nat) : Nat := bytes.foldl crcByte init

/-- CRC-32C with initial value 0xFFFFFFFF and final inversion. -/
def crc32c (bytes : List Nat) : Nat := Nat.xor (crcBytes 0xFFFFFFFF bytes) 0xFFFFFFFF

/-- One input byte of the reflected CRC-32 register of IEEE 802.3 (R141: the Ethernet FCS). -/
def fcsByte (r b : Nat) : Nat :=
  (List.range 8).foldl (fun r i => if (r + b / 2 ^ i % 2) % 2 = 1 then Nat.xor (r / 2) 0xEDB88320 else r / 2) r

/-- The CRC-32 of a frame's bytes, as its FCS carries it, first byte least significant. -/
def fcsOf (bytes : List Nat) : Nat := Nat.xor (bytes.foldl fcsByte 0xFFFFFFFF) 0xFFFFFFFF

/-- The bytes of a bit field of `n` bytes: byte k is bits [8k + 7 : 8k]. -/
def bytesOf (n v : Nat) : List Nat := (List.range n).map (fun k => v / 2 ^ (8 * k) % 256)

/-- The number a list of bytes spells, first byte least significant. -/
def leNat (bs : List Nat) : Nat := bs.foldr (fun b r => b % 256 + 256 * r) 0

/-- The number a list of bytes spells, first byte most significant (network order). -/
def beNat (bs : List Nat) : Nat := bs.foldl (fun r b => r * 256 + b % 256) 0

/-- The bytes of a number in network order. -/
def beBytes (n v : Nat) : List Nat := (bytesOf n v).reverse

/-- The bytes of words, each lowest byte first. -/
def wordBytes (ws : List Word) : List Nat := ws.flatMap (fun w => bytesOf 4 w.toNat)

end Sys2Proof.Machine
end

