-- ==== Sys2Proof/Machine/Perf.lean ====
section
/-! DEFINITION. Performance counters as their events meet them (R382, R383): a programmable counter of a running set adds each
occurrence of the event it selects, and sets its OVF bit as it wraps. -/
namespace Sys2Proof.Machine

/-- A counter set (R382): its counters' register and the index of counter 0, its event and enable fields, its RUN and OVF
fields with the set's index, how many programmable counters it has. -/
structure PerfSet where
  cnt  : Reg
  base : Nat
  ev   : Fld
  en   : Fld
  run  : Fld
  ovf  : Fld
  done : Fld
  idx  : Nat
  n    : Nat
  deriving DecidableEq, Repr

/-- The set of physical pipe `p`. -/
def pipeSet (p : Nat) : PerfSet :=
  ⟨.PPERF_CNT, p * 8, PPERF_SEL.EVENT, PPERF_SEL.EN, PPERF_STATUS.RUN, PPERF_STATUS.OVF, PPERF_STATUS.DONE, p, 8⟩
/-- The set of bough `b`. -/
def boughSet (b : Nat) : PerfSet :=
  ⟨.BPERF_CNT, b * 4, BPERF_SEL.EVENT, BPERF_SEL.EN, BPERF_STATUS.RUN, BPERF_STATUS.OVF, BPERF_STATUS.DONE, b, 4⟩
/-- The Tun's sets: 0 to 3 the quadrants, 4 to 7 the Grist groups, 8 the Cellar. -/
def tunSet (k : Nat) : PerfSet :=
  ⟨.PERF_CNT, k * 4, PERF_SEL.EVENT, PERF_SEL.EN, PERF_STATUS.RUN, PERF_STATUS.OVF, PERF_STATUS.DONE, k, 4⟩

/-- The counters of a set as they stand: the cycle counter, then the programmable ones, two words each. -/
def State.perfLive (s : State) (p : PerfSet) (cyc : Reg) : List Word :=
  let two := fun (n : Nat) => [lo32 n, hi32 n]
  two (s.cnt cyc p.idx) ++ (List.range p.n).flatMap (fun k => two (s.cnt p.cnt (p.base + k)))

/-- One counter of a set adds `n`; it wraps at 48 bits and sets its OVF bit (R382). -/
def State.perfAdd (s : State) (p : PerfSet) (i n : Nat) : State :=
  let v := s.cnt p.cnt (p.base + i) + n
  let s := s.setCnt p.cnt (p.base + i) v
  if 2 ^ 48 ≤ v then s.setFld ⟨p.ovf.reg, p.ovf.lo + i, 1⟩ p.idx 1 else s

/-- An event of code `code` occurs `n` times in the unit of set `p`. -/
def State.perf (s : State) (p : PerfSet) (code : Nat) (n : Nat := 1) : State :=
  if s.flag p.run p.idx = false ∨ n = 0 then s
  else eachIn (List.range p.n) s (fun s i =>
    if s.flag p.en (p.base + i) && s.fld p.ev (p.base + i) == code then s.perfAdd p i n else s)

end Sys2Proof.Machine
end

