-- ==== Sys2Proof/Machine/Records.lean ====
section
/-! DEFINITION. What the Tun counts and records of each frame: queue counters and histograms (R365, R366), sap and trace
records (R371 to R373), losses of records (R377, R378). -/
namespace Sys2Proof.Machine

/-- A frame of the Tun by its id. -/
def State.tframe (s : State) (i : Nat) : TFrame := tabGet s.tun.frames (i, 0) {}
/-- Write it. -/
def State.setTframe (s : State) (i : Nat) (f : TFrame) : State := { s with tun.frames := tabSet s.tun.frames (i, 0) f {} }
/-- A queue's list. -/
def State.tqueue (s : State) (q : Nat) : TQueue := tabGet s.tun.queues (q, 0) {}
/-- Write it. -/
def State.setTqueue (s : State) (q : Nat) (v : TQueue) : State := { s with tun.queues := tabSet s.tun.queues (q, 0) v {} }
/-- An export stream. -/
def State.stream (s : State) (i : Nat) : Stream := tabGet s.streams (i, 0) {}
/-- Write it. -/
def State.setStream (s : State) (i : Nat) (v : Stream) : State := { s with streams := tabSet s.streams (i, 0) v {} }

/-- D: a queue's depth in cells, racked blocks included (R352). -/
def State.depth (s : State) (q : Nat) : Nat := s.fld TUN_Q_LEN.LEN q + 16 * s.fld CELLAR_Q_BLOCKS.BLOCKS q

/-- The queues that have a scheduler, counters and a histogram: those of ports 0 to 513 and 578 to 585 (R339, R365). -/
def queueServed (q : Nat) : Bool := q / 16 ≤ 513 || (578 ≤ q / 16 && q / 16 ≤ 585)

/-- A META bit of a frame (R175). -/
def metaBit (f : TFrame) (i : Nat) : Bool := nbit f.fmeta i

/-- IN_TS as 64 bits: the value within 2^31 ns of TOD (R156). -/
def extTs (tod ts : Nat) : Nat :=
  let v := tod - tod % 2 ^ 32 + ts % 2 ^ 32
  if tod + 2 ^ 31 < v then v - 2 ^ 32 else if v + 2 ^ 31 < tod then v + 2 ^ 32 else v

/-- A time after IN_TS as a 32-bit offset that saturates (R373). -/
def tsOff (base t : Nat) : Nat := Nat.min (2 ^ 32 - 1) (t - base)

/-- How long a frame has been in the Tun, in ns, 0 where a set or step makes it negative (R364). ENQ_TS is 32 bits wide. -/
def State.sojourn (s : State) (f : TFrame) : Nat :=
  let d := (s.tod + 2 ^ 32 - f.enqTs % 2 ^ 32) % 2 ^ 32
  if s.tod < f.arrive then 0 else d

/-! ## Losses of records (R377) -/

/-- Sequence number `a` comes before `b`, mod 2^32. -/
def seqBefore (a b : Nat) : Bool := decide (2 ^ 31 < (a + 2 ^ 32 - b % 2 ^ 32) % 2 ^ 32)

/-- A gap record's span after a further loss merges into it: numbered ranges widen to the smallest that covers both. -/
def gapMerge (g h : Gap) : Gap :=
  if g.kind = 0 then { g with lost := g.lost + h.lost, last := h.last }
  else
    let lo := if seqBefore h.firstSeq g.firstSeq then h.firstSeq else g.firstSeq
    let hi := if seqBefore g.lastSeq h.lastSeq then h.lastSeq else g.lastSeq
    let n := g.lost + h.lost
    { g with
      lost := n, last := h.last, firstSeq := lo, lastSeq := hi,
      span := g.span || decide (n < (hi + 1 + 2 ^ 32 - lo % 2 ^ 32) % 2 ^ 32) }

/-- A loss of a stream merges into the pending gap record of its KIND, or opens it (R377). -/
def State.gapAdd (s : State) (i : Nat) (h : Gap) : State :=
  let v := s.stream i
  let gaps := if v.gaps.any (fun g => g.kind == h.kind) then v.gaps.map (fun g => if g.kind = h.kind then gapMerge g h else g)
    else v.gaps ++ [h]
  let at_ := if v.gaps.any (fun g => g.kind == h.kind) then v.gapAt else v.gapAt ++ [s.now]
  let s := (s.setStream i { v with gaps := gaps, gapAt := at_ }).ev TELEM_EVENT.LOSS
  s.setFld TELEM_STR_STATUS.GAP i 1

/-- `n` records of a stream are lost unnumbered. -/
def State.lostUnnumbered (s : State) (i n : Nat) : State :=
  if n = 0 then s else s.gapAdd i ⟨0, n, s.tod, s.tod, 0, 0, false⟩

/-- The bytes a stream's backlog holds: 64 KiB on-die and BACKLOG_MIB in the Cellar (R378). -/
def backlogRoom (v : Stream) : Nat := 65536 + v.backlog * 2 ^ 20

/-- Show how many records wait. -/
def State.showBacklog (s : State) (i : Nat) : State := s.setFld TELEM_STR_STATUS.BACKLOG i (s.stream i).recs.length

/-- A record enters the stream of queue `q`, if that stream is enabled; one that finds the backlog full is lost (R371,
R378), as is one longer than an export frame of the stream may hold (DESIGN CHOICE). -/
def State.putRecord (s : State) (q : Nat) (rec : List Nat) : State :=
  let i := s.fld TELEM_Q_CFG.STREAM q
  if s.flag TELEM_STR_STATUS.EN i = false then s
  else
    let v := s.stream i
    let s := s.perf (tunSet 0) 0x186
    if backlogRoom v < sumN (v.recs.map List.length) + rec.length ∨ v.maxB < rec.length then
      (s.bump .TELEM_REC_LOST).lostUnnumbered i 1
    else
      (s.setStream i { v with recs := v.recs ++ [rec], recAt := v.recAt ++ [s.now] }).showBacklog i

/-! ## Records (R372, R373) -/

/-- A sap record. -/
def State.sapBytes (s : State) (f : TFrame) (cause reason soj : Nat) : List Nat :=
  beBytes 2 (s.fld ⟨.GLB_DEV_ID, 0, 16⟩) ++
  [0x11, cause % 16 + f.color % 4 * 16 + b2n f.ct * 64 + b2n f.ce * 128] ++
  beBytes 2 f.inPort ++ beBytes 2 f.qid ++ beBytes 8 (extTs s.tod f.inTs) ++ beBytes 4 (Nat.min (2 ^ 32 - 1) soj) ++
  beBytes 4 (s.depth f.qid) ++ beBytes 2 f.bytes.length ++ [reason, f.pin] ++ beBytes 4 f.fmeta

/-- A trace record. A frame that was refused (ARRIVE 0 in its record) or never linked has no such moment: its offset is a free
value. -/
def State.traceBytes (s : State) (f : TFrame) (reason : Nat) : List Nat :=
  let base := extTs s.tod f.inTs
  let dropped := reason != 0
  beBytes 2 (s.fld ⟨.GLB_DEV_ID, 0, 16⟩) ++
  [0x12, b2n f.ct + b2n f.hr * 2 + b2n dropped * 4 + b2n (metaBit f 17) * 8 + b2n f.racked * 16 + b2n f.ce * 32
    + f.color % 4 * 64] ++
  beBytes 2 f.inPort ++ beBytes 2 f.qid ++ beBytes 8 base ++ beBytes 4 (tsOff base (if f.arrive = 0 then s.tod else f.arrive)) ++
  beBytes 4 (if f.arrive = 0 then s.free % 2 ^ 32 else tsOff base f.arrive) ++
  beBytes 4 (if f.link = 0 then s.free / 2 ^ 32 % 2 ^ 32 else tsOff base f.link) ++ beBytes 4 (tsOff base (if dropped then s.tod else f.pick)) ++
  beBytes 4 (if dropped then 0 else tsOff base s.tod) ++ beBytes 2 f.bytes.length ++
  [f.writer % 128, if dropped then 0xFF else f.dnClus % 128] ++ beBytes 4 f.depthIn ++ beBytes 4 (s.depth f.qid) ++
  beBytes 4 f.freeIn ++ beBytes 2 (if dropped then 0 else f.pseq) ++ [reason, 0] ++ beBytes 4 f.fmeta ++ [f.pin, 0, 0, 0]

/-- The sap record of a frame that is picked and sent (R371). -/
def State.recordPick (s : State) (f : TFrame) (soj : Nat) : State :=
  let th := s.fld ⟨.TELEM_Q_SOJ_TH, 0, 32⟩ f.qid
  if f.exp ≠ [] then s
  else if th ≠ 0 ∧ th ≤ soj then s.putRecord f.qid (s.sapBytes f 2 0 soj)
  else if metaBit f 18 && s.flag TELEM_Q_CFG.SAP_EN f.qid then s.putRecord f.qid (s.sapBytes f 1 0 soj)
  else s

/-- The trace record of a frame that has been read for DN (R371). -/
def State.recordTrace (s : State) (f : TFrame) : State :=
  if f.exp = [] ∧ metaBit f 19 = true then s.drawn.putRecord f.qid (s.traceBytes f 0) else s

/-- The loss of an export frame is reported to the exporter (R377). -/
def State.lostExport (s : State) (f : TFrame) : State :=
  match f.exp with
  | [i, first, n] => { s with expLost := s.expLost ++ [(i, first, n)] }
  | _ => s

/-- A frame is refused or discarded in the Tun for a reason of R372: the queue's drop counters (R366), its records, and for
an export frame the report to the exporter (R377). -/
def State.tunDrop (s : State) (f : TFrame) (reason : Nat) : State :=
  let s := if queueServed f.qid then (s.bump .TELEM_Q_C4 f.qid).bump .TELEM_Q_C5 f.qid f.bytes.length else s
  if f.exp ≠ [] then s.lostExport f
  else
    let soj := if f.arrive = 0 then 0 else s.sojourn f
    let s := if (metaBit f 18 && s.flag TELEM_Q_CFG.SAP_EN f.qid) || s.flag TELEM_Q_CFG.DROP_ALL f.qid then
        s.putRecord f.qid (s.sapBytes f 3 reason soj)
      else s
    if metaBit f 19 then s.drawn.putRecord f.qid (s.traceBytes f reason) else s

/-- The histogram bin of a sojourn in ns (R365). -/
def sojBin (soj : Nat) : Nat :=
  if soj < 64 then 0 else Nat.min 15 (Nat.log2 (soj / 64) + 1)

/-- A frame is picked and sent: the queue's counters and histogram (R365, R366). -/
def State.countSent (s : State) (f : TFrame) (soj : Nat) : State :=
  let s := (s.bump .TELEM_Q_C2 f.qid).bump .TELEM_Q_C3 f.qid f.bytes.length
  s.bump .TELEM_Q_HIST (f.qid * 16 + sojBin soj)

end Sys2Proof.Machine
end

