-- ==== Sys2Proof/Machine/Operands.lean ====
section
/-! DEFINITION. The operands of a command packet: its header flags (R43), its INDIRECT descriptor (R44), its parameter
words, the space for its results (R45), and its words as the service port carries them (R42, R64). -/
namespace Sys2Proof.Machine

/-- FLAGS.FENCE (R43). -/
def fenceFlag (p : Packet) : Bool := nbit p.flags 0
/-- FLAGS.ASYNC_OK. -/
def asyncOk (p : Packet) : Bool := nbit p.flags 1
/-- FLAGS.INDIRECT. -/
def indirect (p : Packet) : Bool := nbit p.flags 2
/-- FLAGS.NO_REPLY. -/
def noReply (p : Packet) : Bool := nbit p.flags 3

/-- Word `i` after the header, zero where the entry holds none. -/
def inlWord (p : Packet) (i : Nat) : Word := p.inl.getD i 0

/-- PADDR of the INDIRECT descriptor (R44). -/
def descPaddr (p : Packet) : Nat := (inlWord p 0).toNat + (inlWord p 1).toNat * 2 ^ 32
/-- PWORDS. -/
def descPwords (p : Packet) : Nat := (inlWord p 2).toNat
/-- RADDR. -/
def descRaddr (p : Packet) : Nat := (inlWord p 3).toNat + (inlWord p 4).toNat * 2 ^ 32
/-- RWORDS. -/
def descRwords (p : Packet) : Nat := (inlWord p 5).toNat

/-- The parameter count: PLEN, or PWORDS with INDIRECT (R49). -/
def parCount (p : Packet) : Nat := if indirect p then descPwords p else p.plen

/-- Parameter word `i`: inline, or from the parameter buffer. -/
def par (p : Packet) (i : Nat) : Word := if indirect p then p.pbuf.getD i 0 else inlWord p i

/-- Parameter word `i` as a number. -/
def parN (p : Packet) (i : Nat) : Nat := (par p i).toNat

/-- A field of parameter word `i`. -/
def parF (p : Packet) (i lo n : Nat) : Nat := bitsAt (par p i) lo n

/-- Whether parameter word `i` is present (optional words, R129). -/
def hasPar (p : Packet) (i : Nat) : Bool := decide (i < parCount p)

/-- The parameter words from `i` on, `n` of them. -/
def parWords (p : Packet) (i n : Nat) : List Word := (List.range n).map (fun k => par p (i + k))

/-- The bits of parameter word `i` outside `mask` are zero. -/
def onlyBits (p : Packet) (i mask : Nat) : Bool := (par p i &&& ~~~(BitVec.ofNat 32 mask)) == 0

/-- The space for result words: the result buffer, else 12 inline words on the rings (R45); the service port has no
limit (R46). -/
def resultSpace (p : Packet) : Option Nat :=
  if indirect p && descRwords p != 0 then some (descRwords p)
  else if p.chan = 0 then some 12 else none

/-- The four header words of a packet (R42). -/
def headerWords (p : Packet) : List Word :=
  [wd (p.ver % 256 * 2 ^ 24 + p.flags % 256 * 2 ^ 16 + p.opcode % 65536),
   wd (p.tag % 65536 * 2 ^ 16 + p.plen % 65536),
   wd (p.target % 65536 * 2 ^ 16 + p.rsvB % 65536),
   wd (p.ctx % 65536 * 2 ^ 16 + p.rsvC % 65536)]

/-- A packet's words as a service-port frame carries them (R64): the header and PLEN parameter words. -/
def frameWords (p : Packet) : List Word := headerWords p ++ p.inl

/-- The packet that a service-port frame's body spells (R42). -/
def packetOf (ws : List Word) : Packet :=
  let h := fun i => ws.getD i 0
  { chan := 1, ver := bitsAt (h 0) 24 8, flags := bitsAt (h 0) 16 8, opcode := bitsAt (h 0) 0 16,
    tag := bitsAt (h 1) 16 16, plen := bitsAt (h 1) 0 16, target := bitsAt (h 2) 16 16, rsvB := bitsAt (h 2) 0 16,
    ctx := bitsAt (h 3) 16 16, rsvC := bitsAt (h 3) 0 16, inl := ws.drop 4 }

/-- The instances a TARGET names in its class: itself, or every one for 0xFFF (R10). -/
def instances (t n : Nat) : List Nat := if tInst t = 0xFFF then List.range n else [tInst t]

/-- A value the environment supplies to a running command (`env`), zero where none is given. -/
def envAt (p : Packet) (i : Nat) : Nat := p.env.getD i 0

end Sys2Proof.Machine
end

