-- ==== Sys2Proof/Machine/Flags.lean ====
section
/-! DEFINITION. What a command answers with and when it is refused: the status codes (R47), the opcode table (R60), and
the acceptance checks of R49, steps 1 to 8. -/
namespace Sys2Proof.Machine

/-! ## Status codes (R47) -/

/-- E_OPCODE. -/
abbrev eOPCODE : Nat := 0x0101
/-- E_PARAM. -/
abbrev ePARAM : Nat := 0x0102
/-- E_LEN. -/
abbrev eLEN : Nat := 0x0103
/-- E_TARGET. -/
abbrev eTARGET : Nat := 0x0104
/-- E_STATE. -/
abbrev eSTATE : Nat := 0x0105
/-- E_BUSY. -/
abbrev eBUSY : Nat := 0x0106
/-- E_RESOURCE. -/
abbrev eRESOURCE : Nat := 0x0107
/-- E_LOCKED. -/
abbrev eLOCKED : Nat := 0x0108
/-- E_PRIV. -/
abbrev ePRIV : Nat := 0x0109
/-- E_TIMEOUT. -/
abbrev eTIMEOUT : Nat := 0x010A
/-- E_NOT_READY. -/
abbrev eNOTREADY : Nat := 0x010B
/-- E_INTEGRITY. -/
abbrev eINTEGRITY : Nat := 0x0201
/-- E_SIGNATURE. -/
abbrev eSIGNATURE : Nat := 0x0202
/-- E_HW. -/
abbrev eHW : Nat := 0x0301
/-- PENDING. -/
abbrev ePENDING : Nat := 0x8000

/-- An OK reply with result words. -/
def ok (results : List Word := []) (detail : Nat := 0) : Rep := { results := results, detail := detail }
/-- A refusal, or another final status. -/
def refuse (status : Nat) (detail : Nat := 0) : Rep := { status := status, detail := detail }
/-- A refusal to which no chapter gives a DETAIL (R48). -/
def deny (status : Nat) : Rep := { status := status, anyDetail := true }
/-- The command goes on; an event gives its final reply. -/
def laterRep : Rep := { later := true }

/-! ## The opcode table (R60) -/

/-- A class and the instances of it that a command accepts; `all` where 0xFFF is accepted too ("+"). -/
structure TgtRule where
  cls : Nat
  lo  : Nat
  hi  : Nat
  all : Bool
  deriving DecidableEq, Repr

/-- One row of R60, with the parameter count its owning chapter gives (65,536 for no bound below R44's). -/
structure OpInfo where
  code   : Nat
  tgts   : List TgtRule
  modes  : List Nat
  async  : Bool
  lenMin : Nat
  lenMax : Nat
  deriving DecidableEq, Repr

/-- ALL. -/
def modesALL : List Nat := [0, 1, 2, 3, 4, 5]
/-- NR. -/
def modesNR : List Nat := [0, 2, 3, 4, 5]
/-- UP. -/
def modesUP : List Nat := [2, 3, 4, 5]
/-- RUN. -/
def modesRUN : List Nat := [2, 3, 4]
/-- CFG. -/
def modesCFG : List Nat := [2, 4]
/-- SD. -/
def modesSD : List Nat := [3, 4]
/-- SRV. -/
def modesSRV : List Nat := [3]
/-- TST. -/
def modesTST : List Nat := [5]

/-- Every instance of the classes from `c` to 0xE. -/
def anyClass (c : Nat) (all : Bool) : List TgtRule :=
  ((List.range 15).filter (fun k => c ≤ k)).map (fun k => ⟨k, 0, 4095, all⟩)

/-- The opcode table of R60, part 1: opcode, TARGETs, modes, Async, the parameter count its owning chapter gives. -/
def opTable0 : List OpInfo := [
  { code := 0x0000, tgts := [⟨0, 0, 0, false⟩], modes := modesALL, async := false, lenMin := 0, lenMax := 0 },  -- NOP
  { code := 0x0001, tgts := [⟨0, 0, 0, false⟩], modes := modesALL, async := false, lenMin := 0, lenMax := 0 },  -- IDENTIFY
  { code := 0x0002, tgts := [⟨0, 0, 0, false⟩], modes := modesNR, async := true, lenMin := 1, lenMax := 1 },  -- SET_MODE
  { code := 0x0003, tgts := [⟨0, 0, 0, false⟩], modes := modesUP, async := false, lenMin := 0, lenMax := 0 },  -- SNAPSHOT
  { code := 0x0004, tgts := [⟨0, 0, 0, false⟩], modes := modesUP, async := false, lenMin := 0, lenMax := 0 },  -- FENCE
  { code := 0x0005, tgts := anyClass 0 false, modes := modesALL, async := false, lenMin := 0, lenMax := 0 },  -- GET_STATUS
  { code := 0x0101, tgts := [⟨4, 0, 511, false⟩], modes := modesUP, async := true, lenMin := 1, lenMax := 3 },  -- PORT_CFG
  { code := 0x0102, tgts := [⟨4, 0, 511, true⟩], modes := modesUP, async := true, lenMin := 1, lenMax := 1 },  -- PORT_ENABLE
  { code := 0x0103, tgts := [⟨4, 0, 511, false⟩], modes := modesUP, async := false, lenMin := 0, lenMax := 0 },  -- PORT_STATUS
  { code := 0x0104, tgts := [⟨3, 0, 4095, false⟩], modes := modesUP, async := false, lenMin := 1, lenMax := 4 },  -- LANE_CFG
  { code := 0x0105, tgts := [⟨3, 0, 4095, true⟩], modes := modesTST, async := false, lenMin := 1, lenMax := 4 },  -- LANE_TEST
  { code := 0x0106, tgts := [⟨3, 0, 4095, false⟩], modes := modesUP, async := true, lenMin := 3, lenMax := 3 },  -- EYE_SCAN
  { code := 0x0107, tgts := [⟨3, 0, 4095, true⟩], modes := modesUP, async := false, lenMin := 0, lenMax := 0 },  -- LANE_FOM
  { code := 0x0108, tgts := [⟨4, 0, 511, true⟩], modes := modesUP, async := false, lenMin := 1, lenMax := 6 },  -- PFC_CFG
  { code := 0x0109, tgts := [⟨4, 0, 511, false⟩, ⟨0, 0, 4095, false⟩], modes := modesUP, async := false, lenMin := 1, lenMax := 2 },  -- PTP_CFG
  { code := 0x0201, tgts := [⟨1, 0, 4095, true⟩], modes := modesCFG, async := true, lenMin := 2, lenMax := 18 },  -- TBL_PROFILE
  { code := 0x0202, tgts := [⟨1, 0, 4095, true⟩], modes := modesRUN, async := false, lenMin := 1, lenMax := 65536 },  -- TBL_INSERT
  { code := 0x0203, tgts := [⟨1, 0, 4095, true⟩], modes := modesRUN, async := false, lenMin := 1, lenMax := 40961 },  -- TBL_DELETE
  { code := 0x0204, tgts := [⟨1, 0, 4095, false⟩], modes := modesRUN, async := false, lenMin := 1, lenMax := 641 },  -- TBL_LOOKUP
  { code := 0x0205, tgts := [⟨1, 0, 4095, false⟩], modes := modesRUN, async := true, lenMin := 5, lenMax := 5 }  -- TBL_DMA
  ]

/-- The opcode table of R60, part 2: opcode, TARGETs, modes, Async, the parameter count its owning chapter gives. SPILL_CFG takes
CELLAR 0xFFF, as R337 says and the table's TARGET column does not (DESIGN CHOICE). -/
def opTable1 : List OpInfo := [
  { code := 0x0206, tgts := [⟨1, 0, 4095, true⟩], modes := modesRUN, async := true, lenMin := 6, lenMax := 6 },  -- TBL_AUDIT
  { code := 0x0207, tgts := [⟨1, 0, 4095, false⟩], modes := modesRUN, async := false, lenMin := 3, lenMax := 3 },  -- TBL_LOCK
  { code := 0x0208, tgts := [⟨1, 0, 4095, true⟩], modes := modesRUN, async := false, lenMin := 1, lenMax := 1 },  -- TBL_LEARN_CFG
  { code := 0x0209, tgts := [⟨1, 0, 4095, true⟩], modes := modesRUN, async := false, lenMin := 1, lenMax := 4097 },  -- ECMP_GROUP_SET
  { code := 0x020A, tgts := [⟨1, 0, 4095, true⟩], modes := modesRUN, async := false, lenMin := 1, lenMax := 8193 },  -- ECMP_MEMBER_SET
  { code := 0x020B, tgts := [⟨1, 0, 4095, true⟩], modes := modesRUN, async := false, lenMin := 2, lenMax := 6 },  -- HASH_CFG
  { code := 0x0301, tgts := [⟨5, 0, 4095, false⟩], modes := modesRUN, async := false, lenMin := 1, lenMax := 22529 },  -- CLS_WRITE
  { code := 0x0302, tgts := [⟨5, 0, 4095, false⟩], modes := modesUP, async := false, lenMin := 1, lenMax := 1 },  -- CLS_READ
  { code := 0x0303, tgts := [⟨5, 0, 4095, false⟩], modes := modesRUN, async := true, lenMin := 2, lenMax := 32770 },  -- CLS_TREE_LOAD
  { code := 0x0304, tgts := [⟨5, 0, 4095, true⟩], modes := modesRUN, async := false, lenMin := 1, lenMax := 20481 },  -- METER_CFG
  { code := 0x0305, tgts := [⟨5, 0, 4095, false⟩], modes := modesUP, async := false, lenMin := 1, lenMax := 1 },  -- METER_READ
  { code := 0x0401, tgts := [⟨6, 0, 0, false⟩], modes := modesRUN, async := false, lenMin := 6, lenMax := 6 },  -- POOL_CFG
  { code := 0x0402, tgts := [⟨4, 0, 513, true⟩, ⟨4, 578, 585, false⟩], modes := modesRUN, async := false, lenMin := 3, lenMax := 3 },  -- QUEUE_CFG
  { code := 0x0403, tgts := [⟨4, 0, 513, true⟩, ⟨4, 578, 585, false⟩], modes := modesRUN, async := false, lenMin := 2, lenMax := 2 },  -- SCHED_CFG
  { code := 0x0404, tgts := [⟨4, 0, 513, true⟩, ⟨4, 578, 585, false⟩], modes := modesRUN, async := false, lenMin := 6, lenMax := 6 },  -- SHAPER_CFG
  { code := 0x0405, tgts := [⟨4, 0, 513, true⟩, ⟨4, 578, 585, false⟩], modes := modesRUN, async := false, lenMin := 8, lenMax := 8 },  -- WRED_CFG
  { code := 0x0406, tgts := [⟨4, 0, 511, true⟩], modes := modesRUN, async := false, lenMin := 3, lenMax := 4 },  -- PFC_WD_CFG
  { code := 0x0407, tgts := [⟨4, 0, 511, true⟩], modes := modesRUN, async := false, lenMin := 1, lenMax := 1 },  -- QHOLD_CFG
  { code := 0x0408, tgts := [⟨6, 0, 0, false⟩, ⟨9, 0, 4095, true⟩], modes := modesRUN, async := false, lenMin := 2, lenMax := 5 },  -- SPILL_CFG
  { code := 0x0409, tgts := [⟨4, 0, 513, false⟩, ⟨4, 578, 585, false⟩], modes := modesUP, async := false, lenMin := 1, lenMax := 1 }  -- HWM_READ
  ]

/-- The opcode table of R60, part 3: opcode, TARGETs, modes, Async, the parameter count its owning chapter gives. -/
def opTable2 : List OpInfo := [
  { code := 0x0501, tgts := [⟨0, 0, 0, false⟩], modes := modesRUN, async := false, lenMin := 4, lenMax := 20 },  -- TELEM_STREAM_CFG
  { code := 0x0502, tgts := [⟨5, 0, 4095, true⟩], modes := modesRUN, async := false, lenMin := 1, lenMax := 4097 },  -- SAP_FLAG
  { code := 0x0503, tgts := [⟨5, 0, 4095, false⟩, ⟨4, 0, 513, false⟩, ⟨4, 578, 585, false⟩], modes := modesUP, async := false, lenMin := 2, lenMax := 3 },  -- TELEM_READ
  { code := 0x0504, tgts := [⟨5, 0, 4095, true⟩], modes := modesRUN, async := false, lenMin := 1, lenMax := 1 },  -- TAG_CFG
  { code := 0x0505, tgts := [⟨5, 0, 4095, true⟩], modes := modesRUN, async := false, lenMin := 1, lenMax := 6 },  -- IOAM_CFG
  { code := 0x0506, tgts := [⟨5, 0, 4095, false⟩, ⟨1, 0, 4095, false⟩, ⟨6, 1, 4, false⟩, ⟨8, 256, 259, false⟩, ⟨9, 0, 0, false⟩], modes := modesUP, async := false, lenMin := 1, lenMax := 9 },  -- PERF_CFG
  { code := 0x0507, tgts := [⟨5, 0, 4095, true⟩, ⟨1, 0, 4095, true⟩, ⟨6, 1, 4, true⟩, ⟨8, 256, 259, true⟩, ⟨9, 0, 0, true⟩], modes := modesUP, async := false, lenMin := 0, lenMax := 0 },  -- PERF_READ
  { code := 0x0601, tgts := [⟨8, 256, 259, false⟩], modes := modesSRV, async := true, lenMin := 8, lenMax := 208 },  -- GRIST_GROUP_OPEN
  { code := 0x0602, tgts := [⟨8, 256, 259, false⟩], modes := modesSD, async := true, lenMin := 1, lenMax := 1 },  -- GRIST_GROUP_CLOSE
  { code := 0x0603, tgts := [⟨8, 0, 4095, false⟩], modes := modesUP, async := false, lenMin := 0, lenMax := 1 },  -- GRIST_GROUP_STATUS
  { code := 0x0701, tgts := [⟨11, 0, 0, false⟩], modes := modesSRV, async := false, lenMin := 3, lenMax := 3 },  -- PWR_HINT
  { code := 0x0702, tgts := [⟨11, 0, 0, false⟩], modes := modesSRV, async := false, lenMin := 1, lenMax := 1 },  -- PWR_OPP
  { code := 0x0703, tgts := [⟨11, 0, 0, false⟩], modes := modesUP, async := false, lenMin := 1, lenMax := 1 },  -- PWR_CAP
  { code := 0x0704, tgts := [⟨11, 0, 4095, true⟩], modes := modesUP, async := false, lenMin := 0, lenMax := 0 },  -- PWR_STATUS
  { code := 0x0705, tgts := [⟨11, 0, 0, false⟩], modes := modesUP, async := false, lenMin := 1, lenMax := 17 },  -- PWR_PRIV
  { code := 0x0801, tgts := [⟨10, 0, 4095, false⟩], modes := modesUP, async := true, lenMin := 1, lenMax := 1 },  -- CLK_SWITCH
  { code := 0x0802, tgts := [⟨10, 0, 4095, false⟩], modes := modesUP, async := true, lenMin := 1, lenMax := 1 },  -- CLK_TRIM
  { code := 0x0803, tgts := [⟨10, 0, 4095, true⟩], modes := modesUP, async := false, lenMin := 0, lenMax := 0 },  -- CLK_STATUS
  { code := 0x0901, tgts := [⟨12, 0, 4095, false⟩], modes := modesUP, async := false, lenMin := 0, lenMax := 1 },  -- FLT_ACK
  { code := 0x0902, tgts := [⟨12, 0, 4095, false⟩], modes := modesALL, async := false, lenMin := 1, lenMax := 1 }  -- FLT_HISTORY
  ]

/-- The opcode table of R60, part 4: opcode, TARGETs, modes, Async, the parameter count its owning chapter gives. -/
def opTable3 : List OpInfo := [
  { code := 0x0903, tgts := [⟨12, 0, 4095, false⟩], modes := modesUP, async := false, lenMin := 2, lenMax := 3 },  -- FLT_MASK
  { code := 0x0904, tgts := anyClass 1 false, modes := modesTST, async := false, lenMin := 3, lenMax := 3 },  -- FLT_INJECT
  { code := 0x0A01, tgts := [⟨13, 2, 2, false⟩], modes := modesUP, async := false, lenMin := 64, lenMax := 64 },  -- FW_BEGIN
  { code := 0x0A02, tgts := [⟨13, 2, 2, false⟩], modes := modesUP, async := false, lenMin := 16386, lenMax := 16386 },  -- FW_BLOCK
  { code := 0x0A03, tgts := [⟨13, 2, 2, false⟩], modes := modesUP, async := true, lenMin := 64, lenMax := 64 },  -- FW_VERIFY
  { code := 0x0A04, tgts := [⟨13, 2, 2, false⟩], modes := modesUP, async := true, lenMin := 1, lenMax := 1 },  -- FW_ACTIVATE
  { code := 0x0A05, tgts := [⟨13, 2, 2, false⟩], modes := modesUP, async := false, lenMin := 0, lenMax := 0 },  -- FW_INFO
  { code := 0x0B01, tgts := [⟨1, 0, 4095, false⟩, ⟨6, 0, 0, false⟩], modes := modesRUN, async := true, lenMin := 0, lenMax := 65536 },  -- PROG_LOAD
  { code := 0x0B02, tgts := [⟨1, 0, 4095, false⟩, ⟨6, 0, 0, false⟩], modes := modesRUN, async := false, lenMin := 2, lenMax := 1298 },  -- PROG_PATCH
  { code := 0x0B03, tgts := [⟨1, 0, 4095, false⟩, ⟨6, 0, 0, false⟩], modes := modesCFG, async := false, lenMin := 1, lenMax := 1 },  -- STORE_MODE_SET
  { code := 0x0B04, tgts := [⟨1, 0, 4095, true⟩, ⟨6, 0, 0, false⟩], modes := modesRUN, async := true, lenMin := 1, lenMax := 1 },  -- PROG_ACTIVATE
  { code := 0x0B05, tgts := [⟨1, 0, 4095, false⟩, ⟨6, 0, 0, false⟩], modes := modesUP, async := false, lenMin := 2, lenMax := 2 },  -- PROG_READ
  { code := 0x0C01, tgts := [⟨2, 0, 4095, false⟩, ⟨3, 0, 4095, false⟩, ⟨5, 0, 4095, false⟩, ⟨7, 0, 4095, false⟩, ⟨8, 0, 67, false⟩, ⟨9, 0, 4095, false⟩, ⟨14, 0, 4095, false⟩, ⟨6, 1, 4, false⟩], modes := modesSD, async := true, lenMin := 1, lenMax := 1 },  -- UNIT_GRAFT
  { code := 0x0C02, tgts := [⟨2, 0, 4095, false⟩, ⟨3, 0, 4095, false⟩, ⟨5, 0, 4095, false⟩, ⟨7, 0, 4095, false⟩, ⟨8, 0, 67, false⟩, ⟨9, 0, 4095, false⟩, ⟨14, 0, 4095, false⟩, ⟨6, 1, 4, false⟩], modes := modesSD, async := true, lenMin := 1, lenMax := 1 },  -- UNIT_RESTORE
  { code := 0x0C03, tgts := [⟨2, 0, 4095, false⟩, ⟨3, 0, 4095, false⟩, ⟨5, 0, 4095, false⟩, ⟨7, 0, 4095, false⟩, ⟨8, 0, 67, false⟩, ⟨9, 0, 4095, false⟩, ⟨14, 0, 4095, false⟩, ⟨6, 1, 4, false⟩], modes := modesSD, async := true, lenMin := 1, lenMax := 1 },  -- UNIT_RETIRE
  { code := 0x0C04, tgts := anyClass 1 true, modes := modesUP, async := false, lenMin := 0, lenMax := 0 },  -- UNIT_STATE
  { code := 0x0C05, tgts := [⟨3, 0, 4095, true⟩, ⟨2, 0, 4095, true⟩, ⟨5, 0, 4095, true⟩], modes := modesUP, async := false, lenMin := 1, lenMax := 1 }  -- DOZE_CFG
  ]

/-- The opcode table of R60. -/
def opTable : List OpInfo := List.flatten [opTable0, opTable1, opTable2, opTable3]

/-- The row of an opcode. -/
def opInfo (code : Nat) : Option OpInfo := opTable.find? (fun r => r.code == code)

/-- Whether a TARGET suits a row (R10): its class and a listed instance, or 0xFFF where the row takes it. -/
def targetOk (r : OpInfo) (t : Nat) : Bool :=
  r.tgts.any (fun g => g.cls == tCls t &&
    ((g.lo ≤ tInst t && tInst t ≤ g.hi && listed (tCls t) (tInst t)) || (g.all && tInst t == 0xFFF)))

/-! ## Conflicts (R54) -/

/-- The bough that a TARGET below bough level lies in, for the rule of R54. -/
def inBough (t : Nat) : Option Nat :=
  match tCls t with
  | 2 => if tInst t < 64 then some (tInst t / 8) else none
  | 3 => if tInst t < 512 then some (tInst t / 64) else none
  | 4 => if tInst t < 512 then some (tInst t / 64) else none
  | 5 => if tInst t < 64 then some (tInst t / 8) else none
  | 14 => if tInst t < 128 then some (tInst t / 16) else none
  | _ => none

/-- One direction of the conditions of R54. -/
def conflict1 (a b : Nat) : Bool :=
  a == b || tCls a == 0 || (tInst a == 0xFFF && tCls a == tCls b) ||
  (tCls a == 1 && inBough b == some (tInst a)) ||
  (a == tgt cTUN 0 && ((tCls b == 6 && 1 ≤ tInst b && tInst b ≤ 4) || tCls b == 7 || tCls b == 8 || tCls b == 9))

/-- Whether two commands' TARGETs conflict (R54). -/
def conflicts (a b : Nat) : Bool := conflict1 a b || conflict1 b a

/-! ## Acceptance (R49) -/

/-- A bound of step 5 as DETAIL shows it. -/
def lenShown (n : Nat) : Nat := if 65535 < n then 0xFFFF else n

/-- The DETAIL of an E_LEN of step 5, or of step 9 for a count fixed by word 0. -/
def lenDetail (lo hi : Nat) : Nat := lenShown lo + lenShown hi * 65536

/-- The opcodes the ROM loader answers in RECOVERY (R60, R424). -/
def romOpcode (c : Nat) : Bool := c == 0x0000 || c == 0x0001 || c == 0x0005 || c == 0x0902

/-- The header check of step 3 (R42, R43). -/
def headerOk (p : Packet) : Bool :=
  p.rsvB == 0 && p.rsvC == 0 && p.flags / 16 % 16 == 0 && !(indirect p && p.chan != 0)

/-- The length check of step 5. -/
def lenOk (r : OpInfo) (p : Packet) : Bool :=
  if indirect p then p.plen == 6 && decide (r.lenMin ≤ descPwords p) && decide (descPwords p ≤ r.lenMax)
  else decide (r.lenMin ≤ p.plen) && decide (p.plen ≤ r.lenMax) && (decide (p.plen ≤ 12) || p.chan != 0)

/-- The privileged contexts (R481): 0x0000, and the list `PWR_PRIV` set. -/
def State.privileged (s : State) (ctx : Nat) : Bool := ctx == 0 || s.pwr.privs.contains ctx

/-- The privilege check of step 7, by the E_PRIV rows of the owning chapters: `GRIST_GROUP_OPEN` refuses CTX 0xFFFF
(R396); `GRIST_GROUP_CLOSE` takes the group's owner or CTX 0 (R410); `PWR_CAP` and `PWR_PRIV` CTX 0 (R469, R481);
`PWR_HINT` any but 0xFFFF, and a cancel only from the announcer or CTX 0 (R482); `PWR_OPP` a privileged CTX (R483). -/
def State.privOk (s : State) (p : Packet) : Bool :=
  match p.opcode with
  | 0x0601 => p.ctx != 0xFFFF
  | 0x0602 =>
    match tabGet s.grist.groups (parF p 0 0 20, 0) none with
    | some g => p.ctx == 0 || p.ctx == g.owner
    | none => true
  | 0x0701 =>
    p.ctx != 0xFFFF && !(parF p 0 0 2 == 1 && p.ctx != 0 &&
      s.pwr.hints.any (fun h => h.id == parF p 0 16 5 && h.ctx != p.ctx))
  | 0x0702 => s.privileged p.ctx
  | 0x0703 => p.ctx == 0
  | 0x0705 => p.ctx == 0
  | _ => true

/-- Steps 1 to 8 of R49: the first failure, as the reply it gives; none where the command passes. -/
def accept (s : State) (p : Packet) : Option Rep :=
  if p.ver ≠ 1 then some (refuse eOPCODE (p.ver % 256))
  else match opInfo p.opcode with
  | none => some (refuse eOPCODE (p.opcode % 65536))
  | some r =>
    if s.mode = mRECOVERY ∧ romOpcode p.opcode = false then some (refuse eOPCODE (p.opcode % 65536))
    else if headerOk p = false then some (refuse ePARAM 0xFFFFFFFF)
    else if r.modes.contains s.mode = false then some (refuse eSTATE s.mode)
    else if lenOk r p = false then some (refuse eLEN (lenDetail r.lenMin r.lenMax))
    else if targetOk r p.target = false then some (refuse eTARGET (p.target % 65536))
    else if s.privOk p = false then some (refuse ePRIV (p.ctx % 65536))
    else match s.cmd.jobs.find? (fun j => conflicts j.pkt.target p.target) with
    | some j => some (refuse eBUSY (j.pkt.tag % 65536 + (if j.pkt.chan = 0 then 0 else 1) * 65536))
    | none => none

/-- The checks of step 9 that every INDIRECT command shares (R44): alignment of PADDR and RADDR, then the read of the
parameter buffer. -/
def descCheck (p : Packet) : Option Rep :=
  if indirect p = false then none
  else if descPaddr p % 4 ≠ 0 then some (refuse ePARAM 0)
  else if descRaddr p % 4 ≠ 0 then some (refuse ePARAM 3)
  else if p.pbufErr && descPwords p != 0 then some (refuse ePARAM 0xFFFFFFFE)
  else none

/-- E_PARAM on parameter word `i` (step 9). -/
def badPar (i : Nat) : Rep := refuse ePARAM i

end Sys2Proof.Machine
end

