-- ==== Sys2Proof/Machine/Cmd.lean ====
section
/-! DEFINITION. The command engine: when a command is taken, what it waits for, how it runs and how it is answered
(R34 to R57), over an effect that each opcode's own definition gives. -/
namespace Sys2Proof.Machine

/-- What a command does once it is accepted: the state after it and the reply. A refused command answers the state it
met (R49). -/
abbrev Eff := Packet → State → State × Rep

/-! ## The completion ring (R37, R38) -/

/-- The size of the CQ. -/
def State.cqSize (s : State) : Nat := s.fld CMD_CQ_SIZE.ENTRIES
/-- The size of the SQ. -/
def State.sqSize (s : State) : Nat := s.fld CMD_SQ_SIZE.ENTRIES

/-- The CQ is full: writing one more entry would make the tail meet the head (R38). -/
def State.cqFull (s : State) : Bool := (s.fld CMD_CQ_TAIL.TAIL + 1) % s.cqSize == s.fld CMD_CQ_HEAD.HEAD

/-- Show whether the CQ is full (`CMD_STATUS`.CQ_FULL). -/
def State.showFull (s : State) : State :=
  s.setFld CMD_STATUS.CQ_FULL 0 (b2n (s.flag CMD_STATUS.RUN && s.cqFull))

/-- Vector 0 is due (R41): IRQ_EN is 1, and since the last interrupt COAL_CNT entries have been written or COAL_TIME has passed
since the first of them. -/
def State.irqDue (s : State) : Bool :=
  s.flag CMD_CTL.IRQ_EN && decide (0 < s.cmd.irqCnt) &&
    (decide (s.fld CMD_IRQ_CTL.COAL_CNT ≤ s.cmd.irqCnt) || decide (s.cmd.irqFirst + s.fld CMD_IRQ_CTL.COAL_TIME * usNs ≤ s.now))

/-- Raise vector 0 where it is due. -/
def State.cqIrq (s : State) : State := if s.irqDue then { s with cmd.irqCnt := 0 }.msix 0 else s

/-- Count one completion entry toward vector 0, whatever IRQ_EN is (R41). -/
def State.coalesce (s : State) : State :=
  { s with cmd.irqCnt := s.cmd.irqCnt + 1, cmd.irqFirst := if s.cmd.irqCnt = 0 then s.now else s.cmd.irqFirst }.cqIrq

/-- The host address of entry `t` of the CQ (R35, R37). -/
def State.cqAddr (s : State) (t : Nat) : Nat := s.fld CMD_CQ_BASE_LO.ADDR * 64 + s.fld CMD_CQ_BASE_HI.ADDR * 2 ^ 32 + 64 * t

/-- The sixteen words of a completion entry (R46). RLEN has 16 bits; of a result of more than 65,535 words it holds the low 16 bits
of the count (DESIGN CHOICE: R46 gives no value). -/
def cqWords (p : Packet) (r : Rep) (phase : Bool) (sqHead : Nat) : List Word :=
  let inl := if indirect p && descRwords p != 0 then [] else r.results
  [wd (p.tag % 65536 * 65536 + r.status % 65536),
   wd (b2n phase * 2 ^ 31 + r.results.length % 65536),
   wd r.detail,
   wd (p.opcode % 65536 * 65536 + sqHead)] ++ (List.range 12).map (fun i => inl.getD i 0)

/-- The results go into the result buffer of an INDIRECT command, where it has one (R45). -/
def State.putResults (s : State) (p : Packet) (r : Rep) : State :=
  if indirect p && descRwords p != 0 && r.results != [] then s.emit (.hostWrite (descRaddr p) r.results) else s

/-- Write one completion entry at CQ_TAIL and advance it; PHASE inverts on a wrap (R37). -/
def State.writeCq (s : State) (p : Packet) (r : Rep) : State :=
  let t := s.fld CMD_CQ_TAIL.TAIL
  let s := (s.putResults p r).emit (.completion (s.cqAddr t) (cqWords p r s.cmd.phase (s.fld CMD_SQ_HEAD.HEAD)))
  let t' := (t + 1) % s.cqSize
  let s := s.setFld CMD_CQ_TAIL.TAIL 0 t'
  let s := if t' = 0 then { s with cmd.phase := !s.cmd.phase } else s
  s.coalesce.showFull

/-- A reply frame on the service port (R46, R64): the header word, words 0 to 3 with PHASE 0 and SQ_HEAD 0, the results. -/
def svcReplyWords (p : Packet) (r : Rep) : List Word :=
  wd (0xA5 * 2 ^ 24 + 0x02 * 2 ^ 16 + (4 + r.results.length) % 65536) ::
  [wd (p.tag % 65536 * 65536 + r.status % 65536), wd (r.results.length % 65536), wd r.detail,
   wd (p.opcode % 65536 * 65536)] ++ r.results

/-- RUN goes to 0 once EN is 0 and every reply of a ring command is written (R39). -/
def State.settleRun (s : State) : State :=
  if s.flag CMD_STATUS.RUN && !s.flag CMD_CTL.EN && s.cmd.heldReps.isEmpty && !s.cmd.jobs.any (fun j => j.pkt.chan == 0)
      && !(s.cmd.blocked.any (fun b => b.pkt.chan == 0)) then
    (s.setFld CMD_STATUS.RUN 0 0).showFull
  else s

/-- Write a reply on the channel its command came from (R34): into the CQ, behind the replies that wait for room
(R38); on the service port; nowhere where its host has left (R65). -/
def State.send (s : State) (p : Packet) (r : Rep) : State :=
  if p.chan = 0 then
    if s.flag CMD_STATUS.RUN then
      if s.cqFull || !s.cmd.heldReps.isEmpty then { s with cmd.heldReps := s.cmd.heldReps ++ [⟨p, r⟩] }
      else s.writeCq p r
    else s
  else if p.chan = 1 then s.emit (.usbReply (svcReplyWords p r))
  else s

/-- Answer a command: NO_REPLY keeps OK and PENDING replies back (R43), the results still reach the result buffer (R45); a DETAIL
that no chapter gives is a free value. -/
def State.reply (s : State) (p : Packet) (r : Rep) : State :=
  (if noReply p && (r.status == 0 || r.status == ePENDING) then (if p.chan = 0 then s.putResults p r else s)
    else if r.anyDetail then s.drawn.send p { r with detail := s.free % 2 ^ 32, anyDetail := false }
    else s.send p r).settleRun

/-! ## PENDING commands (R53) -/

/-- Set the list of PENDING commands; `CMD_STATUS`.PEND_CNT shows their number. -/
def State.setJobs (s : State) (js : List Job) : State :=
  { s with cmd.jobs := js }.setFld CMD_STATUS.PEND_CNT 0 js.length

/-- A command goes PENDING. -/
def State.addJob (s : State) (p : Packet) (st : JobStage) : State :=
  (s.setJobs (s.cmd.jobs ++ [⟨p, st⟩])).reply p (refuse ePENDING)

/-- Block the execution sequence on a command. -/
def State.block (s : State) (p : Packet) (w : BlockWhy) : State := { s with cmd.blocked := some ⟨p, w⟩ }

/-- An opcode marked Y. -/
def isAsync (p : Packet) : Bool := (opInfo p.opcode).any (fun r => r.async)

/-- Whether a command may go PENDING: its opcode is marked Y, ASYNC_OK is set, and fewer than 64 are PENDING (R53). -/
def State.mayPend (s : State) (p : Packet) : Bool :=
  isAsync p && asyncOk p && decide (s.cmd.jobs.length < 64)

/-! ## Running a command -/

/-- Whether the result words fit the space given (R45). -/
def resultsFit (p : Packet) (r : Rep) : Bool :=
  match resultSpace p with
  | some n => decide (r.results.length ≤ n)
  | none => true

/-- A command's effect with the checks that all share: the INDIRECT descriptor, the time limit of R51 for an opcode not
marked Y, and the result space, which is checked before anything takes effect (R45). -/
def runEff (eff : Eff) (p : Packet) (s : State) : State × Rep :=
  match descCheck p with
  | some r => (s, r)
  | none =>
    let q := eff p s
    if q.2.status = 0 ∧ resultsFit p q.2 = false then (s, refuse eLEN q.2.results.length)
    else if p.late && !isAsync p && q.2.status == 0 then (s, deny eTIMEOUT)
    else q

/-- Execute an accepted command (R50, R51, R53): answered at once, PENDING, or going on while it blocks the sequence. A slow Y
opcode that may not go PENDING blocks the sequence until it completes. -/
def State.start (s : State) (eff : Eff) (p : Packet) : State :=
  let q := runEff eff p s
  if q.2.later then
    if s.mayPend p then q.1.addJob p .running else q.1.block p .running
  else if p.slow && isAsync p && q.2.status == 0 then (if s.mayPend p then s.addJob p .work else s.block p .work)
  else q.1.reply p q.2

/-- A command waits while a recovery holds its unit (R32, R52); a change to DORMANT and an activation wait for every running
recovery (R432, R526). -/
def State.mustWait (s : State) (p : Packet) : Bool :=
  (s.unit p.target).held ||
  (((p.opcode == 0x0002 && parF p 0 0 3 == 0) || p.opcode == 0x0A04) && s.units.any (fun e => e.2.held))

/-- The refusal that the checks of step 9 give a command in this state, if any. -/
def State.refusal (s : State) (eff : Eff) (p : Packet) : Option Rep :=
  let q := runEff eff p s
  if q.2.later || q.2.status == 0 then none else some q.2

/-- Check a command (R49), wait for a unit that a recovery holds (R32, R52), execute it. One that goes PENDING for the wait has
been checked in full before (R53), and is checked again where it takes effect. -/
def State.letRun (s : State) (eff : Eff) (p : Packet) : State :=
  match accept s p with
  | some r => s.reply p r
  | none =>
    if s.mustWait p then
      if s.mayPend p then
        match s.refusal eff p with
        | some r => s.reply p r
        | none => s.addJob p .held
      else s.block p .held
    else s.start eff p

/-- Whether the module takes this command now: the cores' clock runs, and for a ring quadrant 0's (R457); nothing blocks the sequence, no activation pause (R57), and the command is
the next complete one (R34): an SQ entry while EN is 1 and the CQ has room (R38, R39) in a mode that serves the rings
(R33), or the service-port frame it spells. -/
def State.ready (s : State) (p : Packet) : Bool :=
  s.life.boot == 0 && !s.cmd.pause && s.cmd.blocked.isNone && !s.pllStopped 4 &&
  match s.cmd.seqRuns with
  | .sq n :: _ => p.chan == 0 && decide (0 < n) && !s.quadStopped 0 && s.modeUp && s.flag CMD_CTL.EN && s.flag CMD_STATUS.RUN && !s.cqFull
      && s.cmd.heldReps.isEmpty
  | .svc ws g :: _ => frameWords p == ws && (p.chan == if g then 2 else 1)
  | [] => false

/-- Take the next command of the sequence: SQ_HEAD advances past an SQ entry (R36). -/
def State.take (s : State) : State :=
  match s.cmd.seqRuns with
  | .sq n :: rest =>
    let s := { s with cmd.seqRuns := if n ≤ 1 then rest else .sq (n - 1) :: rest }
    s.setFld CMD_SQ_HEAD.HEAD 0 ((s.fld CMD_SQ_HEAD.HEAD + 1) % s.sqSize)
  | .svc _ _ :: rest => { s with cmd.seqRuns := rest }
  | [] => s

/-- A command packet of opcode `code` reaches the front of the execution sequence and is taken: it waits under FENCE
(R43, R55), or is checked and executed. FW_ACTIVATE waits as FENCE does, before every check, also where R54 would refuse it for a
conflict (DESIGN CHOICE between R518, step 1, and R54). Where the module does not take it now, or the packet's opcode is another row's,
nothing happens. -/
def State.command (s : State) (code : Nat) (eff : Eff) (p : Packet) : State :=
  if s.ready p = false then s
  else if p.opcode ≠ code ∧ (opInfo p.opcode).isSome then s
  else
    let s := s.take
    if (fenceFlag p || p.opcode == 0x0004 || p.opcode == 0x0A04) && !(s.cmd.jobs.isEmpty && s.cmd.heldReps.isEmpty) then s.block p .fence
    else s.letRun eff p

/-- The first PENDING command under way of this opcode, answered. -/
def State.finishJob (s : State) (code : Nat) (sel : Packet → Bool) (r : Rep) : State :=
  match s.cmd.jobs.find? (fun j => j.stage == .running && j.pkt.opcode == code && sel j.pkt) with
  | some j => (s.setJobs (s.cmd.jobs.erase j)).reply j.pkt r
  | none => s

/-- The final reply of a command that an event of the module ends: the command of this opcode and TARGET that blocks the
sequence, or the first PENDING one. Where none waits, nothing is written. -/
def State.finish (s : State) (code : Nat) (sel : Packet → Bool) (r : Rep) : State :=
  match s.cmd.blocked with
  | some b =>
    if b.why = .running ∧ b.pkt.opcode = code ∧ sel b.pkt = true then { s with cmd.blocked := none }.reply b.pkt r
    else s.finishJob code sel r
  | none => s.finishJob code sel r

end Sys2Proof.Machine
end

