-- ==== Sys2Proof/Machine/Patterns.lean ====
section
/-! DEFINITION. What a lane sends and looks for on the line: PAM4 levels (R94), test patterns and their checker (R115, R116),
Lane-400 training frames and the steep burst (R101, R102, R121), and the evidence of lock and of its loss (R97, R100). -/
namespace Sys2Proof.Machine

/-! ## Rates and symbols (R92, R94) -/

/-- The line rate of a rate code in kb/s (R92). -/
def lineKbps (rate : Nat) : Nat :=
  match rate with
  | 1 => 10312500
  | 2 => 25781250
  | 3 => 53125000
  | 4 => 106250000
  | 5 => 212500000
  | 6 => 425000000
  | _ => 0

/-- A PAM4 rate (R92). -/
def isPam4 (rate : Nat) : Bool := 3 ≤ rate

/-- The level of a bit pair by Gray coding, the first bit of the pair the more significant one (R94). -/
def pam4 (first second : Bool) : Nat :=
  match first, second with
  | false, false => 0
  | false, true => 1
  | true, true => 2
  | true, false => 3

/-- The symbols of a bit stream on a PAM4 rate, two bits each (R94). -/
def pam4s : List Bool → List Nat
  | a :: b :: r => pam4 a b :: pam4s r
  | _ => []

/-- The symbols of a bit stream on a rate: one per bit on NRZ. -/
def symbolsOf (rate : Nat) (bits : List Bool) : List Nat := if isPam4 rate then pam4s bits else bits.map b2n

/-! ## Test patterns (R115) -/

/-- The order of a pattern's generator: the highest power of its polynomial. QPRBS13 is PRBS13 sent as symbols (PRESUMED, IEEE 802.3
Clause 120). -/
def prbsOrder (code : Nat) : Nat :=
  match code with
  | 0 => 7
  | 1 => 9
  | 2 => 13
  | 3 => 15
  | 4 => 23
  | 5 => 31
  | 6 => 13
  | 8 => 64
  | _ => 16

/-- The powers of a pattern's polynomial, as the mask of the bits sent that many bits ago (bit t − 1 for x^t). -/
def prbsMask (code : Nat) : Nat :=
  match code with
  | 0 => 2 ^ 6 + 2 ^ 5
  | 1 => 2 ^ 8 + 2 ^ 4
  | 2 => 2 ^ 12 + 2 ^ 11 + 2 ^ 1 + 2 ^ 0
  | 3 => 2 ^ 14 + 2 ^ 13
  | 4 => 2 ^ 22 + 2 ^ 17
  | 5 => 2 ^ 30 + 2 ^ 27
  | 6 => 2 ^ 12 + 2 ^ 11 + 2 ^ 1 + 2 ^ 0
  | _ => 0

/-- The parity of a number's bits. -/
def parity (n : Nat) : Bool := (List.range 64).foldl (fun p i => p != nbit n i) false

/-- The next bit of a PRBS from its last bits, the newest at bit 0. -/
def prbsNext (code hist : Nat) : Bool := parity (Nat.land hist (prbsMask code))

/-- The history after one more bit. -/
def prbsPush (code hist : Nat) (b : Bool) : Nat := (hist * 2 + b2n b) % 2 ^ prbsOrder code

/-- The next `n` bits of a PRBS. -/
def prbsRun (code : Nat) : Nat → Nat → List Bool
  | 0, _ => []
  | n + 1, hist => let b := prbsNext code hist; b :: prbsRun code n (prbsPush code hist b)

/-- The history after `n` more bits. -/
def prbsSkip (code : Nat) : Nat → Nat → Nat
  | 0, hist => hist
  | n + 1, hist => prbsSkip code n (prbsPush code hist (prbsNext code hist))

/-- What a generator or training signal starts from: not zero, and no rule gives it. -/
def patternSeed (code lane : Nat) : Nat := 1 + Config.patternSeed code lane % (2 ^ prbsOrder code - 1)

/-- Bits `from` to `from + n − 1` of a lane's test pattern (R115): a PRBS; SSPRBS, whose bits IEEE 802.3 gives; the user pattern, bit 0
first and repeated. -/
def patternBits (t : LaneTest) (lane start n : Nat) : List Bool :=
  if t.pattern = 8 then
    (List.range n).map (fun i => let k := (start + i) % 64; if k < 32 then nbit t.userLo k else nbit t.userHi (k - 32))
  else if t.pattern = 7 then (List.range n).map (fun i => Config.ssprbs (start + i))
  else prbsRun t.pattern n (prbsSkip t.pattern start (patternSeed t.pattern lane))

/-- Whether bit `i` after the command is sent inverted (R116): the next bit, a burst of INJ_LEN bits, or one bit of every 2^INJ_RATE. -/
def injected (t : LaneTest) (i : Nat) : Bool :=
  match t.inj with
  | 1 => i == 0
  | 2 => i < t.injLen
  | 3 => (i + 1) % 2 ^ t.injRate == 0
  | _ => false

/-- A symbol with the error of SYM_SHIFT: one level up, one level down, or the opposite outer level; a shift past an outer level stays
there (DESIGN CHOICE: R116 gives no level above 3 or below 0, and an inner level has the outer level on the other side of the
middle as its opposite one). -/
def symError (shift level : Nat) : Nat :=
  match shift with
  | 0 => Nat.min 3 (level + 1)
  | 1 => level - 1
  | _ => if 2 ≤ level then 0 else 3

/-- The first `n` bits that a generator sends after a command, as symbols of the rate, with what the command injects. -/
def testSymbols (t : LaneTest) (lane rate start n : Nat) : List Nat :=
  let syms := symbolsOf rate (((patternBits t lane start n).zip (List.range n)).map (fun e => e.1 != injected t e.2))
  match t.inj, syms with
  | 4, x :: r => symError t.symSh x :: r
  | _, _ => syms

/-- The checker locks (R115): after the bits it seeds itself from, 64 bits free of errors. -/
def checkerLocks (t : LaneTest) (rx : List Bool) : Bool :=
  let n := prbsOrder t.pattern
  if t.pattern = 7 then
    rx.length == 64 + n && (List.range 65536).any (fun k => rx == (List.range (64 + n)).map (fun i => Config.ssprbs (k + i)))
  else if t.pattern = 8 then
    rx.length == 64 + n && (List.range 64).any (fun k => rx == patternBits t 0 k (64 + n))
  else
    let hist := (rx.take n).foldl (prbsPush t.pattern) 0
    rx.length == 64 + n && hist != 0 && rx.drop n == prbsRun t.pattern 64 hist

/-- The checker loses lock (R115): 512 errors within 1,024 bits. `errs` are the places of the errors among the bits compared since it
locked, rising. -/
def checkerLoses (bits : Nat) (errs : List Nat) : Bool :=
  errs.all (fun e => decide (e < bits)) &&
  (List.range (errs.length - 511)).any (fun i => decide (512 ≤ errs.length) && decide (errs.getD (i + 511) 0 < errs.getD i 0 + 1024))

/-! ## Training frames (R101, R102) -/

/-- One step of the CRC-16 of R101: polynomial x^16 + x^12 + x^5 + 1. -/
def crc16Step (c : Nat) (b : Bool) : Nat :=
  let top := nbit c 15
  let c' := (c * 2) % 65536
  if top != b then Nat.xor c' 0x1021 else c'

/-- The CRC-16 of the information bits [47:0], in the order they are sent, bit 0 first (R101). -/
def crc16 (info : Nat) : Nat := (List.range 48).foldl (fun c i => crc16Step c (nbit info i)) 0xFFFF

/-- The CRC field of a training frame agrees. -/
def frameCrcOk (info : Nat) : Bool := nbits info 48 16 == crc16 (info % 2 ^ 48)

/-- The 64 information bits of a frame from its CONTROL, STATUS and COUNT (R101). -/
def trainInfo (control status count : Nat) : Nat :=
  let low := control % 2 ^ 16 + (status % 2 ^ 16) * 2 ^ 16 + (count % 256) * 2 ^ 32
  low + crc16 low * 2 ^ 48

/-- STATUS of R102: RESP, RX_READY, LANE_ID, STEEP_CAP, VER 1. -/
def trainStatus (resp : Nat) (ready : Bool) (laneId : Nat) : Nat :=
  resp % 4 + b2n ready * 4 + (laneId % 8) * 8 + 2 ^ 6 + 2 ^ 8

/-- The QPRBS13 bits of one frame: 3,552 symbols. -/
abbrev qprbsBits : Nat := 7104

/-- The 4,096 symbols of a training frame (R101): the marker, 64 information bits of 8 symbols at an outer level, QPRBS13. -/
def trainSymbols (info hist : Nat) : List Nat :=
  List.replicate 16 3 ++ List.replicate 16 0 ++
  (List.range 64).flatMap (fun i => List.replicate 8 (if nbit info i then 3 else 0)) ++
  pam4s (prbsRun 6 qprbsBits hist)

/-- Segments A and B of the steep burst (R121) at 212.5 GBd: 0.4 µs of alternating outer levels, 0.9 µs of QPRBS13. -/
def burstAB (hist : Nat) : List Nat :=
  (List.range 85000).map (fun i => if i % 2 = 0 then 0 else 3) ++ pam4s (prbsRun 6 382500 hist)

/-! ## Lock (R97, R100) -/

/-- A 64b/66b sync header that is valid: 01 or 10. -/
def syncOk (h : Nat) : Bool := h == 1 || h == 2

/-- Lock by sync headers: 64 consecutive valid ones. -/
def headersLock (seen : List Nat) : Bool := seen.length == 64 && seen.all syncOk

/-- Loss by sync headers: 16 invalid ones within 64 consecutive headers. -/
def headersLost (seen : List Nat) : Bool :=
  decide (seen.length ≤ 64) && decide (16 ≤ (seen.filter (fun h => !syncOk h)).length)

/-- A candidate for an alignment marker, by its nibble mismatches: at most 3. -/
def markerOk (mismatches : Nat) : Bool := mismatches ≤ 3

/-- Lock by markers: 2 consecutive ones at the exact AM period. -/
def markersLock (seen : List Nat) : Bool := seen.length == 2 && seen.all markerOk

/-- Loss by markers: 5 consecutive ones fail to match at the expected position. -/
def markersLost (seen : List Nat) : Bool := seen.length == 5 && seen.all (fun m => !markerOk m)

/-- The block types of 64b/66b control blocks (PRESUMED: IEEE 802.3 Clause 49). -/
def blockTypeOk (b : Nat) : Bool :=
  [0x1E, 0x2D, 0x33, 0x4B, 0x55, 0x66, 0x78, 0x87, 0x99, 0xAA, 0xB4, 0xCC, 0xD2, 0xE1, 0xFF].contains b

/-- Inverted receive polarity on a 64b/66b lane: 16 consecutive control blocks whose type is invalid as received and valid when
inverted (R97). -/
def blocksInverted (seen : List Nat) : Bool :=
  seen.length == 16 && seen.all (fun b => !blockTypeOk b && blockTypeOk (Nat.xor b 0xFF))

end Sys2Proof.Machine
end

