-- ==== Sys2Proof/Machine/Links.lean ====
section
/-! DEFINITION. What lanes and ports share: port shapes and the port of a lane (R126, R127), the link state of a lane and
what shows it (R95), link changes (R137), enabling and disabling a port (R138). -/
namespace Sys2Proof.Machine

/-- A lane's record. -/
def State.lane (s : State) (l : Nat) : Lane := tabGet s.lanes (l, 0) {}
/-- Write a lane's record. -/
def State.setLane (s : State) (l : Nat) (v : Lane) : State := { s with lanes := tabSet s.lanes (l, 0) v {} }
/-- A twig's record. -/
def State.twig (s : State) (t : Nat) : Twig := tabGet s.twigs (t, 0) {}
/-- Write a twig's record. -/
def State.setTwig (s : State) (t : Nat) (v : Twig) : State := { s with twigs := tabSet s.twigs (t, 0) v {} }
/-- A port's record. -/
def State.port (s : State) (p : Nat) : Port := tabGet s.ports (p, 0) {}
/-- Write a port's record. -/
def State.setPort (s : State) (p : Nat) (v : Port) : State := { s with ports := tabSet s.ports (p, 0) v {} }

/-! ## Shapes (R126 to R128) -/

/-- The lane rate code of a port of a speed code and lane count; 0 where the combination does not exist (R126). -/
def shapeRate (speed lanes : Nat) : Nat :=
  match speed, lanes with
  | 1, 1 => 1
  | 2, 1 => 2
  | 3, 1 => 3
  | 4, 1 => 4
  | 4, 2 => 3
  | 4, 4 => 2
  | 5, 1 => 5
  | 5, 2 => 4
  | 5, 4 => 3
  | 6, 1 => 6
  | 6, 2 => 5
  | 6, 4 => 4
  | 6, 8 => 3
  | 7, 2 => 6
  | 7, 4 => 5
  | 7, 8 => 4
  | 8, 4 => 6
  | 8, 8 => 5
  | 9, 8 => 6
  | _, _ => 0

/-- The speed of a port in Mb/s, by speed code (R126). -/
def speedMbps (speed : Nat) : Nat :=
  match speed with
  | 1 => 10000
  | 2 => 25000
  | 3 => 50000
  | 4 => 100000
  | 5 => 200000
  | 6 => 400000
  | 7 => 800000
  | 8 => 1600000
  | 9 => 3200000
  | _ => 0

/-- The twig PLL setting a lane rate code needs: 0 setting N, 1 setting E (R92). -/
def rateSetting (rate : Nat) : Nat := if rate ≤ 2 then 0 else 1

/-- The active lane count of port `p` (R130). -/
def State.portLanes (s : State) (p : Nat) : Nat := if p < 512 then s.fld PORT_STATUS.LANES_ACT p else 0
/-- The active speed code of port `p`. -/
def State.portSpeed (s : State) (p : Nat) : Nat := s.fld PORT_STATUS.SPEED_ACT p
/-- Port `p` is a configured Ethernet port (R127). -/
def State.portConf (s : State) (p : Nat) : Bool := s.portLanes p != 0
/-- The lane rate code that port `p`'s lanes run. -/
def State.portRate (s : State) (p : Nat) : Nat := shapeRate (s.portSpeed p) (s.portLanes p)
/-- The state of a port (R136). -/
def State.pstate (s : State) (p : Nat) : Nat := s.fld PORT_STATUS.PSTATE p

/-- Port states of R136. -/
abbrev pUNCONF : Nat := 0
/-- DISABLED. -/
abbrev pDISABLED : Nat := 1
/-- TRAINING. -/
abbrev pTRAINING : Nat := 2
/-- ALIGNING. -/
abbrev pALIGNING : Nat := 3
/-- UP. -/
abbrev pUP : Nat := 4
/-- FAULT. -/
abbrev pFAULT : Nat := 5

/-- The lanes of a port. -/
def State.lanesOf (s : State) (p : Nat) : List Nat := (List.range (s.portLanes p)).map (fun k => p + k)

/-- The configured port that lane `l` belongs to (R127). -/
def State.portOf (s : State) (l : Nat) : Option Nat :=
  [1, 2, 4, 8].findSome? (fun n => let p := l - l % n; if s.portLanes p = n then some p else none)

/-- The configured Ethernet ports. -/
def State.confPorts (s : State) : List Nat := (List.range 512).filter (fun p => s.portConf p)

/-! ## Link states (R95) -/

/-- DOWN. -/
abbrev lDOWN : Nat := 0
/-- DETECT. -/
abbrev lDETECT : Nat := 1
/-- TRAIN. -/
abbrev lTRAIN : Nat := 2
/-- HUNT. -/
abbrev lHUNT : Nat := 3
/-- UP. -/
abbrev lUP : Nat := 4
/-- QUIET. -/
abbrev lQUIET : Nat := 5
/-- WAKE. -/
abbrev lWAKE : Nat := 6
/-- TEST. -/
abbrev lTEST : Nat := 7

/-- The link state of a lane. -/
def State.lstate (s : State) (l : Nat) : Nat := s.fld LANE_STATUS.LSTATE l

/-- A lane has a link state: its unit is not OFF, WAKING, GRAFT or RETIRED (R95). -/
def State.linkable (s : State) (l : Nat) : Bool :=
  let u := s.ust (tgt cLANE l)
  u == uREADY || u == uACTIVE || u == uDOZE || u == uDEEP

/-- The rate in use on a lane: its port's, else its own `LANE_CFG` rate. -/
def State.rateOf (s : State) (l : Nat) : Nat :=
  match s.portOf l with
  | some p => s.portRate p
  | none => (s.lane l).cfg.rate

/-- Show which logical lanes of a port are UP (`PORT_STATUS`.LANES_UP). -/
def State.showLanesUp (s : State) (p : Nat) : State :=
  s.setFld PORT_STATUS.LANES_UP p
    (sumN ((List.range 8).map (fun k =>
      if (s.lanesOf p).any (fun l => s.lstate l == lUP && s.fld LANE_STATUS.RX_LOGICAL l == k) then 2 ^ k else 0)))

/-- A port none of whose lanes is in QUIET or WAKE is out of low-power idle, both ways (R142). -/
def State.showLpi (s : State) (p : Nat) : State :=
  if (s.lanesOf p).any (fun l => s.lstate l == lQUIET || s.lstate l == lWAKE) then s
  else (s.setFld PORT_STATUS.LPI_TX p 0).setFld PORT_STATUS.LPI_RX p 0

/-- A port in low-power idle starts no frame (R142, R339). -/
def State.lpiHolds (s : State) (p : Nat) : Bool := s.flag PORT_STATUS.LPI_TX p || s.flag PORT_STATUS.LPI_RX p

/-- The unit state that goes with a link state (R95): ACTIVE in UP once the port is up, DOZE in QUIET and WAKE. -/
def State.laneUst (s : State) (l ls : Nat) : Nat :=
  if ls = lUP then
    match s.portOf l with
    | some p => if s.pstate p = pUP then uACTIVE else uREADY
    | none => uREADY
  else if ls = lQUIET ∨ ls = lWAKE then uDOZE
  else uREADY

/-- The rate trains: codes 3 to 6, and codes 1 and 2 on a port with TRAIN 1 (R92, R129). -/
def State.trains (s : State) (l : Nat) : Bool :=
  3 ≤ s.rateOf l || (s.lane l).train

/-- A lane under `LANE_TEST` whose equalisers adapt: loopbacks 1 and 2 (R117). -/
def LaneTest.adapts (t : LaneTest) : Bool := t.loop == 1 || t.loop == 2

/-- Adaptation is frozen in a link state: QUIET, WAKE, TEST but for loopbacks 1 and 2 (R117), and during a scan (R108). -/
def frozenIn (v : Lane) (ls : Nat) : Bool :=
  ls == lQUIET || ls == lWAKE || (ls == lTEST && !v.test.adapts) || v.scanning

/-- A rate and PHY type that define EEE (R118): codes 1 to 3; on codes 1 and 2 the backplane and copper PHY types, which TRAIN selects
(PRESUMED: IEEE 802.3; for code 3, where TRAIN has no effect, every PHY type counts). -/
def eeePhy (rate : Nat) (train : Bool) : Bool := rate == 3 || ((rate == 1 || rate == 2) && train)

/-- What the transmitter of a lane under test sends (R116, R117). Far-end loopback sends received symbols once the receiver has
locked; near-end loopback drives the pins only with TX_DRIVE 1, and the parallel loopback has no analog path. Where nothing is to
be sent, electrical idle (DESIGN CHOICE: no rule says). -/
def testTx (t : LaneTest) (lock : Bool) : LaneTx :=
  if t.loop = 2 then (if lock then .retimed else .elecIdle)
  else if t.gen = false ∨ t.loop = 3 ∨ (t.loop = 1 ∧ t.txDrive = false) then .elecIdle
  else .pattern

/-- What a lane's transmitter sends (R95): high impedance where the lane has no link state; nothing while its twig's PLL has no clock
(R457); else by its link state. -/
def State.laneTx (s : State) (l : Nat) : LaneTx :=
  if s.linkable l = false then .highZ
  else if s.pllStopped (0x40 + l / 8) then .elecIdle
  else match s.lstate l with
  | 1 => if s.trains l then .training else .idleData
  | 2 => .training
  | 3 => .data
  | 4 => .data
  | 6 => .training
  | 7 => testTx (s.lane l).test (s.flag LANE_STATUS.LOCK l)
  | _ => .elecIdle

/-- Tell what the lane's transmitter sends, where a change of link state has changed it. -/
def State.showTx (s : State) (l : Nat) (old : LaneTx) : State :=
  if s.laneTx l = old then s else s.emit (.laneTx l (s.laneTx l))

/-- The same for the lanes of a twig's PLL, where the PLL has stopped or started between `old` and `s` (R457). -/
def State.showTwigTx (s old : State) (i : Nat) : State :=
  if 0x40 ≤ i ∧ i < 0x80 then
    eachIn ((List.range 8).map (fun k => (i - 0x40) * 8 + k)) s (fun s l => s.showTx l (old.laneTx l))
  else s

/-! ## SyncE (R149) -/

/-- The divisor of the recovered clock by lane rate code (R149). -/
def synceDiv (rate : Nat) : Nat :=
  match rate with
  | 1 => 66
  | 2 => 165
  | 3 => 170
  | 4 => 340
  | 5 => 680
  | _ => 1360

/-- The clock a SyncE output is to carry: the divisor of its port's logical lane 0, or 0 where it is held low (R149): disabled, within
1 µs of a change of port, the port unconfigured, or that lane not UP. -/
def State.synceDivOf (s : State) (o : SyncOut) : Nat :=
  if o.en && decide (o.low ≤ s.now) && s.portConf o.port
      && (s.lanesOf o.port).any (fun l => s.lstate l == lUP && s.fld LANE_STATUS.RX_LOGICAL l == 0) then
    synceDiv (s.portRate o.port)
  else 0

/-- A new setting of an output: a change of port holds it low for 1 µs, then the new clock starts with a rising edge. -/
def SyncOut.set (o : SyncOut) (now port : Nat) (en : Bool) : SyncOut :=
  { o with port := port, en := en, low := if port = o.port then o.low else now + usNs }

/-- Drive the SyncE outputs where what they carry has changed. -/
def State.showSynce (s : State) : State :=
  let a := s.synceDivOf s.synce.out0
  let b := s.synceDivOf s.synce.out1
  let s := if a = s.synce.out0.div then s
    else { s with synce := { s.synce with out0 := { s.synce.out0 with div := a } } }.emit (.signal "SYNCE" 0 a)
  if b = s.synce.out1.div then s
  else { s with synce := { s.synce with out1 := { s.synce.out1 with div := b } } }.emit (.signal "SYNCE" 1 b)

/-- A twig's lanes let its PLL stop: each in QUIET, DOWN or OFF (R120). -/
def State.lanesIdle (s : State) (t : Nat) : Bool :=
  (List.range 8).all (fun k =>
    let l := t * 8 + k
    s.ust (tgt cLANE l) == uOFF || s.lstate l == lQUIET || s.lstate l == lDOWN)

/-- An idle period of a twig begins where its lanes were not idle (`was`) and are now: its policy applies from here (R438). -/
def State.idleBegins (s : State) (t : Nat) (was : Bool) : State :=
  if was = false ∧ s.lanesIdle t = true then
    s.setTwig t { s.twig t with enNow := (s.twig t).deepEn, usNow := (s.twig t).deepUs, idleAt := s.now }
  else s

/-- A lane moves to a link state: LOCK, FROZEN (R108), the port's LANES_UP and the unit state follow; a scan on a lane that
leaves UP and TEST stops (R113); TRAIN of its port applies at its entry to DETECT (R131). Leaving TRAIN records how long it
took (R125); entering HUNT or WAKE begins the search for lock anew; the SyncE outputs follow (R149). -/
def State.setLState (s : State) (l ls cause : Nat) : State :=
  let tx := s.laneTx l
  let was := s.lanesIdle (l / 8)
  let s := if s.lstate l = ls then s else s.setLane l { s.lane l with since := s.now }
  let s := if s.lstate l = lTRAIN ∧ ls ≠ lTRAIN then
      s.setFld LANE_TRAIN_TIME.US l (Nat.min (2 ^ 20 - 1) ((s.now - (s.lane l).trainAt) / usNs))
    else s
  let s := s.setFld LANE_STATUS.LSTATE l ls
  let s := if (s.lane l).scanning && ls != lUP && ls != lTEST then s.setLane l { s.lane l with scanning := false } else s
  let s := if ls = lHUNT ∨ ls = lWAKE then s.setLane l { s.lane l with locked := [] } else s
  let s := s.setFld LANE_STATUS.LOCK l (b2n (ls == lUP))
  let s := s.setFld LANE_STATUS.FROZEN l (b2n (frozenIn (s.lane l) ls))
  let s := if s.flag LANE_STATUS.FROZEN l then s.setLane l { s.lane l with winFrozen := true } else s
  let s := s.showTx l tx
  let s := match s.portOf l with
    | some p =>
      let s := if ls = lDETECT then s.setLane l { s.lane l with train := (s.port p).train } else s
      (s.showLanesUp p).showLpi p
    | none => s
  ((if s.ust (tgt cLANE l) = s.laneUst l ls then s else s.setUst (tgt cLANE l) (s.laneUst l ls) cause).idleBegins (l / 8) was).showSynce

/-- Loss of lock from UP, or loss of energy from UP, reported once (R96, R100). -/
def State.lockLost (s : State) (l : Nat) : State :=
  let s := s.ev LANE_EVENT.LOCK_LOSS l
  let s := s.satFld LANE_EVENT.UNLOCK_CNT l 1
  let s := s.bump .LANE_UNLOCK l
  s.raise 0x0401 kRETRIED (tgt cLANE l) 0

/-! ## The bough's clusters (R165, R166) -/

/-- CSTATE codes (R166). -/
abbrev cOFF : Nat := 0
/-- TRAINING. -/
abbrev cTRAINING : Nat := 1
/-- ACTIVE. -/
abbrev cACTIVE : Nat := 2
/-- SWAP. -/
abbrev cSWAP : Nat := 3
/-- DRAIN. -/
abbrev cDRAIN : Nat := 4
/-- GRAFT. -/
abbrev cGRAFT : Nat := 5
/-- RETIRED. -/
abbrev cRETIRED : Nat := 6

/-- The state of a cluster. -/
def State.cstate (s : State) (c : Nat) : Nat := s.fld ROOT_STATUS.CSTATE c

/-- The ACTIVE clusters of a bough (0 to 15), ascending; a cluster in SWAP still serves. -/
def State.activeClusters (s : State) (b : Nat) : List Nat :=
  (List.range 16).filter (fun c => s.cstate (b * 16 + c) == cACTIVE ||
    (s.cstate (b * 16 + c) == cSWAP && (tabGet s.clusters (b * 16 + c, 0) {}).back == cACTIVE))

/-! ## Link changes (R137) -/

/-- Record a link change of port `p`: the port's bit of `BOUGH_LINK_CHG` and MSI-X vector 1. -/
def State.linkChanged (s : State) (p : Nat) : State :=
  let f : Fld := if p % 64 < 32 then ⟨.BOUGH_LINK_CHG0, p % 64, 1⟩ else ⟨.BOUGH_LINK_CHG1, p % 64 - 32, 1⟩
  (s.setFld f (p / 64) 1).msix 1

/-- LINK_DOWN of port `p`. -/
def State.linkDown (s : State) (p : Nat) : State :=
  ((s.ev PORT_EVENT.LINK_DOWN p).bump .LINK_DOWN_CNT p).linkChanged p

/-- LINK_UP of port `p`. -/
def State.linkUp (s : State) (p : Nat) : State := (s.ev PORT_EVENT.LINK_UP p).linkChanged p

/-- A port is in RUN again: that it was not no longer keeps its queues from sending (R356). -/
def State.wdRun (s : State) (p : Nat) : State :=
  eachIn ((List.range 16).map (fun q => p * 16 + q)) s (fun s q =>
    let v := tabGet s.squeues (q, 0) {}
    if v.stuck = none ∨ v.cause < 2 then s
    else { s with squeues := tabSet s.squeues (q, 0) { v with
             cause := v.cause % 2, stuck := if v.cause % 2 = 0 then none else v.stuck } {} })

/-- A port moves to a state of R136; leaving UP for DISABLED or UNCONFIGURED, or entering FAULT, is a LINK_DOWN, and a
return to UP a LINK_UP, which ends a queue hold (R314). What the port has told its partner of XOFF is told anew after a
LINK_DOWN (R355). The unit states of its lanes in UP follow. -/
def State.setPState (s : State) (p st : Nat) : State :=
  let old := s.pstate p
  let s := if old = st then s else s.setPort p { s.port p with since := s.now }
  let s := s.setFld PORT_STATUS.PSTATE p st
  let s := if old = pUP ∧ st ≠ pUP then
      let s := (s.linkDown p).setPort p { s.port p with wentDown := st == pFAULT || st == pDISABLED }
      { s with sports := tabSet s.sports (p, 0) { tabGet s.sports (p, 0) {} with told := 0 } {} }
    else if old ≠ pUP ∧ st = pUP then
      (((s.linkUp p).setPort p { s.port p with wentDown := false }).setFld TUN_PORT_HOLD.STATE p 0).wdRun p
    else s
  eachIn (s.lanesOf p) s (fun s l =>
    if s.lstate l = lUP ∧ s.ust (tgt cLANE l) ≠ s.laneUst l lUP then s.setUst (tgt cLANE l) (s.laneUst l lUP) 1 else s)

/-- Move a lane to DETECT as its port is enabled: the rate in use is shown, the failures start anew. -/
def State.laneEnable (s : State) (l : Nat) : State :=
  if s.linkable l then
    let s := s.setLane l { s.lane l with fails := 0, retry := false }
    let s := s.setFld LANE_STATUS.RATE l (s.rateOf l)
    s.setLState l lDETECT 2
  else s

/-- Move a lane to DOWN; its transmitter sends electrical idle (R95). -/
def State.laneDown (s : State) (l cause : Nat) : State :=
  if s.linkable l then
    let s := s.setLane l { s.lane l with retry := false, steepIdle := false, frameLock := false, goodMk := 0, badMk := 0 }
    s.setLState l lDOWN cause
  else s

/-- A fault begins on a port: its moment counts for HOLDOFF, where none held yet (R137). -/
def State.faultBegins (s : State) (p : Nat) : State :=
  if s.flag PORT_STATUS.LF p || s.flag PORT_STATUS.RF p then s else s.setPort p { s.port p with faultAt := s.now }

/-- The port takes local fault: the MAC sends remote-fault sequences (R137). -/
def State.localFault (s : State) (p : Nat) : State :=
  if s.flag PORT_STATUS.LF p then s
  else (((s.faultBegins p).setFld PORT_STATUS.LF p 1).ev PORT_EVENT.LOCAL_FAULT p).emit (.signal "remote-fault" p 1)

/-- A port in fault past HOLDOFF (R137): FAULT, with LINK_DOWN. -/
def State.portFault (s : State) (p : Nat) : State := if s.pstate p = pUP then s.setPState p pFAULT else s

/-- Enable a configured port (R138): DISABLED leaves for TRAINING and its lanes for DETECT; a lane below UP is a local
fault (R137). -/
def State.portOn (s : State) (p : Nat) : State :=
  let s := s.setPort p { s.port p with enabled := true }
  if s.pstate p = pDISABLED then
    eachIn (s.lanesOf p) ((s.setPState p pTRAINING).localFault p) (fun s l => s.laneEnable l)
  else s

/-- Disable a port (R136, R138): from any state to DISABLED, its lanes to DOWN. -/
def State.portOff (s : State) (p cause : Nat) : State :=
  let s := s.setPort p { s.port p with enabled := false, retry := false }
  let s := s.setPState p pDISABLED
  let s := s.setFld PORT_STATUS.LF p 0
  let s := s.setFld PORT_STATUS.RF p 0
  let s := s.setFld PORT_STATUS.LPI_TX p 0
  let s := s.setFld PORT_STATUS.LPI_RX p 0
  eachIn (s.lanesOf p) s (fun s l => s.laneDown l cause)

/-- A local fault of port `p` begins: at once a FAULT where HOLDOFF is 0 (R137). -/
def State.localFaultStart (s : State) (p : Nat) : State :=
  if s.pstate p < pTRAINING then s
  else
    let s := s.localFault p
    if (s.port p).holdoff = 0 then s.portFault p else s

/-- Two lanes of port `p` that are UP stand in one position (R98, R136). -/
def State.laneDup (s : State) (p : Nat) : Bool :=
  (s.lanesOf p).any (fun a => (s.lanesOf p).any (fun b => a != b && s.lstate a == lUP && s.lstate b == lUP
    && s.fld LANE_STATUS.RX_LOGICAL a == s.fld LANE_STATUS.RX_LOGICAL b))

/-- Port `p` in TRAINING goes on to ALIGNING once every lane is UP; two lanes in one position set LANE_DUP (R136). -/
def State.portProgress (s : State) (p : Nat) : State :=
  if s.pstate p = pTRAINING ∧ (s.lanesOf p).all (fun l => s.lstate l == lUP) = true then
    let s := s.setPState p pALIGNING
    if s.laneDup p then s.ev PORT_EVENT.LANE_DUP p else s
  else s

/-- Every lane of port `p` moves to DOWN. -/
def State.lanesDown (s : State) (p cause : Nat) : State := eachIn (s.lanesOf p) s (fun s l => s.laneDown l cause)

/-! ## Twig PLL setting (R93) -/

/-- The setting of a twig's PLL, or the one it takes when it next locks (R461). -/
def State.twigSetting (s : State) (t : Nat) : Nat := (s.twig t).newSet.getD (s.twig t).setting

/-- Whether the twig may take `setting`, for a change that names port `p` (512 for none): it has it already, or every
lane outside that port is DOWN or its unit OFF. -/
def State.twigMay (s : State) (t setting p : Nat) : Bool :=
  s.twigSetting t == setting ||
  (List.range 8).all (fun k =>
    let l := t * 8 + k
    (s.portOf l == some p) || s.ust (tgt cLANE l) == uOFF || s.lstate l == lDOWN)

/-- Put the twig's LC PLL into a setting: where that is a change, the PLL relocks (R93); one that is HELD takes it when it next locks
(R461). -/
def State.setTwigSetting (s : State) (t setting : Nat) : State :=
  if s.twigSetting t = setting then s
  else if s.fld CLK_PLL.STATE (0x40 + t) = 3 then s.setTwig t { s.twig t with newSet := some setting }
  else
    let s := s.setTwig t { s.twig t with setting := setting }
    if s.fld CLK_PLL.STATE (0x40 + t) = 2 then s.setFld CLK_PLL.STATE (0x40 + t) 1 else s

/-- The twig's PLL locks: a setting that waited for it applies (R461). -/
def State.takeSetting (s : State) (t : Nat) : State :=
  match (s.twig t).newSet with
  | some n => s.setTwig t { s.twig t with setting := n, newSet := none }
  | none => s

/-! ## The checks that name a port (R548) -/

/-- The TARGET checks of R548: an internal port is E_TARGET; an Ethernet instance that is no configured port E_STATE with
the TARGET in DETAIL; 0xFFF stands for the configured ports. -/
def State.needPort (s : State) (p : Packet) : Option Rep :=
  let i := tInst p.target
  if i = 0xFFF then none
  else if 512 ≤ i then some (refuse eTARGET (p.target % 65536))
  else if s.portConf i then none
  else some (refuse eSTATE (p.target % 65536))

/-- The ports a PORT TARGET of R548 applies to. -/
def State.namedPorts (s : State) (p : Packet) : List Nat :=
  if tInst p.target = 0xFFF then s.confPorts else [tInst p.target]

end Sys2Proof.Machine
end

