-- ==== Sys2Proof/Machine/Lanes.lean ====
section
/-! DEFINITION. Lanes: rates, link states and training, equalisers and figure of merit, tests and low-power idle
(R92 to R125), and the twig's deep doze (R120). -/
namespace Sys2Proof.Machine

/-! ## Transmit taps (R104, R105) -/

/-- The range of a transmit tap in 1/128 (R105): c(−3) and c(−2) exist on rates 3 to 6 only. -/
def tapRange (rate tap : Nat) : Int × Int :=
  match tap with
  | 0 => if 3 ≤ rate then (-7, 0) else (0, 0)
  | 1 => if 3 ≤ rate then (0, 12) else (0, 0)
  | 2 => (-44, 0)
  | 3 => (64, 128)
  | _ => (-19, 0)

/-- A value kept inside a range. -/
def clampInt (r : Int × Int) (v : Int) : Int := if v < r.1 then r.1 else if r.2 < v then r.2 else v

/-- The transmit taps of a preset, c(−3) first, in 1/128, each rounded to the nearest step (R104); a tap the rate does not have
stays at 0 (R105). -/
def presetTaps (rate n : Nat) : List Int :=
  let t : List Int := match n with
    | 2 => [0, 0, -13, 115, 0]
    | 3 => [0, 4, -19, 105, 0]
    | 4 => [0, 6, -26, 90, -6]
    | 5 => [-4, 8, -32, 79, -5]
    | _ => [0, 0, 0, 128, 0]
  t.zipIdx.map (fun e => clampInt (tapRange rate e.2) e.1)

/-- The sum of the tap magnitudes in 1/128. -/
def tapSum (t : List Int) : Nat := sumN (t.map Int.natAbs)

/-- The answer to a request for one tap step (R102), and the taps after it: 1 updated, 2 at limit, 3 not supported. -/
def tapStep (rate : Nat) (taps : List Int) (tap : Nat) (up : Bool) : Nat × List Int :=
  if 4 < tap then (3, taps)
  else
    let v := taps.getD tap 0 + (if up then 1 else -1)
    let t' := taps.set tap v
    let r := tapRange rate tap
    if v < r.1 ∨ r.2 < v ∨ 128 < tapSum t' then (2, taps) else (1, t')

/-! ## Receive equalisers (R105, R106) -/

/-- The range of receive FFE tap `i` in 1/256 of main: 24 taps on rates 4 to 6, the fifth of them the main tap, by which the others are
measured. -/
def ffeRange (rate i : Nat) : Int × Int :=
  if rate < 4 then (if i = 4 then (256, 256) else (0, 0)) else if i = 4 then (256, 256) else (-128, 128)

/-- The range of DFE tap `i` in 1/256: 8 taps on NRZ rates, h1 alone on PAM4 rates. -/
def dfeRange (rate i : Nat) : Int × Int :=
  if rate < 3 then (-64, 64) else if i = 0 then (0, 128) else (0, 0)

/-- The receive FFE and DFE taps (24 and 8) after moves of at most `most` steps each, inside their ranges. -/
def tapsMoved (rate : Nat) (most : Int) (v : Lane) (moves : List Int) : Lane :=
  { v with
    ffe := v.ffe.zipIdx.map (fun e => clampInt (ffeRange rate e.2) (e.1 + clampInt (-most, most) (moves.getD e.2 0))),
    dfe := v.dfe.zipIdx.map (fun e => clampInt (dfeRange rate e.2) (e.1 + clampInt (-most, most) (moves.getD (24 + e.2) 0))) }

/-! ## What a training lane sends (R101, R102) -/

/-- The lane's logical transmit position in its port (R98). -/
def State.ownId (s : State) (l : Nat) : Nat := match s.portOf l with | some p => l - p | none => 0

/-- The CONTROL bits of this end: the request, INIT in phase T0, and EIDLE for a steep entry frame. -/
def State.ownControl (s : State) (l : Nat) (eidle : Bool) : Nat :=
  (s.lane l).trainer.req
    + b2n (decide (s.lstate l = lTRAIN) && s.fld LANE_STATUS.TRAIN_PHASE l == 0) * 2 ^ 8 + b2n eidle * 2 ^ 9

/-- The information bits of the frame this end sends (R101, R102). -/
def State.ownInfo (s : State) (l : Nat) (eidle : Bool) (count : Nat) : Nat :=
  trainInfo (s.ownControl l eidle)
    (trainStatus (s.lane l).resp (decide (5 ≤ s.fld LANE_STATUS.TRAIN_PHASE l)) (s.ownId l)) count

/-- One training frame leaves: QPRBS13 goes on from frame to frame (R101). -/
def State.sendFrame (s : State) (l : Nat) (eidle : Bool) (count : Nat) : State :=
  let h := (s.lane l).qprbs
  (s.emit (.symbols l (trainSymbols (s.ownInfo l eidle count) h))).setLane l { s.lane l with qprbs := prbsSkip 6 qprbsBits h }

/-- The frame of a lane in TRAIN, beside each frame it receives (DESIGN CHOICE: both ends' frames are equally long, so one is sent for
one received). In phase T6 COUNT goes down from 7 to 0, one value a frame, and stays at 0 (R103). -/
def State.trainSend (s : State) (l : Nat) : State :=
  let t := (s.lane l).trainer
  let s := s.sendFrame l false t.count
  if s.fld LANE_STATUS.TRAIN_PHASE l = 6 then s.setLane l { s.lane l with trainer := { t with count := t.count - 1 } } else s

/-- The configuration fields that take effect at the lane's next entry to TRAIN, or to HUNT without training (R123). -/
def State.applyCfg (s : State) (l : Nat) : State :=
  let v := s.lane l
  let a := { v.cfg with adaptBg := v.act.adaptBg, fomMin := v.act.fomMin, drift := v.act.drift }
  let s := s.setLane l { v with act := a, taps := presetTaps (s.rateOf l) (if v.cfg.txMode then v.cfg.txPreset else 1) }
  let s := if v.cfg.rxPol = 0 then s
    else (s.setFld LANE_STATUS.RX_INV l (b2n (v.cfg.rxPol == 2))).setFld LANE_STATUS.POL_AUTO l 0
  let c := s.fld LANE_STATUS.CTLE l
  s.setFld LANE_STATUS.CTLE l (Nat.max v.cfg.ctleMin (Nat.min v.cfg.ctleMax c))

/-- Enter TRAIN, in phase T0 (R103). -/
def State.enterTrain (s : State) (l : Nat) : State :=
  let s := s.applyCfg l
  let s := s.setLane l { s.lane l with
    goodMk := 0, badMk := 0, frameLock := false, validT1 := 0, readyRx := 0, resp := 0,
    idKnown := false, trainAt := s.now, trainer := {}, qprbs := patternSeed 6 l }
  let s := s.setFld LANE_STATUS.TRAIN_PHASE l 0
  let s := s.setLState l lTRAIN 1
  if s.rateOf l = 6 then s.trainSend l else s

/-- Enter HUNT; without training the configuration takes effect here (R123). -/
def State.enterHunt (s : State) (l : Nat) : State :=
  (if s.trains l then s else s.applyCfg l).setLState l lHUNT 1

/-- A failed TRAIN or HUNT: DOWN, then DETECT after 100 ms; the third in a row sets TRAIN_FAIL and is reported (R96). -/
def State.attemptFailed (s : State) (l : Nat) : State :=
  let n := (s.lane l).fails + 1
  let s := s.setLState l lDOWN 1
  let s := s.setLane l { s.lane l with fails := n, retry := true, frameLock := false }
  if n = 3 then (s.ev LANE_EVENT.TRAIN_FAIL l).raise 0x0402 kRETRIED (tgt cLANE l) 0 else s

/-- Receive polarity is inverted on detection, unless it is forced (R97). -/
def State.flipPolarity (s : State) (l : Nat) : State :=
  let s := s.setFld LANE_STATUS.RX_INV l (1 - s.fld LANE_STATUS.RX_INV l)
  let s := s.setFld LANE_STATUS.POL_AUTO l 1
  s.ev LANE_EVENT.POL_FLIP l

/-- A lane comes to UP from HUNT (R96, R100): the failures end and the FOM of this stay in UP starts anew (R107, R125); the CDR
phase is whatever the lane has acquired. A re-adaptation that was under way when the lane left UP ends here, with no event: READAPT
reads 1 until then (DESIGN CHOICE: R107 does not say). -/
def State.laneUp (s : State) (l : Nat) : State :=
  let v := s.lane l
  let s := (s.setLane l { v with
    fails := 0, retry := false, driftRun := 0, lowRun := 0, steepIdle := false, winFrozen := false, safeDue := false,
    cdr := s.free }).drawn
  let s := s.setFld LANE_FOM_REG.VALID l 0
  let s := s.setFld LANE_FOM_REG.FOM_LOWEST l 0x3FF
  let s := s.setFld LANE_STATUS.READAPT l 0
  s.setLState l lUP 1

/-- A lane that left UP is a local fault of its port (R137). -/
def State.laneFault (s : State) (l : Nat) : State :=
  match s.portOf l with
  | some p => s.localFaultStart p
  | none => s

/-! ## Lane events (R95 to R100, R118 to R122) -/

/-- Calibration of a waking lane ends; the lane is READY in DOWN, or RETIRED where it fails (R95, R436). -/
def State.laneCal (s : State) (l : Nat) (pass : Bool) : State :=
  if s.ust (tgt cLANE l) = uWAKING then
    if pass then ((s.setUst (tgt cLANE l) uREADY 0).setFld LANE_STATUS.LSTATE l lDOWN).showTx l .highZ
    else s.retire (tgt cLANE l) 3
  else s

/-- LANE_SIGNAL_DETECT: 100 µs of energy moves DETECT to TRAIN, or to HUNT for a rate without training (R96); SIG shows it in every
link state (R125). -/
def execLaneSignalDetect (l : Nat) (s : State) : Host.Outcome State Fault Refusal :=
  .next (if s.linkable l = false then s
    else
      let s := s.setFld LANE_STATUS.SIG l 1
      if s.lstate l = lDETECT then (if s.trains l then s.enterTrain l else s.enterHunt l) else s)

/-- LANE_SIGNAL_LOSS: 2 µs without energy moves DETECT, TRAIN, HUNT and UP to DETECT; from UP it is a loss of lock (R96). In the other
link states only SIG follows. -/
def execLaneSignalLoss (l : Nat) (s : State) : Host.Outcome State Fault Refusal :=
  .next (if s.linkable l = false then s
    else
      let s := s.setFld LANE_STATUS.SIG l 0
      if 1 ≤ s.lstate l ∧ s.lstate l ≤ 4 then
        let up := s.lstate l == lUP
        let s := if up then s.lockLost l else s
        let s := s.setLState l lDETECT 1
        if up then s.laneFault l else s
      else s)

/-- The partner's requests of a training frame are answered (R102): a preset, or one step of one tap; a request is
applied once, and RESP returns to 0 on hold. A reserved TAP, REQ or PRESET code, and every request to a lane whose taps are a fixed
preset (TX_MODE 1, R123), is answered 0b11, not supported (DESIGN CHOICE: R102 calls the codes reserved and gives no answer). -/
def State.answerRequest (s : State) (l info : Nat) : State :=
  let v := s.lane l
  let preset := nbits info 5 3
  let req := nbits info 3 2
  if preset = 0 ∧ req = 0 then s.setLane l { v with resp := 0 }
  else if v.resp ≠ 0 then s
  else if v.act.txMode then s.setLane l { v with resp := 3 }
  else if preset ≠ 0 then
    if 5 < preset then s.setLane l { v with resp := 3 }
    else s.setLane l { v with resp := 1, taps := presetTaps (s.rateOf l) preset }
  else if req = 3 then s.setLane l { v with resp := 3 }
  else
    let r := tapStep (s.rateOf l) v.taps (nbits info 0 3) (req == 1)
    s.setLane l { v with resp := r.1, taps := r.2 }

/-! ### The requester (R102, R103)

A request goes out in every frame until RESP is not 0b00, then hold until it is 0b00 again. The order of the tap steps of T3 is the
model's (DESIGN CHOICE: R103 says toward higher FOM): the steps of each tap in turn, up then down, one step again as long as it
gains; a step that does not gain is undone. -/

/-- The request of preset `n`. -/
def presetReq (n : Nat) : Nat := n * 2 ^ 5

/-- Step `i` of the search of T3: tap i / 2, increment for an even `i`. -/
def stepReq (i : Nat) : Nat := (i % 10) / 2 + (1 + i % 2) * 2 ^ 3

/-- The opposite step. -/
def stepBack (i : Nat) : Nat := (i % 10) / 2 + (2 - i % 2) * 2 ^ 3

/-- The search of T3 goes on to the next step, or is over: no step gained, or 64 handshakes. -/
def TrainReq.nextStep (t : TrainReq) : TrainReq :=
  if 10 ≤ t.dry ∨ 64 ≤ t.shakes then { t with ended := true, want := 0, wins := 0 }
  else { t with want := stepReq t.idx, wins := 0, sum := 0 }

/-- The request in force has been answered: hold follows, and what was asked is measured (R102, R103). -/
def TrainReq.answered (t : TrainReq) (phase resp : Nat) : TrainReq :=
  let t := { t with req := 0, shakes := t.shakes + 1 }
  match phase with
  | 2 => if 6 ≤ t.idx then { t with ended := true } else { t with wins := 4, sum := 0 }
  | 3 =>
    if t.undo then ({ t with undo := false, idx := t.idx + 1 } : TrainReq).nextStep
    else if resp = 1 then { t with wins := 2, sum := 0 }
    else ({ t with dry := t.dry + 1, idx := t.idx + 1 } : TrainReq).nextStep
  | _ => t

/-- What a received frame does to this end's requests: an answer ends the request in force; RESP 0b00 lets the next one out. -/
def TrainReq.heard (t : TrainReq) (phase resp now : Nat) : TrainReq :=
  if t.req ≠ 0 then (if resp ≠ 0 then t.answered phase resp else t)
  else if resp = 0 ∧ t.want ≠ 0 then { t with req := t.want, want := 0, reqAt := now }
  else t

/-- The verdict after the windows of a preset (T2) or of a tap step (T3). A step gains 0.1 dB when the mean FOM of its two windows is at
least 1 higher. -/
def TrainReq.judged (t : TrainReq) (phase : Nat) : TrainReq :=
  if phase = 2 then
    let t := if t.idx ≤ 1 ∨ t.bestSum < t.sum then { t with best := t.idx, bestSum := t.sum } else t
    let t := { t with idx := t.idx + 1 }
    { t with want := presetReq (if t.idx ≤ 5 then t.idx else t.best) }
  else if t.bestSum + 2 ≤ t.sum then ({ t with bestSum := t.sum, dry := 0 } : TrainReq).nextStep
  else { t with dry := t.dry + 1, undo := true, want := stepBack t.idx }

/-- A FOM window of a lane in training ends. -/
def TrainReq.window (t : TrainReq) (phase fom : Nat) : TrainReq :=
  if t.wins = 0 ∨ (phase ≠ 2 ∧ phase ≠ 3) then t
  else
    let t := { t with wins := t.wins - 1, sum := t.sum + fom }
    if t.wins = 0 then t.judged phase else t

/-- The requester's state at the start of a phase: T2 begins with preset 1; T3 with the first step, the FOM to beat that of the best
preset over 2 windows; T6 with COUNT 7. -/
def TrainReq.begin (t : TrainReq) (phase now : Nat) : TrainReq :=
  match phase with
  | 2 => { t with phaseAt := now, idx := 1, want := presetReq 1, ended := false }
  | 3 => ({ t with phaseAt := now, idx := 0, dry := 0, bestSum := t.bestSum / 2, ended := false } : TrainReq).nextStep
  | 6 => { t with phaseAt := now, count := 7 }
  | _ => { t with phaseAt := now }

/-- A training frame whose CRC and VER are good (R101 to R103): frame lock after three, what phase T1 records, the partner's answer,
this end's answer to the partner, and this end's next frame. -/
def State.goodFrame (s : State) (l info : Nat) : State :=
  let v := s.lane l
  let ph := s.fld LANE_STATUS.TRAIN_PHASE l
  let t1 := ph == 1
  let v := { v with
    goodMk := v.goodMk + 1, badMk := 0, frameLock := v.frameLock || decide (3 ≤ v.goodMk + 1),
    readyRx := if nbit info 18 then v.readyRx + 1 else 0,
    validT1 := if t1 then v.validT1 + 1 else v.validT1,
    partnerId := if t1 then nbits info 19 3 else v.partnerId,
    idKnown := v.idKnown || t1,
    steepCap := if t1 then nbit info 22 else v.steepCap,
    trainer := v.trainer.heard ph (nbits info 16 2) s.now }
  let s := s.setLane l v
  let s := if t1 then s.setFld LANE_STATUS.RX_LOGICAL l (nbits info 19 3) else s
  (s.answerRequest l info).trainSend l

/-- LANE_TRAIN_FRAME: a Lane-400 training frame is received in TRAIN (R97, R101 to R103). A frame with a bad CRC is
ignored and counts against frame lock; VER other than 1 ends training as failed; an inverted marker flips the receive
polarity and restarts frame lock, on a lane that trains by IEEE 802.3 too. -/
def execLaneTrainFrame (l info : Nat) (marker inverted : Bool) (s : State) : Host.Outcome State Fault Refusal :=
  .next (if s.linkable l = true ∧ s.lstate l = lTRAIN ∧ s.trains l = true then
      let v := s.lane l
      if inverted && v.act.rxPol == 0 then
        (s.flipPolarity l).setLane l { v with goodMk := 0, badMk := 0, frameLock := false }
      else if s.rateOf l ≠ 6 then s
      else if !marker || !frameCrcOk info then
        let bad := v.badMk + 1
        (s.setLane l { v with
          goodMk := 0, badMk := bad, frameLock := v.frameLock && decide (bad < 8), readyRx := 0 }).trainSend l
      else if nbits info 24 4 ≠ 1 then s.attemptFailed l
      else s.goodFrame l info
    else s)

/-- When a phase ends (R103): frame lock for T0, 8 valid frames for T1, the best preset acknowledged for T2, no step left that gains or
64 handshakes for T3, 2 ms for T4, RX_READY in 3 consecutive frames for T5. -/
def State.phaseMayEnd (s : State) (l : Nat) : Bool :=
  let v := s.lane l
  match s.fld LANE_STATUS.TRAIN_PHASE l with
  | 0 => v.frameLock
  | 1 => 8 ≤ v.validT1
  | 2 => v.trainer.ended
  | 3 => v.trainer.ended
  | 4 => v.trainer.phaseAt + 2 * msNs ≤ s.now
  | 5 => 3 ≤ v.readyRx
  | _ => true

/-- The adaptation of a training (phase T4, or IEEE 802.3's own): CTLE within the lane's range, VGA, and the receive FFE and DFE taps
inside theirs (R105). `eq` is what the loop reaches: CTLE, VGA, then the moves of the 24 and 8 taps. -/
def State.trainAdapt (s : State) (l : Nat) (eq : List Int) : State :=
  let a := (s.lane l).act
  let s := s.setFld LANE_STATUS.CTLE l (Nat.max a.ctleMin (Nat.min a.ctleMax (eq.getD 0 0).toNat))
  s.setLane l (tapsMoved (s.rateOf l) 512 { s.lane l with vga := Nat.min 60 (eq.getD 1 0).toNat } (eq.drop 2))

/-- The frames of the countdown that are still to be sent leave, the last with COUNT 0 (R103). -/
def State.countdown (s : State) (l : Nat) : State :=
  eachIn (List.range ((s.lane l).trainer.count + 1)) s (fun s _ => s.trainSend l)

/-- LANE_TRAIN_PHASE_END: a Lane-400 phase ends and the next begins; the end of T6, after the frame with COUNT 0, or of an IEEE
802.3 training, takes the lane to HUNT (R96, R103). What the receiver's adaptation has reached is taken at the end of T4. -/
def execLaneTrainPhaseEnd (e : TrainEnd) (s : State) : Host.Outcome State Fault Refusal :=
  let l := e.lane
  .next (if s.linkable l = true ∧ s.lstate l = lTRAIN then
      let ph := s.fld LANE_STATUS.TRAIN_PHASE l
      if s.rateOf l ≠ 6 then (s.trainAdapt l e.eq).enterHunt l
      else if ph = 6 then (s.countdown l).enterHunt l
      else if s.phaseMayEnd l then
        let s := if ph = 4 then s.trainAdapt l e.eq else s
        let s := s.setFld LANE_STATUS.TRAIN_PHASE l (ph + 1)
        s.setLane l { s.lane l with trainer := (s.lane l).trainer.begin (ph + 1) s.now }
      else s
    else s)

/-- A limit of R103 is exceeded: frame lock 10 ms after entering TRAIN, 2 ms for a handshake, 500 ms for the whole. -/
def State.trainLate (s : State) (l : Nat) : Bool :=
  let v := s.lane l
  (!v.frameLock && decide (v.trainAt + 10 * msNs < s.now))
    || (v.trainer.req != 0 && decide (v.trainer.reqAt + 2 * msNs < s.now))
    || decide (v.trainAt + 500 * msNs < s.now)

/-- LANE_TRAIN_TIMEOUT: TRAIN exceeds a limit of R103 and ends as failed; an IEEE 802.3 training exceeds one of that standard's own. -/
def execLaneTrainTimeout (l : Nat) (s : State) : Host.Outcome State Fault Refusal :=
  .next (if s.linkable l = true ∧ s.lstate l = lTRAIN ∧ (s.rateOf l ≠ 6 ∨ s.trainLate l = true) then s.attemptFailed l else s)

/-! ### Lock (R97, R98, R100, R133, R134) -/

/-- How many FEC or PCS lanes carry the markers of a port (PRESUMED: the counts of IEEE 802.3), by speed code, with 3.2 Tb/s doubling
1.6 Tb/s (R134). -/
def markerLanes (speed : Nat) : Nat :=
  match speed with
  | 2 => 1
  | 3 => 2
  | 4 => 4
  | 5 => 8
  | 6 => 16
  | 7 => 32
  | 8 => 16
  | 9 => 32
  | _ => 1

/-- The lane locks on alignment markers: PAM4 rates, and code 2 where RS FEC applies (R92). -/
def State.byMarkers (s : State) (l : Nat) : Bool :=
  isPam4 (s.rateOf l) ||
  (s.rateOf l == 2 && (match s.portOf l with | some p => s.fld PORT_STATUS.FEC_ACT p == 2 | none => false))

/-- How many locks R100 runs on a lane: one by sync headers; with markers one on each virtual lane of a Lane-400 lane (R134), and one on
each FEC or PCS lane that a lane of another port carries (R133). -/
def State.subLanes (s : State) (l : Nat) : Nat :=
  if s.byMarkers l = false then 1
  else if s.rateOf l = 6 then 2
  else match s.portOf l with
    | some p => Nat.max 1 (markerLanes (s.portSpeed p) / s.portLanes p)
    | none => 1

/-- The hunt of one FEC, PCS or virtual lane ends in lock (R100): 64 valid headers, or 2 markers at the exact AM period. -/
def State.lockSeen (s : State) (l : Nat) (seen : List Nat) : Bool :=
  if s.byMarkers l then markersLock seen else headersLock seen

/-- One more of a lane's hunts ends in lock, carrying lane number `num`. -/
def State.subLock (s : State) (l sub num : Nat) : State :=
  let v := s.lane l
  s.setLane l { v with locked := (sub, num) :: v.locked.filter (fun e => e.1 != sub) }

/-- The logical position that a lane's markers carry (R98): on a Lane-400 lane the virtual lanes are ordered in pairs; elsewhere the lanes
that one physical lane carries share a position. -/
def State.lockedPos (s : State) (l : Nat) : Nat :=
  let num := ((s.lane l).locked.find? (fun e => e.1 == 0)).elim 0 Prod.snd
  (num / s.subLanes l) % 8

/-- Every hunt of the lane has ended in lock. -/
def State.allLocked (s : State) (l : Nat) : Bool := decide (s.subLanes l ≤ (s.lane l).locked.length)

/-- The lane has lock (R96, R98): UP, with the position the markers carry, which wins over training's. -/
def State.hunted (s : State) (l : Nat) : State :=
  let v := s.lane l
  let pos := s.lockedPos l
  let s := if v.idKnown && v.partnerId != pos then s.ev LANE_EVENT.ORDER_MISMATCH l else s
  let s := (s.setFld LANE_STATUS.RX_LOGICAL l pos).laneUp l
  match s.portOf l with
  | some p => s.portProgress p
  | none => s

/-- The hunt finds no lock where it looks: it slips, a bit of the 66-bit block after an invalid header, a symbol after 2 AM periods
without a candidate (R100). -/
def State.slip (s : State) (l : Nat) : State :=
  let v := s.lane l
  s.setLane l { v with align := if s.byMarkers l then v.align + 1 else (v.align + 1) % 66 }

/-- LANE_LOCK: what a lane's hunt sees (R100), on the `sub`-th FEC, PCS or virtual lane it carries: `seen` holds 64 sync headers or the
nibble mismatches of 2 markers at the AM period. Lock on all of them takes HUNT to UP, with the position the markers carry (R98); WAKE
goes back to UP within its limit, which is no new entry into UP: FOM_LOWEST, VALID and FOM_LINKUP go on (DESIGN CHOICE: R107 and R125
do not say). A match with every bit inverted flips the polarity and restarts HUNT; so do, on a 64b/66b lane that is UP without
training, 16 control blocks whose types `seen` holds (R97). In far-end loopback the receiver locks and the lane sends what it receives
(R117). -/
def execLaneLock (l : Nat) (m : MarkerSeen) (inverted : Bool) (s : State) : Host.Outcome State Fault Refusal :=
  .next (if s.linkable l = false then s
    else
      let auto := decide ((s.lane l).act.rxPol = 0)
      if s.lstate l = lHUNT then
        if inverted then (if auto then (s.flipPolarity l).setLState l lHUNT 1 else s)
        else if s.lockSeen l m.seen = false then s.slip l
        else
          let s := s.subLock l m.sub m.num
          if s.allLocked l then s.hunted l else s
      else if s.lstate l = lWAKE then
        if inverted || !s.lockSeen l m.seen then s
        else
          let s := s.subLock l m.sub m.num
          if s.allLocked l then s.setLState l lUP 1 else s
      else if s.lstate l = lUP then
        if inverted && auto && s.rateOf l ≤ 2 && !s.trains l && blocksInverted m.seen then
          ((s.flipPolarity l).setLState l lHUNT 1).laneFault l
        else s
      else if s.lstate l = lTEST ∧ (s.lane l).test.loop = 2 then
        (s.setFld LANE_STATUS.LOCK l 1).showTx l (s.laneTx l)
      else s)

/-- LANE_HUNT_TIMEOUT: no lock within 10 ms (R96). -/
def execLaneHuntTimeout (l : Nat) (s : State) : Host.Outcome State Fault Refusal :=
  .next (if s.linkable l = true ∧ s.lstate l = lHUNT ∧ (s.lane l).since + 10 * msNs ≤ s.now then s.attemptFailed l else s)

/-- Lock is lost (R100): `seen` holds the sync headers of a stretch of 64 or the nibble mismatches of 5 markers. -/
def State.lossSeen (s : State) (l : Nat) (seen : List Nat) : Bool :=
  if s.byMarkers l then markersLost seen else headersLost seen

/-- LANE_LOCK_LOSS: lock is lost from UP, on one of the lanes that R100 runs on; reported RETRIED on the lane (R96, R100). -/
def execLaneLockLoss (e : LossSeen) (s : State) : Host.Outcome State Fault Refusal :=
  let l := e.lane
  .next (if s.linkable l = true ∧ s.lstate l = lUP ∧ s.lossSeen l e.seen = true then ((s.lockLost l).setLState l lHUNT 1).laneFault l
    else s)

/-- LANE_RETRY_TIMER: 100 ms after a failed attempt the lane returns to DETECT while its port stays enabled (R96). -/
def execLaneRetryTimer (l : Nat) (s : State) : Host.Outcome State Fault Refusal :=
  .next (if s.linkable l = true ∧ s.lstate l = lDOWN ∧ (s.lane l).retry = true ∧ (s.lane l).since + 100 * msNs ≤ s.now
      ∧ (match s.portOf l with | some p => (s.port p).enabled | none => false) = true then
      (s.setLane l { s.lane l with retry := false }).setLState l lDETECT 1
    else s)

/-! ## Figure of merit and drift (R106 to R111) -/

/-- Whether 20·log10(A ÷ √MSE) · 10 ≥ n − ½, exactly: (A²)^200 ≥ 10^(2n − 1) · MSE^200. -/
def fomAtLeast (a mse n : Nat) : Bool :=
  n == 0 || decide (10 ^ (2 * n - 1) * mse ^ 200 ≤ (a * a) ^ 200)

/-- FOM = round(10 × 20 × log10(A ÷ √MSE)), saturating at 0 and 1,023 (R110). -/
def fomOf (a mse : Nat) : Nat :=
  if a = 0 then 0
  else [512, 256, 128, 64, 32, 16, 8, 4, 2, 1].foldl (fun f b => if fomAtLeast a mse (f + b) then f + b else f) 0

/-- FOM_MIN in force (R111): the set value, else the rate's default. The table lists codes 1 and 2 without FEC and code 2 with RS FEC;
BASE-R FEC (mode 1) takes the default without FEC, 170 (DESIGN CHOICE). -/
def State.fomMin (s : State) (l : Nat) : Nat :=
  let m := (s.lane l).act.fomMin
  if m ≠ 0 then m
  else match s.rateOf l with
    | 6 => 120
    | 5 => 115
    | 4 => 115
    | 3 => 115
    | 2 => (match s.portOf l with | some p => if s.fld PORT_STATUS.FEC_ACT p = 2 then 150 else 170 | none => 170)
    | _ => 170

/-- Re-adaptation ends (R107): DONE, or UNDO where every step was undone; FOM_LINKUP is set anew. -/
def State.readaptEnd (s : State) (l : Nat) : State :=
  let kept := (s.lane l).readKept
  let s := if kept then s.ev LANE_EVENT.READAPT_DONE l else s.ev LANE_EVENT.READAPT_UNDO l
  let s := s.setFld LANE_STATUS.READAPT l 0
  s.setFld LANE_FOM_REG.FOM_LINKUP l (s.fld LANE_FOM_REG.FOM l)

/-- The drift and low-FOM tests of a window (R107 to R109): one that overlapped a freeze does not count toward the 4 of R107. -/
def State.fomTests (s : State) (l : Nat) (overlapped : Bool) : State :=
  let f := s.fld LANE_FOM_REG.FOM l
  let m := s.fomMin l
  let v := s.lane l
  let drifted := (v.act.drift != 0 && decide (f + v.act.drift < s.fld LANE_FOM_REG.FOM_LINKUP l)) || decide (f < m + 10)
  let frozen := overlapped || s.flag LANE_STATUS.FROZEN l
  let dr := if frozen then v.driftRun else if drifted then v.driftRun + 1 else 0
  let low := if f < m then v.lowRun + 1 else 0
  let s := s.setLane l { v with driftRun := dr, lowRun := low }
  let s := if low = 16 then s.ev LANE_EVENT.FOM_LOW l else s
  if 4 ≤ dr ∧ s.flag LANE_STATUS.READAPT l = false ∧ frozen = false then
    let s := s.ev LANE_EVENT.FOM_DRIFT l
    let s := s.setFld LANE_STATUS.READAPT l 1
    s.setLane l { s.lane l with
      driftRun := 0, readSteps := 0, readKept := false, readCtle := s.fld LANE_STATUS.CTLE l,
      readVga := v.vga, stepWhich := 0, stepUndo := false }
  else s

/-- The verdict on the last re-adaptation step: kept when this window's FOM is not lower than before it (R107). -/
def State.stepVerdict (s : State) (l : Nat) : State :=
  let v := s.lane l
  if s.flag LANE_STATUS.READAPT l && v.stepWhich != 0 && !v.stepUndo then
    if v.stepFom ≤ s.fld LANE_FOM_REG.FOM l then s.setLane l { v with readKept := true, stepWhich := 0 }
    else s.setLane l { v with stepUndo := true }
  else s

/-- A FOM window of a lane in UP ends (R107, R109, R110): FOM, FOM_LOWEST, FOM_LINKUP from the first, then the tests. -/
def State.fomUp (s : State) (l f : Nat) (overlapped : Bool) : State :=
  let first := !s.flag LANE_FOM_REG.VALID l
  let s := s.setFld LANE_FOM_REG.FOM l f
  let s := s.setFld LANE_FOM_REG.VALID l 1
  let s := s.setFld LANE_FOM_REG.FOM_LOWEST l (Nat.min f (s.fld LANE_FOM_REG.FOM_LOWEST l))
  let s := if first then s.setFld LANE_FOM_REG.FOM_LINKUP l f else s
  (s.stepVerdict l).fomTests l overlapped

/-- The moves of the receive taps over one window of 2^20 symbols: 16 steps each at one per 65,536 symbols (R106), where adaptation
runs. -/
def State.tapsTrack (s : State) (l : Nat) (moves : List Int) : State :=
  if (s.lane l).act.adaptBg ∧ s.flag LANE_STATUS.FROZEN l = false then s.setLane l (tapsMoved (s.rateOf l) 16 (s.lane l) moves) else s

/-- FOM_WINDOW_END: a window ends on a lane in UP (R107, R109, R110), in a loopback that adapts (R117), or in training, where it judges a
preset or a tap step (R103). ADAPT_BG, FOM_MIN and DRIFT take effect here (R123); the next safe point may be used (R106). `m` holds
the error and the steps the receive FFE and DFE taps take. -/
def execFomWindowEnd (l a : Nat) (m : FomSeen) (s : State) : Host.Outcome State Fault Refusal :=
  .next (if s.linkable l = false then s
    else
      let f := fomOf a m.mse
      if s.lstate l = lUP ∨ (s.lstate l = lTEST ∧ (s.lane l).test.adapts = true) then
        let v := s.lane l
        let s := s.setLane l { v with
          act := { v.act with adaptBg := v.cfg.adaptBg, fomMin := v.cfg.fomMin, drift := v.cfg.drift },
          winFrozen := s.flag LANE_STATUS.FROZEN l, safeDue := true }
        let s := s.tapsTrack l m.moves
        if s.lstate l = lUP then s.fomUp l f v.winFrozen else s.setFld LANE_FOM_REG.FOM l f
      else if s.lstate l = lTRAIN ∧ s.rateOf l = 6 then
        s.setLane l { s.lane l with trainer := (s.lane l).trainer.window (s.fld LANE_STATUS.TRAIN_PHASE l) f }
      else s)

/-- CTLE moves by one code inside the lane's range (R105, R106). -/
def State.ctleStep (s : State) (l : Nat) (up : Bool) : State :=
  let c := s.fld LANE_STATUS.CTLE l
  let a := (s.lane l).act
  let c' := if up then Nat.min (c + 1) a.ctleMax else Nat.max (c - 1) a.ctleMin
  s.setFld LANE_STATUS.CTLE l c'

/-- VGA moves by one code of 0.25 dB, 0 to 15 dB (R105, R106). -/
def State.vgaStep (s : State) (l : Nat) (up : Bool) : State :=
  let v := s.lane l
  s.setLane l { v with vga := if up then Nat.min (v.vga + 1) 60 else v.vga - 1 }

/-- One CTLE (1) or VGA (2) step. -/
def State.eqStep (s : State) (l which : Nat) (up : Bool) : State :=
  if which = 1 then s.ctleStep l up else if which = 2 then s.vgaStep l up else s

/-- A step of the search stays within 2 codes of where it started (R107) and inside the range of R105 that `LANE_CFG` narrows. -/
def State.stepAllowed (s : State) (l which : Nat) (up : Bool) : Bool :=
  let v := s.lane l
  let near := fun (x b lo hi : Nat) =>
    if up then decide (x + 1 ≤ b + 2) && decide (x < hi) else decide (b ≤ x + 1) && decide (lo < x)
  if which = 1 then near (s.fld LANE_STATUS.CTLE l) v.readCtle v.act.ctleMin v.act.ctleMax
  else if which = 2 then near v.vga v.readVga 0 60 else false

/-- One safe point of a re-adaptation (R107): a step that lost is undone first; after 8 safe points, or when no step is left to try, the
search ends. -/
def State.readaptPoint (s : State) (l which : Nat) (up : Bool) : State :=
  let v := s.lane l
  let n := v.readSteps + 1
  if v.stepUndo then
    let s := s.eqStep l v.stepWhich (!v.stepUp)
    let s := s.setLane l { s.lane l with stepUndo := false, stepWhich := 0, readSteps := n }
    if 8 ≤ n then s.readaptEnd l else s
  else if 8 ≤ n ∨ s.stepAllowed l which up = false then
    (s.setLane l { v with readSteps := n }).readaptEnd l
  else
    let s := s.setLane l { v with readSteps := n, stepWhich := which, stepUp := up, stepFom := s.fld LANE_FOM_REG.FOM l }
    s.eqStep l which up

/-- LANE_SAFE_POINT: the safe point that follows a FOM window's end (R106), on a lane in UP, or in a loopback that adapts (R117), with
background adaptation, or under re-adaptation (R107); while adaptation is frozen it passes unused (R108). -/
def execLaneSafePoint (l which : Nat) (up : Bool) (s : State) : Host.Outcome State Fault Refusal :=
  .next (if s.linkable l = true ∧ (s.lstate l = lUP ∨ (s.lstate l = lTEST ∧ (s.lane l).test.adapts = true)) ∧ (s.lane l).safeDue = true then
      let s := s.setLane l { s.lane l with safeDue := false }
      if s.flag LANE_STATUS.FROZEN l then s
      else if s.flag LANE_STATUS.READAPT l && s.lstate l == lUP then s.readaptPoint l which up
      else if (s.lane l).act.adaptBg then s.eqStep l which up
      else s
    else s)

/-! ## Low-power idle (R118 to R122) -/

/-- LANE_LPI_ENTRY: a lane of an EEE port (codes 1 to 3, and a PHY type that defines EEE) enters QUIET by the signalling of the partner
(R118). Its CDR phase, taps, FEC alignment and AM position stay as they are (R119). -/
def execLaneLpiEntry (l : Nat) (s : State) : Host.Outcome State Fault Refusal :=
  .next (if s.linkable l = true ∧ s.lstate l = lUP ∧ eeePhy (s.rateOf l) (s.lane l).train = true then
      let s := s.setLState l lQUIET 1
      match s.portOf l with
      | some p => s.setFld PORT_STATUS.LPI_RX p 1
      | none => s
    else s)

/-- The lanes of a port that are in a link state, one after another, changed. -/
def State.eachLaneIn (s : State) (p ls : Nat) (f : State → Nat → State) : State :=
  eachIn (s.lanesOf p) s (fun s l => if s.lstate l = ls then f s l else s)

/-- The junction temperature at a lane: its bough's SerDes sensor (DESIGN CHOICE: R121 names no sensor, R484 lists these). -/
def State.laneTemp (s : State) (l : Nat) : Nat := s.fld PWR_DOM_V.TEMP (domSerdes (l / 64))

/-- A lane goes to QUIET by a steep entry: one frame with EIDLE 1 after its last codeword, then the transmitter is off. The temperature of
the moment and the end of STEEP_MAX_IDLE are kept (R121). -/
def State.steepQuiet (s : State) (l : Nat) : State :=
  let s := s.sendFrame l true 0xFF
  (s.setLane l { s.lane l with
    steepIdle := true, idleEnd := s.now + (s.lane l).maxIdle * msNs, idleTemp := s.laneTemp l }).setLState l lQUIET 1

/-- The steep burst may be used on a port (R121): code 6 lanes, STEEP_EN, and STEEP_CAP of every partner lane. -/
def State.steepOk (s : State) (p : Nat) : Bool :=
  s.portRate p == 6 && (s.port p).steepEn && (s.lanesOf p).all (fun l => (s.lane l).steepCap)

/-- The lanes of a port enter QUIET together by an EIDLE frame on each: transmit in low-power idle (R121). -/
def State.steepEnter (s : State) (p : Nat) : State := (s.eachLaneIn p lUP State.steepQuiet).setFld PORT_STATUS.LPI_TX p 1

/-- The steep burst on one lane (R121): segments A and B, then the training frames with COUNT 7 to 0, after which data resumes and a new
AM period starts. -/
def State.sendBurst (s : State) (l : Nat) : State :=
  let h := (s.lane l).qprbs
  let s := (s.emit (.symbols l (burstAB h))).setLane l { s.lane l with qprbs := prbsSkip 6 382500 h }
  eachIn [7, 6, 5, 4, 3, 2, 1, 0] s (fun s c => s.sendFrame l false c)

/-- The burst on every lane of a port at once. -/
def State.burst (s : State) (p : Nat) : State := eachIn (s.lanesOf p) s (fun s l => s.sendBurst l)

/-- Whether lanes of a port are in steep idle, their twig's PLL running. -/
def State.steepIdle (s : State) (p : Nat) : Bool := (s.lanesOf p).any (fun l => s.lstate l == lQUIET && (s.lane l).steepIdle && s.ust (tgt cLANE l) != uDEEP)

/-- STEEP_ENTRY: this end sends an EIDLE frame on every lane of the port and its lanes enter QUIET. -/
def execSteepEntry (p : Nat) (s : State) : Host.Outcome State Fault Refusal :=
  .next (if s.steepOk p = true ∧ (s.lanesOf p).all (fun l => s.lstate l == lUP) = true then s.steepEnter p else s)

/-- STEEP_EIDLE_RX: the partner's EIDLE frame: this end sends its own and enters QUIET; a lane already in QUIET, or waking,
keeps its state (R121, R122). The partner is in low-power idle. -/
def execSteepEidleRx (p : Nat) (s : State) : Host.Outcome State Fault Refusal :=
  .next (if s.steepOk p = true ∧ (s.lanesOf p).any (fun l => s.lstate l == lUP) = true then
      (s.steepEnter p).setFld PORT_STATUS.LPI_RX p 1
    else if s.steepIdle p then s.setFld PORT_STATUS.LPI_RX p 1
    else s)

/-- A lane leaves QUIET for WAKE; a lane in DEEP_DOZE first needs its twig's PLL (R120). -/
def State.wakeLane (s : State) (l : Nat) : State :=
  if s.lstate l = lQUIET ∧ s.ust (tgt cLANE l) ≠ uDEEP then s.setLState l lWAKE 1 else s

/-- The lanes of a port in low-power idle leave QUIET, by a burst where the idle was steep (R121, R142). -/
def State.wakePort (s : State) (p : Nat) : State :=
  let t := eachIn (s.lanesOf p) s (fun s l => s.wakeLane l)
  if s.steepIdle p then t.burst p else t

/-- STEEP_BURST_RX: a burst wakes the port's lanes, and this end answers with its own within 100 ns (R121, R122). -/
def execSteepBurstRx (p : Nat) (s : State) : Host.Outcome State Fault Refusal :=
  .next (if s.steepIdle p then s.wakePort p else s)

/-- LANE_WAKE_REQUEST: a wake request, refresh or staleness takes a lane from QUIET to WAKE (R96); on a code 6 lane that
is the burst, on all lanes of its port at once (R121). -/
def execLaneWakeRequest (l : Nat) (s : State) : Host.Outcome State Fault Refusal :=
  .next (if s.linkable l = true ∧ s.lstate l = lQUIET ∧ s.ust (tgt cLANE l) ≠ uDEEP then
      match s.portOf l, (s.lane l).steepIdle with
      | some p, true => (eachIn (s.lanesOf p) s (fun s l => s.wakeLane l)).burst p
      | _, _ => s.wakeLane l
    else s)

/-- A lane in steep idle is stale (R121): STEEP_MAX_IDLE has run out, or the junction temperature has moved by more than 5 °C since
entry. -/
def State.stale (s : State) (l : Nat) : Bool :=
  let v := s.lane l
  s.lstate l == lQUIET && v.steepIdle
    && (decide (v.idleEnd ≤ s.now) || decide (v.idleTemp + 5 < s.laneTemp l) || decide (s.laneTemp l + 5 < v.idleTemp))

/-- STEEP_STALE_TIMER: STEEP_MAX_IDLE, or a temperature change above 5 °C, ends QUIET by a burst (R121). -/
def execSteepStaleTimer (p : Nat) (s : State) : Host.Outcome State Fault Refusal :=
  .next (if s.steepIdle p && (s.lanesOf p).any s.stale then s.wakePort p else s)

/-- LANE_WAKE_LIMIT: no lock after the wake limit: full training follows; after a burst, 0.5 µs past its 1.5 µs, STEEP_FAIL is set; the
port goes down (R96, R121). -/
def execLaneWakeLimit (l : Nat) (s : State) : Host.Outcome State Fault Refusal :=
  .next (if s.linkable l = true ∧ s.lstate l = lWAKE ∧ ((s.lane l).steepIdle = false ∨ (s.lane l).since + 2 * usNs ≤ s.now) then
      let s := if (s.lane l).steepIdle then s.ev LANE_EVENT.STEEP_FAIL l else s
      let s := s.setLane l { s.lane l with steepIdle := false }
      let s := s.setLState l lDETECT 1
      match s.portOf l with
      | some p => (s.localFaultStart p).portFault p
      | none => s
    else s)

/-- DEEP_IDLE_US of a twig in µs; none where DEEP_EN is 0. Forced doze takes its 100 µs at once (R475; DEDUCED). -/
def State.deepIdle (s : State) (t : Nat) : Option Nat :=
  if s.pwr.forced then some 100 else if (s.twig t).enNow then some (s.twig t).usNow else none

/-- TWIG_DEEP_DOZE: a twig whose lanes have all idled for DEEP_IDLE_US stops its PLL; its lanes in DOZE are in DEEP_DOZE
(R120, R438). -/
def execTwigDeepDoze (t : Nat) (s : State) : Host.Outcome State Fault Refusal :=
  .next (if (s.deepIdle t).any (fun us => decide ((s.twig t).idleAt + us * usNs ≤ s.now)) = true ∧ s.lanesIdle t = true ∧ s.fld CLK_PLL.STATE (0x40 + t) = 2
      ∧ s.ust (tgt cTWIG t) ≠ uGRAFT ∧ s.ust (tgt cTWIG t) ≠ uRETIRED then
      let s := s.setFld CLK_PLL.STATE (0x40 + t) 0
      let s := s.setUst (tgt cTWIG t) uDEEP 1
      eachIn (List.range 8) s (fun s k =>
        if s.ust (tgt cLANE (t * 8 + k)) = uDOZE then s.setUst (tgt cLANE (t * 8 + k)) uDEEP 1 else s)
    else s)

/-! ## Tests (R115 to R117) -/

/-- Something reaches a lane's checker (R117): near-end and parallel loopback carry the lane's own generator. -/
def LaneTest.fed (t : LaneTest) : Bool := !(t.loop == 1 || t.loop == 3) || t.gen

/-- PRBS_CHECKER_LOCK: the checker of a lane under test has received some bits: it seeds itself from the first of them, and locks and
starts to count after 64 more free of errors (R115). -/
def execPrbsCheckerLock (e : CheckerBits) (s : State) : Host.Outcome State Fault Refusal :=
  let l := e.lane
  .next (if s.lstate l = lTEST ∧ (s.lane l).test.chk = true ∧ (s.lane l).test.fed = true
      ∧ checkerLocks (s.lane l).test e.rx = true then s.setFld LANE_PRBS_STATUS.CHK_LOCK l 1 else s)

/-- PRBS_CHECKER_LOCK_LOSS: of `bits` compared since it locked, those at the places `errs` were wrong; with 512 errors within 1,024 bits
the checker loses lock, and what it counted while locked stands in its counters (R115). -/
def execPrbsCheckerLockLoss (l bits : Nat) (errs : List Nat) (s : State) : Host.Outcome State Fault Refusal :=
  .next (if s.flag LANE_PRBS_STATUS.CHK_LOCK l = true ∧ checkerLoses bits errs = true then
      ((s.setFld LANE_PRBS_STATUS.CHK_LOCK l 0).bump .LANE_PRBS_BITS l bits).bump .LANE_PRBS_ERR l errs.length
    else s)

/-- The test parameters a `LANE_TEST` gives a lane: omitted words leave the current values (R116). -/
def testOf (p : Packet) (t : LaneTest) : LaneTest :=
  let t := { t with
    gen := parF p 0 0 1 == 1, chk := parF p 0 1 1 == 1, pattern := parF p 0 4 4, loop := parF p 0 8 3,
    txDrive := parF p 0 11 1 == 1 }
  let t := if hasPar p 1 then { t with inj := parF p 1 0 3, injLen := parF p 1 8 8, injRate := parF p 1 16 6, symSh := parF p 1 24 2 } else t
  let t := if hasPar p 2 then { t with userLo := parN p 2 } else t
  if hasPar p 3 then { t with userHi := parN p 3 } else t

/-- The E_PARAM cases of `LANE_TEST` (R116) that no lane changes. -/
def laneTestBad (p : Packet) : Option Nat :=
  if !onlyBits p 0 0xFF3 || 8 < parF p 0 4 4 || 3 < parF p 0 8 3 then some 0
  else if parF p 0 0 1 == 1 && parF p 0 8 3 == 2 then some 0
  else if hasPar p 1 && (!onlyBits p 1 0x033FFF07 || 4 < parF p 1 0 3 || 64 < parF p 1 8 8 || parF p 1 24 2 == 3
      || (parF p 1 0 3 == 3 && !(8 ≤ parF p 1 16 6 && parF p 1 16 6 ≤ 40))) then some 1
  else none

/-- A lane that `LANE_TEST` can act on: in DOWN or TEST (R96). -/
def State.testable (s : State) (l : Nat) : Bool := s.linkable l && (s.lstate l == lDOWN || s.lstate l == lTEST)

/-- `LANE_TEST` acts on one lane (R96, R116): a generator, checker or loopback takes it to TEST, none to DOWN; INJ 1, 2
and 4 act once, at the next bit or symbol the generator sends: the first 128 bits it sends from the command on leave as they stand, so
that what was injected is seen. The generator goes on from where it is, its place the bits of its line rate since it was started.
Polarity and order are not corrected here: the forced values apply, automatic polarity counting as normal (R99). A checker that is
stopped while it holds lock has counted what the environment gives (words 2l and 2l + 1). -/
def State.laneTest1 (s : State) (p : Packet) (l : Nat) : State :=
  let t := testOf p (s.lane l).test
  let on := t.gen || t.chk || t.loop != 0
  let t := { t with genAt := if t.gen && (s.lane l).test.gen then (s.lane l).test.genAt else s.now }
  let sent := (s.now - t.genAt) * lineKbps (s.rateOf l) / 1000000
  let tx := s.laneTx l
  let s := if s.flag LANE_PRBS_STATUS.CHK_LOCK l && !t.chk then
      (s.bump .LANE_PRBS_BITS l (envAt p (2 * l))).bump .LANE_PRBS_ERR l (envAt p (2 * l + 1))
    else s
  let s := if on then s.setFld LANE_STATUS.RATE l (s.rateOf l) else s
  let s := if t.gen then s.emit (.symbols l (testSymbols t l (s.rateOf l) sent 128)) else s
  let s := s.setLane l { s.lane l with test := if t.inj = 3 ∨ t.gen = false then t else { t with inj := 0 } }
  let s := if t.chk then s else s.setFld LANE_PRBS_STATUS.CHK_LOCK l 0
  let s := if on then
      ((s.setFld LANE_STATUS.RX_INV l (b2n ((s.lane l).cfg.rxPol == 2))).setFld LANE_STATUS.POL_AUTO l 0).setFld LANE_STATUS.RX_LOGICAL l (s.ownId l)
    else s
  (s.setLState l (if on then lTEST else lDOWN) 2).showTx l tx

/-- LANE_TEST's effect (R116): one lane, or every lane that can be tested. -/
def effLaneTest (p : Packet) (s : State) : State × Rep :=
  match laneTestBad p with
  | some i => (s, badPar i)
  | none =>
    let ls := instances p.target 512
    if hasPar p 1 && parF p 1 0 3 == 4 && ls.any (fun l => s.testable l && decide (s.rateOf l ≤ 2) && decide (1 ≤ s.rateOf l)) then (s, badPar 1)
    else if tInst p.target ≠ 0xFFF ∧ s.testable (tInst p.target) = false then (s, deny eSTATE)
    else (eachIn ls s (fun s l => if s.testable l then s.laneTest1 p l else s), ok)

/-- LANE_TEST. -/
def execLaneTest (p : Packet) (s : State) : Host.Outcome State Fault Refusal := .next (s.command 0x0105 effLaneTest p)

/-! ## Eye scan (R112 to R114) -/

/-- How many lanes of the module are ACTIVE. -/
def State.activeLanes (s : State) : Nat := ((List.range 512).filter (fun l => s.ust (tgt cLANE l) == uACTIVE)).length

/-- How many scans run. -/
def State.scans (s : State) : Nat := (s.lanes.filter (fun e => e.2.scanning)).length

/-- The E_PARAM cases of `EYE_SCAN` (R112). A lane whose rate code is 0 (no port, and `LANE_CFG` RATE 0) counts as NRZ for the EYE field
(DESIGN CHOICE: R112 names the field by modulation alone, and such a lane has none). -/
def eyeBad (s : State) (p : Packet) (l : Nat) : Option Nat :=
  let nrz := s.rateOf l ≤ 2
  if !onlyBits p 0 0x1F03 || parF p 0 0 2 == 3 || (nrz && parF p 0 0 2 != 1) || parF p 0 8 5 < 10 || 30 < parF p 0 8 5 then some 0
  else if !onlyBits p 1 0x7F3F || parF p 1 8 7 == 0 || 64 < parF p 1 0 6 + parF p 1 8 7 then some 1
  else if !onlyBits p 2 0xFF7F || parF p 2 8 8 == 0 || 128 < parF p 2 0 7 + parF p 2 8 8 then some 2
  else none

/-- The result words of a scan (R114); the environment gives V_STEP and then one error count per point. -/
def eyeWords (p : Packet) : List Word :=
  let n := parF p 1 8 7 * parF p 2 8 8
  let pt := fun i => if i < n then Nat.min 255 (envAt p (1 + i)) else 0
  [wd (tInst p.target % 512 + parF p 0 0 2 * 2 ^ 9 + parF p 0 8 5 * 2 ^ 16),
   wd (parF p 1 0 6 + parF p 1 8 7 * 2 ^ 8),
   wd (parF p 2 0 7 + parF p 2 8 8 * 2 ^ 8),
   wd (envAt p 0 % 2 ^ 16 + 15 * 2 ^ 16)] ++
  (List.range (ceilDiv n 4)).map (fun w =>
    wd (pt (4 * w) + pt (4 * w + 1) * 2 ^ 8 + pt (4 * w + 2) * 2 ^ 16 + pt (4 * w + 3) * 2 ^ 24))

/-- EYE_SCAN's effect: checked (R112, R113, and the result space of R45), then the grid; a scan that goes PENDING freezes
the lane's adaptation until its final reply. -/
def effEyeScan (p : Packet) (s : State) : State × Rep :=
  let l := tInst p.target
  match eyeBad s p l with
  | some i => (s, badPar i)
  | none =>
    if s.linkable l = false ∨ (s.lstate l ≠ lUP ∧ s.lstate l ≠ lTEST) then (s, deny eSTATE)
    else if s.ust (tgt cLANE l) = uACTIVE ∧ 64 < s.activeLanes then (s, deny eSTATE)
    else if 8 ≤ s.scans then (s, deny eRESOURCE)
    else if resultsFit p (ok (eyeWords p)) = false then (s, refuse eLEN (eyeWords p).length)
    else if p.slow then
      ((s.setLane l { s.lane l with scanning := true, winFrozen := true }).setFld LANE_STATUS.FROZEN l 1, laterRep)
    else (s, ok (eyeWords p))

/-- The end of a scan that was PENDING: the grid, or E_STATE where the lane has left UP or TEST since (R113). -/
def State.eyeScanEnd (s : State) (p : Packet) : State :=
  let l := tInst p.target
  let up := (s.lane l).scanning
  let s := s.setLane l { s.lane l with scanning := false }
  let s := if up then s.setFld LANE_STATUS.FROZEN l (b2n (frozenIn (s.lane l) (s.lstate l))) else s
  s.finish 0x0106 (fun q => q.target == p.target) (if up then ok (eyeWords p) else deny eSTATE)

/-- EYE_SCAN. -/
def execEyeScan (p : Packet) (s : State) : Host.Outcome State Fault Refusal := .next (s.command 0x0106 effEyeScan p)

/-! ## Configuration and status (R123, R124) -/

/-- The configuration a `LANE_CFG` gives a lane: omitted words leave the current values. -/
def laneCfgOf (p : Packet) (c : LaneCfg) : LaneCfg :=
  let c := { c with rate := parF p 0 0 4, txInv := parF p 0 4 1 == 1, rxPol := parF p 0 5 2, adaptBg := parF p 0 7 1 == 1 }
  let c := if hasPar p 1 then { c with ctleMin := parF p 1 0 6, ctleMax := parF p 1 8 6 } else c
  let c := if hasPar p 2 then { c with txMode := parF p 2 0 1 == 1, txPreset := parF p 2 1 3 } else c
  if hasPar p 3 then { c with fomMin := parF p 3 0 10, drift := parF p 3 12 6 } else c

/-- The E_PARAM cases of `LANE_CFG` (R123). -/
def laneCfgBad (s : State) (p : Packet) (l : Nat) : Option Nat :=
  if !onlyBits p 0 0xFF || 6 < parF p 0 0 4 || parF p 0 5 2 == 3 || (parF p 0 0 4 != 0 && (s.portOf l).isSome) then some 0
  else if hasPar p 1 && (!onlyBits p 1 0x3F3F || parF p 1 8 6 < parF p 1 0 6 || 40 < parF p 1 8 6) then some 1
  else if hasPar p 2 && (!onlyBits p 2 0xF || (parF p 2 0 1 == 1 && !(1 ≤ parF p 2 1 3 && parF p 2 1 3 ≤ 5))) then some 2
  else if hasPar p 3 && !onlyBits p 3 0x3F3FF then some 3
  else none

/-- LANE_CFG's effect (R93, R123); TX_INV is in force at once. -/
def effLaneCfg (p : Packet) (s : State) : State × Rep :=
  let l := tInst p.target
  match laneCfgBad s p l with
  | some i => (s, badPar i)
  | none =>
    let rate := parF p 0 0 4
    if rate ≠ 0 ∧ s.twigMay (l / 8) (rateSetting rate) 512 = false then (s, deny eSTATE)
    else
      let c := laneCfgOf p (s.lane l).cfg
      let s := s.setLane l { s.lane l with cfg := c, act := { (s.lane l).act with txInv := c.txInv } }
      (if rate ≠ 0 then s.setTwigSetting (l / 8) (rateSetting rate) else s, ok)

/-- LANE_CFG. -/
def execLaneCfg (p : Packet) (s : State) : Host.Outcome State Fault Refusal := .next (s.command 0x0104 effLaneCfg p)

/-- The `LANE_FOM` word of a lane (R124). -/
def State.fomWord (s : State) (l : Nat) : Word :=
  wd (s.fld LANE_FOM_REG.FOM l + s.fld LANE_FOM_REG.FOM_LINKUP l * 2 ^ 10 + s.lstate l * 2 ^ 20
    + s.fld LANE_FOM_REG.VALID l * 2 ^ 23)

/-- LANE_FOM's effect (R124). -/
def effLaneFom (p : Packet) (s : State) : State × Rep := (s, ok ((instances p.target 512).map s.fomWord))

/-- LANE_FOM. -/
def execLaneFom (p : Packet) (s : State) : Host.Outcome State Fault Refusal := .next (s.command 0x0107 effLaneFom p)

end Sys2Proof.Machine
end

