-- ==== Sys2Proof/Machine/Ports.lean ====
section
/-! DEFINITION. Ports: the agreement test of a port group (R130) and FEC modes (R132), link up and down (R136, R137), pause and PFC settings (R144), PTP and SyncE settings (R146 to R149). -/
namespace Sys2Proof.Machine

/-! ## The port group (R130, R132) -/

/-- A FEC mode is allowed for a shape (R132). -/
def fecAllowed (speed lanes fec : Nat) : Bool :=
  match shapeRate speed lanes with
  | 0 => false
  | 6 => fec == 4
  | 1 => fec ≤ 1
  | 2 => if speed = 2 then fec ≤ 2 else fec == 2
  | _ => fec == 3

/-- Ports `a` of `la` lanes and `b` of `lb` lanes share a lane. -/
def lanesMeet (a la b lb : Nat) : Bool := decide (a < b + lb) && decide (b < a + la)

/-- A port of `lanes` lanes at `p` shares a lane with another configured port (R127). -/
def State.overlaps (s : State) (p lanes : Nat) : Bool :=
  (List.range 8).any (fun k => let q := p / 8 * 8 + k; q != p && s.portConf q && lanesMeet p lanes q (s.portLanes q))

/-- The agreement test of a port group (R130). -/
def State.portAgrees (s : State) (p lanes speed fec : Nat) : Bool :=
  lanes == 0 ||
  (fecAllowed speed lanes fec && (p % 8) % lanes == 0 && !s.overlaps p lanes &&
   (List.range 8).all (fun k =>
     let q := p / 8 * 8 + k
     q == p || !(s.port q).enabled || rateSetting (s.portRate q) == rateSetting (shapeRate speed lanes)))

/-- A group that agrees may apply: the twig takes its PLL setting too (R93, R128). A commit that would change the setting while another
lane of the twig is not DOWN disagrees (DEDUCED: R93 refuses the change, and a commit has no other way to be refused). -/
def State.portFits (s : State) (p lanes speed fec : Nat) : Bool :=
  s.portAgrees p lanes speed fec && (lanes == 0 || s.twigMay (p / 8) (rateSetting (shapeRate speed lanes)) p)

/-- The commit under way of a block's PAIRED groups. -/
def State.pair (s : State) (b : Nat) : Option PairCommit := tabGet s.pairs (b, 0) none
/-- Set or end it. -/
def State.setPair (s : State) (b : Nat) (c : Option PairCommit) : State := { s with pairs := tabSet s.pairs (b, 0) c none }

/-- A mismatch of group `g` (R87): MISMATCH, and a CORRECTED event that names the block. -/
def State.pairMismatch (s : State) (b g : Nat) : State :=
  (s.ev BOUGH_PAIR_STATUS.MISMATCH b).raise 0x0104 kCORRECTED (tgt cBOUGH b) g

/-! ## PORT_ENABLE and PORT_STATUS (R138, R139) -/

/-- A port is brought into use anew: its active group is tested again (R87), and it is enabled (R138), its twig in the setting its rate
needs (R128). A group that no longer agrees is logged and keeps its values; the port stays disabled (DEDUCED from R128: it cannot run
beside ports of the other setting). -/
def State.portEnableOne (s : State) (i : Nat) : State :=
  if s.pstate i ≠ pDISABLED then s.portOn i
  else if s.portFits i (s.portLanes i) (s.portSpeed i) (s.fld PORT_STATUS.FEC_ACT i) = false then s.pairMismatch (i / 64) (i % 64)
  else (s.setTwigSetting (i / 8) (rateSetting (s.portRate i))).portOn i

/-- PORT_ENABLE's effect. -/
def effPortEnable (p : Packet) (s : State) : State × Rep :=
  match s.needPort p with
  | some r => (s, r)
  | none =>
    let ps := s.namedPorts p
    let en := parF p 0 0 1 == 1
    if !onlyBits p 0 1 then (s, badPar 0)
    else if ps.any (fun i => (s.lanesOf i).any (fun l => s.linkable l && s.lstate l == lTEST)) || (en && s.flt.fatal) then
      (s, deny eSTATE)
    else (eachIn ps s (fun s i => if en then s.portEnableOne i else s.portOff i 2), ok)

/-- Active words 0 and 1 of a port (R139). -/
def State.portWord0 (s : State) (i : Nat) : Word :=
  wd (s.portLanes i + s.portSpeed i * 2 ^ 4 + s.fld PORT_STATUS.FEC_ACT i * 2 ^ 8)
/-- Active word 1. -/
def State.portWord1 (s : State) (i : Nat) : Word :=
  let v := s.port i
  wd (v.maxFrame + v.lpiIdle * 2 ^ 16 + b2n v.steepEn * 2 ^ 26 + b2n v.train * 2 ^ 27)

/-- PORT_STATUS's effect. -/
def effPortStatus (p : Packet) (s : State) : State × Rep :=
  match s.needPort p with
  | some r => (s, r)
  | none =>
    let i := tInst p.target
    (s, ok [s.reg .PORT_STATUS i, s.portWord0 i, s.portWord1 i])

/-! ## PFC_CFG (R144) -/

/-- The settings a `PFC_CFG` gives a port; a changed MODE clears every timer (R145). -/
def pfcOf (p : Packet) (v : Port) : Port :=
  let m := parF p 0 0 2
  let v := { v with
    pfcMode := m, rxEn := parF p 0 8 8, txEn := parF p 0 16 8,
    timers := if m = v.pfcMode then v.timers else List.replicate 8 0,
    pauseEnd := if m = v.pfcMode then v.pauseEnd else 0 }
  let v := if hasPar p 1 then { v with txQuanta := parF p 1 0 16, refresh := parF p 1 16 16 } else v
  let q := fun i (old : Nat) => if hasPar p (2 + i / 2) then parF p (2 + i / 2) (16 * (i % 2)) 16 else old
  { v with qmask := (List.range 8).map (fun i => q i (v.qmask.getD i 0)) }

/-- The E_PARAM cases of `PFC_CFG`, on the values that would be in force. -/
def pfcBad (p : Packet) (v : Port) : Option Nat :=
  let w := pfcOf p v
  if !onlyBits p 0 0x00FFFF03 || parF p 0 0 2 == 3 then some 0
  else if (w.txQuanta == 0 && w.txEn != 0) || w.refresh == 0 || w.txQuanta ≤ w.refresh then some (if hasPar p 1 then 1 else 0)
  else none

/-- PFC_CFG's effect. -/
def effPfcCfg (p : Packet) (s : State) : State × Rep :=
  match s.needPort p with
  | some r => (s, r)
  | none =>
    let ps := s.namedPorts p
    match ps.findSome? (fun i => pfcBad p (s.port i)) with
    | some w => (s, badPar w)
    | none => (eachIn ps s (fun s i => s.setPort i (pfcOf p (s.port i))), ok)

/-! ## PTP_CFG and SyncE (R148, R149) -/

/-- An enabled SyncE output names a configured Ethernet port. -/
def State.synceOk (s : State) (port : Nat) (en : Bool) : Bool := !en || (decide (port < 512) && s.portConf port)

/-- PTP_CFG's effect. -/
def effPtpCfg (p : Packet) (s : State) : State × Rep :=
  if tCls p.target = 0 then
    if parCount p ≠ 1 then (s, refuse eLEN (lenDetail 1 1))
    else
      let y : SyncE := {
        out0 := s.synce.out0.set s.now (parF p 0 0 10) (parF p 0 10 1 == 1),
        out1 := s.synce.out1.set s.now (parF p 0 16 10) (parF p 0 26 1 == 1) }
      if !onlyBits p 0 0x07FF07FF || !s.synceOk y.out0.port y.out0.en || !s.synceOk y.out1.port y.out1.en then (s, badPar 0)
      else ({ s with synce := y }.showSynce, ok)
  else
    match s.needPort p with
    | some r => (s, r)
    | none =>
      let i := tInst p.target
      let v := s.port i
      if !onlyBits p 0 3 then (s, badPar 0)
      else
        let v := { v with oneStep := parF p 0 0 1 == 1, twoStep := parF p 0 1 1 == 1 }
        (s.setPort i (if hasPar p 1 then { v with inAdj := parF p 1 0 16, egAdj := parF p 1 16 16 } else v), ok)

/-- PORT_ENABLE. -/
def execPortEnable (p : Packet) (s : State) : Host.Outcome State Fault Refusal := .next (s.command 0x0102 effPortEnable p)
/-- PORT_STATUS. -/
def execPortStatus (p : Packet) (s : State) : Host.Outcome State Fault Refusal := .next (s.command 0x0103 effPortStatus p)
/-- PFC_CFG. -/
def execPfcCfg (p : Packet) (s : State) : Host.Outcome State Fault Refusal := .next (s.command 0x0108 effPfcCfg p)
/-- PTP_CFG. -/
def execPtpCfg (p : Packet) (s : State) : Host.Outcome State Fault Refusal := .next (s.command 0x0109 effPtpCfg p)

/-! ## Port events (R136, R137) -/

/-- A unit is out of service by a graft or for good. -/
def State.outOf (s : State) (t : Nat) : Bool := s.ust t == uGRAFT || s.ust t == uRETIRED

/-- A port that must stay down: its bough has no ACTIVE cluster (R165), its twig has no pipe (R21), or its twig or one of its lanes is
grafted or retired (R440). -/
def State.portHeld (s : State) (p : Nat) : Bool :=
  (s.activeClusters (p / 64)).isEmpty || !s.flag PIPE_STATUS.SERVED_VALID (p / 8) || s.outOf (tgt cTWIG (p / 8)) || (s.lanesOf p).any (fun l => s.outOf (tgt cLANE l))

/-- A port is taken down with local-fault signalling (R21, R440). -/
def State.portTaken (s : State) (p : Nat) : State :=
  if s.pstate p < pTRAINING then s else (s.localFault p).setPState p pFAULT

/-- PORT_ALIGNED: every FEC or PCS lane is locked and deskewed in distinct positions, fault-free for 10 µs: ALIGNING goes to
UP. Two lanes in one position hold the port in ALIGNING (R136). -/
def execPortAligned (p : Nat) (s : State) : Host.Outcome State Fault Refusal :=
  .next (if s.pstate p = pALIGNING ∧ (s.lanesOf p).all (fun l => s.lstate l == lUP) = true ∧ s.flag PORT_STATUS.RF p = false then
      if s.portHeld p then s.portTaken p
      else if s.laneDup p then s.ev PORT_EVENT.LANE_DUP p
      else (s.setFld PORT_STATUS.LF p 0).setPState p pUP
    else s)

/-- PORT_ALIGN_TIMEOUT: 10 ms in ALIGNING without success: ALIGN_FAIL, the lanes go to DOWN (R136). -/
def execPortAlignTimeout (p : Nat) (s : State) : Host.Outcome State Fault Refusal :=
  .next (if s.pstate p = pALIGNING ∧ (s.port p).retry = false ∧ (s.port p).since + 10 * msNs ≤ s.now then
      let s := (s.ev PORT_EVENT.ALIGN_FAIL p).lanesDown p 1
      s.setPort p { s.port p with retry := true, since := s.now }
    else s)

/-- PORT_ALIGN_RETRY: 100 ms after ALIGN_FAIL the port is in TRAINING and its lanes start again (R136). -/
def execPortAlignRetry (p : Nat) (s : State) : Host.Outcome State Fault Refusal :=
  .next (if s.pstate p = pALIGNING ∧ (s.port p).retry = true ∧ (s.port p).since + 100 * msNs ≤ s.now then
      let s := s.setPort p { s.port p with retry := false }
      eachIn (s.lanesOf p) (s.setPState p pTRAINING) (fun s l => s.laneEnable l)
    else s)

/-- PORT_FAULT_START: a local or remote fault begins on an enabled port; with HOLDOFF 0 the port goes to FAULT at once
(R137). -/
def execPortFaultStart (p : Nat) (remote : Bool) (s : State) : Host.Outcome State Fault Refusal :=
  .next (if s.pstate p < pTRAINING then s
    else if remote then
      if s.flag PORT_STATUS.RF p then s
      else
        let s := (((s.faultBegins p).setFld PORT_STATUS.RF p 1).ev PORT_EVENT.REMOTE_FAULT p).emit (.signal "idle" p 1)
        if (s.port p).holdoff = 0 then s.portFault p else s
    else s.localFaultStart p)

/-- PORT_HOLDOFF_EXPIRE: a fault has lasted HOLDOFF µs: FAULT, with LINK_DOWN (R137). -/
def execPortHoldoffExpire (p : Nat) (s : State) : Host.Outcome State Fault Refusal :=
  .next (if (s.flag PORT_STATUS.LF p = true ∨ s.flag PORT_STATUS.RF p = true) ∧ (s.port p).faultAt + (s.port p).holdoff * usNs ≤ s.now then
      s.portFault p
    else s)

/-- Nothing holds the port down, and its lanes show no local fault: UP, QUIET or WAKE (R137). -/
def State.lanesFine (s : State) (p : Nat) : Bool :=
  !s.portHeld p && (s.lanesOf p).all (fun l => s.lstate l == lUP || s.lstate l == lQUIET || s.lstate l == lWAKE)

/-- PORT_FAULT_CLEAR: the fault has been clear for 10 µs: FAULT goes to UP; a port still UP stays UP (R136, R137). -/
def execPortFaultClear (p : Nat) (s : State) : Host.Outcome State Fault Refusal :=
  .next (if s.pstate p < pTRAINING then s
    else
      let s := s.setFld PORT_STATUS.RF p 0
      if (s.pstate p = pFAULT ∨ s.pstate p = pUP) ∧ s.lanesFine p = true then
        (s.setFld PORT_STATUS.LF p 0).setPState p pUP
      else s)

/-- PAUSE_TIMER_EXPIRE: a pause timer (`prio` 8) or a priority's PFC timer runs out: quanta × 512 bit times have passed since it was set
(R145). -/
def execPauseTimerExpire (p prio : Nat) (s : State) : Host.Outcome State Fault Refusal :=
  let v := s.port p
  .next (if prio = 8 then (if v.pauseEnd ≤ s.now then s.setPort p { v with pauseEnd := 0 } else s)
    else if v.timers.getD prio 0 ≤ s.now then s.setPort p { v with timers := v.timers.set prio 0 }
    else s)

/-- Every transmit queue of a port is empty. -/
def State.queuesEmpty (s : State) (p : Nat) : Bool :=
  (List.range 16).all (fun q => s.flag TUN_Q_LEN.EMPTY (p * 16 + q))

/-- PORT_LPI_IDLE: the transmit queues have been empty for LPI_IDLE: low-power idle, by EEE LPI on an EEE PHY (R118) or a
steep entry on code 6 with STEEP_EN (R142). -/
def execPortLpiIdle (p : Nat) (s : State) : Host.Outcome State Fault Refusal :=
  .next (if s.pstate p = pUP ∧ (s.port p).lpiIdle ≠ 0 ∧ s.queuesEmpty p = true then
      if eeePhy (s.portRate p) (s.port p).train then
        (s.eachLaneIn p lUP (fun s l => s.setLState l lQUIET 1)).setFld PORT_STATUS.LPI_TX p 1
      else if s.steepOk p = true then
        s.steepEnter p
      else s
    else s)

/-! ## The timestamp FIFO (R147, R150) -/

/-- Show the head of a port's timestamp FIFO in its registers. -/
def State.showTs (s : State) (p : Nat) : State :=
  match (s.port p).tsFifo with
  | [] => ((s.setReg .PORT_TS_ID p 0).setReg .PORT_TS_LO p 0).setReg .PORT_TS_HI p 0
  | (id, t) :: _ =>
    let s := s.setReg .PORT_TS_ID p (wd (1 + id % 2 ^ 16 * 2 ^ 16))
    (s.setReg .PORT_TS_LO p (lo32 t)).setReg .PORT_TS_HI p (hi32 t)

/-- Push a capture; a full FIFO of 16 drops it and sets TS_OVF (R147). -/
def State.pushTs (s : State) (p id t : Nat) : State :=
  let v := s.port p
  if 16 ≤ v.tsFifo.length then s.ev PORT_EVENT.TS_OVF p
  else (s.setPort p { v with tsFifo := v.tsFifo ++ [(id, t)] }).showTs p

/-- Discard the head. -/
def State.popTs (s : State) (p : Nat) : State :=
  (s.setPort p { s.port p with tsFifo := (s.port p).tsFifo.drop 1 }).showTs p

end Sys2Proof.Machine
end

