-- ==== Sys2Proof/Machine/Roots.lean ====
section
/-! DEFINITION. Root links: flits, retry and error charging, lane swaps, training and the loss of a cluster (R151 to R160,
R163), the resequencing buffer (R164). The pinning map change is in `Repin`. A cluster is named by its ROOT instance,
b · 16 + c. -/
namespace Sys2Proof.Machine

/-- A cluster's record. -/
def State.cluster (s : State) (c : Nat) : Cluster := tabGet s.clusters (c, 0) {}
/-- Write a cluster's record. -/
def State.setCluster (s : State) (c : Nat) (v : Cluster) : State := { s with clusters := tabSet s.clusters (c, 0) v {} }
/-- A bough's root link. -/
def State.rootBough (s : State) (b : Nat) : RootBough := tabGet s.rootB (b, 0) {}
/-- Write it. -/
def State.setRootBough (s : State) (b : Nat) (v : RootBough) : State := { s with rootB := tabSet s.rootB (b, 0) v {} }
/-- What a cluster carries UP. -/
def State.upList (s : State) (c : Nat) : List UpItem := tabGet s.upLink (c, 0) []
/-- Write it. -/
def State.setUpList (s : State) (c : Nat) (l : List UpItem) : State := { s with upLink := tabSet s.upLink (c, 0) l [] }
/-- What a cluster carries DN. -/
def State.dnList (s : State) (c : Nat) : List DnFrame := tabGet s.dnLink (c, 0) []
/-- Write it. -/
def State.setDnList (s : State) (c : Nat) (l : List DnFrame) : State := { s with dnLink := tabSet s.dnLink (c, 0) l [] }

/-- A direction of a cluster. -/
def State.rdir (s : State) (c : Nat) (dn : Bool) : RootDir := if dn then (s.cluster c).dn else (s.cluster c).up
/-- Write it. -/
def State.setRdir (s : State) (c : Nat) (dn : Bool) (d : RootDir) : State :=
  s.setCluster c (if dn then { s.cluster c with dn := d } else { s.cluster c with up := d })

/-- A cluster carries flits: ACTIVE, SWAP or DRAIN, with the clocks of both its ends running (it pauses while one is held, R458). -/
def State.carries (s : State) (c : Nat) : Bool :=
  (s.cstate c == cACTIVE || s.cstate c == cSWAP || s.cstate c == cDRAIN) && !s.boughStopped (c / 16) && !s.quadStopped (c / 32)

/-! ## Lanes and spares (R151, R160) -/

/-- The register field that names the logical position on spare 64 or 65. -/
def spareFld (dn : Bool) (spare : Nat) : Fld :=
  match dn, spare with
  | false, 64 => ROOT_SPARE_MAP.UP_S0
  | false, _ => ROOT_SPARE_MAP.UP_S1
  | true, 64 => ROOT_SPARE_MAP.DN_S0
  | true, _ => ROOT_SPARE_MAP.DN_S1

/-- The physical lane that carries a logical position. -/
def State.physLane (s : State) (c : Nat) (dn : Bool) (pos : Nat) : Nat :=
  if s.fld (spareFld dn 64) c = pos then 64 else if s.fld (spareFld dn 65) c = pos then 65 else pos

/-- A spare is free: unused and healthy. -/
def State.spareFree (s : State) (c : Nat) (dn : Bool) (spare : Nat) : Bool :=
  s.fld (spareFld dn spare) c == 0x7F && !(s.rdir c dn).dead.contains spare

/-- The free spares, lowest first. -/
def State.freeSpares (s : State) (c : Nat) (dn : Bool) : List Nat := [64, 65].filter (fun x => s.spareFree c dn x)

/-- Show the number of free spares. -/
def State.showSpares (s : State) (c : Nat) (dn : Bool) : State :=
  s.setFld (if dn then ROOT_STATUS.SPARE_DN else ROOT_STATUS.SPARE_UP) c (s.freeSpares c dn).length

/-- The mechanism under which the planted errors of a physical lane are noted (R508). -/
def laneMech (dn : Bool) (lane : Nat) : Nat := 0x0501 * 256 + lane % 128 + b2n dn * 128

/-- A planted error counted toward the lane in the last ms. -/
def State.laneInj (s : State) (c : Nat) (dn : Bool) (lane : Nat) : Bool := s.permInj (tgt cROOT c) (laneMech dn lane) (2 * msNs)

/-- Move a logical position onto a spare: reported RETIRED on the cluster (R160, code 0x0501). -/
def State.moveLane (s : State) (c : Nat) (dn : Bool) (pos spare : Nat) : State :=
  let lane := s.physLane c dn pos
  let s := if 64 ≤ lane then s.setFld (spareFld dn lane) c 0x7F else s
  let s := (s.setFld (spareFld dn spare) c pos).showSpares c dn
  s.raise 0x0501 kRETIRED (tgt cROOT c) (lane % 128 + b2n dn * 2 ^ 7 + (spare - 64) % 2 * 2 ^ 8) (s.laneInj c dn lane)

/-! ## A cluster that becomes permanent (R159, R160, R163) -/

/-- The event of a permanent cluster, made at detection (R28, R163, R493). -/
def State.clusterTold (s : State) (c : Nat) : State :=
  s.raise 0x0502 kDEGRADED (tgt cROOT c) (withWait ((s.cluster c).cause % 16) 0) (s.permInj (tgt cROOT c) 0x0502 (10 * msNs))

/-- A cluster leaves service for a cause of code 0x0502 (15 a graft, 14 a retirement by command): it stops taking new
frames and asks for the map change of R161. A recovery holds it until then (R32). A recovery that must wait for another change
of the bough's maps fills in the time it waited as it begins (R31). -/
def State.clusterLeaves (s : State) (c cause : Nat) (clk : Bool) : State :=
  if s.cstate c = cDRAIN ∨ s.cstate c = cRETIRED ∨ s.cstate c = cOFF then s
  else
    let s := s.setCluster c { s.cluster c with cause := cause, clkGone := (s.cluster c).clkGone || clk }
    let s := s.setFld ROOT_STATUS.CSTATE c cDRAIN
    let s := s.setHeld (tgt cROOT c) true
    let v := s.rootBough (c / 16)
    let idle := v.run.isNone && v.asked == []
    let s := s.setRootBough (c / 16) { v with
      asked := v.asked ++ [⟨if cause = 15 then 1 else if cause ≠ 14 ∧ idle = false then 3 else 0, c, s.now⟩] }
    if cause < 14 then s.clusterTold c else s

/-- CTRL SWAP: opcode 0x01, the logical position in [15:8], the spare in [23:16] (R154). -/
def ctrlSwap (pos spare : Nat) : Nat := 1 + pos * 2 ^ 8 + spare * 2 ^ 16

/-- A CTRL flit waits at the sender of a direction. -/
def State.sendCtl (s : State) (c : Nat) (dn : Bool) (payload : Nat) : State :=
  s.setRdir c dn { s.rdir c dn with ctl := (s.rdir c dn).ctl ++ [payload] }

/-- A physical lane is permanent (R159, R160): its position swaps to a free spare, for which the receiving end sends CTRL SWAP on the
opposite direction; one that has none makes the cluster permanent, which drains at half width (R163). A spare that failed while
unused is only lost. -/
def State.lanePermanent (s : State) (c : Nat) (dn : Bool) (lane : Nat) : State :=
  let d := s.rdir c dn
  if d.dead.contains lane then s
  else
    let s := s.setRdir c dn { d with dead := lane :: d.dead }
    let pos := if lane = 64 then s.fld (spareFld dn 64) c else if lane = 65 then s.fld (spareFld dn 65) c else lane
    match (s.freeSpares c dn)[d.swaps.length]? with
    | some sp =>
      if pos = 0x7F then s.showSpares c dn
      else (s.setRdir c dn { s.rdir c dn with swaps := (s.rdir c dn).swaps ++ [pos] }).sendCtl c (!dn) (ctrlSwap pos sp)
    | none =>
      if pos = 0x7F then s.showSpares c dn
      else
        let s := s.setRdir c dn { s.rdir c dn with half := true }
        (if s.laneInj c dn lane then s.notePerm (tgt cROOT c) 0x0502 true else s).clusterLeaves c 1 false

/-- Charge one error to a physical lane: 8 within 1 ms make it permanent (R159). -/
def State.chargeLane (s : State) (c : Nat) (dn : Bool) (lane : Nat) : State :=
  let d := s.rdir c dn
  let ch := (lane, s.now) :: d.charges.filter (fun e => decide (s.now < e.2 + msNs))
  let total := Nat.min (2 ^ 24 - 1) (tabGet d.totals (lane, 0) 0 + 1)
  let s := s.setRdir c dn { d with charges := ch, totals := tabSet d.totals (lane, 0) total 0 }
  if 8 ≤ (ch.filter (fun e => e.1 == lane)).length then s.lanePermanent c dn lane else s

/-- What `ROOT_LANE_ERR` reads for the lane `ROOT_LANE_SEL` names (R166). -/
def State.laneErrWord (s : State) (c : Nat) : Word :=
  let d := s.rdir c (s.fld ROOT_LANE_SEL.DIR c == 1)
  let lane := s.fld ROOT_LANE_SEL.LANE c
  let win := (d.charges.filter (fun e => e.1 == lane && decide (s.now < e.2 + msNs))).length
  wd (Nat.min 255 win + tabGet d.totals (lane, 0) 0 * 2 ^ 8)

/-! ## Descriptors and flits (R153 to R156) -/

/-- The words of 8 bytes that bytes fill, little-endian, the unused bytes of the last one zero. -/
def wordsOf8 (bytes : List Nat) : List Nat := (List.range (ceilDiv bytes.length 8)).map (fun k => leNat ((bytes.drop (8 * k)).take 8))

/-- The UP descriptor (R156). -/
def upDesc (f : UpFrame) : Nat :=
  f.qid % 2 ^ 14 + b2n f.grist * 2 ^ 14 + b2n f.repin * 2 ^ 15 + f.pin % 2 ^ 8 * 2 ^ 16 + f.inPort % 2 ^ 10 * 2 ^ 24 +
    f.color % 4 * 2 ^ 34 + f.inTs % 2 ^ 32 * 2 ^ 48 + f.fmeta % 2 ^ 32 * 2 ^ 96

/-- A frame as the Tun takes it from its UP descriptor; reserved bits are ignored. -/
def upCarried (f : UpFrame) : UpFrame :=
  let d := upDesc f
  { f with
    qid := nbits d 0 14, grist := nbit d 14, repin := nbit d 15, pin := nbits d 16 8, inPort := nbits d 24 10,
    color := nbits d 34 2, inTs := nbits d 48 32, fmeta := nbits d 96 32 }

/-- The DN descriptor (R156). -/
def dnDesc (d : DnFrame) : Nat :=
  d.outPort % 2 ^ 10 + d.q % 16 * 2 ^ 10 + b2n d.ce * 2 ^ 14 + d.pseq % 2 ^ 16 * 2 ^ 30 + d.inTs % 2 ^ 32 * 2 ^ 48 +
    d.sojourn % 2 ^ 24 * 2 ^ 80 + d.fmeta % 2 ^ 24 * 2 ^ 104

/-- A frame as the bough takes it from its DN descriptor. -/
def dnCarried (f : DnFrame) : DnFrame :=
  let d := dnDesc f
  { f with
    outPort := nbits d 0 10, q := nbits d 10 4, ce := nbit d 14, pseq := nbits d 30 16, inTs := nbits d 48 32,
    sojourn := nbits d 80 24, fmeta := nbits d 104 24 }

/-- The payload words of a frame (R155): its descriptor, then its bytes without gaps. -/
def streamWords (desc : Nat) (bytes : List Nat) : List Nat := desc % 2 ^ 64 :: desc / 2 ^ 64 :: wordsOf8 bytes

/-- The units a frame takes in its direction's stream: its payload words. -/
def frameUnits (bytes : List Nat) : Nat := 2 + ceilDiv bytes.length 8

/-- The units of an item. -/
def UpItem.units : UpItem → Nat
  | .frame f => frameUnits f.bytes
  | _ => 1

/-- A piece of a direction's stream: a frame's payload words, how many of them are at hand, its length in bytes and BAD; a CTRL flit. -/
inductive Seg where
  | frame (words : List Nat) (avail len : Nat) (bad : Bool)
  | ctrl (payload : Nat)
  deriving DecidableEq, Repr

/-- A flit before its SEQ, ACK, NAK and CRC: its TYPE, payload words, the header bits SOF to LAST_BYTES, and the units it carries. -/
structure FlitBody where
  ty    : Nat
  words : List Nat
  marks : Nat
  units : Nat
  deriving DecidableEq, Repr

/-- The header bits [31:20] of R154. -/
def flitMarks (sof : Option Nat) (eof : Option Nat) (bad : Bool) (len : Nat) : Nat :=
  (match sof with | some k => 2 ^ 20 + k * 2 ^ 21 | none => 0) +
  (match eof with | some k => 2 ^ 24 + k * 2 ^ 25 + b2n bad * 2 ^ 28 + len % 8 * 2 ^ 29 | none => 0)

/-- The first `n` words of the frame that starts next, where they are at hand. -/
def nextStart (n : Nat) : List Seg → List Nat
  | .frame ws avail _ _ :: _ => if n ≤ avail then ws.take n else []
  | _ => []

/-- The flit that carries a stream on from unit `pos` (R155): seven words of the frame under way, without gaps; what a frame's tail leaves
free takes the next frame's descriptor, one frame starting per flit at most; FENCE and END are CTRL flits of their own. -/
def cutFlit : List Seg → Nat → Option FlitBody
  | [], _ => none
  | .ctrl x :: rest, pos => if pos = 0 then some ⟨2, [x], 0, 1⟩ else cutFlit rest (pos - 1)
  | .frame ws avail len bad :: rest, pos =>
    if ws.length ≤ pos then cutFlit rest (pos - ws.length)
    else
      let here := ((ws.take avail).drop pos).take 7
      let ends := decide (pos + here.length = ws.length)
      if here.length < 7 ∧ ends = false then none
      else
        let more := if ends && pos != 0 then nextStart (7 - here.length) rest else []
        some ⟨1, here ++ more,
          flitMarks (if pos = 0 then some 0 else if more = [] then none else some here.length)
            (if ends then some (here.length - 1) else none) bad len,
          here.length + more.length⟩

/-- A flit of 512 bits (R153, R154). -/
def mkFlit (b : FlitBody) (seq ack : Nat) (nak : Bool) : Nat :=
  let payload := (b.words.zipIdx.map (fun e => e.1 % 2 ^ 64 * 2 ^ (64 * e.2))).foldl (· + ·) 0
  let low := b.ty + seq % 256 * 2 ^ 3 + ack % 256 * 2 ^ 11 + b2n nak * 2 ^ 19 + b.marks + payload * 2 ^ 32
  low + crc32c (bytesOf 60 low) * 2 ^ 480

/-- The stream of the UP direction: frames, FENCE (opcode 0x02, epoch in [23:8]) and END (0x03). -/
def State.upSegs (s : State) (c : Nat) : List Seg :=
  (s.upList c).map (fun x => match x with
    | .frame f => .frame (streamWords (upDesc f) f.bytes) (frameUnits f.bytes) f.bytes.length f.bad
    | .fence e => .ctrl (2 + e % 65536 * 2 ^ 8)
    | .fin => .ctrl 3)

/-- The stream of the DN direction: a frame's words follow its cells as they are read. -/
def State.dnSegs (s : State) (c : Nat) : List Seg :=
  (s.dnList c).map (fun d =>
    let f := s.tframe d.fid
    let left := ((tabGet s.tun.reads (c, 0) []).filter (fun x => x.1 == d.fid * 2)).length
    let whole := decide (f.cells.length = f.total) && left == 0 && f.eof
    .frame (streamWords (dnDesc d) d.bytes) (if whole then frameUnits d.bytes else 2 + 32 * (f.cells.length - left) - 1)
      d.bytes.length d.bad)

/-- The last unit of a frame waits for its end, which alone tells whether it is bad: words at hand of a frame still arriving stop short of
it, as `dnSegs` says. -/
def State.segs (s : State) (c : Nat) (dn : Bool) : List Seg := if dn then s.dnSegs c else s.upSegs c

/-! ## Retry (R153, R154, R158, R159) -/

/-- The CRC of a flit is good (R153). -/
def flitCrcOk (flit : Nat) : Bool := crc32c (bytesOf 60 flit) == nbits flit 480 32

/-- The opcode of a CTRL flit. -/
def flitOp (flit : Nat) : Nat := nbits flit 32 8

/-- A flit a receiver may accept: a good CRC, no reserved TYPE or CTRL opcode (R154). The CTRL flits that follow MAP hold the map. -/
def flitGood (flit : Nat) (inMap : Bool) : Bool :=
  flitCrcOk flit && decide (nbits flit 0 3 ≤ 2) && !(nbits flit 0 3 == 2 && !inMap && !(1 ≤ flitOp flit && flitOp flit ≤ 4))

/-- The lanes that carry a direction at half width: the 32 lowest-numbered healthy ones (R163). -/
def State.halfLanes (s : State) (c : Nat) (dn : Bool) : List Nat :=
  ((List.range 66).filter (fun l => !(s.rdir c dn).dead.contains l)).take 32

/-- The physical lane that carries flit bit `i` (R153, R163). -/
def State.bitLane (s : State) (c : Nat) (dn : Bool) (i : Nat) : Nat :=
  if (s.rdir c dn).half then (s.halfLanes c dn).getD (i % 32) 0 else s.physLane c dn (i % 64)

/-- The physical lanes that carried a bit in which two flits differ. -/
def State.diffLanes (s : State) (c : Nat) (dn : Bool) (a b : Nat) : List Nat :=
  let x := Nat.xor a b
  (((List.range 512).filter (fun i => nbit x i)).map (fun i => s.bitLane c dn i)).eraseDups

/-- The receiver asks for a replay in its next outgoing flit (R158). -/
def State.setNak (s : State) (c : Nat) (dn : Bool) : State := s.setRdir c dn { s.rdir c dn with nak := true, nakDue := true, nakAt := s.now }

/-- A failed flit is compared with its replay: one error to every physical lane that differs; none makes it unattributed, and four of
those within 10 ms make the cluster permanent (R159). -/
def State.attribute1 (s : State) (c : Nat) (dn : Bool) (flit : Nat) (f : FailedFlit) : State :=
  let ls := s.diffLanes c dn f.flit flit
  if ls = [] then
    let s := (s.ev ROOT_EVENT.UNATTR c).notePerm (tgt cROOT c) 0x0502 f.inj
    if 4 ≤ s.permCount (tgt cROOT c) 0x0502 (10 * msNs) then s.clusterLeaves c 2 false else s
  else eachIn ls s (fun s lane =>
    (if f.inj then s.notePerm (tgt cROOT c) (laneMech dn lane) true else s).chargeLane c dn lane)

/-- Every flit that failed in the place of the one that has come is compared with it. -/
def State.attribute (s : State) (c : Nat) (dn : Bool) (flit : Nat) : State :=
  let d := s.rdir c dn
  let mine := d.failed.filter (fun f => f.seq == nbits flit 3 8)
  eachIn mine (s.setRdir c dn { d with failed := d.failed.filter (fun f => f.seq != nbits flit 3 8) }) (fun s f => s.attribute1 c dn flit f)

/-- The error planted in the next flit of a direction: the bit it hits (R508). -/
def State.flitPlanted (s : State) (c : Nat) (dn : Bool) : Option (Planted × Nat) :=
  s.flt.planted.findSome? (fun e =>
    if e.target == tgt cROOT c && nbit e.loc 7 == dn then
      ((List.range 64).find? (fun i => s.bitLane c dn i == e.loc % 128)).map (fun i => (e, i))
    else none)

/-- An ACK covers every flit up to its SEQ: the sender of direction `dn` keeps it no longer. -/
def State.acked (s : State) (c : Nat) (dn : Bool) (ack : Nat) : State :=
  let d := s.rdir c dn
  let covered := d.retry.filter (fun f => decide ((ack + 256 - f.seq) % 256 < 128))
  let left := d.retry.filter (fun f => !decide ((ack + 256 - f.seq) % 256 < 128))
  s.setRdir c dn { d with retry := left, again := Nat.min d.again left.length, ackPos := if dn then d.ackPos + sumN (covered.map SentFlit.units) else 0 }

/-- The sender of direction `dn` resends from ACK + 1 (R158). -/
def State.replay (s : State) (c : Nat) (dn : Bool) : State :=
  let d := s.rdir c dn
  if d.retry = [] then s
  else (s.setRdir c dn { d with again := d.retry.length }).ev (if dn then ROOT_EVENT.REPLAY_DN else ROOT_EVENT.REPLAY_UP) c

/-- The next flit of a direction, as its SEQ (none for IDLE) and its bits (R158): a flit that is resent, bit for bit as it was sent (DEDUCED
from R159, which compares the two bit by bit); a new one while the retry buffer holds fewer than 128, CTRL flits first; else IDLE. New
flits carry the ACK, and a NAK that is due, of the receiver at the same end. -/
def State.nextFlit (s : State) (c : Nat) (dn : Bool) : State × Option Nat × Nat :=
  let d := s.rdir c dn
  let r := s.rdir c (!dn)
  let ack := (r.expect + 255) % 256
  match (if d.again = 0 then none else d.retry[d.retry.length - d.again]?) with
  | some f =>
    let s := s.setRdir c dn { d with again := d.again - 1 }
    ((s.bump (if dn then .ROOT_REPLAY_DN else .ROOT_REPLAY_UP) c).perf (boughSet (c / 16)) 0x105, some f.seq, f.flit)
  | none =>
    let body := if 128 ≤ d.retry.length then none
      else match d.ctl with
        | x :: _ => some ⟨2, (List.range 7).map (fun k => nbits x (64 * k) 64), 0, 0⟩
        | [] => cutFlit (s.segs c dn) d.txPos
    let s := s.setRdir c (!dn) { r with nakDue := false }
    match body with
    | none => (s, none, mkFlit ⟨0, [], 0, 0⟩ 0 ack r.nakDue)
    | some b =>
      let flit := mkFlit b d.nextSeq ack r.nakDue
      (s.setRdir c dn { s.rdir c dn with
        nextSeq := (d.nextSeq + 1) % 256, txPos := d.txPos + b.units, ctl := d.ctl.drop 1,
        retry := d.retry ++ [⟨d.nextSeq, flit, b.units⟩] }, some d.nextSeq, flit)

/-- A CTRL flit accepted outside the stream (R154, R160, R161): SWAP reaches the sender of the opposite direction; MAP is followed by the
three flits of the 128-byte map. -/
def State.ctlIn (s : State) (c : Nat) (dn : Bool) (flit : Nat) : State :=
  let d := s.rdir c dn
  if 0 < d.mapLeft then s.setRdir c dn { d with mapLeft := d.mapLeft - 1 }
  else match flitOp flit with
    | 1 => s.setRdir c (!dn) { s.rdir c (!dn) with swapRx := true }
    | 4 => (s.setRdir c dn { d with mapLeft := 3 }).emit (.signal "MAP" (c / 16) (nbits flit 40 16))
    | _ => s

/-- A flit at the receiving end of direction `dn` (R158), sent with SEQ `seq`: accepted only with a good CRC and the expected SEQ; else it
and every later one are discarded and NAK is set. The ACK and NAK of a good flit act on the sender at the same end. `inj` where a
planted error hit it. -/
def State.flitIn (s : State) (c : Nat) (dn : Bool) (seq : Option Nat) (units flit : Nat) (inj : Bool) : State :=
  if flitGood flit (decide (0 < (s.rdir c dn).mapLeft)) = false then
    let d := s.rdir c dn
    let s := s.bump (if dn then .ROOT_CRC_DN else .ROOT_CRC_UP) c
    let s := match seq with
      | some k => s.setRdir c dn { d with failed := d.failed ++ [FailedFlit.mk k flit inj] }
      | none => s
    s.setNak c dn
  else
    let s := s.acked c (!dn) (nbits flit 11 8)
    let s := if nbit flit 19 then s.replay c (!dn) else s
    if nbits flit 0 3 = 0 then s
    else if nbits flit 3 8 = (s.rdir c dn).expect then
      let s := s.attribute c dn flit
      let d := s.rdir c dn
      let s := s.setRdir c dn { d with expect := (d.expect + 1) % 256, nak := false, nakDue := false, rxPos := d.rxPos + units }
      let s := if nbits flit 0 3 = 2 then s.ctlIn c dn flit else s
      (s.bump (if dn then .ROOT_FLITS_DN else .ROOT_FLITS_UP) c).perf (boughSet (c / 16)) (if dn then 0x104 else 0x103)
    else s.setNak c dn

/-- NAK_REPEAT: 64 ns later the expected flit has not arrived, and NAK is sent again (R158). -/
def execNakRepeat (c : Nat) (dn : Bool) (s : State) : Host.Outcome State Fault Refusal :=
  .next (if s.carries c = true ∧ (s.rdir c dn).nak = true ∧ (s.rdir c dn).nakAt + 64 ≤ s.now then s.setNak c dn else s)

/-- ROOT_CLK_LOSS: no edge on lane 66 for 4 ns: the cluster is permanent and cannot drain (R159, R163). -/
def execRootClkLoss (c : Nat) (_dn : Bool) (s : State) : Host.Outcome State Fault Refusal :=
  .next (if s.carries c then (s.ev ROOT_EVENT.CLK_LOSS c).clusterLeaves c 3 true else s)

/-! ## The stream's items (R155) -/

/-- The front item of the UP stream is done with: the places count from the next one. -/
def State.popUp (s : State) (c : Nat) : State :=
  match s.upList c with
  | [] => s
  | x :: rest =>
    let d := s.rdir c false
    (s.setUpList c rest).setRdir c false { d with txPos := d.txPos - x.units, rxPos := d.rxPos - x.units }

/-- The front frame of the UP stream is discarded: at once where it has arrived whole, else as its last flit is accepted. -/
def State.dropUp (s : State) (c : Nat) : State :=
  match s.upList c with
  | .frame f :: rest =>
    if frameUnits f.bytes ≤ (s.rdir c false).rxPos then s.popUp c else s.setUpList c (.frame { f with gone := true } :: rest)
  | _ => s

/-- A discarded frame has arrived whole. -/
def State.dropGone (s : State) (c : Nat) : State :=
  match s.upList c with
  | .frame f :: _ => if f.gone && decide (frameUnits f.bytes ≤ (s.rdir c false).rxPos) then s.popUp c else s
  | _ => s

/-- Nothing of a direction's stream is left; what its retry buffer still holds belongs to no item. -/
def RootDir.emptied (d : RootDir) : RootDir :=
  { d with txPos := 0, rxPos := 0, ackPos := 0, retry := d.retry.map (fun f => { f with units := 0 }) }

/-- The oldest DN frame of a cluster is done with. -/
def State.popDn (s : State) (c : Nat) : State :=
  match s.dnList c with
  | [] => s
  | x :: rest =>
    let d := s.rdir c true
    let n := frameUnits x.bytes
    (s.setDnList c rest).setRdir c true { d with txPos := d.txPos - n, rxPos := d.rxPos - n, ackPos := d.ackPos - n }

/-- The first `n` frames of a cluster's DN stream that have arrived whole, of `rx` units accepted. -/
def markGot : Nat → List DnFrame → List DnFrame
  | _, [] => []
  | rx, d :: rest =>
    let n := frameUnits d.bytes
    if n ≤ rx then { d with got := true } :: markGot (rx - n) rest else d :: rest

/-! ## Lane swaps (R160) -/

/-- ROOT_LANE_SWAP: the sender has received CTRL SWAP, ends its flit and sends the alignment pattern: the direction pauses (R160). A
cluster that drains swaps too. -/
def execRootLaneSwap (c : Nat) (dn : Bool) (s : State) : Host.Outcome State Fault Refusal :=
  .next (if s.carries c = true ∧ (s.rdir c dn).swapRx = true ∧ (s.rdir c dn).swaps ≠ [] then
      let s := if s.cstate c = cSWAP then s else s.setCluster c { s.cluster c with back := s.cstate c }
      let s := s.setRdir c dn { s.rdir c dn with swapRx := false, swapOn := true, swapAt := s.now }
      ((s.setFld ROOT_STATUS.CSTATE c cSWAP).setHeld (tgt cROOT c) true).emit (.signal "SWAP" c (b2n dn))
    else s)

/-- Every position whose swap is under way moves onto a free spare, lowest spare first. -/
def State.doSwaps (s : State) (c : Nat) (dn : Bool) : State :=
  let s := eachIn (s.rdir c dn).swaps s (fun s pos =>
    match s.freeSpares c dn with
    | sp :: _ => s.moveLane c dn pos sp
    | [] => s)
  s.setRdir c dn { s.rdir c dn with swaps := [], swapOn := false, swapRx := false }

/-- ROOT_SWAP_PATTERN_END: after 1.5 µs the positions are on their spares, the sender replays from ACK + 1 on the new map and the
direction resumes (R160). A spare whose alignment failed in the pattern is permanent (R159), and what it carries swaps once more
(DEDUCED: R160 has the receiver align the spare, and R159 takes a failed alignment for a permanent lane). -/
def execRootSwapPatternEnd (c : Nat) (dn : Bool) (failed : List Nat) (s : State) : Host.Outcome State Fault Refusal :=
  .next (if s.cstate c = cSWAP ∧ (s.rdir c dn).swapOn = true ∧ (s.rdir c dn).swapAt + 1500 ≤ s.now then
      let s := s.doSwaps c dn
      let s := (s.ev (if dn then ROOT_EVENT.SWAP_DN else ROOT_EVENT.SWAP_UP) c).replay c dn
      let s := if (s.rdir c (!dn)).swapOn then s
        else (s.setFld ROOT_STATUS.CSTATE c (s.cluster c).back).setHeld (tgt cROOT c) ((s.cluster c).back != cACTIVE)
      eachIn (failed.filter (fun l => l == 64 || l == 65)) s (fun s l => s.lanePermanent c dn l)
    else s)

/-- ROOT_SPARE_DESKEW: an unused spare is re-deskewed; one whose pattern fails is permanent (R152, R159). -/
def execRootSpareDeskew (c : Nat) (dn : Bool) (spare : Nat) (pass : Bool) (s : State) : Host.Outcome State Fault Refusal :=
  .next (if s.carries c = true ∧ (spare = 64 ∨ spare = 65) ∧ s.spareFree c dn spare = true ∧ pass = false then
      s.lanePermanent c dn spare
    else s)

/-! ## The pinning maps (R161, R167) -/

/-- The cluster (0 to 15) that entry `i` of bough `b`'s map names. -/
def State.pinMap (s : State) (b : Nat) (dn : Bool) (i : Nat) : Nat :=
  s.fld ⟨if dn then .ROOT_MAP_DN else .ROOT_MAP_UP, 4 * (i % 8), 4⟩ (b * 32 + i % 256 / 8)

/-- Write an entry of a map. -/
def State.setPinMap (s : State) (b : Nat) (dn : Bool) (i c : Nat) : State :=
  s.setFld ⟨if dn then .ROOT_MAP_DN else .ROOT_MAP_UP, 4 * (i % 8), 4⟩ (b * 32 + i % 256 / 8) c

/-- A frame goes UP on the cluster that the map names, with REPIN where the bough's last change moved its entry (R161, R162). One for a
cluster that drains waits for the new map (R163). -/
def State.putUp (s : State) (b : Nat) (u : UpFrame) : State :=
  let c := b * 16 + s.pinMap b false u.pin
  if s.cstate c = cDRAIN ∨ (s.cstate c = cSWAP ∧ (s.cluster c).back = cDRAIN) then s.setRootBough b { s.rootBough b with upWait := (s.rootBough b).upWait ++ [u] }
  else s.setUpList c (s.upList c ++ [.frame { u with repin := (s.rootBough b).repins.contains u.pin }])

/-- The next of `cs`, ascending and cyclic, after `last`. -/
def nextAfter (cs : List Nat) (last : Nat) : Nat :=
  match cs.find? (fun c => last < 16 && decide (last < c)) with
  | some c => c
  | none => cs.getD 0 0

/-- Each entry of a map that names cluster `c` goes to the remaining clusters (R161). -/
def State.spread (s : State) (b : Nat) (dn : Bool) (c : Nat) : State :=
  let cs := (s.activeClusters b).filter (· != c)
  if cs = [] then s
  else
    let r := (List.range 256).foldl (fun (a : State × Nat) i =>
      if a.1.pinMap b dn i = c then
        let n := nextAfter cs a.2
        (a.1.setPinMap b dn i n, n)
      else a) (s, if dn then (s.rootBough b).lastDn else (s.rootBough b).lastUp)
    r.1.setRootBough b (if dn then { r.1.rootBough b with lastDn := r.2 } else { r.1.rootBough b with lastUp := r.2 })

/-- Entries i with i mod 16 = c return to a restored cluster (R161). -/
def State.unspread (s : State) (b : Nat) (dn : Bool) (c : Nat) : State :=
  eachIn (List.range 16) s (fun s k => s.setPinMap b dn (16 * k + c) c)

/-- Advance a map's epoch. -/
def State.advanceEpoch (s : State) (b : Nat) (dn : Bool) : State :=
  let f := if dn then ROOT_MAP_EPOCH.DN else ROOT_MAP_EPOCH.UP
  s.setFld f b (s.fld f b + 1)

/-- When a bough's last ACTIVE cluster leaves, its Ethernet ports go to FAULT with local-fault signalling (R165). -/
def State.lastCluster (s : State) (b : Nat) : State :=
  if s.activeClusters b = [] then
    eachIn ((List.range 64).map (fun k => b * 64 + k)) s (fun s p => if s.portConf p then s.portTaken p else s)
  else s

/-- A cluster is out of service at last: RETIRED (R163), or in GRAFT. The bough's last ACTIVE cluster is reported DEGRADED where a command
took it out too (R165); code 0x0502 lists no CAUSE for that, and the model gives 0 (DESIGN CHOICE). -/
def State.clusterGone (s : State) (c : Nat) : State :=
  let v := s.cluster c
  let s := s.setHeld (tgt cROOT c) false
  let s := if v.cause = 15 then (s.setFld ROOT_STATUS.CSTATE c cGRAFT).setUst (tgt cROOT c) uGRAFT 2
    else
      let s := (s.setFld ROOT_STATUS.CSTATE c cRETIRED).ev ROOT_EVENT.RETIRED c
      s.retire (tgt cROOT c) (if v.cause = 14 then 2 else 3)
  let s := if 14 ≤ v.cause ∧ s.activeClusters (c / 16) = [] then s.raise 0x0502 kDEGRADED (tgt cROOT c) 0 else s
  s.lastCluster (c / 16)

/-! ## Training (R152) -/

/-- The lanes of a direction that are out of use once `fails` fail training. -/
def State.lanesOut (s : State) (c : Nat) (dn : Bool) (fails : List Nat) : List Nat := ((s.rdir c dn).dead ++ fails).eraseDups

/-- The logical position that a physical lane carries, or none where it carries none. -/
def State.posOf (s : State) (c : Nat) (dn : Bool) (lane : Nat) : Option Nat :=
  let p := if 64 ≤ lane then s.fld (spareFld dn lane) c else lane
  if p < 64 ∧ s.physLane c dn p = lane then some p else none

/-- The positions of lanes that failed training move to spares, in ascending order of the lanes. -/
def State.trainLanes (s : State) (c : Nat) (dn : Bool) (fails : List Nat) : State :=
  let d := s.rdir c dn
  let s := s.setRdir c dn { charges := d.charges, totals := d.totals, dead := s.lanesOut c dn fails }
  eachIn (((List.range 66).filter fails.contains).filterMap (fun l => s.posOf c dn l)) s (fun s p =>
    match s.freeSpares c dn with
    | sp :: _ => s.moveLane c dn p sp
    | [] => s)

/-- Training succeeds: no more than two lanes of a direction fail and the clock locks (R152). -/
def State.trainOk (s : State) (c : Nat) (failUp failDn : List Nat) (clock : Bool) : Bool :=
  clock && decide ((s.lanesOut c false failUp).length ≤ 2) && decide ((s.lanesOut c true failDn).length ≤ 2)

/-- Both directions of a cluster are trained: its failed lanes are on spares. -/
def State.trained (s : State) (c : Nat) (failUp failDn : List Nat) : State :=
  let s := (s.trainLanes c false failUp).trainLanes c true failDn
  (s.showSpares c false).showSpares c true

/-- The clusters of a bough that are retired at start lose their pinning entries, once every cluster of it has trained and before any
frame is sent (R152, R161). -/
def State.startSpread (s : State) (b : Nat) : State :=
  if (List.range 16).any (fun c => s.ust (tgt cROOT (b * 16 + c)) == uWAKING) ∨ s.activeClusters b = [] then s
  else
    let out := (List.range 16).filter (fun c => s.cstate (b * 16 + c) == cRETIRED
      && (List.range 256).any (fun i => s.pinMap b false i == c || s.pinMap b true i == c))
    eachIn out s (fun s c =>
      (((s.spread b false c).spread b true c).advanceEpoch b false).advanceEpoch b true)

/-- ROOT_CLUSTER_TRAIN: a waking cluster trains (R152): ACTIVE with its failed lanes on spares, or retired at start. With the last one of
its bough the entries of those retired are spread. -/
def execRootClusterTrain (c : Nat) (failUp failDn : List Nat) (clock : Bool) (s : State) : Host.Outcome State Fault Refusal :=
  .next (if s.ust (tgt cROOT c) ≠ uWAKING then s
    else
      let s := if s.trainOk c failUp failDn clock then
          ((s.trained c failUp failDn).setFld ROOT_STATUS.CSTATE c cACTIVE).setUst (tgt cROOT c) uACTIVE 0
        else ((s.setCluster c { s.cluster c with cause := 4 }).clusterTold c).clusterGone c
      s.startSpread (c / 16))

/-! ## The resequencing buffer (R164) -/

/-- The bough whose resequencing buffer serves an egress port: an Ethernet port's own, a recirculation port's bough. -/
def egBough (p : Nat) : Nat := if p < 512 then p / 64 else (p - 578) % 8

/-- The next PSEQ port `p`'s egress passes on. -/
def State.nextPseq (s : State) (p : Nat) : Nat := tabGet (s.rootBough (egBough p)).nextSeq (p, 0) 0

/-- The bytes a DN frame occupies of the resequencing buffer and of the credit for it: the frame and its descriptor, not rounded (DESIGN
CHOICE: R164 gives the sizes and not what a frame takes). -/
def dnLen (f : DnFrame) : Nat := f.bytes.length + 16

/-- Show the resequencing buffer's use in KiB, and whether a hold is open. -/
def State.showReseq (s : State) (b : Nat) : State :=
  let v := s.rootBough b
  (s.setFld ROOT_RESEQ.USED b (ceilDiv (sumN ((v.reseq ++ v.waiting).map dnLen)) 1024)).setFld ROOT_RESEQ.HOLD b (b2n v.run.isSome)

end Sys2Proof.Machine
end

