-- ==== Sys2Proof/Machine/Tun.lean ====
section
/-! DEFINITION. The Tun's shared buffer: cells and free maps (R294 to R298), charges and admission (R302 to R305), WRED (R352), frames at
a write requester, linking and cut-through (R298, R310). The allocator is in `Alloc`. -/
namespace Sys2Proof.Machine

/-! ## Cells (R295, R298) -/

/-- The null pointer; in a frame's cell list, a cell that lies in the Cellar. -/
abbrev nullPtr : Nat := 0x1FFFFF
/-- The logical bank of a cell pointer. -/
def ptrBank (p : Nat) : Nat := p / 4096 % 512
/-- Its row. -/
def ptrRow (p : Nat) : Nat := p % 4096
/-- The rows of a bank. -/
abbrev bankRows : Nat := 3072

/-- The physical bank that serves logical bank `l`. -/
def State.physBank (s : State) (l : Nat) : Nat := s.fld TUN_BANK_MAP.PHYS l

/-- The replacement under way of logical bank `l`. -/
def State.migOf (s : State) (l : Nat) : Option Migration := s.tun.migs.find? (fun m => m.lbank == l)

/-- The physical bank in which a cell lies: while its bank is replaced, the old one until its row is moved (R319). -/
def State.cellPhys (s : State) (p : Nat) : Nat :=
  match s.migOf (ptrBank p) with
  | some m => if m.left.contains (ptrRow p) then m.src else m.dst
  | none => s.physBank (ptrBank p)

/-- The physical bank that takes new writes of logical bank `l`: the spare of a replacement (R319). -/
def State.writePhys (s : State) (l : Nat) : Nat := ((s.migOf l).map Migration.dst).getD (s.physBank l)

/-- A logical bank is closed to writes (R321). -/
def State.bankClosed (s : State) (l : Nat) : Bool := s.tun.closed.any (fun c => c.lbank == l)

/-- A cell is off the free maps. -/
def State.cellUsed (s : State) (p : Nat) : Bool := tabGet s.tun.used (ptrBank p, ptrRow p) false

/-- The rows of a logical bank that are in use, ascending. -/
def State.usedRows (s : State) (l : Nat) : List Nat := (tabRow s.tun.used l).map Prod.fst

/-- The lowest number from `n` on that an ascending list does not hold. -/
def firstGap : List Nat → Nat → Nat
  | [], n => n
  | r :: rs, n => if r = n then firstGap rs (n + 1) else n

/-- A logical bank has a free row and is open to writes. -/
def State.canWrite (s : State) (l : Nat) : Bool :=
  !s.bankClosed l && !s.quadStopped (bankQuad (s.writePhys l)) && decide (0 < s.fld TUN_BANK_STATUS.FREE (s.physBank l))

/-- Change the free rows of logical bank `l`, and FREE, by one. -/
def State.freeRows (s : State) (l : Nat) (up : Bool) : State :=
  let n := s.physBank l
  let step := fun v : Nat => if up then v + 1 else v - 1
  let s := s.setFld TUN_BANK_STATUS.FREE n (step (s.fld TUN_BANK_STATUS.FREE n))
  s.setFld TUN_FREE.CELLS 0 (step (s.fld TUN_FREE.CELLS))

/-- Take the lowest free row of a bank (R299): its pointer. -/
def State.takeRow (s : State) (l : Nat) : State × Nat :=
  let r := firstGap (s.usedRows l) 0
  ({ s with tun.used := tabSet s.tun.used (l, r) true false }.freeRows l false, l * 4096 + r)

/-- The module no longer has to move a row (R319): it was freed, moved or written anew. -/
def State.rowDone (s : State) (p : Nat) : State :=
  { s with tun.migs := s.tun.migs.map (fun m =>
      if m.lbank = ptrBank p then { m with left := m.left.filter (· != ptrRow p) } else m) }

/-- A cell returns to its free map; of a closed bank it only leaves (R321). -/
def State.freeCell (s : State) (p : Nat) : State :=
  if s.cellUsed p = false then s
  else
    let s := { s with tun.used := tabSet s.tun.used (ptrBank p, ptrRow p) false false }.rowDone p
    if s.bankClosed (ptrBank p) then s else s.freeRows (ptrBank p) true

/-- A cell lies in a row of a migrating bank that is not moved yet (R320). -/
def State.unmoved (s : State) (p : Nat) : Bool :=
  s.tun.migs.any (fun m => m.lbank == ptrBank p && p != nullPtr && m.left.contains (ptrRow p))

/-! ## Charges (R302, R304) -/

/-- Q_SH (R302). -/
def qShare (len hr min : Nat) : Nat := len - hr - min

/-- Set Q_LEN and Q_HR of a queue; POOL_USED of its pool follows Q_SH, HR_USED the sum of Q_HR. -/
def State.setCharge (s : State) (q len hr : Nat) : State :=
  let min := s.fld TUN_Q_CFG0.MIN q
  let pool := s.fld TUN_Q_CFG0.POOL q
  let old := qShare (s.fld TUN_Q_LEN.LEN q) (s.fld TUN_Q_HR.CELLS q) min
  let s := s.setFld TUN_HR_USED.CELLS 0 (s.fld TUN_HR_USED.CELLS + hr - s.fld TUN_Q_HR.CELLS q)
  let s := s.setFld TUN_Q_LEN.LEN q len
  let s := s.setFld TUN_Q_HR.CELLS q hr
  s.setFld TUN_POOL_USED.CELLS pool (s.fld TUN_POOL_USED.CELLS pool + qShare len hr min - old)

/-- A queue may rack (R328): SPILL_EN 1, LOSSLESS 0, an Ethernet port's. -/
def State.mayRack (s : State) (q : Nat) : Bool :=
  s.flag CELLAR_Q_CFG0.SPILL_EN q && !s.flag TUN_Q_CFG0.LOSSLESS q && decide (q / 16 < 512)

/-- A queue is SPILLING. -/
def State.spilling (s : State) (q : Nat) : Bool := s.flag CELLAR_Q_BLOCKS.SPILLING q

/-- A queue enters or leaves SPILLING; `CELLAR_STATUS` counts the queues that spill. -/
def State.setSpilling (s : State) (q : Nat) (on : Bool) : State :=
  if s.spilling q = on then s
  else
    let n := s.fld CELLAR_STATUS.SPILLING
    (s.setFld CELLAR_Q_BLOCKS.SPILLING q (b2n on)).setFld CELLAR_STATUS.SPILLING 0 (if on then n + 1 else n - 1)

/-- A queue enters SPILLING at the charge that reaches ON, and leaves it once nothing of it lies in the Cellar and it is below
ON again (R328, R330). -/
def State.spillCheck (s : State) (q : Nat) : State :=
  let held := s.fld TUN_Q_LEN.LEN q - s.fld TUN_Q_HR.CELLS q
  if s.spilling q then
    if (s.tqueue q).split = false ∧ held < s.fld CELLAR_Q_CFG0.ON q then s.setSpilling q false else s
  else if s.mayRack q && s.fld CELLAR_Q_CFG0.ON q ≤ held then s.setSpilling q true
  else s

/-- The index of ING_USED(port, PRI) for a frame, where its cells are charged to ingress counters: a frame from an Ethernet
port in a LOSSLESS queue (R302, R305). -/
def State.ingIdx (s : State) (f : TFrame) : Option Nat :=
  if s.flag TUN_Q_CFG0.LOSSLESS f.qid && decide (f.inPort < 512) then some (f.inPort * 8 + s.fld TUN_Q_CFG1.PRI f.qid) else none

/-- The ingress counters of a frame change by `n` cells. -/
def State.chargeIng (s : State) (f : TFrame) (n : Nat) (up : Bool) : State :=
  match s.ingIdx f with
  | none => s
  | some i =>
    let step := fun v : Nat => if up then v + n else v - n
    let s := s.setFld TUN_ING_USED.CELLS i (step (s.fld TUN_ING_USED.CELLS i))
    if f.hr then s.setFld TUN_ING_HR.CELLS i (step (s.fld TUN_ING_HR.CELLS i)) else s

/-- Charge one cell of a frame to its queue (R304); MAX_CELLS follows (R358). -/
def State.chargeCell (s : State) (f : TFrame) : State :=
  let q := f.qid
  let s := s.setCharge q (s.fld TUN_Q_LEN.LEN q + 1) (s.fld TUN_Q_HR.CELLS q + b2n f.hr)
  let s := (s.chargeIng f 1 true).maxFld SCHED_Q_HWM_CELLS.CELLS q (s.depth q)
  s.spillCheck q

/-- Release `n` cells of a frame from its queue. -/
def State.unchargeCells (s : State) (f : TFrame) (n : Nat) : State :=
  let q := f.qid
  let s := s.setCharge q (s.fld TUN_Q_LEN.LEN q - n) (s.fld TUN_Q_HR.CELLS q - (if f.hr then n else 0))
  (s.chargeIng f n false).spillCheck q

/-- The on-die cells of a frame. -/
def dieCells (f : TFrame) : List Nat := f.cells.filter (fun p => decide (p < nullPtr))

/-- A frame's cells are charged to its queue: assembling, linked, held, or picked with cells that are not read yet (R304); no longer once
its queue was flushed. -/
def charged (f : TFrame) : Bool := (decide (f.place ≤ 2) || f.place == 4) && !f.doomed

/-- How many cells of a frame are charged: those written, not racked and not read for dequeue; the first from its test on (R304, R322). -/
def chargedCells (f : TFrame) : Nat := if f.cells = [] then 1 else (dieCells f).length - f.nread

/-- A frame gives up its charges. -/
def State.uncharge (s : State) (f : TFrame) : State := if charged f then s.unchargeCells f (chargedCells f) else s

/-- A cell's data is uncorrectable: it is marked POISON in its frame (R296). -/
def State.poisonPtr (s : State) (p : Nat) : State :=
  eachIn (s.tun.frames.map (fun e => e.1.1)) s (fun s i =>
    let f := s.tframe i
    match f.cells.findIdx? (· == p) with
    | some k => if f.poison.contains k then s else s.setTframe i { f with poison := k :: f.poison }
    | none => s)

/-- A frame's cells are freed and its record with them. -/
def State.freeFrame (s : State) (i : Nat) : State :=
  let f := s.tframe i
  (eachIn (dieCells f) (s.uncharge f) State.freeCell).setTframe i {}

/-! ## Admission (R302, R303, R305) -/

/-- What admission decides. -/
inductive Verdict where
  | take (hr : Bool)
  | refuse (ctr : Reg) (reason : Nat)
  deriving DecidableEq, Repr

/-- RESERVE. -/
abbrev tunReserve : Nat := 20480

/-- Port `p`'s hold state (R314): 0 RUN, 1 HOLD, 2 FLUSHED. -/
def State.holdState (s : State) (p : Nat) : Nat := if p < 512 then s.fld TUN_PORT_HOLD.STATE p else 0

/-- The dynamic threshold of a queue for a colour (R303): room · 2^k, rounded down. Colour 3 counts as red (R347). -/
def State.admitRoom (s : State) (q color : Nat) : Nat :=
  let pool := s.fld TUN_Q_CFG0.POOL q
  let down := if color = 1 then s.fld TUN_Q_CFG0.DY q else if 2 ≤ color then s.fld TUN_Q_CFG0.DR q else 0
  let k := signedOf 4 (s.fld TUN_Q_CFG0.ALPHA q) - (down : Int)
  let room := s.tun.poolSize.getD pool 0 - s.fld TUN_POOL_USED.CELLS pool
  if 0 ≤ k then room * 2 ^ k.toNat else room / 2 ^ (-k).toNat

/-- The admission test of R303. -/
def State.admitTest (s : State) (q color inPort : Nat) : Verdict :=
  let lossless := s.flag TUN_Q_CFG0.LOSSLESS q
  let held := s.fld TUN_Q_LEN.LEN q - s.fld TUN_Q_HR.CELLS q
  let min := s.fld TUN_Q_CFG0.MIN q
  if s.holdState (q / 16) = 2 ∧ lossless = false then .refuse .TUN_DOWN_DROP 4
  else if s.fld TUN_FREE.CELLS ≤ tunReserve then .refuse .TUN_DROP_GUARD 3
  else if held < min then .take false
  else if held - min < s.admitRoom q color then .take false
  else if lossless ∧ inPort < 512 ∧ s.fld TUN_HR_USED.CELLS < s.tun.hrSize
      ∧ s.fld TUN_ING_HR.CELLS (inPort * 8 + s.fld TUN_Q_CFG1.PRI q) < s.fld TUN_HR_PG.CELLS then .take true
  else if lossless then .refuse .TUN_DROP_HR 2
  else .refuse .TUN_DROP_POOL 1

/-- The test that runs ahead of R303 for a spilling queue (R331). -/
def State.spillAdmit (s : State) (q color inPort : Nat) : Verdict :=
  if s.spilling q ∧ s.fld CELLAR_Q_BLOCKS.BLOCKS q < s.fld CELLAR_Q_CFG2.MAXBLK q ∧ 0 < s.fld CELLAR_FREE.SLOTS
      ∧ s.fld TUN_Q_LEN.LEN q - s.fld TUN_Q_HR.CELLS q < s.fld CELLAR_Q_CFG0.ON q + 1024 then .take false
  else s.admitTest q color inPort

/-- A queue's scheduler record. -/
def State.squeue (s : State) (q : Nat) : SQueue := tabGet s.squeues (q, 0) {}
/-- Write it. -/
def State.setSqueue (s : State) (q : Nat) (v : SQueue) : State := { s with squeues := tabSet s.squeues (q, 0) v {} }

/-- AVG after a test at depth `d`, in 2^-16 cells: AVG + (D − AVG) · 2^-W, rounded down (R352). -/
def wredAvg (avg d w : Nat) : Nat := ((avg : Int) + ((d * 65536 : Nat) - (avg : Int)) / ((2 ^ w : Nat) : Int)).toNat

/-- A profile selects a frame at average `avg`, for a 16-bit random value (R352). -/
def wredSelects (prof : Nat × Nat × Nat) (avg rand : Nat) : Bool :=
  if avg < prof.1 * 65536 then false
  else if prof.2.1 * 65536 ≤ avg then true
  else decide (rand * (prof.2.1 - prof.1) * 65536 < prof.2.2 * 256 * (avg - prof.1 * 65536))

/-- The WRED test of a frame that is accepted without headroom: the state after it, and whether the frame is selected. The
random value is the Tun's LFSR's, which the spec leaves open. -/
def State.wredTest (s : State) (q color : Nat) : State × Bool :=
  if s.flag SCHED_Q_CFG.WRED_EN q = false then (s, false)
  else
    let v := s.squeue q
    let avg := wredAvg v.avg (s.depth q) (s.fld SCHED_Q_CFG.W q)
    let sel := wredSelects (v.prof.getD (Nat.min color 2) (0, 0, 0)) avg (s.free % 65536)
    (((s.setSqueue q { v with avg := avg }).setFld SCHED_Q_WRED_AVG.AVG q (avg / 65536)).drawn, sel)

/-- The Tun's record of a frame as it meets admission. -/
def tunFrame (f : UpFrame) (tod writer depth free : Nat) : TFrame :=
  let short := nbit f.fmeta 25
  let bytes := if short then f.bytes.take 256 else f.bytes
  {
    qid := f.qid, pin := f.pin, inPort := f.inPort, color := f.color, fmeta := f.fmeta, inTs := f.inTs,
    enqTs := tod % 2 ^ 32, repin := f.repin, bytes := bytes, total := Nat.max 1 (ceilDiv bytes.length 256), full := f.bytes.length, exp := f.exp, gtag := f.gtag,
    writer := writer, arrive := tod, depthIn := depth, freeIn := free }

/-- A frame is refused: the counter, and what the Tun counts and records of a drop. -/
def State.refuseFrame (s : State) (f : TFrame) (ctr : Reg) (reason : Nat) : State :=
  let s := if reason = 3 then s.ev TUN_EVENT.GUARD else s
  let s := (s.bump ctr).perf (tunSet (f.writer / 32)) 0x184
  s.tunDrop { f with arrive := 0 } reason

/-- A frame is admitted: its record, its first cell charged, the queue's counters (R303, R304, R366). -/
def State.acceptFrame (s : State) (f : TFrame) : State × Option Nat :=
  let i := s.tun.nextFid
  let s := { s with tun.nextFid := i + 1 }.setTframe i f
  let s := ((s.bump .TUN_ADMIT).perf (tunSet (f.writer / 32)) 0x183).chargeCell f
  let s := match f.exp with
    | k :: _ => s.bump .TELEM_STR_FRAMES k
    | [] => s
  ((s.bump .TELEM_Q_C0 f.qid).bump .TELEM_Q_C1 f.qid f.bytes.length, some i)

/-- Whether a frame comes from an internal writer: a Grist engine or the exporter. -/
def isOwn (f : UpFrame) : Bool := decide (514 ≤ f.inPort ∧ f.inPort < 578) || f.exp != []

/-- The Tun decides admission of a frame on its first cell at write requester `w` (R302): the queue's watchdog (R356), a drain
(R429), R331 and R303, WRED (R352). A QID of no port is discarded as a bad frame (DESIGN CHOICE). -/
def State.offer (s : State) (f : UpFrame) (w : Nat) : State × Option Nat :=
  let q := f.qid
  let t := tunFrame f s.tod w (s.depth q) (s.fld TUN_FREE.CELLS)
  if 586 ≤ q / 16 then (s.bump .TUN_BAD_DROP, none)
  else if s.fld SCHED_Q_STATE.WD q = 1 then (s.refuseFrame t .SCHED_WD_DROP 8, none)
  else if s.draining ∧ isOwn f = false then (s.refuseFrame t .TUN_DOWN_DROP 4, none)
  else match s.spillAdmit q f.color f.inPort with
    | .refuse c r => (s.refuseFrame t c r, none)
    | .take true => s.acceptFrame { t with hr := true }
    | .take false =>
      let r := s.wredTest q f.color
      if r.2 = false then r.1.acceptFrame t
      else if s.flag SCHED_Q_CFG.ECN_EN q || s.flag TUN_Q_CFG0.LOSSLESS q then
        (r.1.bump .SCHED_ECN_MARK).acceptFrame { t with ce := true }
      else (r.1.refuseFrame t .SCHED_WRED_DROP 5, none)

/-! ## Frames at a write requester -/

/-- The frame a write requester assembles: its cluster's (0) or an internal writer's (1). -/
def State.asmAt (s : State) (r k : Nat) : Option Nat := tabGet s.tun.asm (r, k) none
/-- Set it. -/
def State.setAsm (s : State) (r k : Nat) (v : Option Nat) : State := { s with tun.asm := tabSet s.tun.asm (r, k) v none }
/-- Frames that internal writers bound to a requester offer. -/
def State.offersAt (s : State) (r : Nat) : List UpFrame := tabGet s.tun.offers (r, 0) []
/-- Set them. -/
def State.setOffers (s : State) (r : Nat) (l : List UpFrame) : State := { s with tun.offers := tabSet s.tun.offers (r, 0) l [] }
/-- Cells in a requester's input buffer (R301). -/
def State.inBufAt (s : State) (r : Nat) : Nat := tabGet s.tun.inBuf (r, 0) 0
/-- Set their number. -/
def State.setInBuf (s : State) (r n : Nat) : State := { s with tun.inBuf := tabSet s.tun.inBuf (r, 0) n 0 }

/-- A frame's QID names a Grist port, or its descriptor diverts it to an engine (R15, R16). -/
def diverted (f : UpFrame) : Bool := f.grist || decide (514 ≤ f.qid / 16 ∧ f.qid / 16 < 578)

/-- The packet of a Grist slot that the Tun refused (R408). -/
def State.turned (s : State) (slot : Nat) : Option (UpFrame × Nat × Nat) := tabGet s.grist.turned (slot, 0) none
/-- Set it. -/
def State.setTurned (s : State) (slot : Nat) (v : Option (UpFrame × Nat × Nat)) : State :=
  { s with grist.turned := tabSet s.grist.turned (slot, 0) v none }
/-- A cluster's Grist staging buffer (R394). -/
def State.staged (s : State) (c : Nat) : List UpFrame := tabGet s.grist.stage (c, 0) []
/-- Set it. -/
def State.setStaged (s : State) (c : Nat) (l : List UpFrame) : State := { s with grist.stage := tabSet s.grist.stage (c, 0) l [] }

/-- A cluster's staging buffer has no room for a frame (R394). -/
def State.stageFull (s : State) (c : Nat) (f : UpFrame) : Bool :=
  decide (65536 < sumN ((s.staged c).map (fun g => g.bytes.length)) + f.bytes.length)

/-- The units of a frame's stream with which its cell `k` has arrived whole. -/
def cellAt (f : UpFrame) (k : Nat) : Nat := Nat.min (2 + 32 * (k + 1)) (frameUnits f.bytes)

/-- The units with which a frame's first cell has arrived. -/
def firstCellAt (f : UpFrame) : Nat := cellAt f 0

/-- Cells that have arrived whole enter their requester's input buffer while it has room (R155, R301). -/
def State.fillInBuf (s : State) (r : Nat) : State :=
  match s.asmAt r 0, s.upList r with
  | some i, .frame u :: _ =>
    let f := s.tframe i
    let rx := (s.rdir r false).rxPos
    let come := ((List.range f.total).filter (fun k => decide (cellAt u k ≤ rx))).length
    s.setInBuf r (Nat.min 4 (come - f.cells.length))
  | _, _ => s

/-- A cluster's UP receiver accepts no flit: its input buffer is full (R301), or its staging buffer has no room for the frame at its head
(R18, R394). -/
def State.upFull (s : State) (r : Nat) : Bool :=
  decide (4 ≤ s.inBufAt r) ||
  (match s.upList r with
   | .frame u :: _ => diverted (upCarried u) && decide (frameUnits u.bytes ≤ (s.rdir r false).rxPos) && s.stageFull r u
   | _ => false)

/-- A diverted frame at the head of cluster `c` (R394): one with GRIST set that names no Grist port is discarded, a BAD one too; the
others wait, whole, in the staging buffer, or for room in it. -/
def State.divert (s : State) (c : Nat) (f : UpFrame) : State :=
  let p := f.qid / 16
  if p < 514 ∨ 578 ≤ p then (s.bump .TUN_BAD_DROP).popUp c
  else if f.bad then ((s.bump .GRIST_BAD ((p - 514) / 16)).ev GRIST_G_EVENT.BAD ((p - 514) / 16)).popUp c
  else if s.stageFull c f then s
  else (s.popUp c).setStaged c (s.staged c ++ [f])

/-- A frame of an internal writer meets admission: a Grist packet that is refused waits to be offered again (R408). -/
def State.admitOwn (s : State) (r : Nat) (f : UpFrame) (rest : List UpFrame) : State :=
  let o := s.offer f r
  let s := o.1.setOffers r rest
  if o.2 = none ∧ f.gtag ≠ [] then s.setTurned (r / 2) (some (f, s.now, s.now)) else s.setAsm r 1 o.2

/-- FRAME_ADMIT: in SERVICE; in DRAIN for internal writers alone (R429, R430). -/
def execFrameAdmit (r : Nat) (internal : Bool) (s : State) : Host.Outcome State Fault Refusal :=
  .next (if s.mode ≠ mSERVICE ∧ ¬(internal = true ∧ s.mode = mDRAIN) then s
    else if internal then
      match s.offersAt r with
      | f :: rest =>
        if s.asmAt r 1 ≠ none ∨ (f.gtag ≠ [] ∧ s.turned (r / 2) ≠ none) then s else s.admitOwn r f rest
      | [] => s
    else match s.upList r with
      | .frame u :: rest =>
        let f := upCarried u
        let rx := (s.rdir r false).rxPos
        if diverted f then (if rx < frameUnits f.bytes then s else s.divert r f)
        else if f.head ∨ f.gone = true ∨ rx < firstCellAt f ∨ 4 ≤ s.inBufAt r then s
        else
          let o := s.offer f r
          match o.2 with
          | none => o.1.dropUp r
          | some i => ((o.1.setUpList r (.frame { u with head := true } :: rest)).setAsm r 0 (some i)).fillInBuf r
      | _ => s)

/-- The cells that the cluster of read requester `r` (0) or the internal reader bound to it (1) still has to read (R18). -/
def State.readsAt (s : State) (r : Nat) (k : Nat := 0) : List (Nat × Nat) := tabGet s.tun.reads (r, k) []
/-- Set them. -/
def State.setReads (s : State) (r : Nat) (l : List (Nat × Nat)) (k : Nat := 0) : State :=
  { s with tun.reads := tabSet s.tun.reads (r, k) l [] }

/-! ## Linking (R298) and cut-through (R310) -/

/-- Show whether a queue holds a linked frame. -/
def State.showEmpty (s : State) (q : Nat) : State := s.setFld TUN_Q_LEN.EMPTY q (b2n ((s.tqueue q).frames.isEmpty))

/-- A frame is linked to its queue's tail; a Grist engine's result, partial or relay counts (R418). -/
def State.linkFrame (s : State) (i : Nat) : State :=
  let f := s.tframe i
  let v := s.tqueue f.qid
  let s := s.setTframe i { f with place := 1, link := s.tod }
  let s := match f.gtag with
    | [_, _, kind] => if kind < 3 then s.bump .GRIST_RESULTS ((f.inPort - 514) / 16) else s
    | _ => s
  (s.setTqueue f.qid { v with frames := v.frames ++ [i] }).showEmpty f.qid

/-- A received pause or PFC timer that still runs stops queue `q` of its port (R145). -/
def State.pfcStops (s : State) (q : Nat) : Bool :=
  let p := q / 16
  let v := s.port p
  decide (p < 512) &&
  ((v.pfcMode == 1 && decide (s.now < v.pauseEnd)) ||
   (v.pfcMode == 2 && (List.range 8).any (fun n => decide (s.now < v.timers.getD n 0) && nbit (v.qmask.getD n 0) (q % 16))))

/-- The number of ns that `q` quanta take at a port's speed: 512 bit times each, a part of a ns counting whole. -/
def quantaNs (mbps q : Nat) : Nat := if mbps = 0 then 0 else ceilDiv (q * 512000) mbps

/-- No timer stops the queue now: for the watchdog, a timer has not stopped it throughout (R356). -/
def State.wdGap (s : State) (q : Nat) : State :=
  let v := s.squeue q
  if v.stuck = none ∨ v.cause % 2 = 0 ∨ s.pfcStops q = true then s
  else s.setSqueue q { v with cause := v.cause / 2 * 2, stuck := if v.cause < 2 then none else v.stuck }

/-- The queue holds no linked frame: the watchdog starts anew (R356). -/
def State.wdEmpty (s : State) (q : Nat) : State :=
  if (s.tqueue q).frames = [] ∧ (s.squeue q).stuck ≠ none then s.setSqueue q { s.squeue q with stuck := none } else s

/-- Queue `q` is stopped: a timer stops it, and the watchdog does not hold it in FORWARD (R339, R356). -/
def State.stopped (s : State) (q : Nat) : Bool := s.pfcStops q && s.fld SCHED_Q_STATE.WD q != 2

/-- The hold of bough `b`'s re-pinned frames is open (R162). -/
def State.holdOpen (s : State) (b : Nat) : Bool := (s.rootBough b).run.isSome

/-- Frame `i` still has cells to write or to read. -/
def State.unread (s : State) (i : Nat) : Bool :=
  decide ((s.tframe i).cells.length < (s.tframe i).total) || s.tun.reads.any (fun e => e.2.any (fun x => x.1 == i * 2))

/-- A frame of `q` is being read: picked, with cells still to come or to be read (R310). -/
def State.reading (s : State) (q : Nat) : Bool :=
  s.tun.frames.any (fun (e : Key × TFrame) => e.2.place == 4 && e.2.qid == q && s.unread e.1.1)

/-- The three conditions of cut-through (R310). -/
def State.cutsThrough (s : State) (f : TFrame) : Bool :=
  let p := f.qid / 16
  (s.tqueue f.qid).frames.isEmpty && !s.reading f.qid && decide (p < 512) && s.pstate p == pUP && s.holdState p == 0
    && !s.stopped f.qid &&
  decide (f.inPort < 512) && f.exp.isEmpty && decide (speedMbps (s.portSpeed p) ≤ speedMbps (s.portSpeed f.inPort)) &&
  s.flag TUN_Q_CFG0.CT_EN f.qid && !metaBit f 24 && !(f.repin && s.holdOpen (f.writer / 16)) && !s.spilling f.qid

end Sys2Proof.Machine
end

