-- ==== Sys2Proof/Machine/Plan.lean ====
section
/-! DEFINITION. The Tun's buffer plan and queue settings (R306 to R309), ports that go down (R314, R316), the tally audit (R317,
R318), bank replacement (R319 to R321). -/
namespace Sys2Proof.Machine

/-! ## The plan (R306, R307) -/

/-- The first parameter word, of those listed with the bits they may hold, that has another bit set. -/
def firstBad (p : Packet) (masks : List (Nat × Nat)) : Option Nat :=
  (masks.find? (fun m => !onlyBits p m.1 m.2)).map Prod.fst

/-- The sum of MIN over all queues. -/
def State.sumMin (s : State) : Nat :=
  sumN ((tabRow s.regs Reg.TUN_Q_CFG0.ctorIdx).map (fun e => bitsAt e.2 0 16))

/-- What the plan may hold with `n` logical banks in service. -/
def planLimit (n : Nat) : Nat := bankRows * n - tunReserve

/-- The agreement test of group 0, for pool sizes, HR_SIZE and a sum of minimums (R307). -/
def State.planFits (s : State) (sizes : List Nat) (hr minSum : Nat) : Bool :=
  decide (sumN sizes + hr + minSum ≤ planLimit (s.fld TUN_STATUS.LBANKS))

/-- Show the commit under way in `TUN_PAIR_STATUS`, and a final result of group `g` (R86). -/
def State.showTunPair (s : State) (g : Nat) (result : Option Nat) : State :=
  let s := s.setFld TUN_PAIR_STATUS.BUSY 0 (b2n (s.pair 8).isSome)
  let s := s.setFld TUN_PAIR_STATUS.GROUP 0 g
  match result with
  | some r => s.setFld TUN_PAIR_STATUS.RESULT 0 r
  | none => s

/-- A mismatch of a group of the TUN block (R87). -/
def State.tunMismatch (s : State) (g : Nat) : State :=
  (s.ev TUN_PAIR_STATUS.MISMATCH).raise 0x0104 kCORRECTED (tgt cTUN 0) g

/-- The plan's active copies take a sample. -/
def State.applyPlan (s : State) (sample : List Nat) : State :=
  { s with tun.poolSize := sample.take 4, tun.hrSize := sample.getD 4 0 }

/-- The staging copies of group 0. -/
def State.planStaged (s : State) : List Nat :=
  (List.range 4).map (fun i => s.fld TUN_POOL_CFG.SIZE i) ++ [s.fld TUN_HR_CFG.SIZE]

/-- A sample of group 0 agrees. -/
def State.planAgrees (s : State) (sample : List Nat) : Bool := s.planFits (sample.take 4) (sample.getD 4 0) s.sumMin

/-- A commit of a group of the TUN block (R87, R307). -/
def State.tunCommit (s : State) (g : Nat) : State :=
  if (s.pair 8).isSome then s.setFld TUN_PAIR_STATUS.RESULT 0 3
  else if g = 0 ∧ s.planAgrees s.planStaged = true then (s.setPair 8 (some ⟨0, s.planStaged⟩)).showTunPair 0 none
  else (s.showTunPair g (some 2)).tunMismatch g

/-- An agreeing plan reaches its change point, the next Tun clock boundary. -/
def State.tunApply (s : State) : State :=
  match s.pair 8 with
  | some c => ((s.setPair 8 none).applyPlan c.sample).showTunPair 0 (some 1)
  | none => s

/-- The plan is tested again when LBANKS falls (R307): on a mismatch the sizes stay. -/
def State.planRetest (s : State) : State :=
  if s.planFits s.tun.poolSize s.tun.hrSize s.sumMin then s else s.tunMismatch 0

/-- POOL_CFG's effect. -/
def effPoolCfg (p : Packet) (s : State) : State × Rep :=
  match firstBad p [(0, 0x1FFFFF), (1, 0x1FFFFF), (2, 0x1FFFFF), (3, 0x1FFFFF), (4, 0x1FFFFF), (5, 0xFFFF)] with
  | some i => (s, badPar i)
  | none =>
    if (s.pair 8).isSome then (s, refuse eSTATE 0)
    else
      let s := eachIn (List.range 4) s (fun s i => s.setFld TUN_POOL_CFG.SIZE i (parF p i 0 21))
      let s := s.setFld TUN_HR_CFG.SIZE 0 (parF p 4 0 21)
      if s.planAgrees s.planStaged then
        (((s.applyPlan s.planStaged).showTunPair 0 (some 1)).setFld TUN_HR_PG.CELLS 0 (parF p 5 0 16), ok)
      else ((s.showTunPair 0 (some 2)).tunMismatch 0, badPar 0)

/-- POOL_CFG. -/
def execPoolCfg (p : Packet) (s : State) : Host.Outcome State Fault Refusal := .next (s.command 0x0401 effPoolCfg p)

/-! ## QUEUE_CFG (R308) -/

/-- The ports that have a scheduler. -/
def servedPorts : List Nat := List.range 514 ++ (List.range 8).map (fun k => 578 + k)

/-- The ports that a PORT TARGET with a scheduler names. -/
def schedTargets (p : Packet) : List Nat := if tInst p.target = 0xFFF then servedPorts else [tInst p.target]

/-- The queues that a TARGET and a QMASK select. -/
def queuesOf (ports : List Nat) (qmask : Nat) : List Nat :=
  ports.flatMap (fun i => ((List.range 16).filter (fun q => nbit qmask q)).map (fun q => i * 16 + q))

/-- The frames whose cells are charged to queue `q`. -/
def State.chargedFrames (s : State) (q : Nat) : List TFrame :=
  (s.tun.frames.map Prod.snd).filter (fun f => f.qid == q && charged f)

/-- A queue takes words 1 and 2: Q_SH moves to the new pool, ING_USED is derived again (R308). -/
def State.setQueueCfg (s : State) (q : Nat) (w1 w2 : Word) : State :=
  let fs := s.chargedFrames q
  let len := s.fld TUN_Q_LEN.LEN q
  let hr := s.fld TUN_Q_HR.CELLS q
  let s := eachIn fs s (fun s f => s.chargeIng f (chargedCells f) false)
  let pool := s.fld TUN_Q_CFG0.POOL q
  let s := s.setFld TUN_POOL_USED.CELLS pool (s.fld TUN_POOL_USED.CELLS pool - qShare len hr (s.fld TUN_Q_CFG0.MIN q))
  let s := (s.setReg .TUN_Q_CFG0 q w1).setReg .TUN_Q_CFG1 q w2
  let pool := s.fld TUN_Q_CFG0.POOL q
  let s := s.setFld TUN_POOL_USED.CELLS pool (s.fld TUN_POOL_USED.CELLS pool + qShare len hr (s.fld TUN_Q_CFG0.MIN q))
  eachIn fs s (fun s f => s.chargeIng f (chargedCells f) true)

/-- The E_PARAM cases of `QUEUE_CFG`: ALPHA lies in −7 to +3. -/
def queueCfgBad (p : Packet) : Option Nat :=
  match firstBad p [(0, 0xFFFF), (1, 0x3FFFFFFF), (2, 0x070FFFFF)] with
  | some i => some i
  | none =>
    if 4 ≤ parF p 1 18 4 ∧ parF p 1 18 4 ≤ 8 then some 1
    else if 1000000 < parF p 2 0 20 then some 2
    else none

/-- QUEUE_CFG's effect: a change of MIN that breaks the plan's agreement is refused. -/
def effQueueCfg (p : Packet) (s : State) : State × Rep :=
  match queueCfgBad p with
  | some i => (s, badPar i)
  | none =>
    let qs := queuesOf (schedTargets p) (parF p 0 0 16)
    let old := s.sumMin
    let new := old + qs.length * parF p 1 0 16 - sumN (qs.map (fun q => s.fld TUN_Q_CFG0.MIN q))
    if old < new ∧ s.planFits s.tun.poolSize s.tun.hrSize new = false then (s, deny eRESOURCE)
    else (eachIn qs s (fun s q => s.setQueueCfg q (par p 1) (par p 2)), ok)

/-- QUEUE_CFG. -/
def execQueueCfg (p : Packet) (s : State) : Host.Outcome State Fault Refusal := .next (s.command 0x0402 effQueueCfg p)

/-! ## Flushing (R314, R336) -/

/-- Show whether a flush chain is being freed. -/
def State.showFlush (s : State) : State := s.setFld TUN_STATUS.FLUSHING 0 (b2n (!s.tun.flush.isEmpty))

/-- One frame leaves a queue's list for a flush chain, counted in `ctr`; one that is still arriving is freed when it completes. -/
def State.flushFrame (s : State) (i : Nat) (ctr : Reg) (reason : Nat) : State :=
  let f := s.tframe i
  let s := s.uncharge f
  if s.tun.asm.any (fun e => e.2 == some i) then s.setTframe i { f with place := 0, ct := false, doomed := true }
  else
    let s := (s.bump ctr).tunDrop f reason
    { s.setTframe i { f with place := 3, doomed := true } with tun.flush := s.tun.flush ++ [i] }

/-- A slot of the Cellar is freed. -/
def State.freeSlot (s : State) (c slot : Nat) : State :=
  if tabGet s.cellar.slots (c, slot) 0 = 0 then s
  else
    let s := { s with cellar.slots := tabSet s.cellar.slots (c, slot) 0 0 }
    if s.ust (tgt cCELLAR c) = uRETIRED ∨ s.ust (tgt cCELLAR c) = uGRAFT then s
    else (s.setFld CELLAR_CH_FREE.SLOTS c (s.fld CELLAR_CH_FREE.SLOTS c + 1)).setFld CELLAR_FREE.SLOTS 0 (s.fld CELLAR_FREE.SLOTS + 1)

/-- A queue's blocks, and cells drawn and not linked, are freed; a rack write in flight completes (R336). -/
def State.dropBlocks (s : State) (q : Nat) : State :=
  let v := s.tqueue q
  let s := eachIn v.blocks s (fun s b => eachIn b.ptrs (s.freeSlot b.chan b.slot) State.freeCell)
  let drawn := sumN (v.blocks.map (fun b => (b.ptrs.filter (fun p => decide (p < nullPtr))).length))
  let s := s.setCharge q (s.fld TUN_Q_LEN.LEN q - drawn) (s.fld TUN_Q_HR.CELLS q)
  let s := s.setTqueue q { v with split := false, head := 0, blocks := [], starved := false }
  (s.setFld CELLAR_Q_BLOCKS.BLOCKS q 0).setSpilling q false

/-- Flush a queue (R314): its whole list moves to a flush chain; frames assembling or held for it are freed when they
complete or are released. The watchdog's flush moves the list alone (R356). -/
def State.flushQueue (s : State) (q : Nat) (ctr : Reg) (reason : Nat) (all : Bool) : State :=
  let l := (s.tqueue q).frames
  let s := s.dropBlocks q
  let s := eachIn l s (fun s i => s.flushFrame i ctr reason)
  let s := (s.setTqueue q { s.tqueue q with frames := [] }).wdEmpty q
  let s := if all then
      eachIn (s.tun.frames.map (fun e => e.1.1)) s (fun s i =>
        let f := s.tframe i
        if f.qid = q ∧ charged f = true then (s.uncharge f).setTframe i { f with doomed := true } else s)
    else s
  ((if all then s.setCharge q 0 0 else s).showEmpty q).showFlush

/-- The non-LOSSLESS queues of a port are flushed (R314); `all` flushes the LOSSLESS ones too. -/
def State.flushPort (s : State) (p : Nat) (all : Bool) : State :=
  let qs := ((List.range 16).map (fun q => p * 16 + q)).filter (fun q => all || !s.flag TUN_Q_CFG0.LOSSLESS q)
  (eachIn qs s (fun s q => s.flushQueue q .TUN_FLUSH_DROP 7 true)).ev TUN_EVENT.FLUSH

/-- A port's hold ends in FLUSHED. -/
def State.portFlushed (s : State) (p : Nat) : State := (s.setFld TUN_PORT_HOLD.STATE p 2).flushPort p false

/-- PORT_HOLD_ENTER: a port that has gone down enters HOLD, or FLUSHED with QHOLD 0 (R314). -/
def execPortHoldEnter (p : Nat) (s : State) : Host.Outcome State Fault Refusal :=
  .next (if 512 ≤ p ∨ (s.port p).wentDown = false ∨ s.holdState p ≠ 0 then s
    else
      let s := s.setPort p { s.port p with wentDown := false }
      let s := { s with tun.holdAt := tabSet s.tun.holdAt (p, 0) s.now 0 }
      if s.fld TUN_PORT_HOLD.QHOLD p = 0 then s.portFlushed p else s.setFld TUN_PORT_HOLD.STATE p 1)

/-- QHOLD_DEADLINE: entry + QHOLD has come, with the QHOLD of now (R316), and the port is not UP (R314; UP wins, R322). -/
def execQholdDeadline (p : Nat) (s : State) : Host.Outcome State Fault Refusal :=
  .next (if s.holdState p = 1 ∧ s.pstate p ≠ pUP ∧ tabGet s.tun.holdAt (p, 0) 0 + s.fld TUN_PORT_HOLD.QHOLD p * usNs ≤ s.now then
      s.portFlushed p
    else s)

/-- Free up to `n` cells of the frames on the flush chains, first frame first; the fuel bounds the frames. -/
def State.flushCells (s : State) : Nat → Nat → State
  | 0, _ => s
  | fuel + 1, n =>
    match s.tun.flush with
    | [] => s
    | i :: rest =>
      let f := s.tframe i
      let cs := dieCells f
      if cs.length ≤ n then
        (({ s with tun.flush := rest }.freeFrame i)).flushCells fuel (n - cs.length)
      else (eachIn (cs.take n) s State.freeCell).setTframe i { f with cells := cs.drop n }

/-- FLUSH_FREE: the flush engine returns `n` cells, one at least (R314). -/
def execFlushFree (n : Nat) (s : State) : Host.Outcome State Fault Refusal :=
  .next (s.flushCells (s.tun.flush.length + 1) (Nat.max 1 n)).showFlush

/-- QHOLD_CFG's effect (R316). -/
def effQholdCfg (p : Packet) (s : State) : State × Rep :=
  if !onlyBits p 0 0x1FFFF || 100000 < parF p 0 0 17 then (s, badPar 0)
  else
    let ps := if tInst p.target = 0xFFF then List.range 512 else [tInst p.target]
    (eachIn ps s (fun s i => s.setFld TUN_PORT_HOLD.QHOLD i (parF p 0 0 17)), ok)

/-- QHOLD_CFG. -/
def execQholdCfg (p : Packet) (s : State) : Host.Outcome State Fault Refusal := .next (s.command 0x0407 effQholdCfg p)

/-! ## The tally audit (R317, R318) -/

/-- Every on-die cell that a list of R298 holds. -/
def State.listedCells (s : State) : List Nat :=
  (s.tun.frames.flatMap (fun (e : Key × TFrame) => dieCells e.2)) ++
  (s.tun.queues.flatMap (fun (e : Key × TQueue) => e.2.blocks.flatMap (fun b => b.ptrs.filter (fun p => decide (p < nullPtr)))))

/-- The cells found charged to a queue. -/
def State.foundCells (s : State) (q : Nat) : Nat :=
  sumN ((s.chargedFrames q).map chargedCells) +
  sumN ((s.tqueue q).blocks.map (fun b => (b.ptrs.filter (fun p => decide (p < nullPtr))).length))

/-- Step 4 of a pass for one queue: a difference found in two passes is corrected to the second count and reported. -/
def State.tallyQueue (s : State) (q : Nat) : State :=
  let found := s.foundCells q
  if (s.chargedFrames q).any (fun f => f.cells.length < f.total) ∨ s.fld TUN_Q_LEN.LEN q = found then
    { s with tun.lenDiff := tabSet s.tun.lenDiff (q, 0) 0 0 }
  else if tabGet s.tun.lenDiff (q, 0) 0 = 0 then { s with tun.lenDiff := tabSet s.tun.lenDiff (q, 0) 1 0 }
  else
    let hr := sumN (((s.chargedFrames q).filter (fun f => f.hr)).map chargedCells)
    let s := (s.setCharge q found hr).spillCheck q
    { s.raise 0x0807 kCORRECTED (tgt cTUN 0) q with tun.lenDiff := tabSet s.tun.lenDiff (q, 0) 0 0 }

/-- TALLY_PASS: one whole pass (R317); none runs while a bank replacement does (R318). -/
def execTallyPass (s : State) : Host.Outcome State Fault Refusal :=
  if s.flag TUN_TALLY_CTL.EN = false ∨ s.tun.migs ≠ [] then .next s
  else
    let seen := s.listedCells
    let susp := (s.tun.used.map (fun e => e.1.1 * 4096 + e.1.2)).filter (fun p => !seen.contains p)
    let again := susp.filter (fun p => s.tun.suspects.contains p)
    let cross := (seen.filter (fun p => !s.cellUsed p)).eraseDups
    let s := eachIn again s State.freeCell
    let s := if again = [] then s
      else ((s.bump .TUN_LEAK_RECLAIM 0 again.length).ev TUN_EVENT.LEAK).raise 0x0805 kCORRECTED (tgt cTUN 0) again.length
    let s := eachIn cross s (fun s p =>
      let s := { s with tun.used := tabSet s.tun.used (ptrBank p, ptrRow p) true false }.freeRows (ptrBank p) false
      (s.ev TUN_EVENT.XLINK).raise 0x0806 kCORRECTED (tgt cTUN 0) p)
    let qs := ((s.tun.queues.map (fun e => e.1.1)) ++ (tabRow s.regs Reg.TUN_Q_LEN.ctorIdx).map Prod.fst).eraseDups
    let s := eachIn qs s State.tallyQueue
    let s := { s with tun.suspects := susp.filter (fun p => !again.contains p) }
    let s := s.setFld TUN_TALLY_STATUS.SUSPECT 0 (Nat.min 65535 susp.length)
    .next (s.setFld TUN_TALLY_STATUS.PASSES 0 (s.fld TUN_TALLY_STATUS.PASSES + 1))

/-! ## Bank replacement (R319 to R321) -/

/-- A spare bank may be taken: OFF, in a powered quadrant, not RETIRED. -/
def State.bankSpareFree (s : State) (n : Nat) : Bool :=
  s.ust (tgt cBANK n) == uOFF && s.domOn (domQuad (bankQuad n)) && !s.retired.contains (tgt cBANK n)

/-- The spare that replaces bank `n` (R20): the lowest of its quadrant first, then of the others in order Q0 to Q3. -/
def State.bankSpare (s : State) (n : Nat) : Option Nat :=
  let q := bankQuad n
  let qs := q :: (List.range 4).filter (· != q)
  (qs.flatMap (fun k => (List.range 4).map (fun j => 512 + 4 * k + j))).find? s.bankSpareFree

/-- Two replacements share a bank (R31). -/
def sameBanks (a b : Migration) : Bool := a.src == b.src || a.src == b.dst || a.dst == b.src || a.dst == b.dst

/-- A replacement begins: the failing bank is in GRAFT, the rows in use are to be moved; `TUN_MIGRATE` shows the one that began last (DESIGN
CHOICE: R323 has one register, R31 lets replacements of other banks run at the same time). -/
def State.migStart (s : State) (m : Migration) : State :=
  let rows := s.usedRows m.lbank
  let m := { m with left := rows, wait := (s.now - m.start) / usNs }
  let s := { s with tun.migs := s.tun.migs ++ [m] }
  let s := (s.setHeld (tgt cBANK m.src) true).setHeld (tgt cBANK m.dst) true
  let s := if m.back then s else s.setUst (tgt cBANK m.src) uGRAFT m.cause
  let s := if m.wait = 0 then s else s.tellWait 0x0802 (tgt cBANK m.src) m.wait
  let s := s.setReg .TUN_MIGRATE 0 (wd (m.src + m.dst * 2 ^ 16 + 2 ^ 31))
  s.setFld TUN_STATUS.MIGRATING 0 1

/-- The replacements that wait begin, in order, as soon as none under way or ahead of them has a bank of theirs (R31). -/
def State.migNext (s : State) : State :=
  let r := s.tun.migNext.foldl (fun (a : State × List Migration) m =>
    if (a.1.tun.migs ++ a.2).any (sameBanks m) then (a.1, a.2 ++ [m]) else (a.1.migStart m, a.2))
    ({ s with tun.migNext := [] }, [])
  { r.1 with tun.migNext := r.2 }

/-- Ask for a replacement of physical bank `src` by `dst`. A permanent bank's event is made here, at detection (R28, R493). -/
def State.migAsk (s : State) (src dst lbank : Nat) (graft back : Bool) (cause : Nat) : State :=
  let s := (s.setHeld (tgt cBANK src) true).setHeld (tgt cBANK dst) true
  let s := s.setUst (tgt cBANK dst) uWAKING cause
  let s := if cause = 3 ∧ back = false ∧ graft = false then
      s.raise 0x0802 kRETIRED (tgt cBANK src) (withWait dst 0) (s.permInj (tgt cBANK src) 0x0801 (10 * msNs))
    else s
  { s with tun.migNext := s.tun.migNext ++ [Migration.mk src dst lbank [] graft back cause s.now 0] }.migNext

/-- A logical bank closes to writes: its free rows leave the free map (R321). The event of a permanent one is made here, at detection (R493);
its LBANKS counts every closed bank as gone. -/
def State.closeBank (s : State) (l : Nat) (graft : Bool) (cause : Nat) : State :=
  let n := s.physBank l
  let free := s.fld TUN_BANK_STATUS.FREE n
  let s := if cause = 3 ∧ graft = false then
      s.raise 0x0803 kDEGRADED (tgt cBANK n) (withWait (s.fld TUN_STATUS.LBANKS - s.tun.closed.length - 1) 0)
        (s.permInj (tgt cBANK n) 0x0801 (10 * msNs))
    else s
  let s := { s with tun.closed := s.tun.closed ++ [ClosedBank.mk l graft cause] }
  let s := s.setFld TUN_FREE.CELLS 0 (s.fld TUN_FREE.CELLS - free)
  (s.setFld TUN_BANK_STATUS.FREE n 0).setHeld (tgt cBANK n) true

/-- The logical bank that a physical bank serves, or will serve once its replacement ends. -/
def State.bankRole (s : State) (n : Nat) : Option Nat :=
  match s.tun.migs.find? (fun m => m.dst == n) with
  | some m => some m.lbank
  | none => if s.flag TUN_BANK_STATUS.MAPPED n then some (s.fld TUN_BANK_STATUS.LBANK n) else none

/-- A bank is on its way out already. -/
def State.bankLeaving (s : State) (n : Nat) : Bool :=
  (s.tun.migs ++ s.tun.migNext).any (fun m => m.src == n) || s.tun.closed.any (fun c => s.physBank c.lbank == n)

/-- A bank leaves service for a spare, or closes where none is free (R319, R321). One that is itself taking a bank's place waits for that
to end (R31). -/
def State.replaceBank (s : State) (n : Nat) (graft : Bool) (cause : Nat) : State :=
  match s.bankLeaving n, s.bankRole n, s.bankSpare n with
  | false, some l, some sp => s.migAsk n sp l graft false cause
  | false, some l, none => if s.physBank l = n then s.closeBank l graft cause else s
  | _, _, _ => s

/-- A bank error counts toward permanence (R501): `code` 0x0801 an uncorrectable word, 0 a corrected one. -/
def State.bankError (s : State) (n code : Nat) (inj : Bool) : State :=
  let t := tgt cBANK n
  let s := s.notePerm t code inj
  if (code = 0x0801 ∧ 4 ≤ s.permCount t 0x0801 (10 * msNs)) ∨ (code = 0 ∧ 256 ≤ s.permCount t 0 (100 * msNs)) then
    s.replaceBank n false 3
  else s

/-- A bit error that a read of a cell shows (R296): corrected, or the cell is POISON. Either counts against its bank. -/
def State.readError (s : State) (p : Nat) (unc inj : Bool) : State :=
  let n := s.cellPhys p
  if unc then ((s.poisonPtr p).raise 0x0801 kRETRIED (tgt cBANK n) (ptrRow p) inj).bankError n 0x0801 inj
  else (s.bump .TUN_ECC_CORR).bankError n 0 inj

/-- What a read of a cell meets: an error planted in its row (R508), and one that the environment shows: corrected (`some false`) or not. -/
def State.cellRead (s : State) (p : Nat) (flip : Option Bool) : State :=
  let s := match s.flt.planted.find? (fun e => e.target == tgt cBANK (s.cellPhys p) && e.loc == ptrRow p) with
    | some e => (s.unplant e).readError p (e.kind == 2) true
    | none => s
  match flip with
  | some unc => s.readError p unc false
  | none => s

/-- The unmoved cells of the migrating bank in the migrator's order (R319, step 3). -/
def State.moveOrder (s : State) (m : Migration) : List Nat :=
  let cells := fun i => (s.tframe i).cells
  let qs := s.tun.queues.map Prod.snd
  let waits := qs.filter (fun v => v.frames.head?.any (fun i => (cells i).any s.unmoved))
  let rest := (s.tun.frames.map Prod.snd).filter (fun f => f.place != 1)
  let all := (waits.flatMap (fun v => v.frames.flatMap cells)) ++ (qs.flatMap (fun v => v.frames.flatMap cells)) ++
    (rest.flatMap (fun f => f.cells)) ++ m.left.map (fun r => m.lbank * 4096 + r)
  (all.filter (fun p => ptrBank p == m.lbank && s.unmoved p)).eraseDups

/-- The replacement ends (R319, step 4): the map changes, the spare is ACTIVE, the old bank RETIRED or GRAFT, the command that
asked for it is answered. -/
def State.migEnd (s : State) (m : Migration) : State :=
  let free := s.fld TUN_BANK_STATUS.FREE m.src
  let s := s.setFld TUN_BANK_MAP.PHYS m.lbank m.dst
  let s := (s.setFld TUN_BANK_STATUS.FREE m.dst free).setFld TUN_BANK_STATUS.FREE m.src 0
  let s := (s.setFld TUN_BANK_STATUS.LBANK m.dst m.lbank).setFld TUN_BANK_STATUS.MAPPED m.dst 1
  let s := s.setFld TUN_BANK_STATUS.MAPPED m.src 0
  let s := (s.setUst (tgt cBANK m.dst) uACTIVE m.cause).setHeld (tgt cBANK m.dst) false
  let s := s.setUnit (tgt cBANK m.dst) { s.unit (tgt cBANK m.dst) with role := m.lbank }
  let s := (s.setUnit (tgt cBANK m.src) { s.unit (tgt cBANK m.src) with role := 0xFFF }).setHeld (tgt cBANK m.src) false
  let left := s.tun.migs.filter (fun x => x.lbank != m.lbank)
  let s := (s.ev TUN_EVENT.MIGRATE_DONE).setFld TUN_STATUS.MIGRATING 0 (b2n (left != []))
  let s := match left.getLast? with
    | some x => s.setReg .TUN_MIGRATE 0 (wd (x.src + x.dst * 2 ^ 16 + 2 ^ 31))
    | none => s.setFld TUN_MIGRATE.ACTIVE 0 0
  let s := { s with tun.migs := left }
  let t := tgt cBANK m.src
  let s := if m.back then
      (s.setUst t uOFF 2).finish 0x0C02 (fun q => q.target == tgt cBANK m.dst) (ok [wd uACTIVE])
    else if m.graft then s.finish 0x0C01 (fun q => q.target == t) (ok [wd uGRAFT])
    else (s.retire t m.cause).finish 0x0C03 (fun q => q.target == t) (ok [wd uRETIRED])
  s.migNext

/-- Up to `n` rows of one replacement are copied; each copy is a read of the cell (R296). -/
def State.migCopy (s : State) (n : Nat) (flips : List (Nat × Bool)) (m : Migration) : State :=
  let s := eachIn ((s.moveOrder m).take n) s (fun s p => (s.cellRead p ((flips.find? (fun x => x.1 == p)).map Prod.snd)).rowDone p)
  match s.migOf m.lbank with
  | some x => if x.left = [] then s.migEnd x else s
  | none => s

/-- BANK_REPLACE: the migrator copies up to `n` rows of each replacement under way; one whose rows are all moved ends. -/
def execBankReplace (n : Nat) (flips : List (Nat × Bool)) (s : State) : Host.Outcome State Fault Refusal :=
  .next (eachIn s.tun.migs s (fun s m => s.migCopy n flips m))

/-- BANK_LEAVE_SERVICE: a closed bank holds no cell: LBANKS and the capacity fall, the plan is tested again (R321). -/
def execBankLeaveService (l : Nat) (s : State) : Host.Outcome State Fault Refusal :=
  match s.tun.closed.find? (fun c => c.lbank == l) with
  | none => .next s
  | some c =>
    if s.usedRows l ≠ [] then .next s
    else
      let n := s.physBank l
      let t := tgt cBANK n
      let s := { s with tun.closed := s.tun.closed.filter (fun c => c.lbank != l) }
      let s := s.setFld TUN_STATUS.LBANKS 0 (s.fld TUN_STATUS.LBANKS - 1)
      let s := ((s.setFld TUN_BANK_STATUS.MAPPED n 0).ev TUN_EVENT.DEGRADED).planRetest
      let s := (s.setUnit t { s.unit t with role := 0xFFF }).setHeld t false
      .next (if c.graft then (s.setUst t uGRAFT c.cause).finish 0x0C01 (fun q => q.target == t) (ok [wd uGRAFT])
        else
          let s := s.retire t c.cause
          s.finish 0x0C03 (fun q => q.target == t) (ok [wd uRETIRED]))

/-- A grafted bank goes back into service (R321): from the spare that serves its logical bank, or, where none took it, with
all its rows free. A spare whose logical bank another serves is a free spare again. -/
def State.restoreBank (s : State) (n : Nat) : State :=
  let l := s.fld TUN_BANK_STATUS.LBANK n
  let sp := s.physBank l
  if n < 512 ∧ sp ≠ n then s.migAsk sp n n false true 2
  else if sp ≠ n then s.setUst (tgt cBANK n) uOFF 2
  else
    let s := s.setFld TUN_STATUS.LBANKS 0 (s.fld TUN_STATUS.LBANKS + 1)
    let s := (s.setFld TUN_BANK_STATUS.FREE n bankRows).setFld TUN_FREE.CELLS 0 (s.fld TUN_FREE.CELLS + bankRows)
    let s := (s.setFld TUN_BANK_STATUS.MAPPED n 1).setUst (tgt cBANK n) uACTIVE 2
    s.setUnit (tgt cBANK n) { s.unit (tgt cBANK n) with role := s.fld TUN_BANK_STATUS.LBANK n }

end Sys2Proof.Machine
end

