-- ==== Sys2Proof/Machine/Alloc.lean ====
section
/-! DEFINITION. The Tun's allocator (R299 to R301): reads with what they meet (R296, R304, R312), writes, and the end of a frame (R298,
R311). -/
namespace Sys2Proof.Machine

/-! ## The allocator (R299) -/

/-- Of ascending requesters, the first after `last`, cyclic. -/
def rrPick (cands : List Nat) (last : Nat) : Nat :=
  match cands.find? (fun r => decide (last < r)) with
  | some r => r
  | none => cands.getD 0 0

/-- The window W(r, n), ascending. -/
def writeWindow (r n : Nat) : List Nat := (List.range 4).map (fun j => (4 * r + 4 * n) % 512 + j)

/-- Whether the cluster (0) or the internal reader (1) of requester `r` presents a cell: the internal one only where the cluster presents
none (R18). -/
def State.readSide (s : State) (r : Nat) : Nat := if s.readsAt r 0 = [] then 1 else 0

/-- The read requests of a clock, as (requester, bank); a bank whose quadrant is held waits (R457). -/
def State.readReqs (s : State) : List (Nat × Nat) :=
  (s.tun.reads.filterMap (fun (e : Key × List (Nat × Nat)) =>
    if e.1.2 = s.readSide e.1.1 then e.2.head?.map (fun x => (e.1.1, x.2)) else none)).filterMap
    (fun x => if s.quadStopped (bankQuad (s.cellPhys x.2)) then none else some (x.1, ptrBank x.2))

/-- A port's scheduler record. -/
def State.sport (s : State) (p : Nat) : SPort := tabGet s.sports (p, 0) {}
/-- Write it. -/
def State.setSport (s : State) (p : Nat) (v : SPort) : State := { s with sports := tabSet s.sports (p, 0) v {} }

/-- Set the bytes dequeued ahead of a port's MAC. -/
def State.setAhead (s : State) (p n : Nat) : State :=
  (s.setSport p { s.sport p with ahead := n }).setFld SCHED_P_CFG.CREDIT_USED p (ceilDiv n 1024)

/-- A frame to the Malthouse has been read: it is in the Malthouse's receive buffer, and its cells are freed (R16, R18). -/
def State.maltTake (s : State) (i : Nat) : State :=
  if s.tun.maltOut.contains i then
    let bytes := (s.tframe i).bytes
    let s := { s with maltRx := s.maltRx ++ [bytes], tun.maltOut := s.tun.maltOut.erase i }
    (s.setAhead 513 ((s.sport 513).ahead - bytes.length)).freeFrame i
  else s

/-- The DN frames that carry Tun frame `i` end bad. -/
def State.markDnBad (s : State) (i : Nat) : State :=
  { s with dnLink := eachIn s.dnLink s.dnLink (fun t e =>
      if e.2.any (fun d => d.fid == i) then
        tabSet t e.1 (e.2.map (fun d => if d.fid = i then { d with bad := true } else d)) []
      else t) }

/-- A POISON cell of a dequeued frame is met: the frame counts once, and ends BAD on DN (R312). -/
def State.poisonMet (s : State) (i : Nat) : State :=
  let f := s.tframe i
  if f.marked then s
  else (((s.setTframe i { f with marked := true }).bump .TUN_POISON).ev TUN_EVENT.POISON).markDnBad i

/-- A cell of a picked frame is read: it leaves its queue with its first read (R304). -/
def State.pickedRead (s : State) (i p left : Nat) : State :=
  let f := s.tframe i
  let k := f.cells.length - left
  let s := if f.nread ≤ k then
      let s := if charged f then s.unchargeCells f 1 else s
      s.setTframe i { s.tframe i with nread := f.nread + 1 }
    else s
  if (f.cells.findIdx? (· == p)).any (fun k => (s.tframe i).poison.contains k) then s.poisonMet i else s

/-- A read requester reads its next cell: a picked frame whose last cell this is has been sent (R373). -/
def State.doRead (s : State) (r l : Nat) (flip : Option Bool) : State :=
  match s.readsAt r (s.readSide r) with
  | (tag, p) :: rest =>
    let s := (s.setReads r rest (s.readSide r)).perf (tunSet (bankQuad (s.cellPhys p))) 0x181
    let s := { s with tun.gotRead := tabSet s.tun.gotRead (l, 0) r 127 }.cellRead p flip
    if tag % 2 = 1 then s
    else
      let s := s.pickedRead (tag / 2) p (1 + (rest.filter (fun x => x.1 == tag)).length)
      if rest.any (fun x => x.1 == tag) = false ∧ (s.tframe (tag / 2)).cells.length = (s.tframe (tag / 2)).total then
        (s.recordTrace (s.tframe (tag / 2))).maltTake (tag / 2)
      else s
  | [] => s

/-- Iteration 1: each requested bank grants one read. -/
def State.matchReads (s : State) (flips : List (Nat × Bool)) : State × List Nat :=
  let reqs := s.readReqs
  let banks := (reqs.map Prod.snd).eraseDups
  (eachIn banks s (fun s l =>
     s.doRead (rrPick ((reqs.filter (fun x => x.2 == l)).map Prod.fst) (tabGet s.tun.gotRead (l, 0) 127)) l
       ((flips.find? (fun x => x.1 == l)).map Prod.snd)), banks)

/-- The writers that present a cell, as (requester, 0 cluster or 1 internal), one a requester, clusters first (R18). -/
def State.writeReqs (s : State) : List (Nat × Nat) :=
  s.tun.asm.filterMap (fun (e : Key × Option Nat) =>
    match e.2 with
    | none => none
    | some i =>
      let f := s.tframe i
      if e.1.2 = 0 then if 0 < s.inBufAt e.1.1 then some e.1 else none
      else if f.cells.length < f.total ∧ s.inBufAt e.1.1 = 0 then some e.1 else none)

/-- The read requester that serves the DN cluster `c`. -/
def dnReader (c : Nat) : Nat := c

/-- A writer's cell is written into a bank: a pointer, a charge (the first cell's was made at its test), and for a first cell
the cut-through test (R298, R310); a later cell of a frame that is being sent goes on at once. -/
def State.writeCell (s : State) (w : Nat × Nat) (l : Nat) : State :=
  match s.asmAt w.1 w.2 with
  | none => s
  | some i =>
    let t := s.takeRow l
    let f := s.tframe i
    let g := { f with cells := f.cells ++ [t.2] }
    let s := (t.1.setTframe i g).perf (tunSet (bankQuad (s.writePhys l))) 0x180
    let s := if w.2 = 0 then s.setInBuf w.1 (s.inBufAt w.1 - 1) else s
    let s := if f.cells ≠ [] ∧ charged f = true then s.chargeCell g else s
    let s := if f.place = 4 then s.setReads (dnReader f.dnClus) (s.readsAt (dnReader f.dnClus) ++ [(i * 2, t.2)]) else s
    if f.cells = [] ∧ w.2 = 0 ∧ f.doomed = false ∧ s.cutsThrough g = true then
      ((s.setTframe i { g with ct := true }).linkFrame i).bump .TUN_CT_FRAMES |>.perf (tunSet (w.1 / 32)) 0x185
    else s

/-- Iteration 2: every bank of a writer's window that no read has grants to it (no other writer asks for it), and the writer takes the
lowest. -/
def State.matchWindows (s : State) (ws : List (Nat × Nat)) (busy : List Nat) : State × List Nat × List (Nat × Nat) :=
  let n := s.tun.clock % 128
  ws.foldl (fun (a : State × List Nat × List (Nat × Nat)) w =>
    let open_ := (writeWindow w.1 n).filter (fun l => !a.2.1.contains l && a.1.canWrite l)
    let s := eachIn open_ a.1 (fun s l => { s with tun.gotWrite := tabSet s.tun.gotWrite (l, 0) w.1 127 })
    match open_ with
    | l :: _ => (s.writeCell w l, l :: a.2.1, a.2.2)
    | [] => (s, a.2.1, a.2.2 ++ [w])) (s, busy, [])

/-- Iteration 3: every bank that is left grants one of the writers that are left; each takes the first granting bank at or after
its accept pointer, which moves past it. Answers the writers left unmatched. -/
def State.matchRest (s : State) (ws : List (Nat × Nat)) (busy : List Nat) : State × List (Nat × Nat) :=
  if ws = [] then (s, [])
  else
    let rs := ws.map Prod.fst
    let open_ := (List.range 512).filter (fun l => !busy.contains l && s.canWrite l)
    let grants := open_.map (fun l => (l, rrPick rs (tabGet s.tun.gotWrite (l, 0) 127)))
    let s := eachIn grants s (fun s g => { s with tun.gotWrite := tabSet s.tun.gotWrite (g.1, 0) g.2 127 })
    ws.foldl (fun (a : State × List (Nat × Nat)) w =>
      let mine := (grants.filter (fun g => g.2 == w.1)).map Prod.fst
      let p := tabGet a.1.tun.acceptAt (w.1, 0) 0
      match mine.find? (fun l => decide (p ≤ l)) <|> mine.head? with
      | some l =>
        ({ a.1 with tun.acceptAt := tabSet a.1.tun.acceptAt (w.1, 0) ((l + 1) % 512) 0 }.writeCell w l, a.2)
      | none => (a.1, a.2 ++ [w])) (s, [])

/-- ALLOCATOR_MATCH: one clock of the allocator (R299, R301); cells that wait in a receiver follow into the input buffers. -/
def execAllocatorMatch (flips : List (Nat × Bool)) (s : State) : Host.Outcome State Fault Refusal :=
  let a := s.matchReads flips
  let b := a.1.matchWindows a.1.writeReqs a.2
  let c := b.1.matchRest b.2.2 b.2.1
  let s := eachIn c.2 c.1 (fun s w => s.perf (tunSet (w.1 / 32)) 0x182)
  let s := if s.tun.inBuf.any (fun e => decide (4 ≤ e.2)) then (s.bump .TUN_WRITE_STALL).ev TUN_EVENT.WRITE_STALL else s
  let s := eachIn ((s.tun.asm.filter (fun e => e.1.2 == 0)).map (fun e => e.1.1)) s State.fillInBuf
  .next { s with tun.clock := s.tun.clock + 1 }

/-! ## A frame's end (R298, R311) -/

/-- The re-pin hold list of a bough. -/
def State.holdList (s : State) (b : Nat) : List Nat := tabGet s.tun.holds (b, 0) []
/-- Set it. -/
def State.setHoldList (s : State) (b : Nat) (l : List Nat) : State := { s with tun.holds := tabSet s.tun.holds (b, 0) l [] }

/-- A whole frame whose last cell is written is linked, held, or freed where it is bad or its queue was flushed. -/
def State.frameDone (s : State) (i : Nat) (bad : Bool) : State :=
  let f := s.tframe i
  let s := s.setTframe i { f with eof := true, bad := bad }
  if f.ct then if bad then (s.markDnBad i).bump .TUN_CT_STOMP else s
  else if bad then ((s.bump .TUN_BAD_DROP).tunDrop f 10).freeFrame i
  else if f.doomed then ((s.bump .TUN_FLUSH_DROP).tunDrop f 7).freeFrame i
  else if f.repin ∧ s.holdOpen (f.writer / 16) = true then
    (s.setTframe i { s.tframe i with place := 2 }).setHoldList (f.writer / 16) (s.holdList (f.writer / 16) ++ [i])
  else s.linkFrame i

/-- FRAME_EOF_ARRIVE. -/
def execFrameEofArrive (r : Nat) (internal : Bool) (s : State) : Host.Outcome State Fault Refusal :=
  .next (match s.asmAt r (b2n internal) with
    | none => s
    | some i =>
      if (s.tframe i).cells.length < (s.tframe i).total then s
      else if internal then (s.setAsm r 1 none).frameDone i false
      else match s.upList r with
        | .frame f :: _ =>
          if (s.rdir r false).rxPos < frameUnits f.bytes then s else ((s.setAsm r 0 none).popUp r).frameDone i f.bad
        | _ => s)

/-- Every cell pointer of assembling and in-flight frames: what `TUN_INFLIGHT` counts. -/
def State.inflightCells (s : State) : Nat :=
  let asm := s.tun.asm.filterMap (fun (e : Key × Option Nat) => e.2)
  sumN (s.tun.frames.map (fun (e : Key × TFrame) =>
    if e.2.place = 4 ∨ asm.contains e.1.1 = true then (dieCells e.2).length else 0))

end Sys2Proof.Machine
end

