-- ==== Sys2Proof/Machine/Cellar.lean ====
section
/-! DEFINITION. The Cellar: racking and drawing (R328 to R331), the extension region (R332, R333), errors and the retirement of a
channel (R335), SPILL_CFG (R337). -/
namespace Sys2Proof.Machine

/-! ## A queue's cells in list order (R328) -/

/-- Apply `g` to the cells at positions `start` to `start + n − 1` of a queue's list; `g` is given the position from `start`
and the pointer, and answers the new pointer. -/
def State.mapCells (s : State) (q start n : Nat) (g : Nat → Nat → Nat) : State :=
  ((s.tqueue q).frames.foldl (fun (a : State × Nat) i =>
    let f := a.1.tframe i
    let cs := (List.zipIdx f.cells).map (fun c =>
      let pos := a.2 + c.2
      if start ≤ pos ∧ pos < start + n then g (pos - start) c.1 else c.1)
    (if cs = f.cells then a.1 else a.1.setTframe i { f with cells := cs, racked := f.racked || cs.contains nullPtr },
     a.2 + f.cells.length)) (s, 0)).1

/-- The cells of a queue's list, in order. -/
def State.flatCells (s : State) (q : Nat) : List Nat := (s.tqueue q).frames.flatMap (fun i => (s.tframe i).cells)

/-- The frames of a queue with the position of their first cells. -/
def State.frameStarts (s : State) (q : Nat) : List (Nat × Nat) :=
  ((s.tqueue q).frames.foldl (fun (a : List (Nat × Nat) × Nat) i =>
    (a.1 ++ [(i, a.2)], a.2 + (s.tframe i).cells.length)) ([], 0)).1

/-- The head frame of a queue is wholly in HEAD and not lost. -/
def State.headWhole (s : State) (q : Nat) : Bool :=
  let v := s.tqueue q
  match v.frames with
  | i :: _ => !(s.tframe i).lost && (!v.split || decide ((s.tframe i).cells.length ≤ v.head))
  | [] => false

/-- Count the start of a starvation (R330). -/
def State.starveCheck (s : State) (q : Nat) : State :=
  let v := s.tqueue q
  let now := v.split && !v.blocks.isEmpty && !s.headWhole q
  if now = v.starved then s
  else
    let s := s.setTqueue q { v with starved := now }
    if now then (s.bump .CELLAR_DRAW_STARVE).ev CELLAR_EVENT.DRAW_STARVE else s

/-! ## Channels (R329, R335) -/

/-- A channel is on its way out of service. -/
def State.chanLeaving (s : State) (c : Nat) : Bool := s.cellar.leaving.any (fun x => x.chan == c)

/-- The clock of a channel is stopped: racks and draws wait (R457). -/
def State.chanStopped (s : State) (c : Nat) : Bool := s.pllStopped (0x80 + c / 8)

/-- A channel takes a new block: in service, its clock running, ALLOW 1, a free slot. -/
def State.chanOpen (s : State) (c : Nat) : Bool :=
  s.ust (tgt cCELLAR c) == uACTIVE && !s.chanLeaving c && !s.chanStopped c && s.flag CELLAR_CH_STATUS.ALLOW c &&
    decide (0 < s.fld CELLAR_CH_FREE.SLOTS c)

/-- A channel stops taking blocks (R335); a recovery holds it until it is out. A permanent one's event is made here, at detection (R493); its C
counts every channel that leaves as gone. -/
def State.chanLeave (s : State) (c : Nat) (graft : Bool) (cause : Nat) : State :=
  if s.chanLeaving c ∨ s.ust (tgt cCELLAR c) ≠ uACTIVE then s
  else
    let s := if cause = 3 ∧ graft = false then
        s.raise 0x0904 kDEGRADED (tgt cCELLAR c) (withWait (s.fld CELLAR_STATUS.CHANS - s.cellar.leaving.length - 1) 0)
          (s.permInj (tgt cCELLAR c) 0x0901 (10 * msNs))
      else s
    { s.setHeld (tgt cCELLAR c) true with cellar.leaving := s.cellar.leaving ++ [ChanLeave.mk c graft cause] }

/-- A burst is repeated for an EDC mismatch: four within 10 ms make the channel permanent (R335). -/
def State.edcRetry (s : State) (c : Nat) (inj : Bool) : State :=
  let t := tgt cCELLAR c
  let s := ((s.bump .CELLAR_EDC_RETRY).perf (tunSet 8) 0x282).raise 0x0901 kRETRIED t 0 inj
  let s := s.notePerm t 0x0901 inj
  if 4 ≤ s.permCount t 0x0901 (10 * msNs) then s.chanLeave c false 3 else s

/-- The bursts that an access repeats, a planted mismatch among them (R508). -/
def State.edcRetries (s : State) (c n : Nat) : State :=
  let s := eachIn (List.range n) s (fun s _ => s.edcRetry c false)
  match s.flt.planted.find? (fun e => e.target == tgt cCELLAR c && e.kind == 1) with
  | some e => (s.unplant e).edcRetry c true
  | none => s

/-- A single-bit error is corrected. -/
def State.cellarCorrected (s : State) (c : Nat) : State :=
  ((s.bump .CELLAR_ECC_CORR).perf (tunSet 8) 0x283).raise 0x0902 kCORRECTED (tgt cCELLAR c) 0

/-- An uncorrectable error of a part: 0 cell, 1 tag or header, 2 extension. -/
def State.cellarUncorr (s : State) (c part : Nat) (inj : Bool) : State :=
  ((s.bump .CELLAR_ECC_UNCORR).ev CELLAR_EVENT.ECC_UNCORR).raise 0x0903 kCORRECTED (tgt cCELLAR c) part inj

/-! ## The extension region (R332, R333) -/

/-- Lines in a MiB. -/
abbrev linesPerMib : Nat := 16384

/-- The lines of a partition: 0 TELEM, 1 WALK. -/
def State.partLines (s : State) (part : Nat) : Nat :=
  linesPerMib * (if part = 0 then s.fld CELLAR_EXT.TELEM_MIB else s.fld CELLAR_EXT.WALK_MIB)

/-- The extension line of a partition's line: TELEM occupies the lowest, WALK follows. -/
def State.extLine (s : State) (part line : Nat) : Nat := if part = 0 then line else s.partLines 0 + line

/-- The channels in service, ascending: S of R332. -/
def State.extChans (s : State) : List Nat :=
  (List.range 16).filter (fun c => s.ust (tgt cCELLAR c) == uACTIVE)

/-- The channel that holds an extension line. -/
def State.extChan (s : State) (line : Nat) : Nat := (s.extChans).getD (line % Nat.max 1 (s.extChans).length) 0

/-- The channel of the line that the window names. -/
def State.winChan (s : State) : Nat := s.extChan (s.extLine (s.fld CELLAR_WIN_ADDR.PART) (s.fld CELLAR_WIN_ADDR.LINE))

/-! ## A channel's requests in their order (R326, R334) -/

/-- A rack engine is still reading a queue's cells for a channel. -/
def State.rackReading (s : State) (q c : Nat) : Bool := (s.readsAt (8 * c + 4) 1).any (fun x => x.1 == q * 2 + 1)

/-- A channel retrains: it serves nothing until it resumes. -/
def State.retraining (s : State) (c : Nat) : Bool := decide (s.now < tabGet s.cellar.retrain (c, 0) 0)

/-- Draws wait at a channel, and the banks have room for one. -/
def State.drawWaits (s : State) (c : Nat) : Bool :=
  decide (16 ≤ s.fld TUN_FREE.CELLS) &&
    s.tun.queues.any (fun (e : Key × TQueue) => e.2.blocks.any (fun b => b.chan == c && b.stage == 1))

/-- Racks whose cells are read wait at a channel. -/
def State.rackWaits (s : State) (c : Nat) : Bool :=
  s.tun.queues.any (fun (e : Key × TQueue) => e.2.rack.any (fun b => b.chan == c && !s.rackReading e.1.1 c))

/-- Tenths of a ns that a 64-byte line takes of a channel, at 40 or 32 GB/s (R325). -/
def State.lineTime (s : State) (c : Nat) : Nat := if s.fld CELLAR_CH_STATUS.RATE c = 1 then 16 else 20

/-- Extension accesses have had less than 1/8 of a channel's time over the last µs. -/
def State.extShort (s : State) (c : Nat) : Bool :=
  decide (8 * sumN (((tabGet s.cellar.extUse (c, 0) []).filter (fun e => decide (s.now < e.1 + usNs))).map Prod.snd) < 10 * usNs)

/-- An extension access takes a channel's time. -/
def State.extUsed (s : State) (c : Nat) : State :=
  let l := (tabGet s.cellar.extUse (c, 0) []).filter (fun e => decide (s.now < e.1 + usNs))
  { s with cellar.extUse := tabSet s.cellar.extUse (c, 0) (l ++ [(s.now, s.lineTime c)]) [] }

/-- The channel of the window access under way. -/
def State.winWaits (s : State) (c : Nat) : Bool := s.cellar.win.isSome && s.winChan == c

/-- Whether a channel may serve a request now: 0 a draw, 1 a rack, 2 an extension access (R334). -/
def State.mayServe (s : State) (c kind : Nat) : Bool :=
  !s.retraining c && !s.chanStopped c &&
  (match kind with
   | 0 => true
   | 1 => !s.drawWaits c && !(s.winWaits c && s.extShort c)
   | _ => !s.drawWaits c && (s.extShort c || !s.rackWaits c))

/-! ## Racking (R329) -/

/-- The channel the queue's next block goes to: the next after the one that took its last block. -/
def State.rackChan (s : State) (v : TQueue) : Option Nat :=
  let from_ := if v.lastCh < 16 then v.lastCh + 1 else 0
  ((List.range 16).map (fun k => (from_ + k) % 16)).find? s.chanOpen

/-- The lowest free slot of a channel. -/
def State.freeSlotOf (s : State) (c : Nat) : Nat := firstGap ((tabRow s.cellar.slots c).map Prod.fst) 0

/-- RACK_BLOCK: the rack engine takes 16 linked cells of a spilling queue (R328, R329). -/
def execRackBlock (q : Nat) (s : State) : Host.Outcome State Fault Refusal :=
  .next (
    let v := s.tqueue q
    let tgtHead := s.fld CELLAR_Q_CFG1.HEAD q
    let start := if v.split then v.head + 16 * v.blocks.length else tgtHead
    if s.spilling q = false ∨ s.mayRack q = false ∨ v.rack.isSome = true ∨ (s.flatCells q).length < start + 16 then s
    else if s.fld CELLAR_Q_CFG2.MAXBLK q ≤ v.blocks.length then s.ev CELLAR_EVENT.SPILL_FULL
    else match s.rackChan v with
      | none => s.ev CELLAR_EVENT.SPILL_FULL
      | some c =>
        let slot := s.freeSlotOf c
        let s := { s with cellar.slots := tabSet s.cellar.slots (c, slot) (q + 1) 0 }
        let s := s.setFld CELLAR_CH_FREE.SLOTS c (s.fld CELLAR_CH_FREE.SLOTS c - 1)
        let s := s.setFld CELLAR_FREE.SLOTS 0 (s.fld CELLAR_FREE.SLOTS - 1)
        let cells := (((s.flatCells q).drop start).take 16).map (fun p => (q * 2 + 1, p))
        let s := s.setReads (8 * c + 4) (s.readsAt (8 * c + 4) 1 ++ cells) 1
        s.setTqueue q { v with
          split := true, head := if v.split then v.head else tgtHead, rack := some { bseq := v.bseq, chan := c, slot := slot },
          lastCh := c })

/-- TAIL joins HEAD when nothing of the queue lies in the Cellar or is on its way (R330). -/
def State.joinTail (s : State) (q : Nat) : State :=
  let v := s.tqueue q
  if v.split ∧ v.blocks = [] ∧ v.rack = none then (s.setTqueue q { v with split := false, head := 0 }).spillCheck q else s

/-- RACK_WRITE_DONE: the channel confirms the write: the rows are freed, the cells leave Q_LEN, the block joins RACKED (R329). -/
def execRackWriteDone (q repeats : Nat) (s : State) : Host.Outcome State Fault Refusal :=
  .next (
    let v := s.tqueue q
    match v.rack with
    | none => s
    | some b =>
      if s.rackReading q b.chan ∨ s.mayServe b.chan 1 = false then s
      else
        let s := s.edcRetries b.chan repeats
        let start := v.head + 16 * v.blocks.length
        if v.split = false ∨ (s.flatCells q).length < start + 16 then
          ((s.freeSlot b.chan b.slot).setTqueue q { s.tqueue q with rack := none }).joinTail q
        else
          let cells := ((s.flatCells q).drop start).take 16
          let s := eachIn cells s State.freeCell
          let s := s.mapCells q start 16 (fun _ _ => nullPtr)
          let s := s.setTqueue q { v with rack := none, blocks := v.blocks ++ [b], bseq := (v.bseq + 1) % 2 ^ 32 }
          let s := s.setFld CELLAR_Q_BLOCKS.BLOCKS q (v.blocks.length + 1)
          let s := s.setCharge q (s.fld TUN_Q_LEN.LEN q - 16) (s.fld TUN_Q_HR.CELLS q)
          ((s.bump .CELLAR_RACKED).perf (tunSet 8) 0x280).starveCheck q)

/-! ## Drawing (R330) -/

/-- The block before which every block is being drawn: its place in RACKED. -/
def nextDraw (bs : List Block) : Option Nat := bs.findIdx? (fun b => b.stage == 0)

/-- DRAW_ISSUE: HEAD, draws in flight counted, is short: the first racked block is drawn, 16 in flight at most. -/
def execDrawIssue (q : Nat) (s : State) : Host.Outcome State Fault Refusal :=
  .next (
    let v := s.tqueue q
    let flying := (v.blocks.filter (fun b => b.stage != 0)).length
    if v.split = false ∨ s.fld CELLAR_Q_CFG1.HEAD q ≤ v.head + 16 * flying ∨ 16 ≤ flying then s
    else match nextDraw v.blocks with
      | some k =>
        if (v.blocks[k]?).any (fun b => s.chanStopped b.chan) then s
        else s.setTqueue q { v with blocks := v.blocks.modify k (fun b => { b with stage := 1 }) }
      | none => s)

/-- A write requester that is alone in a clock takes a bank (R299): its window's lowest, else the first at or after its accept
pointer. -/
def State.soloBank (s : State) (r : Nat) : Option Nat :=
  let p := tabGet s.tun.acceptAt (r, 0) 0
  (writeWindow r (s.tun.clock % 128)).find? s.canWrite <|>
    ((List.range 512).map (fun k => (p + k) % 512)).find? s.canWrite

/-- The cluster of a write requester presents a cell: a writer bound to it waits (R18). -/
def State.clusterWrites (s : State) (r : Nat) : Bool := (s.asmAt r 0).isSome && decide (0 < s.inBufAt r)

/-- Write a cell of a draw through requester `r`: the pointer it took, none where no bank is open. -/
def State.drawCell (s : State) (r : Nat) : State × Nat :=
  match s.soloBank r with
  | some l =>
    let t := s.takeRow l
    let s := t.1.perf (tunSet (bankQuad (t.1.writePhys l))) 0x180
    ({ s with tun.clock := s.tun.clock + 1 }, t.2)
  | none => (s, nullPtr)

/-- A frame that an uncorrectable tag or a lost block took is discarded at link, once no cell of it is in the Cellar (R335). -/
def State.discardLost (s : State) (q : Nat) : State :=
  eachIn ((s.tqueue q).frames) s (fun s i =>
    let f := s.tframe i
    if f.lost ∧ f.cells.contains nullPtr = false then
      let v := s.tqueue q
      let off := ((s.frameStarts q).find? (fun x => x.1 == i)).elim 0 Prod.snd
      let inHead := Nat.min f.cells.length (v.head - off)
      let s := s.setTqueue q { v with frames := v.frames.filter (· != i), head := v.head - inHead }
      let s := ((s.bump .CELLAR_BLOCK_LOST).bump .TUN_POISON).ev CELLAR_EVENT.BLOCK_LOST
      (((s.tunDrop f 11).freeFrame i).ev TUN_EVENT.POISON).showEmpty q
    else s)

/-- The frames with a cell at positions `start` to `start + 15` of a queue's list, with their first positions. -/
def State.blockFrames (s : State) (q start : Nat) : List (Nat × Nat) :=
  (s.frameStarts q).filter (fun x => decide (x.2 < start + 16) && decide (start < x.2 + (s.tframe x.1).cells.length))

/-- The first block of a queue is linked to the end of HEAD; its slot is freed (R330). A lost block's cells hold nothing. -/
def State.linkBlock (s : State) (q : Nat) (b : Block) : State :=
  let v := s.tqueue q
  let fs := s.blockFrames q v.head
  let s := eachIn fs s (fun s x =>
    let f := s.tframe x.1
    let marks := (b.poison.filter (fun k => decide (x.2 ≤ v.head + k) && decide (v.head + k < x.2 + f.cells.length))).map
      (fun k => v.head + k - x.2)
    s.setTframe x.1 { f with poison := marks ++ f.poison, lost := f.lost || b.lost })
  let s := s.mapCells q v.head 16 (fun k _ => b.ptrs.getD k (nullPtr + 1))
  let s := (s.setTqueue q { v with head := v.head + 16, blocks := v.blocks.drop 1 }).freeSlot b.chan b.slot
  (s.setFld CELLAR_Q_BLOCKS.BLOCKS q (v.blocks.length - 1)).discardLost q

/-- Every block that has completed at the front of RACKED is linked, in BSEQ order; the fuel bounds their number. -/
def State.linkBlocks (s : State) (q : Nat) : Nat → State
  | 0 => s
  | n + 1 =>
    match (s.tqueue q).blocks with
    | b :: _ => if b.stage = 2 then (s.linkBlock q b).linkBlocks q n else s
    | [] => s

/-- After blocks were linked: segments join, starvation is looked at again. -/
def State.settleQueue (s : State) (q : Nat) : State :=
  ((s.linkBlocks q ((s.tqueue q).blocks.length)).joinTail q).starveCheck q

/-- DRAW_COMPLETE: a block is read and its cells are written into banks, charged as they arrive (R304, R330, R335). -/
def execDrawComplete (q bseq repeats corrected : Nat) (poison : List Nat) (tagBad : Bool) (s : State) :
    Host.Outcome State Fault Refusal :=
  .next (
    match (s.tqueue q).blocks.find? (fun b => b.bseq == bseq && b.stage == 1) with
    | none => s
    | some b =>
      if (List.range 512).any s.canWrite = false ∨ s.fld TUN_FREE.CELLS < 16 ∨ s.clusterWrites (8 * b.chan) = true ∨
          s.mayServe b.chan 0 = false then s
      else
        let s := s.edcRetries b.chan repeats
        let s := eachIn (List.range corrected) s (fun s _ => s.cellarCorrected b.chan)
        let planted := s.flt.planted.find? (fun e => e.target == tgt cCELLAR b.chan && e.kind == 2 && e.loc == b.slot)
        let poison := if planted.isSome then (s.free % 16) :: poison else poison
        let s := match planted with
          | some e => ((s.unplant e).drawn).cellarUncorr b.chan 0 true
          | none => s
        let s := eachIn (poison.drop (b2n planted.isSome)) s (fun s _ => s.cellarUncorr b.chan 0 false)
        let s := if tagBad then s.cellarUncorr b.chan 1 false else s
        let r := (List.range 16).foldl (fun (a : State × List Nat) _ =>
          let t := a.1.drawCell (8 * b.chan)
          (t.1, a.2 ++ [t.2])) (s, [])
        let s := r.1
        let s := s.setCharge q (s.fld TUN_Q_LEN.LEN q + 16) (s.fld TUN_Q_HR.CELLS q)
        let s := s.maxFld SCHED_Q_HWM_CELLS.CELLS q (s.depth q)
        let v := s.tqueue q
        let s := s.setTqueue q { v with
          blocks := v.blocks.map (fun x =>
            if x.bseq = bseq then { x with stage := 2, ptrs := r.2, poison := poison, lost := tagBad } else x) }
        ((s.bump .CELLAR_DRAWN).perf (tunSet 8) 0x281).settleQueue q)

/-! ## The extension's lines (R332, R333) -/

/-- A word of an extension line. -/
def State.extWord (s : State) (line n : Nat) : Nat := tabGet s.cellar.ext (line, n) 0
/-- Write it. -/
def State.setExtWord (s : State) (line n v : Nat) : State :=
  { s with cellar.ext := tabSet s.cellar.ext (line, n) (v % 2 ^ 32) 0 }

/-- The extension is laid out again with these sizes and cleared; records that wait in it are lost (R335, R337, R386). -/
def State.relayExt (s : State) (telem walk : Nat) : State :=
  let s := (s.setFld CELLAR_EXT.TELEM_MIB 0 telem).setFld CELLAR_EXT.WALK_MIB 0 walk
  let s := { s with cellar.ext := [] }.ev CELLAR_EVENT.EXT_CLEARED
  eachIn (List.range 8) s (fun s i =>
    let v := s.stream i
    let keep := (v.recs.foldl (fun (a : List (List Nat) × Nat) r =>
      if a.2 + r.length ≤ 65536 then (a.1 ++ [r], a.2 + r.length) else (a.1, a.2 + r.length)) ([], 0)).1
    if keep.length = v.recs.length then s
    else ((s.setStream i { v with recs := keep, recAt := v.recAt.take keep.length }).lostUnnumbered i (v.recs.length - keep.length)).showBacklog i)

/-- A write of CELLAR_WIN_CTL (R333): GO starts an access, unless one is under way; a line past the partition's end sets ERR. -/
def State.winStart (s : State) (value : Word) : State :=
  if bitsAt value 0 1 = 0 ∨ s.flag CELLAR_WIN_CTL.BUSY then s
  else if s.partLines (s.fld CELLAR_WIN_ADDR.PART) ≤ s.fld CELLAR_WIN_ADDR.LINE then
    (s.ev CELLAR_WIN_CTL.ERR).ev CELLAR_EVENT.WIN_ERR
  else { s.setFld CELLAR_WIN_CTL.BUSY 0 1 with cellar.win := some (bitsAt value 1 1 == 1) }

/-- CELLAR_WIN_DONE: the access completes (R333, R335): 1 corrected, 2 uncorrectable. -/
def execCellarWinDone (result : Nat) (s : State) : Host.Outcome State Fault Refusal :=
  .next (match s.cellar.win with
    | none => s
    | some wr =>
      if s.mayServe s.winChan 2 = false then s else
      let line := s.extLine (s.fld CELLAR_WIN_ADDR.PART) (s.fld CELLAR_WIN_ADDR.LINE)
      let s := s.extUsed s.winChan
      let s := ({ s with cellar.win := none }.setFld CELLAR_WIN_CTL.BUSY 0 0).perf (tunSet 8) 0x284
      if s.partLines (s.fld CELLAR_WIN_ADDR.PART) ≤ s.fld CELLAR_WIN_ADDR.LINE then
        (s.ev CELLAR_WIN_CTL.ERR).ev CELLAR_EVENT.WIN_ERR
      else if wr then eachIn (List.range 16) s (fun s n => s.setExtWord line n (s.reg .CELLAR_WIN_DATA n).toNat)
      else if result = 2 then (s.cellarUncorr (s.extChan line) 2 false).ev CELLAR_WIN_CTL.ERR
      else
        let s := if result = 1 then s.cellarCorrected (s.extChan line) else s
        eachIn (List.range 16) s (fun s n => s.setReg .CELLAR_WIN_DATA n (wd (s.extWord line n))))

/-! ## Retraining, retirement (R326, R335) -/

/-- CELLAR_RETRAIN: a channel's read timing is retrained, one channel at a time; it pauses for 2 µs (R326; DESIGN CHOICE: the longest pause
that the rule allows). One that fails is permanent. -/
def execCellarRetrain (ch : Nat) (pass : Bool) (temp : Nat) (s : State) : Host.Outcome State Fault Refusal :=
  .next (if s.ust (tgt cCELLAR ch) ≠ uACTIVE ∨ (List.range 16).any s.retraining = true then s
    else
      let s := s.setFld CELLAR_CH_STATUS.TEMP ch temp
      let s := { s with cellar.retrain := tabSet s.cellar.retrain (ch, 0) (s.now + 2 * usNs) 0 }
      if pass then s else s.chanLeave ch false 3)

/-- A channel is out of service: capacity falls, the partitions are laid out over the channels left (R335). -/
def State.chanGone (s : State) (x : ChanLeave) : State :=
  let t := tgt cCELLAR x.chan
  let c := s.fld CELLAR_STATUS.CHANS
  let s := s.setFld CELLAR_FREE.SLOTS 0 (s.fld CELLAR_FREE.SLOTS - s.fld CELLAR_CH_FREE.SLOTS x.chan)
  let s := (s.setFld CELLAR_CH_FREE.SLOTS x.chan 0).setFld CELLAR_STATUS.CHANS 0 (c - 1)
  let s := { s.setHeld t false with cellar.leaving := s.cellar.leaving.filter (fun y => y.chan != x.chan) }
  let s := if x.graft then s.setUst t uGRAFT x.cause else (s.retire t x.cause).ev CELLAR_EVENT.CH_RETIRED
  let s := s.relayExt (s.fld CELLAR_EXT.TELEM_MIB * (c - 1) / c) (s.fld CELLAR_EXT.WALK_MIB * (c - 1) / c)
  if x.graft then s.finish 0x0C01 (fun q => q.target == t) (ok [wd uGRAFT])
  else
    s.finish 0x0C03 (fun q => q.target == t) (ok [wd uRETIRED])

/-- CELLAR_CHANNEL_RETIRE: a channel that leaves holds no block any more. -/
def execCellarChannelRetire (ch : Nat) (s : State) : Host.Outcome State Fault Refusal :=
  .next (match s.cellar.leaving.find? (fun x => x.chan == ch) with
    | some x => if tabRow s.cellar.slots ch = [] then s.chanGone x else s
    | none => s)

/-- The blocks of a queue on channel `ch` are lost: those not drawn yet; a rack write to it is given up. -/
def State.loseBlocks (s : State) (q ch : Nat) : State :=
  let v := s.tqueue q
  let s := match v.rack with
    | some b => if b.chan = ch then (s.freeSlot b.chan b.slot).setTqueue q { v with rack := none } else s
    | none => s
  let v := s.tqueue q
  let s := s.setTqueue q { v with
    blocks := v.blocks.map (fun b =>
      if b.chan = ch ∧ b.stage ≠ 2 then { b with stage := 2, ptrs := List.replicate 16 (nullPtr + 1), lost := true } else b) }
  s.settleQueue q

/-- CELLAR_CHANNEL_DEAD: a channel delivers nothing: every block on it is lost, and it is retired (R335). -/
def execCellarChannelDead (ch : Nat) (s : State) : Host.Outcome State Fault Refusal :=
  .next (if s.ust (tgt cCELLAR ch) ≠ uACTIVE then s
    else
      let s := if s.cellar.leaving.any (fun x => x.chan == ch && (x.graft || x.cause != 3)) then
          s.raise 0x0904 kDEGRADED (tgt cCELLAR ch) (withWait (s.fld CELLAR_STATUS.CHANS - s.cellar.leaving.length) 0)
        else s.chanLeave ch false 3
      let s := eachIn (s.tun.queues.map (fun e => e.1.1)) s (fun s q => s.loseBlocks q ch)
      match s.cellar.leaving.find? (fun x => x.chan == ch) with
      | some x => s.chanGone { x with graft := false, cause := 3 }
      | none => s)

/-- A restored channel is in service again; the extension is laid out again and cleared (R441). -/
def State.restoreChan (s : State) (c : Nat) : State :=
  let s := s.setUst (tgt cCELLAR c) uACTIVE 2
  let s := s.setFld CELLAR_STATUS.CHANS 0 (s.fld CELLAR_STATUS.CHANS + 1)
  let s := (s.setFld CELLAR_CH_FREE.SLOTS c 174762).setFld CELLAR_FREE.SLOTS 0 (s.fld CELLAR_FREE.SLOTS + 174762)
  s.relayExt (s.fld CELLAR_EXT.TELEM_MIB) (s.fld CELLAR_EXT.WALK_MIB)

/-! ## SPILL_CFG (R337) -/

/-- The parameter count a SEL calls for. -/
def spillLen (sel : Nat) : Nat := if sel = 0 then 5 else 2

/-- SEL 0: the queues' thresholds. -/
def effSpillQueues (p : Packet) (s : State) : State × Rep :=
  let first := parF p 1 0 14
  let count := parF p 1 16 14
  let en := parF p 2 0 1
  match firstBad p [(0, 0xF), (1, 0x3FFF3FFF), (2, 0x01FFFFF1), (3, 0xFFFF), (4, 0x3FFFFF)] with
  | some i => (s, badPar i)
  | none =>
    if 10240 < first + count then (s, badPar 1)
    else if count = 0 then (s, ok)
    else if en = 1 ∧ 514 * 16 < first + count ∧ first < 640 * 16 then (s, badPar 1)
    else if en = 1 ∧ parF p 2 4 21 < parF p 3 0 16 + 16 then (s, badPar 2)
    else if en = 1 ∧ parF p 3 0 16 < 128 then (s, badPar 3)
    else if en = 1 ∧ parF p 4 0 22 = 0 then (s, badPar 4)
    else (eachIn ((List.range count).map (fun k => first + k)) s (fun s q =>
      ((s.setReg .CELLAR_Q_CFG0 q (par p 2)).setReg .CELLAR_Q_CFG1 q (par p 3)).setReg .CELLAR_Q_CFG2 q (par p 4)), ok)

/-- SPILL_CFG's effect. -/
def effSpillCfg (p : Packet) (s : State) : State × Rep :=
  let sel := parF p 0 0 4
  if !onlyBits p 0 0xF || 3 ≤ sel then (s, badPar 0)
  else if parCount p ≠ spillLen sel then (s, refuse eLEN (lenDetail (spillLen sel) (spillLen sel)))
  else if (tCls p.target = cTUN) ≠ (sel ≠ 2) then (s, refuse eTARGET (p.target % 65536))
  else if sel = 0 then effSpillQueues p s
  else if sel = 1 then
    if !onlyBits p 1 0x1FFF1FFF then (s, badPar 1)
    else if s.mode ≠ mSTEEPING ∧ s.mode ≠ mDRAIN then (s, deny eSTATE)
    else if s.fld CELLAR_STATUS.CHANS * 256 < parF p 1 0 13 + parF p 1 16 13 then (s, deny eRESOURCE)
    else (s.relayExt (parF p 1 0 13) (parF p 1 16 13), ok)
  else if !onlyBits p 1 1 then (s, badPar 1)
  else (eachIn (instances p.target 16) s (fun s c => s.setFld CELLAR_CH_STATUS.ALLOW c (parF p 1 0 1)), ok)

/-- SPILL_CFG. -/
def execSpillCfg (p : Packet) (s : State) : Host.Outcome State Fault Refusal := .next (s.command 0x0408 effSpillCfg p)

end Sys2Proof.Machine
end

