-- ==== Sys2Proof/Machine/Store.lean ====
section
/-! DEFINITION. The control stores and program banks (R193 to R195, R209 to R223): what they hold, and the commands that
load, patch, switch and read them. Store 0 to 7 is a bough's, 8 the Tun's. -/
namespace Sys2Proof.Machine

/-- A field of a number replaced. -/
def putBits (w lo n v : Nat) : Nat := w - nbits w lo n * 2 ^ lo + v % 2 ^ n * 2 ^ lo

/-! ## Words and units -/

/-- The store a TARGET names. -/
def storeOf (t : Nat) : Nat := if tCls t = 6 then 8 else tInst t
/-- The TARGET of a store. -/
def storeTgt (st : Nat) : Nat := if st = 8 then tgt cTUN 0 else tgt cBOUGH st

/-- An address of a store is implemented (R193). -/
def storeHas (st a : Nat) : Bool :=
  if st = 8 then decide (a < 0x2000) || (decide (0x4000 ≤ a) && decide (a < 0x4100)) || (decide (0x6000 ≤ a) && decide (a < 0x6400))
  else decide (a < 0x4000) || (decide (0x4000 ≤ a) && decide (a < 0x4200)) || (decide (0x6000 ≤ a) && decide (a < 0x8000))

/-- The customer region of a store. -/
def custHas (st a : Nat) : Bool := decide (0x6000 ≤ a) && storeHas st a

/-- A store word, as the contexts of a set see it whose vendor patch words are of image `vend` (R211). -/
def State.storeWordOf (s : State) (vend st a : Nat) : Nat :=
  match tabGet s.ucode (st, a) none with
  | some w => w
  | none => Config.storeWord (if 0x4000 ≤ a ∧ a < 0x6000 then vend else 0) st a % 2 ^ 160

/-- The planted error of a bough store's word (R508). -/
def storePlanted (st a : Nat) : Planted := ⟨tgt cBOUGH st, 3, a⟩

/-- A RAM word is uncorrectable, met or not (R195). -/
def State.wordBad (s : State) (st a : Nat) : Bool :=
  s.ucodeBad.contains (st, a) || (decide (st < 8) && s.flt.planted.contains (storePlanted st a))

/-- Write a store word; an uncorrectable word is good again (R195). -/
def State.setStoreWord (s : State) (st a w : Nat) : State :=
  { s with ucode := tabSet s.ucode (st, a) (some (w % 2 ^ 160)) none, ucodeBad := s.ucodeBad.filter (· != (st, a)) }.unplant
    (storePlanted st a)

/-- A store's record. -/
def State.store (s : State) (st : Nat) : StoreRec := tabGet s.stores (st, 0) {}
/-- Write it. -/
def State.setStore (s : State) (st : Nat) (v : StoreRec) : State := { s with stores := tabSet s.stores (st, 0) v {} }

/-- A store word as a command reads it. -/
def State.storeWord (s : State) (st a : Nat) : Nat := s.storeWordOf (s.store st).vend st a

/-- Whether the unwritten units of a bank are the vendor base program's. -/
def State.vendorBank (s : State) (st bank : Nat) : Bool := if bank = 0 then (s.store st).vendor0 else (s.store st).vendor1

/-- Words per unit of a section TYPE (R215); 0 for a reserved TYPE. -/
def unitWords (ty : Nat) : Nat :=
  match ty with
  | 1 => 5
  | 2 => 6
  | 3 => 3
  | 4 => 5
  | 5 => 1
  | 6 => 1
  | 7 => 4
  | _ => 0

/-- The number of indices of a section TYPE other than MICROCODE. -/
def unitCount (ty : Nat) : Nat :=
  match ty with
  | 2 => 256
  | 3 => 512
  | 4 => 16
  | 5 => 4104
  | 6 => 16
  | 7 => 1
  | _ => 0

/-- The key row of a bank's section. -/
def progRow (st bank ty : Nat) : Nat := st * 16 + bank * 8 + ty

/-- The identifier of the vendor program in a bank: the running image's, or the one it was loaded from. -/
def State.baseIdOf (s : State) (st bank : Nat) : Nat :=
  (if bank = 0 then (s.store st).base0 else (s.store st).base1).getD (if st = 8 then s.fw.tunId else s.fw.baseId)

/-- A unit of a vendor base program. -/
def baseWords (id ty i : Nat) : List Word := (List.range (unitWords ty)).map (fun k => wd (Config.baseUnit id ty i k))

/-- A unit of a bank: what was written, else the vendor's, else zero. A bank of 2 + id stands for the base program `id` that a firmware
activation has replaced in its bank and that pipes still run (R222, R518). -/
def State.progUnit (s : State) (st bank ty i : Nat) : List Word :=
  if 2 ≤ bank then baseWords (bank - 2) ty i
  else match tabGet s.prog (progRow st bank ty, i) [] with
  | [] => if s.vendorBank st bank then baseWords (s.baseIdOf st bank) ty i else (List.range (unitWords ty)).map (fun _ => 0)
  | ws => ws

/-- A word of a unit as a number. -/
def State.progWord (s : State) (st bank ty i k : Nat) : Nat := ((s.progUnit st bank ty i).getD k 0).toNat

/-- Write a unit. -/
def State.setProgUnit (s : State) (st bank ty i : Nat) (ws : List Word) : State :=
  { s with prog := tabSet s.prog (progRow st bank ty, i) ws [] }

/-- A parser state of a bank was written, by a section or with the base program. -/
def State.stateWritten (s : State) (st bank i : Nat) : Bool :=
  s.vendorBank st bank || tabGet s.prog (progRow st bank 2, i) [] != []

/-- The active bank of a store. -/
def State.actBank (s : State) (st : Nat) : Nat := s.fld UC_STATUS.ACT_BANK st
/-- A bank is valid. -/
def State.bankValid (s : State) (st bank : Nat) : Bool := s.flag (if bank = 0 then UC_STATUS.VALID0 else UC_STATUS.VALID1) st
/-- A bank is a base bank. -/
def State.bankBase (s : State) (st bank : Nat) : Bool :=
  decide (2 ≤ bank) || s.flag (if bank = 0 then UC_STATUS.BASE0 else UC_STATUS.BASE1) st

/-- The footprint of a bank as (first, last) addresses; none where it is empty, as the vendor's is (R214, R217). -/
def State.footprint (s : State) (st bank : Nat) : Option (Nat × Nat) :=
  if s.bankBase st bank || tabGet s.prog (progRow st bank 7, 0) [] == [] then none
  else
    let w := s.progWord st bank 7 0 2
    if nbit w 31 then some (0x6000 + nbits w 0 13, 0x6000 + nbits w 16 13) else none

/-- An address lies in a footprint. -/
def inFoot (f : Option (Nat × Nat)) (a : Nat) : Bool :=
  match f with
  | some (lo, hi) => decide (lo ≤ a) && decide (a ≤ hi)
  | none => false

/-! ## Encodings (R196 to R198, R216, R217) -/

/-- The width in bytes of a container (R173). -/
def contBytes (id : Nat) : Nat := if id < 0x40 then 1 else if id < 0xA0 then 2 else 4

/-- A microword that no rule of R196 to R198 makes illegal everywhere: the index of the first offending word, if any. -/
def microBad (w : Nat) : Option Nat :=
  if nbits w 0 19 ≠ 0 ∨ 2 < nbits w 26 2 then some 0
  else if 6 < nbits w 33 3 then some 1
  else if 3 < nbits w 86 3 then some 2
  else if 0x10 < nbits w 130 5 then some 4
  else none

/-- The EXT field of a parser state is legal: a container whose width is the size. -/
def extOk (e : Nat) : Bool := nbits e 0 2 == 0 || contBytes (nbits e 8 8) == (if nbits e 0 2 = 3 then 4 else nbits e 0 2)

/-- The first offending word of a unit (R216, R217), given as one number, word 0 lowest. -/
def unitBad (st ty : Nat) (u : Nat) : Option Nat :=
  let w := fun k => nbits u (32 * k) 32
  match ty with
  | 1 => microBad u
  | 2 =>
    match (List.range 8).find? (fun i => !extOk (nbits u (16 * i) 16)) with
    | some i => some (i / 2)
    | none => if 64 < nbits u 136 7 then some 4 else if nbits u 181 11 ≠ 0 then some 5 else none
  | 3 => if nbits (w 2) 24 7 ≠ 0 then some 2 else none
  | 4 => if 16 < nbits (w 4) 0 5 ∨ nbits (w 4) 6 2 ≠ 0 ∨ nbits (w 4) 13 3 ≠ 0 then some 4 else none
  | 5 => if nbits (w 0) 16 16 ≠ 0 then some 0 else none
  | 6 => if (List.range 4).any (fun k => 63 < nbits u (8 * k) 8 && nbits u (8 * k) 8 != 0xFF) then some 0 else none
  | 7 =>
    if st = 8 ∧ w 0 ≠ 0 then some 0
    else if nbits (w 1) 8 24 ≠ 0 ∨ (st = 8 ∧ w 1 ≠ 0) then some 1
    else if nbits (w 2) 13 3 ≠ 0 ∨ nbits (w 2) 29 2 ≠ 0 then some 2
    else if nbits (w 3) 16 16 ≠ 0 then some 3
    else none
  | _ => some 0

/-- A number from words, word 0 lowest. -/
def wordsNat (ws : List Word) : Nat := ws.foldr (fun w r => w.toNat + 2 ^ 32 * r) 0
/-- Five words (R196) of a 160-bit number, or `n` words of any. -/
def natWords (n v : Nat) : List Word := (List.range n).map (fun k => wd (v / 2 ^ (32 * k)))

/-! ## Sections (R215, R218) -/

/-- A section: TYPE, BANK, START, its units as numbers, and the index of its header word. -/
structure ProgSection where
  ty    : Nat
  bank  : Nat
  start : Nat
  units : List Nat
  at0   : Nat
  deriving DecidableEq, Repr

/-- `n` units of `k` words each. -/
def unitsOf (k : Nat) : Nat → List Word → List Nat
  | 0, _ => []
  | n + 1, ws => wordsNat (ws.take k) :: unitsOf k n (ws.drop k)

/-- The sections that parameter words spell from word `at0` on, and the index of the first word that breaks the framing
or a section's TYPE or range, if any. The first argument bounds the sections. -/
def sectionsOf (st : Nat) : Nat → Nat → List Word → List ProgSection × Option Nat
  | 0, _, _ => ([], none)
  | _, _, [] => ([], none)
  | _, at0, [_] => ([], some at0)
  | n + 1, at0, h0 :: h1 :: rest =>
    let ty := bitsAt h0 0 8
    let cnt := bitsAt h0 16 16
    let k := unitWords ty
    let start := bitsAt h1 0 16
    if k = 0 ∨ (st = 8 ∧ ty ≠ 1 ∧ ty ≠ 7) ∨ bitsAt h0 9 7 ≠ 0 then ([], some at0)
    else if bitsAt h1 16 16 ≠ 0 then ([], some (at0 + 1))
    else if rest.length < cnt * k then ([], some at0)
    else
      let inRange := if ty = 1 then cnt == 0 || (custHas st start && custHas st (start + cnt - 1))
        else start + cnt ≤ unitCount ty
      if inRange = false then ([], some (at0 + 1))
      else
        let r := sectionsOf st n (at0 + 2 + cnt * k) (rest.drop (cnt * k))
        (⟨ty, bitsAt h0 8 1, start, unitsOf k cnt rest, at0⟩ :: r.1, r.2)

/-- The first offending unit word of a list of sections. -/
def sectionsBad (st : Nat) (l : List ProgSection) : Option Nat :=
  l.findSome? (fun x =>
    (List.range x.units.length).findSome? (fun i =>
      (unitBad st x.ty (x.units.getD i 0)).map (fun k => x.at0 + 2 + i * unitWords x.ty + k)))

/-- Show the active bank's footprint (R225). -/
def State.showFoot (s : State) (st : Nat) : State :=
  match s.footprint st (s.actBank st) with
  | some (lo, hi) => s.setReg .UC_FOOTPRINT st (wd ((lo - 0x6000) + (hi - 0x6000) * 2 ^ 16 + 2 ^ 31))
  | none => s.setReg .UC_FOOTPRINT st 0

/-- Write a section (R218): MICROCODE words, or units of a bank that stops being a base bank. -/
def State.writeSection (s : State) (st : Nat) (x : ProgSection) : State :=
  if x.ty = 1 then
    eachIn (List.range x.units.length) s (fun s i => s.setStoreWord st (x.start + i) (x.units.getD i 0))
  else if x.units = [] then s
  else
    let s := s.setFld (if x.bank = 0 then UC_STATUS.BASE0 else UC_STATUS.BASE1) st 0
    let s := eachIn (List.range x.units.length) s (fun s i =>
      s.setProgUnit st x.bank x.ty (x.start + i) (natWords (unitWords x.ty) (x.units.getD i 0)))
    if x.ty = 7 then s.setFld (if x.bank = 0 then UC_STATUS.VALID0 else UC_STATUS.VALID1) st 1 else s

/-- MICROCODE that R214 locks: into the active bank's footprint, or either footprint while a switch runs. -/
def State.sectionLocked (s : State) (st : Nat) (x : ProgSection) : Bool :=
  let banks := if s.flag UC_STATUS.SWITCHING st then [0, 1] else [s.actBank st]
  x.ty == 1 && (List.range x.units.length).any (fun i => banks.any (fun b => inFoot (s.footprint st b) (x.start + i)))

/-- A section that names a bank in use (R218). -/
def State.sectionBusy (s : State) (st : Nat) (x : ProgSection) : Bool :=
  x.ty != 1 && (x.bank == s.actBank st || s.flag UC_STATUS.SWITCHING st)

/-- PROG_LOAD's effect: the whole command is checked before anything is written. -/
def effProgLoad (p : Packet) (s : State) : State × Rep :=
  let st := storeOf p.target
  let r := sectionsOf st (parCount p) 0 (parWords p 0 (parCount p))
  if s.fld UC_STATUS.MODE st = 0 then (s, deny eLOCKED)
  else if r.1.any (s.sectionLocked st) then (s, deny eLOCKED)
  else if r.1.any (s.sectionBusy st) then (s, deny eSTATE)
  else match sectionsBad st r.1, r.2 with
    | some a, some b => (s, badPar (Nat.min a b))
    | some a, none => (s, badPar a)
    | none, some b => (s, badPar b)
    | none, none => (eachIn r.1 s (fun s x => s.writeSection st x), ok)

/-! ## Walkers (R205) -/

/-- A walker's record. -/
def State.walker (s : State) (st n : Nat) : Walker := tabGet s.walkers (st, n) {}
/-- Write it. -/
def State.setWalker (s : State) (st n : Nat) (v : Walker) : State := { s with walkers := tabSet s.walkers (st, n) v {} }
/-- The register index of a walker. -/
def walkIdx (st n : Nat) : Nat := st * 4 + n

/-- A long-routine context's state: 0 idle, 1 running, 2 parked, 3 FAULTED. Contexts 4 + e of the Tun's store are the sequencers. -/
def State.ctxState (s : State) (st n : Nat) : Nat := if n < 4 then s.fld UC_WALKER.STATE (walkIdx st n) else (s.walker st n).run
/-- Set it. -/
def State.walkState (s : State) (st n v : Nat) : State :=
  if n < 4 then s.setFld UC_WALKER.STATE (walkIdx st n) v else s.setWalker st n { s.walker st n with run := v }
/-- The context's next address at its last safe point. -/
def State.ctxPc (s : State) (st n : Nat) : Nat := (s.walker st n).pc.getD 0
/-- Set it. -/
def State.setCtxPc (s : State) (st n a : Nat) : State := s.setWalker st n { s.walker st n with pc := some (a % 2 ^ 15) }
/-- `UC_WALKER` as it reads: PC and STATE. -/
def State.walkerWord (s : State) (i : Nat) : Word := setBits (s.reg .UC_WALKER i) 0 15 (s.ctxPc (i / 4) (i % 4))

/-- The long-routine contexts of a store (R192). -/
def ctxList (st : Nat) : List Nat := List.range (if st = 8 then 72 else 4)

/-- The context uses from now on the set that is current (R210). -/
def State.takeSet (s : State) (st n : Nat) : State := s.setWalker st n { s.walker st n with set := s.fld UC_STATUS.PATCH_SET st }

/-- A running context is asked to give way at its next safe point (R205). -/
def State.preemptWalker (s : State) (st n : Nat) : State :=
  if s.ctxState st n = 1 then s.setWalker st n { s.walker st n with preempt := true } else s

/-- Every running context of a store is. -/
def State.preemptWalkers (s : State) (st : Nat) : State := eachIn (ctxList st) s (fun s n => s.preemptWalker st n)

/-- The request to a context ends: where it is parked it goes on from its next address, with the current set (R205, R210). -/
def State.resumeCtx (s : State) (st n : Nat) : State :=
  if s.ctxState st n = 0 then s
  else
    let s := s.setWalker st n { s.walker st n with preempt := false }
    if s.ctxState st n = 2 ∧ (s.walker st n).intr = false then (s.takeSet st n).walkState st n 1 else s

/-- The request to the contexts of a store ends; walker 3 stays parked while a bank switch holds it (R222). -/
def State.resumeWalkers (s : State) (st : Nat) : State :=
  eachIn ((ctxList st).filter (fun n => !(n == 3 && s.flag UC_STATUS.SWITCHING st))) s (fun s n => s.resumeCtx st n)

/-- A long routine starts at address `a`: its entry counts as a safe point (R206). What its scratch words hold is what they held. -/
def State.startCtx (s : State) (st n a : Nat) : State :=
  let s := s.setWalker st n {
    s.walker st n with
    loop := 0, words := 0, waits := 0, fault := false, preempt := false, intr := false, stop := false }
  ((s.takeSet st n).setCtxPc st n a).walkState st n 1

/-- A vendor's long routine starts (R192). -/
def State.startVendor (s : State) (st n : Nat) : State :=
  s.startCtx st n (Config.vendorEntry (bitsAt (s.reg .GLB_FW_VER) 0 31) st n % 2 ^ 14)

/-- A vendor's long routine has nothing left to do. -/
def State.endVendor (s : State) (st n : Nat) : State := if s.ctxState st n = 1 ∨ s.ctxState st n = 2 then s.walkState st n 0 else s

/-! ## Match registers and patches (R209 to R211, R219) -/

/-- The number of match registers of a store. -/
def matchCount (st : Nat) : Nat := if st = 8 then 16 else 32
/-- A vendor match register of an image (0 none, else 1 + its version), reserved bits zero. -/
def vendorReg (vend st n : Nat) : Word :=
  if vend = 0 then 0
  else
    let x := Config.vendorMatch (vend - 1) st n
    wd (x % 2 ^ 14 + nbits x 16 9 % 256 * 2 ^ 16 + nbits x 31 1 * 2 ^ 31)
/-- The vendor's registers of an image, and others above them. -/
def withVendor (vend st : Nat) (l : List Word) : List Word := (List.range 16).map (vendorReg vend st) ++ l.drop 16
/-- `UC_MATCH` n as it reads. -/
def State.matchReg (s : State) (st n : Nat) : Word := if n < 16 then vendorReg (s.store st).vend st n else s.reg .UC_MATCH (st * 32 + n)
/-- The current set of match registers. -/
def State.matchSet (s : State) (st : Nat) : List Word := (List.range (matchCount st)).map (fun n => s.matchReg st n)
/-- The registers of a set in use, named by its PATCH_SET. -/
def State.setOf (s : State) (st set : Nat) : List Word := if set = s.fld UC_STATUS.PATCH_SET st then s.matchSet st else (s.store st).prevSet
/-- The image whose vendor patch words a set in use has. -/
def State.vendOf (s : State) (st set : Nat) : Nat :=
  if set = s.fld UC_STATUS.PATCH_SET st then (s.store st).vend else (s.store st).prevVend

/-- A set names a patch word through an enabled register. -/
def setNames (l : List Word) (off : Nat) : Bool := l.any (fun w => bitsAt w 31 1 == 1 && bitsAt w 16 9 == off)

/-- A match register word of `PROG_PATCH` in the layout of `UC_MATCH`. -/
def matchWord (w : Word) : Word := wd (bitsAt w 16 14 + bitsAt w 6 9 * 2 ^ 16 + bitsAt w 5 1 * 2 ^ 31)

/-- The set that a list of register words makes of an old set. -/
def patchSet (old : List Word) (ws : List Word) : List Word := ws.foldl (fun l w => l.set (bitsAt w 0 5) (matchWord w)) old

/-- Register `n` of a set shares its ROM address with another enabled register. -/
def matchClash (l : List Word) (n : Nat) : Bool :=
  let w := l.getD n 0
  bitsAt w 31 1 == 1 && (List.range l.length).any (fun k =>
    k != n && bitsAt (l.getD k 0) 31 1 == 1 && bitsAt (l.getD k 0) 0 14 == bitsAt w 0 14)

/-- The E_PARAM cases of `PROG_PATCH` past its length (R219). -/
def patchBad (p : Packet) (base : List Word) : Option Nat :=
  let nw := parF p 0 0 9
  let nm := parF p 0 16 5
  let regs := parWords p (2 + 5 * nw) nm
  let new := patchSet base regs
  if !onlyBits p 1 0xFF || 256 < parF p 1 0 8 + nw then some 1
  else
    match (List.range nw).findSome? (fun i =>
      (microBad (wordsNat (parWords p (2 + 5 * i) 5))).map (fun k => 2 + 5 * i + k)) with
    | some k => some k
    | none =>
      (List.range nm).find? (fun i =>
        let w := regs.getD i 0
        bitsAt w 0 5 < 16 || bitsAt w 6 9 < 0x100 || bitsAt w 15 1 != 0 || bitsAt w 30 2 != 0 || matchClash new (bitsAt w 0 5))
      |>.map (fun i => 2 + 5 * nw + i)

/-- A store asks for a new set of match registers (R210). -/
def State.askSet (s : State) (st : Nat) (l : List Word) : State :=
  (s.setStore st { s.store st with nextSet := some l }).preemptWalkers st

/-- PROG_PATCH's effect: the words are written, and the reply follows once the set is current. -/
def effProgPatch (p : Packet) (s : State) : State × Rep :=
  let st := storeOf p.target
  let nw := parF p 0 0 9
  let nm := parF p 0 16 5
  let n := 2 + 5 * nw + nm
  if 256 < nw ∨ 16 < nm ∨ onlyBits p 0 0x1F01FF = false then (s, badPar 0)
  else if parCount p ≠ n then (s, refuse eLEN (lenDetail n n))
  else if st = 8 ∨ s.fld UC_STATUS.MODE st = 0 then (s, deny eLOCKED)
  else
    let cur := s.matchSet st
    let base := (s.store st).nextSet.getD cur
    if (List.range nw).any (fun i =>
        let off := 0x100 + parF p 1 0 8 + i
        setNames cur off || setNames (s.store st).prevSet off || setNames base off) then (s, deny eLOCKED)
    else match patchBad p base with
    | some k => (s, badPar k)
    | none =>
      if nw = 0 ∧ nm = 0 then (s, ok)
      else
        let s := eachIn (List.range nw) s (fun s i =>
          s.setStoreWord st (0x4100 + parF p 1 0 8 + i) (wordsNat (parWords p (2 + 5 * i) 5)))
        (s.askSet st (patchSet base (parWords p (2 + 5 * nw) nm)), laterRep)

/-- Maltster asks for the vendor's part of the running image as a new set (R211). -/
def State.askVendor (s : State) (st : Nat) : State :=
  let v := 1 + bitsAt (s.reg .GLB_FW_VER) 0 31
  let l := (s.store st).nextSet.getD (s.matchSet st)
  let s := s.askSet st (withVendor v st l)
  s.setStore st { s.store st with nextVend := some v }

/-- A store whose domain comes on holds the vendor's part of the running image before anything runs. -/
def State.loadVendor (s : State) (st : Nat) : State :=
  s.setStore st { s.store st with vend := 1 + bitsAt (s.reg .GLB_FW_VER) 0 31 }

/-- A frame in a pipe of a bough, or a running long routine, still uses the PREVIOUS set (R210). -/
def State.prevInUse (s : State) (st : Nat) : Bool :=
  s.pframes.any (fun e => e.1.1 / 8 == st && e.2.any (fun f => f.set != s.fld UC_STATUS.PATCH_SET st)) ||
  (ctxList st).any (fun n => s.ctxState st n == 1 && (s.walker st n).set != s.fld UC_STATUS.PATCH_SET st)

/-- PATCH_SET_CURRENT: no context uses PREVIOUS any more, and the new set becomes current (R210). Walkers that gave way for it
go on. -/
def execPatchSetCurrent (st : Nat) (s : State) : Host.Outcome State Fault Refusal :=
  .next (match (s.store st).nextSet with
    | none => s
    | some l =>
      if s.prevInUse st then s
      else
      let v := s.store st
      let s := s.setStore st {
        v with
        prevSet := s.matchSet st, nextSet := none, prevVend := v.vend, vend := v.nextVend.getD v.vend, nextVend := none }
      let s := eachIn ((List.range (matchCount st)).drop 16) s (fun s n => s.setReg .UC_MATCH (st * 32 + n) (l.getD n 0))
      let s := (s.setFld UC_STATUS.PATCH_SET st (1 - s.fld UC_STATUS.PATCH_SET st)).ev UC_EVENT.PATCH_DONE st
      let s := s.resumeWalkers st
      s.finish 0x0B02 (fun q => storeOf q.target == st) ok)

/-! ## Store modes (R212, R213, R220) -/

/-- Customer match registers are disabled, as a new set (R213). -/
def State.sealSet (s : State) (st : Nat) : State :=
  let l := (s.store st).nextSet.getD (s.matchSet st)
  s.askSet st ((List.range l.length).map (fun n => if n < 16 then l.getD n 0 else 0))

/-- A bank that is no base bank is marked invalid. -/
def State.dropBank (s : State) (st bank : Nat) : State :=
  if s.bankBase st bank then s else s.setFld (if bank = 0 then UC_STATUS.VALID0 else UC_STATUS.VALID1) st 0

/-- STORE_MODE_SET's effect. -/
def effStoreModeSet (p : Packet) (s : State) : State × Rep :=
  let st := storeOf p.target
  let m := parF p 0 0 1
  if onlyBits p 0 1 = false then (s, badPar 0)
  else if m = 1 ∧ s.flag UC_STATUS.SEAL_LOCK st = true then (s, deny eLOCKED)
  else if m = 0 ∧ s.bankBase st (s.actBank st) = false then (s, deny eSTATE)
  else if m = s.fld UC_STATUS.MODE st then (s, ok)
  else if m = 1 then (s.setFld UC_STATUS.MODE st 1, ok)
  else (((s.setFld UC_STATUS.MODE st 0).sealSet st).dropBank st (1 - s.actBank st), ok)

/-! ## Bank switches (R221, R222) -/

/-- An address a program may enter: ROM, patch RAM, or the bank's own footprint. -/
def State.entryOk (s : State) (st bank a : Nat) : Bool :=
  (storeHas st a && decide (a < 0x6000)) || inFoot (s.footprint st bank) a

/-- The cross-checks of R221 on the units that sections have written: the DETAIL of the first failure. -/
def State.crossCheck (s : State) (st bank : Nat) : Option Nat :=
  let bad := fun ty i => ty + i * 2 ^ 16
  let w := fun (_ : Nat) (e : Nat × List Word) k => ((e.2.getD k 0).toNat)
  let entries := tabRow s.prog (progRow st bank 5)
  let stages := tabRow s.prog (progRow st bank 4)
  let tcam := tabRow s.prog (progRow st bank 3)
  let hdr := tabRow s.prog (progRow st bank 7)
  match entries.find? (fun e => !nbit (w 5 e 0) 15 && !s.entryOk st bank (nbits (w 5 e 0) 0 15)) with
  | some e => some (bad 5 e.1)
  | none =>
  match stages.find? (fun e => !nbit (w 4 e 4) 31 && !s.entryOk st bank (nbits (w 4 e 4) 16 15)) with
  | some e => some (bad 4 e.1)
  | none =>
  match hdr.find? (fun e =>
      (nbit (w 7 e 3) 15 && !s.entryOk st bank (nbits (w 7 e 3) 0 15)) ||
      (nbit (w 7 e 2) 31 && !(custHas st (0x6000 + nbits (w 7 e 2) 0 13) && custHas st (0x6000 + nbits (w 7 e 2) 16 13)))) with
  | some e => some (bad 7 e.1)
  | none =>
  if st = 8 then none
  else
  match tcam.find? (fun e => nbit (w 3 e 2) 31 && !s.stateWritten st bank (nbits (w 3 e 2) 16 8)) with
  | some e => some (bad 3 e.1)
  | none =>
  match hdr.find? (fun e =>
      (List.range 4).any (fun k => !s.stateWritten st bank (nbits (w 7 e 0) (8 * k) 8)) ||
      !s.stateWritten st bank (nbits (w 7 e 1) 0 8)) with
  | some e => some (bad 7 e.1)
  | none => none

/-- Load the vendor base program into a bank (R214, R221): its written units go, and it is a valid base bank. -/
def State.loadBase (s : State) (st bank : Nat) : State :=
  let s := { s with prog := s.prog.filter (fun e => e.1.1 / 8 != st * 2 + bank) }
  let s := s.setStore st (if bank = 0 then { s.store st with vendor0 := true, base0 := none } else { s.store st with vendor1 := true, base1 := none })
  let s := s.setFld (if bank = 0 then UC_STATUS.VALID0 else UC_STATUS.VALID1) st 1
  s.setFld (if bank = 0 then UC_STATUS.BASE0 else UC_STATUS.BASE1) st 1

/-- The refusals of `PROG_ACTIVATE` on one store (R221). -/
def State.activateBad (s : State) (st bank : Nat) (base : Bool) : Option Rep :=
  if !base && s.fld UC_STATUS.MODE st == 0 then some (deny eLOCKED)
  else if bank = s.actBank st ∨ s.flag UC_STATUS.SWITCHING st = true then some (deny eSTATE)
  else if base then none
  else if s.bankValid st bank = false then some (deny eSTATE)
  else (s.crossCheck st bank).map (fun d => refuse eSTATE d)

/-- The pipes of a bough that a switch moves: all but the RETIRED. -/
def State.switchPipes (s : State) (b : Nat) : List Nat :=
  ((List.range 8).map (fun k => b * 8 + k)).filter (fun p => s.ust (tgt cPIPE p) != uRETIRED)

/-- Walker 3 restarts at the WALK_ENTRY of a bank that enables it; otherwise it is idle (R222). -/
def State.restartWalker (s : State) (st bank : Nat) : State :=
  let w := s.progWord st bank 7 0 3
  if nbit w 15 then s.startCtx st 3 (nbits w 0 15)
  else
    (s.setWalker st 3 {
      s.walker st 3 with
      loop := 0, words := 0, waits := 0, fault := false, preempt := false, intr := false, stop := false }).walkState st 3 0

/-- The end of a switch (R222): every pipe runs the new bank, which is active; walker 3 restarts. -/
def State.switchBank (s : State) (st bank : Nat) : State :=
  let s := if st = 8 then s
    else eachIn (s.switchPipes st) s (fun s p => { s with pipeBank := tabSet s.pipeBank (p, 0) bank 0 })
  let s := s.setStore st { s.store st with sw := none, left := [], swAt := 0, after := false }
  let s := s.setFld UC_STATUS.ACT_BANK st bank
  let s := ((s.setFld UC_STATUS.SWITCHING st 0).setFld UC_STATUS.SW_PIPE st 0).ev UC_EVENT.SWITCH_DONE st
  (s.showFoot st).restartWalker st bank

/-- A switch begins (R222): walker 3 is to park, and the pipes go one after another; `after` where boughs of lower number go first. -/
def State.switchStart (s : State) (st bank : Nat) (after : Bool) : State :=
  let l := if st = 8 then [] else s.switchPipes st
  let s := s.setStore st { s.store st with sw := some bank, left := l, did := [], swAt := 0, after := after }
  ((s.setFld UC_STATUS.SWITCHING st 1).setFld UC_STATUS.SW_PIPE st (l.headD 0)).preemptWalker st 3

/-- Pipe `p` is the one that a switch of its bough holds: it takes no frame (R222). -/
def State.switchHolds (s : State) (p : Nat) : Bool :=
  let b := p / 8
  (s.store b).left.head? == some p && !((s.store b).after && (List.range b).any (fun k => (s.store k).sw.isSome))

/-- The pipes switched, as the byte of R221. -/
def State.switchByte (s : State) (b : Nat) : Nat := sumN ((s.store b).did.map (fun p => 2 ^ (p % 8)))

/-- The stores a `PROG_ACTIVATE` names. -/
def activateStores (t : Nat) : List Nat := if tCls t = 6 then [8] else instances t 8

/-- The result words of `PROG_ACTIVATE`. -/
def State.activateWords (s : State) (t : Nat) : List Word :=
  if tCls t = 6 then [0]
  else if tInst t = 0xFFF then
    (List.range 2).map (fun w => wd (sumN ((List.range 4).map (fun k => s.switchByte (4 * w + k) * 2 ^ (8 * k)))))
  else [wd (s.switchByte (tInst t))]

/-- The switches of a `PROG_ACTIVATE` that is answered at once, and its results. -/
def State.activateDo (s : State) (p : Packet) : State × Rep :=
  let s := eachIn (activateStores p.target) s (fun s st => s.setStore st { s.store st with did := s.switchPipes st })
  (eachIn (activateStores p.target) s (fun s st => s.switchBank st (parF p 0 0 1)), ok (s.activateWords p.target))

/-- PROG_ACTIVATE's effect: every store is checked before any switches. A switch that goes PENDING runs until the command's
background end. -/
def effProgActivate (p : Packet) (s : State) : State × Rep :=
  let bank := parF p 0 0 1
  let base := parF p 0 1 1 == 1
  let sts := activateStores p.target
  if onlyBits p 0 3 = false then (s, badPar 0)
  else match sts.findSome? (fun st => s.activateBad st bank base) with
  | some r => (s, r)
  | none =>
    let t := if base then eachIn sts s (fun s st => s.loadBase st bank) else s
    if p.slow then (eachIn sts t (fun s st => s.switchStart st bank (st != sts.headD 0)), laterRep) else t.activateDo p

/-- The background end of a `PROG_ACTIVATE` that was PENDING: every store it names has switched. -/
def State.progActivateEnd (s : State) (p : Packet) : State :=
  if (activateStores p.target).any (fun st => (s.store st).sw.isSome) then s
  else s.finish 0x0B04 (fun q => q.target == p.target) (ok (s.activateWords p.target))

/-! ## PROG_READ (R223) -/

/-- PROG_READ's effect. -/
def effProgRead (p : Packet) (s : State) : State × Rep :=
  let st := storeOf p.target
  let ty := parF p 0 0 8
  let bank := parF p 0 8 1
  let cnt := parF p 0 16 16
  let start := parF p 1 0 16
  if unitWords ty = 0 ∨ (st = 8 ∧ ty ≠ 1 ∧ ty ≠ 7) ∨ bitsAt (par p 0) 9 7 ≠ 0 then (s, badPar 0)
  else if parF p 1 16 16 ≠ 0 then (s, badPar 1)
  else if cnt = 0 then (s, ok)
  else if ty = 1 then
    if (List.range cnt).all (fun i => storeHas st (start + i)) then
      (s, ok ((List.range cnt).flatMap (fun i => natWords 5 (s.storeWord st (start + i)))))
    else (s, badPar (if storeHas st start then 0 else 1))
  else if start + cnt ≤ unitCount ty then (s, ok ((List.range cnt).flatMap (fun i => s.progUnit st bank ty (start + i))))
  else (s, badPar (if start < unitCount ty then 0 else 1))

/-! ## Errors of a store (R195, R208) -/

/-- STORE_SCRUB: a store word shows an error on a fetch or a scrub (R195): a single bit is corrected and counted; an
uncorrectable RAM word is reported and stays so until it is written, which Maltster does at once for a vendor patch
word. A ROM parity error is not scrubbed. -/
def execStoreScrub (st a : Nat) (corrected : Bool) (s : State) : Host.Outcome State Fault Refusal :=
  .next (if storeHas st a = false ∨ a < 0x4000 then s
    else if corrected && !s.wordBad st a then (s.bump .UC_ECC_CNT st).ev UC_EVENT.ECC_CORR st
    else
      let inj := s.wordBad st a && !s.ucodeBad.contains (st, a)
      let s := (s.ev UC_EVENT.ECC_UNCORR st).raise 0x0708 kCORRECTED (storeTgt st) (a % 2 ^ 15) inj
      if a < 0x4100 then s.unplant (storePlanted st a)
      else if s.wordBad st a then s
      else { s with ucodeBad := (st, a) :: s.ucodeBad })

/-- A fetch fault (R208): counted, recorded and reported on the context's TARGET. `src` is the SRC code of R225, `pipe`
the pipe within the bough for stage sources. -/
def State.fetchFault (s : State) (st a cause src pipe : Nat) (target : Nat) (inj : Bool := false) : State :=
  let s := (s.bump .UC_FAULT_CNT st).ev UC_EVENT.FETCH_FAULT st
  let s := s.setReg .UC_FAULT_ADDR st (wd (a % 2 ^ 15 + cause * 2 ^ 16 + src % 256 * 2 ^ 20 + pipe % 8 * 2 ^ 28))
  s.raise 0x0601 kCORRECTED target (a % 2 ^ 15 + cause * 2 ^ 16 + src % 256 * 2 ^ 20) inj

/-- PROG_LOAD. -/
def execProgLoad (p : Packet) (s : State) : Host.Outcome State Fault Refusal := .next (s.command 0x0B01 effProgLoad p)
/-- PROG_PATCH. -/
def execProgPatch (p : Packet) (s : State) : Host.Outcome State Fault Refusal := .next (s.command 0x0B02 effProgPatch p)
/-- STORE_MODE_SET. -/
def execStoreModeSet (p : Packet) (s : State) : Host.Outcome State Fault Refusal := .next (s.command 0x0B03 effStoreModeSet p)
/-- PROG_ACTIVATE. -/
def execProgActivate (p : Packet) (s : State) : Host.Outcome State Fault Refusal := .next (s.command 0x0B04 effProgActivate p)
/-- PROG_READ. -/
def execProgRead (p : Packet) (s : State) : Host.Outcome State Fault Refusal := .next (s.command 0x0B05 effProgRead p)

end Sys2Proof.Machine
end

