-- ==== Sys2Proof/Machine/Hdr.lean ====
section
/-! DEFINITION. Headers: the fixed-function view of a frame's layers, checksums, the programmable parser (R176, R177), the deparser
(R182), the rewrite of stage E0 (R232) and the ECN mark of E3 (R184). A frame's bytes here are those before its FCS. -/
namespace Sys2Proof.Machine

/-! ## Bytes -/

/-- The bytes of a frame before its FCS. -/
def bodyOf (bytes : List Nat) : List Nat := bytes.take (bytes.length - 4)

/-- The 16-bit field at byte `o`, first byte most significant. -/
def be16 (d : List Nat) (o : Nat) : Nat := d.getD o 0 % 256 * 256 + d.getD (o + 1) 0 % 256

/-- `n` bytes from byte `o`; bytes past the end are zero (R176). -/
def sliceZ (d : List Nat) (o n : Nat) : List Nat :=
  let x := (d.drop o).take n
  x ++ List.replicate (n - x.length) 0

/-- Bytes from `o` on replaced; nothing past the end is written. -/
def putBytes (d : List Nat) (o : Nat) (new : List Nat) : List Nat :=
  d.take o ++ (new.take (d.length - o)) ++ d.drop (o + new.length)

/-- The sum of the 16-bit words of a list, an odd last byte padded. -/
def sumWords : List Nat → Nat
  | a :: b :: r => a * 256 + b + sumWords r
  | [a] => a * 256
  | [] => 0

/-- A sum folded to 16 bits in ones' complement. -/
def foldSum (x : Nat) : Nat :=
  let f := fun y => y % 65536 + y / 65536
  f (f (f x))

/-- The Internet checksum of bytes. -/
def inetSum (d : List Nat) : Nat := 65535 - foldSum (sumWords d)

/-! ## Layers -/

/-- A layer the fixed functions know. -/
inductive LKind where
  | ip4
  | ip6
  | ext (next : Nat)
  | udp
  deriving DecidableEq, Repr

/-- A layer and where it starts. -/
structure Layer where
  kind : LKind
  off  : Nat
  deriving DecidableEq, Repr

/-- The walk of a frame's layers: `what` is 0 at an Ethernet header, an EtherType, or 65,536 + an IP protocol number. VLAN
tags, MPLS labels, IPv4, IPv6 with its extension headers, IP in IP, UDP and VXLAN are followed. -/
def walkFrom (d : List Nat) : Nat → Nat → Nat → List Layer
  | 0, _, _ => []
  | n + 1, what, o =>
    if what = 0 then if d.length < o + 14 then [] else walkFrom d n (be16 d (o + 12)) (o + 14)
    else if what = 0x8100 ∨ what = 0x88A8 then if d.length < o + 4 then [] else walkFrom d n (be16 d (o + 2)) (o + 4)
    else if what = 0x8847 ∨ what = 0x8848 then
      if d.length < o + 4 then []
      else if d.getD (o + 2) 0 % 2 = 0 then walkFrom d n what (o + 4)
      else match d.getD (o + 4) 0 / 16 with
        | 4 => walkFrom d n 0x0800 (o + 4)
        | 6 => walkFrom d n 0x86DD (o + 4)
        | _ => []
    else if what = 0x0800 then
      if d.length < o + 20 ∨ d.getD o 0 / 16 ≠ 4 then []
      else ⟨.ip4, o⟩ :: walkFrom d n (65536 + d.getD (o + 9) 0) (o + d.getD o 0 % 16 * 4)
    else if what = 0x86DD then
      if d.length < o + 40 ∨ d.getD o 0 / 16 ≠ 6 then []
      else ⟨.ip6, o⟩ :: walkFrom d n (65536 + d.getD (o + 6) 0) (o + 40)
    else if what = 65536 + 4 then walkFrom d n 0x0800 o
    else if what = 65536 + 41 then walkFrom d n 0x86DD o
    else if what = 65536 ∨ what = 65536 + 43 ∨ what = 65536 + 60 then
      if d.length < o + 8 then []
      else ⟨.ext (what - 65536), o⟩ :: walkFrom d n (65536 + d.getD o 0) (o + (d.getD (o + 1) 0 + 1) * 8)
    else if what = 65536 + 17 then
      if d.length < o + 8 then []
      else ⟨.udp, o⟩ :: (if be16 d (o + 2) = 4789 then walkFrom d n 0 (o + 16) else [])
    else []

/-- The layers of a frame, outermost first. -/
def layers (d : List Nat) : List Layer := walkFrom d 40 0 0

/-- An IP layer. -/
def isIp (l : Layer) : Bool := l.kind == .ip4 || l.kind == .ip6

/-- The outermost IP header. -/
def outerIp (d : List Nat) : Option Layer := (layers d).find? isIp

/-- The frame length that the outermost IP header gives, DA to FCS (R174); none without one. -/
def ipLength (d : List Nat) : Option Nat :=
  (outerIp d).map (fun l => be16 d (l.off + (if l.kind = .ip4 then 2 else 4)) + l.off + 4)

/-- Write the header checksum of the IPv4 header at `o`. -/
def fixIp4 (d : List Nat) (o : Nat) : List Nat :=
  let d := putBytes d (o + 10) [0, 0]
  putBytes d (o + 10) (beBytes 2 (inetSum (sliceZ d o (d.getD o 0 % 16 * 4))))

/-- Where the destination address of an IPv6 pseudo-header lies: the final destination, which a segment routing header
holds as its first segment (R182). -/
def finalDst (d : List Nat) (ip : Nat) (ls : List Layer) : Nat :=
  match (ls.filter (fun l => l.off > ip)).takeWhile (fun l => l.kind != .ip4 && l.kind != .ip6) |>.find?
      (fun l => l.kind == .ext 43 && d.getD (l.off + 2) 0 == 4) with
  | some l => l.off + 8
  | none => ip + 24

/-! ## The parser (R176, R177) -/

/-- A container value written into a header vector. -/
def Phv.put (v : Phv) (id x : Nat) : Phv := { v with cont := tabSet v.cont (id, 0) (x % 2 ^ (8 * contBytes id)) 0 }
/-- A container's value. -/
def Phv.get (v : Phv) (id : Nat) : Nat := tabGet v.cont (id, 0) 0
/-- A field of a metadata word. -/
def Phv.mf (v : Phv) (k lo n : Nat) : Nat := nbits (v.get (0xE0 + k)) lo n
/-- Write a field of a metadata word. -/
def Phv.setMf (v : Phv) (k lo n x : Nat) : Phv := v.put (0xE0 + k) (putBits (v.get (0xE0 + k)) lo n x)
/-- A header instance is valid; numbers above 63 name none. -/
def Phv.has (v : Phv) (i : Nat) : Bool := decide (i < 64) && nbit v.valid i
/-- Set or clear an instance's valid bit. -/
def Phv.setInst (v : Phv) (i : Nat) (on : Bool) : Phv :=
  if nbit v.valid i = on then v else { v with valid := if on then v.valid + 2 ^ i else v.valid - 2 ^ i }

/-- What a parse has done so far. -/
structure Parse where
  cursor : Nat := 0
  steps  : Nat := 0
  err    : Nat := 0
  spans  : List Span := []
  phv    : Phv := {}
  deriving DecidableEq, Repr

/-- The length a parser state forms, and whether its length field is bad (R176, R177). -/
def stateLen (u : Nat) (d : List Nat) (cursor : Nat) : Nat × Bool :=
  if nbit u 135 then
    let n := Nat.land (d.getD (cursor + nbits u 143 6) 0) (nbits u 149 8) * 2 ^ nbits u 157 3 + nbits u 160 7
    (n, decide (n < nbits u 167 7) || decide (64 < n))
  else (nbits u 136 7, false)

/-- The fields that a parser state extracts: offset, width, container. -/
def stateExts (u : Nat) : List (Nat × Nat × Nat) :=
  (List.range 8).filterMap (fun i =>
    let e := nbits u (16 * i) 16
    match nbits e 0 2 with
    | 0 => none
    | n => some (nbits e 2 6, if n = 3 then 4 else n, nbits e 8 8))

/-- The first valid parser TCAM entry of a bank that matches a state and its lookahead: its NEXT_STATE. -/
def State.tcamNext (s : State) (st bank state look : Nat) : Option Nat :=
  ((List.range 512).find? (fun i =>
    let w := fun k => s.progWord st bank 3 i k
    nbit (w 2) 31 && Nat.land (Nat.xor look (w 0)) (w 1) == 0 &&
      Nat.land (Nat.xor state (nbits (w 2) 0 8)) (nbits (w 2) 8 8) == 0)).map (fun i => nbits (s.progWord st bank 3 i 2) 16 8)

/-- The parse from a state with `n` steps left (R176, R177). -/
def State.parseFrom (s : State) (st bank : Nat) (d : List Nat) : Nat → Nat → Parse → Parse
  | 0, _, r => { r with err := 2 }
  | n + 1, state, r =>
    let u := wordsNat (s.progUnit st bank 2 state)
    let l := stateLen u d r.cursor
    if l.2 then { r with err := 4 }
    else if 256 < r.cursor + l.1 then { r with err := 1 }
    else if d.length < r.cursor + l.1 then { r with err := 3 }
    else
      let exts := stateExts u
      let phv := exts.foldl (fun v e => v.put e.2.2 (beNat (sliceZ d (r.cursor + e.1) e.2.1))) r.phv
      let inst := nbits u 128 6
      let r' : Parse := {
        cursor := r.cursor + l.1, steps := r.steps + 1, err := 0,
        spans := r.spans.filter (fun x => x.inst != inst) ++ [⟨inst, r.cursor, l.1, exts⟩],
        phv := if nbit u 134 then phv.setInst inst true else phv }
      if nbit u 180 then r'
      else match s.tcamNext st bank state (beNat (sliceZ d (r.cursor + nbits u 174 6) 4)) with
        | none => r'
        | some next => s.parseFrom st bank d n next r'

/-- A parse from a start state: M10 holds its error, bytes and steps (R174). -/
def State.parse (s : State) (st bank start : Nat) (d : List Nat) (phv : Phv) : Parse :=
  let r := s.parseFrom st bank d 16 start { phv := phv }
  { r with phv := r.phv.put 0xEA (r.err + r.cursor % 512 * 2 ^ 3 + r.steps * 2 ^ 12) }

/-! ## The deparser (R182) -/

/-- A piece of an outgoing frame's headers: where it lies, where it was parsed and the bytes it replaces there, its bytes. -/
structure Piece where
  off : Nat
  at0 : Nat := 0
  old : Option (List Nat)
  new : List Nat
  deriving DecidableEq, Repr

/-- The deparse list of a bank (R217). -/
def State.deparseList (s : State) (st bank : Nat) : List Nat :=
  ((List.range 64).map (fun i => nbits (s.progWord st bank 6 (i / 4) 0) (8 * (i % 4)) 8)).takeWhile (fun x => x != 0xFF)

/-- A header instance's bytes: those parsed, with the extracted fields at their containers' values. -/
def spanBytes (v : Phv) (d : List Nat) (x : Span) : List Nat :=
  x.exts.foldl (fun b e => if e.1 + e.2.1 ≤ x.len then putBytes b e.1 (beBytes e.2.1 (v.get e.2.2)) else b) (sliceZ d x.off x.len)

/-- The header that a bank's lowest parser state with this instance describes, for an instance set valid without a parse: the
fields of its containers; bytes that no container holds are free values (the spec states none). -/
def State.madeBytes (s : State) (st bank : Nat) (v : Phv) (inst : Nat) : List Nat :=
  match (List.range 256).find? (fun k => s.stateWritten st bank k && nbits (wordsNat (s.progUnit st bank 2 k)) 128 6 == inst) with
  | none => []
  | some k =>
    let u := wordsNat (s.progUnit st bank 2 k)
    let exts := stateExts u
    let fill := fun n => spanBytes v (bytesOf n s.free) ⟨inst, 0, n, exts⟩
    fill (Nat.min 64 (stateLen u (fill 64) 0).1)

/-- The pieces of the valid instances, in the order of the deparse list. -/
def State.pieces (s : State) (st bank : Nat) (v : Phv) (d : List Nat) (spans : List Span) : List Piece :=
  ((s.deparseList st bank).filter v.has).foldl (fun ps i =>
    let o := sumN (ps.map (fun p => p.new.length))
    match spans.find? (fun x => x.inst == i) with
    | some x => ps ++ [⟨o, x.off, some (sliceZ d x.off x.len), spanBytes v d x⟩]
    | none => ps ++ [⟨o, 0, none, s.madeBytes st bank v i⟩]) []

/-- A byte of the range differs from the byte it had as received, or was not received. -/
def rangeChanged (ps : List Piece) (o n : Nat) : Bool :=
  ps.any (fun p =>
    (List.range n).any (fun k =>
      decide (p.off ≤ o + k) && decide (o + k < p.off + p.new.length) &&
      match p.old with
      | none => true
      | some b => b.getD (o + k - p.off) 0 != p.new.getD (o + k - p.off) 0))

/-- The bytes of a range as received; as sent where they were not part of a parsed header. -/
def rangeOld (ps : List Piece) (d : List Nat) (o n : Nat) : List Nat :=
  (List.range n).map (fun k =>
    match ps.find? (fun p => decide (p.off ≤ o + k) && decide (o + k < p.off + p.new.length)) with
    | some p =>
      match p.old with
      | some b => b.getD (o + k - p.off) 0
      | none => d.getD (o + k) 0
    | none => d.getD (o + k) 0)

/-- An incremental correction of a ones' complement checksum for bytes that changed from `old` to `new`; a zero result is sent as
all ones. -/
def sumFix (hc : Nat) (old new : List Nat) : Nat :=
  let x := 65535 - foldSum ((65535 - hc) + (65535 - foldSum (sumWords old)) + sumWords new)
  if x = 0 then 65535 else x

/-- The destination address that the pseudo-header of the frame as received held: the final destination under the IPv6 header which
left it at `ip`, whether or not its segment routing header is still there. As sent where that header was not received. -/
def oldDst (d0 d : List Nat) (ps : List Piece) (ip dst : Nat) : List Nat :=
  match ps.find? (fun p => decide (p.off ≤ ip) && decide (ip < p.off + p.new.length)) with
  | some p =>
    match p.old with
    | some _ => sliceZ d0 (finalDst d0 (p.at0 + (ip - p.off)) (layers d0)) 16
    | none => sliceZ d dst 16
  | none => sliceZ d dst 16

/-- The UDP checksum rules of R182 for the UDP header at `u` under the IP header `ip` of the outgoing frame `d`; `d0` is the frame as
received. -/
def fixUdp (d0 d : List Nat) (ps : List Piece) (ls : List Layer) (ip : Layer) (u : Nat) : List Nat :=
  if ip.kind = .ip4 then
    if rangeChanged ps u 8 || rangeChanged ps (ip.off + 9) 1 || rangeChanged ps (ip.off + 12) 8 then putBytes d (u + 6) [0, 0] else d
  else
    let dst := finalDst d ip.off ls
    let was := oldDst d0 d ps ip.off dst
    if rangeChanged ps u 6 || rangeChanged ps (ip.off + 8) 16 || was != sliceZ d dst 16 then
      let part := fun (g : Nat → Nat → List Nat) (x : List Nat) => g (ip.off + 8) 16 ++ x ++ g u 6 ++ g (u + 4) 2
      putBytes d (u + 6) (beBytes 2 (sumFix (be16 d (u + 6)) (part (rangeOld ps d) was) (part (fun o n => sliceZ d o n) (sliceZ d dst 16))))
    else d

/-- The checksums of a frame `d` whose pieces changed from those of `d0`: each IPv4 header, then each UDP header under its IP header. -/
def fixSums (d0 d : List Nat) (ps : List Piece) : List Nat :=
  let ls := layers d
  (ls.foldl (fun (a : List Nat × Option Layer) l =>
    match l.kind with
    | .ip4 => (if rangeChanged ps l.off (d.getD l.off 0 % 16 * 4) then fixIp4 a.1 l.off else a.1, some l)
    | .ip6 => (a.1, some l)
    | .udp =>
      match a.2 with
      | some ip => (fixUdp d0 a.1 ps ls ip l.off, a.2)
      | none => a
    | .ext _ => a) (d, none)).1

/-- The frame that the deparser builds, without FCS, and the bytes of its headers. -/
def State.deparse (s : State) (st bank : Nat) (v : Phv) (d : List Nat) (spans : List Span) (cursor : Nat) : List Nat × Nat :=
  let ps := s.pieces st bank v d spans
  let h := ps.flatMap (fun p => p.new)
  (fixSums d (h ++ d.drop cursor) ps, h.length)

/-! ## Egress edits -/

/-- A VLAN tag follows SA (R232). -/
def tagged (d : List Nat) : Bool := decide (16 ≤ d.length) && (be16 d 12 == 0x8100 || be16 d 12 == 0x88A8)

/-- Stage E0's edits by a rewrite entry (R232): VLAN_OP, then the addresses enabled. -/
def rewriteBy (e : Nat) (d : List Nat) : List Nat :=
  let tci := beBytes 2 (nbits e 98 16)
  let d := match nbits e 96 2 with
    | 1 => d.take 12 ++ beBytes 2 (if nbits e 116 2 = 1 then 0x88A8 else 0x8100) ++ tci ++ d.drop 12
    | 2 => if tagged d then d.take 12 ++ d.drop 16 else d
    | 3 => if tagged d then putBytes d 14 tci else d
    | _ => d
  let d := if nbit e 114 then putBytes d 0 (beBytes 6 (nbits e 0 48)) else d
  if nbit e 115 then putBytes d 6 (beBytes 6 (nbits e 48 48)) else d

/-- A parsed header after `n` bytes were put into the frame at byte 12: the header that holds byte 11 takes them (DESIGN CHOICE: R232
says where the tag lies, not which header holds it). -/
def Span.pushed (x : Span) (n : Nat) : Span :=
  if 12 ≤ x.off then { x with off := x.off + n }
  else if 12 ≤ x.off + x.len then
    { x with len := x.len + n, exts := x.exts.map (fun e => if 12 ≤ x.off + e.1 then (e.1 + n, e.2) else e) }
  else x

/-- Where byte `o` of a frame lies after bytes 12 to 15 were taken out. -/
def poppedAt (o : Nat) : Nat := if o ≤ 12 then o else if o ≤ 16 then 12 else o - 4

/-- A parsed header after bytes 12 to 15 were taken out: fields that lay in them, wholly or in part, are gone. -/
def Span.popped (x : Span) : Span :=
  let keep := x.exts.filter (fun e => decide (x.off + e.1 + e.2.1 ≤ 12) || decide (16 ≤ x.off + e.1))
  { x with off := poppedAt x.off, len := poppedAt (x.off + x.len) - poppedAt x.off,
           exts := keep.map (fun e => (poppedAt (x.off + e.1) - poppedAt x.off, e.2)) }

/-- The frame and its parse after stage E0's edits (R184, R232): parsed headers keep their places behind an inserted or removed tag,
and the containers of fields whose bytes changed take the new bytes, so that E1, E2 and the deparser find what E0 wrote (DEDUCED). -/
def rewriteParse (e : Nat) (d : List Nat) (r : Parse) : List Nat × Parse :=
  let d' := rewriteBy e d
  let spans :=
    if nbits e 96 2 = 1 then r.spans.map (fun x => x.pushed 4)
    else if nbits e 96 2 = 2 ∧ tagged d = true then r.spans.map Span.popped
    else r.spans
  let cursor :=
    if nbits e 96 2 = 1 then (if 12 ≤ r.cursor then r.cursor + 4 else r.cursor)
    else if nbits e 96 2 = 2 ∧ tagged d = true then poppedAt r.cursor
    else r.cursor
  let phv := spans.foldl (fun v x => x.exts.foldl (fun v f =>
    let b := beNat (sliceZ d' (x.off + f.1) f.2.1)
    if x.off + f.1 < 20 ∧ v.get f.2.2 ≠ b then v.put f.2.2 b else v) v) r.phv
  (d', { r with spans := spans, cursor := cursor, phv := phv })

/-- The ECN mark of E3 (R184): ECT(0) or ECT(1) of the outermost IP header becomes CE. -/
def markCe (d : List Nat) : List Nat :=
  match outerIp d with
  | none => d
  | some l =>
    if l.kind = .ip4 then
      let b := d.getD (l.off + 1) 0
      if b % 4 = 1 ∨ b % 4 = 2 then fixIp4 (putBytes d (l.off + 1) [b / 4 * 4 + 3]) l.off else d
    else
      let b := d.getD (l.off + 1) 0
      if b / 16 % 4 = 1 ∨ b / 16 % 4 = 2 then putBytes d (l.off + 1) [b / 64 * 64 + 48 + b % 16] else d

end Sys2Proof.Machine
end

