-- ==== Sys2Proof/Machine/Tables.lean ====
section
/-! DEFINITION. Forwarding tables (R226 to R254): profiles, entries, candidate slots, the longest-prefix search, placement,
learning and ageing, records, parity, and the commands on entries. -/
namespace Sys2Proof.Machine

/-! ## Kinds and sizes (R226 to R231) -/

/-- What a table is: absent, exact-match with short or long entries, a longest-prefix table, or direct with entries of `n`
bytes. -/
inductive TKind where
  | absent
  | emS
  | emL
  | lpm4
  | lpm6
  | direct (n : Nat)
  deriving DecidableEq, Repr

/-- A bough's table record. -/
def State.tables1 (s : State) (b : Nat) : TblRec := tabGet s.tables (b, 0) {}
/-- Write it. -/
def State.setTables1 (s : State) (b : Nat) (v : TblRec) : State := { s with tables := tabSet s.tables (b, 0) v {} }

/-- The kind of tables 0 to 7 (R227). -/
def fixedKind (id : Nat) : TKind :=
  match id with
  | 0 => .emS
  | 1 => .emS
  | 2 => .emL
  | 3 => .lpm4
  | 4 => .lpm6
  | 5 => .emS
  | 6 => .emL
  | 7 => .direct 64
  | _ => .absent

/-- The capacities of tables 0 to 7 in profiles 0 to 2 (R227). -/
def profileCaps (profile : Nat) : List Nat :=
  match profile with
  | 0 => [131072, 131072, 32768, 262144, 65536, 16384, 16384, 16384]
  | 1 => [262144, 131072, 16384, 131072, 32768, 0, 16384, 32768]
  | _ => [16384, 131072, 65536, 524288, 65536, 16384, 0, 4096]

/-- The kind code of tables 8 to 15 in profile 3 (R229). -/
def userKind (k : Nat) : TKind :=
  match k with
  | 0 => .emS
  | 1 => .emL
  | 2 => .direct 16
  | 3 => .direct 32
  | _ => .direct 64

/-- The entries of table `id` (0 to 15, 24 to 27) of bough `b`. -/
def State.tblCap (s : State) (b id : Nat) : Nat :=
  if id < 16 then
    if s.fld TBL_STATUS.PROFILE b = 3 then
      let w := (s.tables1 b).caps.getD id 0
      if w % 32 = 0 then 0 else 2 ^ (w % 32)
    else (profileCaps (s.fld TBL_STATUS.PROFILE b)).getD id 0
  else match id with
  | 24 => 8192
  | 25 => 65536
  | 26 => 32768
  | 27 => 131072
  | _ => 0

/-- The kind of a table of a bough. -/
def State.tblKind (s : State) (b id : Nat) : TKind :=
  if s.tblCap b id = 0 then .absent
  else if id < 8 then fixedKind id
  else if id < 16 then userKind (nbits ((s.tables1 b).caps.getD id 0) 8 3)
  else match id with
  | 24 => .direct 16
  | 25 => .direct 8
  | 26 => .direct 64
  | 27 => .direct 16
  | _ => .absent

/-- The size of an entry in bytes. -/
def kindBytes (k : TKind) : Nat :=
  match k with
  | .absent => 0
  | .emS => 32
  | .emL => 64
  | .lpm4 => 16
  | .lpm6 => 32
  | .direct n => n

/-- An exact-match table. -/
def isEm (k : TKind) : Bool := k == .emS || k == .emL
/-- A longest-prefix table. -/
def isLpm (k : TKind) : Bool := k == .lpm4 || k == .lpm6
/-- A table with keys. -/
def isKeyed (k : TKind) : Bool := isEm k || isLpm k

/-- The bits of an exact-match key. -/
def emBits (k : TKind) : Nat := if k = .emL then 320 else 160
/-- The bits of an LPM address. -/
def lpmBits (k : TKind) : Nat := if k = .lpm6 then 128 else 32

/-- Where VALID lies in an entry (R230, R231). -/
def validBit (k : TKind) : Nat :=
  match k with
  | .emS => 175
  | .emL => 335
  | .lpm4 => 63
  | _ => 159

/-- The key of an LPM lookup or entry: ADDR, VRF, LEN in one number. -/
def lpmKey (k : TKind) (addr vrf len : Nat) : Nat :=
  addr % 2 ^ lpmBits k + vrf % 4096 * 2 ^ lpmBits k + len * 2 ^ (lpmBits k + 12)
/-- ADDR of such a key. -/
def keyAddr (k : TKind) (key : Nat) : Nat := key % 2 ^ lpmBits k
/-- VRF. -/
def keyVrf (k : TKind) (key : Nat) : Nat := nbits key (lpmBits k) 12
/-- LEN. -/
def keyLen (k : TKind) (key : Nat) : Nat := nbits key (lpmBits k + 12) 8
/-- The address truncated to a prefix length: the bits below it are zero. -/
def truncAddr (k : TKind) (addr len : Nat) : Nat :=
  let low := 2 ^ (lpmBits k - len)
  addr % 2 ^ lpmBits k / low * low

/-- The key of an entry. -/
def entryKey (k : TKind) (e : Nat) : Nat :=
  match k with
  | .emS => nbits e 0 160
  | .emL => nbits e 0 320
  | .lpm4 => lpmKey k (nbits e 0 32) (nbits e 32 12) (nbits e 44 6)
  | .lpm6 => lpmKey k (nbits e 0 128) (nbits e 128 12) (nbits e 140 8)
  | _ => 0

/-- The action code of an entry. -/
def entryAction (k : TKind) (e : Nat) : Nat :=
  match k with
  | .emS => nbits e 160 8
  | .emL => nbits e 320 8
  | .lpm4 => nbits e 50 8
  | .lpm6 => nbits e 148 8
  | _ => 0

/-- The action data of an entry. -/
def entryData (k : TKind) (e : Nat) : Nat :=
  match k with
  | .emS => nbits e 176 64
  | .emL => nbits e 336 128
  | .lpm4 => nbits e 64 64
  | .lpm6 => nbits e 160 64
  | _ => 0

/-- VALID of an entry. -/
def entryValid (k : TKind) (e : Nat) : Bool := nbit e (validBit k)
/-- The bits after KEY and ACTION of an exact-match entry: AGE starts here. -/
def ageBit (k : TKind) : Nat := if k = .emL then 328 else 168
/-- AGE; an LPM entry has none (R231). -/
def entryAge (k : TKind) (e : Nat) : Nat := if isEm k then nbits e (ageBit k) 4 else 0
/-- STATIC. -/
def entryStatic (k : TKind) (e : Nat) : Bool := isEm k && nbit e (ageBit k + 4)
/-- LEARNED. -/
def entryLearned (k : TKind) (e : Nat) : Bool := isEm k && nbit e (ageBit k + 5)


/-- An exact-match entry from its parts (R230). -/
def emEntry (k : TKind) (key action data : Nat) (static learned : Bool) : Nat :=
  key + action % 256 * 2 ^ emBits k + b2n static * 2 ^ (ageBit k + 4) + b2n learned * 2 ^ (ageBit k + 5)
    + 2 ^ (ageBit k + 7) + data % 2 ^ (if k = .emL then 128 else 64) * 2 ^ (ageBit k + 8)

/-! ## Entries and locks (R233, R248) -/

/-- The key row of a table. -/
def tblRow (b id : Nat) : Nat := b * 32 + id

/-- The entry at a slot. -/
def State.entry (s : State) (b id slot : Nat) : Nat := tabGet s.tbl (tblRow b id, slot) 0

/-- The page lock of a slot. -/
def State.pageLocked (s : State) (b id slot : Nat) : Bool := tabGet s.tblLocks (tblRow b id, slot / 64) false

/-- Count the valid entries of a table in `TBL_OCC`. -/
def State.occ (s : State) (b id : Nat) (up : Bool) : State :=
  if id < 16 then
    let n := s.fld TBL_OCC.VALID (b * 16 + id)
    s.setFld TBL_OCC.VALID (b * 16 + id) (if up then n + 1 else n - 1)
  else s

/-- Maintenance accesses of bough `b`'s table SRAM (R383, code 0x102): one for each line read and each entry written (DESIGN CHOICE:
how many accesses an operation makes is not stated). -/
def State.maint (s : State) (b n : Nat) : State := s.perf (boughSet b) 0x102 n

/-- Write an entry whole (R238); `TBL_OCC` follows, and the monitor sees a group entry written (R290). -/
def State.setEntry (s : State) (b id slot e : Nat) : State :=
  let k := s.tblKind b id
  let was := isKeyed k && entryValid k (s.entry b id slot)
  let now := isKeyed k && entryValid k e
  let s := { s with tbl := tabSet s.tbl (tblRow b id, slot) (e % 2 ^ (8 * kindBytes k)) 0 }
  let s := (if id = 24 then { s with grpNew := tabSet s.grpNew (b, slot) true false } else s).maint b 1
  if was = now then s else s.occ b id now

/-- Clear VALID of an entry. -/
def State.clearEntry (s : State) (b id slot : Nat) : State :=
  let k := s.tblKind b id
  s.setEntry b id slot (putBits (s.entry b id slot) (validBit k) 1 0)

/-! ## Records (R243) -/

/-- The size of a bough's learn ring. -/
def State.learnSize (s : State) (b : Nat) : Nat := s.fld TBL_LEARN_SIZE.RECORDS b

/-- Show the records waiting. -/
def State.showRecs (s : State) (b : Nat) : State :=
  let n := (s.tables1 b).recs.length
  (s.setFld TBL_LEARN_FIFO.USED b n).maxFld TBL_LEARN_FIFO.HWM b n

/-- Make a record: TYPE, TABLE, SRC, the slot and its way, BYTES, the entry. With EN 0 none is made; the FIFO of 1,024 loses
what it cannot hold. -/
def State.record (s : State) (b ty id src slot bytes entry : Nat) : State :=
  if s.flag TBL_LEARN_CTL.EN b = false then s
  else
    let v := s.tables1 b
    if 1024 ≤ v.recs.length then
      ((s.setTables1 b { v with lost := v.lost + 1 }).bump .TBL_LEARN_LOST b).ev TBL_EVENT.LOST b
    else
      let way := if isKeyed (s.tblKind b id) = false then 0 else slot / (s.tblCap b id / 4) % 4
      let r : LearnRec := ⟨ty + id * 2 ^ 4 + src * 2 ^ 9 + way * 2 ^ 13, slot % 2 ^ 24 + bytes * 2 ^ 24, s.tod, entry⟩
      (s.setTables1 b { v with recs := v.recs ++ [r] }).showRecs b

/-- The 32 words of a record in the ring; LOST is what was lost since the record written before it. -/
def recWords (r : LearnRec) (seq lost : Nat) (phase : Bool) : List Word :=
  [wd (r.w0 + b2n phase * 2 ^ 31), wd r.w1, wd seq, wd (Nat.min 65535 lost), lo32 r.time, hi32 r.time, 0, 0] ++ natWords 16 r.entry
    ++ List.replicate 8 0

/-- LEARN_RECORD_WRITE: the oldest record goes to the ring where it has room, else it waits in the FIFO (R243). -/
def execLearnRecordWrite (b : Nat) (s : State) : Host.Outcome State Fault Refusal :=
  .next (match (s.tables1 b).recs with
    | [] => s
    | r :: rest =>
      if s.flag TBL_LEARN_CTL.EN b = false then s
      else
        let t := s.fld TBL_LEARN_TAIL.TAIL b
        let t' := (t + 1) % s.learnSize b
        if t' = s.fld TBL_LEARN_HEAD.HEAD b then s.ev TBL_EVENT.RING_FULL b
        else
          let v := s.tables1 b
          let base := s.fld TBL_LEARN_BASE_LO.ADDR b * 128 + s.fld TBL_LEARN_BASE_HI.ADDR b * 2 ^ 32
          let s := s.emit (.hostWrite (base + 128 * t) (recWords r v.seq v.lost v.phase))
          let s := s.setTables1 b { v with recs := rest, lost := 0, seq := v.seq + 1, phase := if t' = 0 then !v.phase else v.phase }
          let s := (s.setFld TBL_LEARN_TAIL.TAIL b t').showRecs b
          let due := match v.irqAt with | some a => decide (a + 10 * usNs ≤ s.now) | none => true
          if s.flag TBL_LEARN_CTL.IRQ_EN b && due then
            (s.setTables1 b { s.tables1 b with irqAt := some s.now }).msix (2 + b)
          else s)

/-- A ring size is a power of two from `lo` to `hi`. -/
def ringSizeOk (n lo hi : Nat) : Bool := decide (lo ≤ n) && decide (n ≤ hi) && (List.range 18).any (fun k => 2 ^ k == n)

/-- EN of a bough's learn ring goes from 0 to 1: checked as R39 does; head and tail 0, PHASE 1, SEQ 0. -/
def State.learnEnable (s : State) (b : Nat) (irqEn : Bool) : State :=
  let s := s.setFld TBL_LEARN_CTL.IRQ_EN b (b2n irqEn)
  if s.flag TBL_LEARN_CTL.EN b then s
  else if ringSizeOk (s.learnSize b) 64 65536 = false then s.ev TBL_EVENT.CFG_ERR b
  else
    let s := s.setTables1 b { s.tables1 b with recs := [], seq := 0, lost := 0, phase := true, irqAt := none }
    let s := (s.setFld TBL_LEARN_HEAD.HEAD b 0).setFld TBL_LEARN_TAIL.TAIL b 0
    (s.setFld TBL_LEARN_CTL.EN b 1).showRecs b

/-- LEARN_RING_ENABLE (R243). -/
def execLearnRingEnable (b : Nat) (irqEn : Bool) (s : State) : Host.Outcome State Fault Refusal := .next (s.learnEnable b irqEn)

/-! ## Parity (R252, R501) -/

/-- The line of a slot. -/
def State.lineOf (s : State) (b id slot : Nat) : Nat := slot * kindBytes (s.tblKind b id) / 64

/-- A planted error lies on a line of a table (R508). -/
def State.onLine (s : State) (b id line : Nat) (e : Planted) : Bool :=
  e.target == tgt cBOUGH b && e.kind == 1 && e.loc / 2 ^ 24 == id && s.lineOf b id (e.loc % 2 ^ 24) == line

/-- The slots with a parity error on the line of a slot. -/
def State.badOnLine (s : State) (b id slot : Nat) : List Nat :=
  (s.flt.planted.filter (s.onLine b id (s.lineOf b id slot))).map (fun e => e.loc % 2 ^ 24)

/-- A read of a slot finds a parity error: on any byte of its 64-byte line (R252). -/
def State.parityAt (s : State) (b id slot : Nat) : Bool := s.flt.planted.any (s.onLine b id (s.lineOf b id slot))

/-- The mechanism under which errors of one line count (R501). -/
def lineMech (id line : Nat) : Nat := 0x0701 * 2 ^ 32 + id * 2 ^ 24 + line

/-- A line is whole again: rewritten, or replaced by a spare. -/
def State.wellLine (s : State) (b id line : Nat) : State :=
  { s with flt.planted := s.flt.planted.filter (fun e => !s.onLine b id line e) }

/-- A line as it reads. -/
def State.lineImage (s : State) (b id slot : Nat) : Nat :=
  let n := kindBytes (s.tblKind b id)
  let first := s.lineOf b id slot * 64 / n
  sumN ((List.range (64 / n)).map (fun i => s.entry b id (first + i) * 2 ^ (8 * n * i)))

/-- Repeated parity errors on one line (R501): the second within 1 s moves it to one of the bough's 256 spare lines, whose errors
count anew; with no spare left it is never used for placement. -/
def State.lineRepeat (s : State) (b id slot : Nat) : State :=
  let t := tgt cBOUGH b
  let line := s.lineOf b id slot
  let loc := slot + id * 2 ^ 24
  let s := s.notePerm t (lineMech id line) true
  if s.permCount t (lineMech id line) (1000 * msNs) < 2 then s
  else
    let v := s.tables1 b
    let s := { s with flt.perm := s.flt.perm.filter (fun e => !(e.target == t && e.mech == lineMech id line)) }
    if v.spares < 256 then ((s.setTables1 b { v with spares := v.spares + 1 }).wellLine b id line).raise 0x0702 kRETIRED t (loc % 2 ^ 20) true
    else (s.setTables1 b { v with dead := (id, line) :: v.dead }).raise 0x0703 kDEGRADED t (loc % 2 ^ 20) true

/-- BYTES of a PARITY record: the 8-byte part of the line that each bad entry's error lies in; which part of a longer entry is a free
value (R508 names the entry alone). -/
def State.badParts (s : State) (b id slot : Nat) : Nat :=
  let n := kindBytes (s.tblKind b id)
  (s.badOnLine b id slot).foldl (fun m x => Nat.lor m (2 ^ (x * n % 64 / 8 + s.free % Nat.max 1 (n / 8)))) 0

/-- A read meets a parity error (R252): it is counted, recorded with the reader `src` and the line as read (R243), and reported; VALID
of each bad entry of a table with keys is cleared unless its page is locked, which makes the line good again. -/
def State.parityMet (s : State) (b id slot src : Nat) : State :=
  let k := s.tblKind b id
  let t := tgt cBOUGH b
  let bad := s.badOnLine b id slot
  let at0 := bad.headD slot
  let parts := s.badParts b id slot
  let s := ((s.bump .TBL_PAR_ERR b).ev TBL_EVENT.PARITY b).drawn
  let s := s.record b 6 id src at0 parts (s.lineImage b id slot)
  let s := s.raise 0x0701 kCORRECTED t ((at0 + id * 2 ^ 24) % 2 ^ 29) true
  let s := if isKeyed k then
      eachIn (bad.filter (fun x => !s.pageLocked b id x)) s (fun s x => (s.clearEntry b id x).unplant ⟨t, 1, x + id * 2 ^ 24⟩)
    else s
  s.lineRepeat b id at0

/-- Every slot of a list read: each line with a parity error is handled once. The slots that read as empty for it. -/
def State.readSlots (s : State) (b id : Nat) (slots : List Nat) (src : Nat) : State × List Nat :=
  let r := slots.foldl (fun (a : State × Option Nat) x =>
    if a.1.parityAt b id x && a.2 != some (s.lineOf b id x) then (a.1.parityMet b id x src, some (s.lineOf b id x)) else a) (s, none)
  (r.1, slots.filter (s.parityAt b id))

/-- Slots that maintenance reads, each line one access (R383). -/
def State.readMaint (s : State) (b id : Nat) (slots : List Nat) (src : Nat) : State × List Nat :=
  (s.maint b (slots.map (s.lineOf b id)).dedup.length).readSlots b id slots src

/-- A line without a spare is never used for placement (R501). -/
def State.lineDead (s : State) (b id slot : Nat) : Bool := (s.tables1 b).dead.contains (id, s.lineOf b id slot)

/-! ## Lookups (R234, R235, R237) -/

/-- The bytes of a key for the table hash, lowest byte first (R235); an LPM key as R237 orders it. -/
def keyBytes (k : TKind) (key : Nat) : List Nat :=
  match k with
  | .emS => bytesOf 20 key
  | .emL => bytesOf 40 key
  | _ => bytesOf (lpmBits k / 8) (keyAddr k key) ++ bytesOf 2 (keyVrf k key) ++ [keyLen k key]

/-- The candidate slot of way `w` (R235). -/
def State.candidate (s : State) (b id key w : Nat) : Nat :=
  let n := s.tblCap b id / 4
  let init := Nat.xor (s.fld TBL_SEED.SEED b) (w * 0x9E3779B9 % 2 ^ 32)
  w * n + crcBytes init (keyBytes (s.tblKind b id) key) % n

/-- The four candidate slots. -/
def State.candidates (s : State) (b id key : Nat) : List Nat := (List.range 4).map (fun w => s.candidate b id key w)

/-- The slot that holds a key: the lowest way that is valid with it; a slot with a parity error counts as empty (R252). -/
def State.findKey (s : State) (b id key : Nat) : Option Nat :=
  let k := s.tblKind b id
  (s.candidates b id key).find? (fun x =>
    entryValid k (s.entry b id x) && entryKey k (s.entry b id x) == key && !s.parityAt b id x)

/-- What a lookup finds. -/
structure Found where
  slot : Option Nat
  par  : Bool
  deriving DecidableEq, Repr

/-- An exact-match lookup: the four slots are read at once; a slot whose line has a parity error counts as empty. -/
def State.emLookup (s : State) (b id key src : Nat) : State × Found :=
  let r := s.readSlots b id (s.candidates b id key) src
  (r.1, ⟨s.findKey b id key, (s.findKey b id key).isNone && !r.2.isEmpty⟩)

/-- The two filter counters of a prefix (R237). -/
def filterIdx (k : TKind) (addr vrf len j : Nat) : Nat :=
  crcBytes (if j = 0 then 0 else 0xFFFFFFFF) (keyBytes k (lpmKey k addr vrf len)) % 65536

/-- A filter counter. -/
def State.filterAt (s : State) (b id len i : Nat) : Nat := tabGet s.tblFilter (tblRow b id, len * 65536 + i) 0

/-- The prefixes of a length that commands have put into a table. -/
def State.lenUse (s : State) (b id len : Nat) : Nat := tabGet s.tblLens (tblRow b id, len) 0

/-- The candidate lengths of an LPM lookup, descending (R237). -/
def State.lpmLens (s : State) (b id addr vrf : Nat) : List Nat :=
  let k := s.tblKind b id
  let ls := ((List.range (lpmBits k)).map (fun i => lpmBits k - i)).filter (fun len =>
    s.lenUse b id len != 0 &&
    s.filterAt b id len (filterIdx k (truncAddr k addr len) vrf len 0) != 0 &&
    s.filterAt b id len (filterIdx k (truncAddr k addr len) vrf len 1) != 0)
  ls ++ [0]

/-- Probe every candidate length in descending order (R237): the first hit is the result; a parity error on a probe longer than
it makes a parity miss (R252). -/
def State.lpmProbe (s : State) (b id addr vrf src : Nat) : List Nat → State × Found
  | [] => (s, ⟨none, false⟩)
  | len :: rest =>
    let k := s.tblKind b id
    let r := s.emLookup b id (lpmKey k (truncAddr k addr len) vrf len) src
    let q := r.1.lpmProbe b id addr vrf src rest
    (q.1, if r.2.par then ⟨none, true⟩ else if r.2.slot.isSome then r.2 else q.2)

/-- A longest-prefix lookup. -/
def State.lpmLookup (s : State) (b id addr vrf src : Nat) : State × Found :=
  s.lpmProbe b id addr vrf src (s.lpmLens b id addr vrf)

/-- What a stage sees of its lookup (R234): hit, parity miss, action, the action data bus. -/
structure LookupRes where
  hit    : Bool := false
  par    : Bool := false
  action : Nat := 0
  adb    : Nat := 0
  deriving DecidableEq, Repr

/-- A read of a direct table's entry: zero for a line with a parity error or without a spare (R252, R501). -/
def State.readDirect (s : State) (b id i src : Nat) : State × Nat :=
  if s.parityAt b id i then (s.parityMet b id i src, 0)
  else if s.lineDead b id i then (s, 0)
  else (s, s.entry b id i)

/-- A lookup by a stage in table `id` of bough `b` with the key its builder made (R232, R234). -/
def State.stageLookup (s : State) (b id key src : Nat) : State × LookupRes :=
  let k := s.tblKind b id
  if id < 16 ∧ s.flag TBL_STATUS.CHANGING b = true then (s, {})
  else match k with
  | .absent => (s, {})
  | .direct n =>
    let i := key % s.tblCap b id
    let r := s.readDirect b id i src
    (r.1, { hit := true, adb := r.2 % 2 ^ (8 * Nat.min n 16) })
  | _ =>
    let r := if isEm k then s.emLookup b id (key % 2 ^ emBits k) src
      else s.lpmLookup b id (key % 2 ^ lpmBits k) (nbits key (lpmBits k) 12) src
    match r.2.slot with
    | none => (r.1, { par := r.2.par })
    | some x =>
      let e := r.1.entry b id x
      (r.1, { hit := true, action := entryAction k e, adb := entryData k e + (if isLpm k then keyLen k (entryKey k e) * 2 ^ 64 else 0) })

/-! ## Placement (R236, R237, R241) -/

/-- A slot that placement may use: its page unlocked, its line usable (R236, R501). -/
def State.slotOpen (s : State) (b id slot : Nat) : Bool := !s.pageLocked b id slot && !s.lineDead b id slot

/-- A slot that holds no entry; one whose line has a parity error counts as empty (R252). -/
def State.slotEmpty (s : State) (b id slot : Nat) : Bool := !entryValid (s.tblKind b id) (s.entry b id slot) || s.parityAt b id slot

/-- A slot that placement may fill. -/
def State.slotFree (s : State) (b id slot : Nat) : Bool := s.slotEmpty b id slot && s.slotOpen b id slot

/-- A slot whose occupant may move, so that the slot may be filled. -/
def State.slotMoves (s : State) (b id slot : Nat) : Bool := !s.slotEmpty b id slot && s.slotOpen b id slot

/-- The chains of at most `n` moves, breadth first: each path lists slots, the newest first; the last is a candidate of the
new key. The answer is the first path whose newest slot is free, and the slots examined. -/
def State.chain (s : State) (b id : Nat) : Nat → List (List Nat) → Option (List Nat) × List Nat
  | 0, _ => (none, [])
  | n + 1, paths =>
    let next := paths.flatMap (fun path =>
      match path with
      | [] => []
      | x :: _ =>
        let key := entryKey (s.tblKind b id) (s.entry b id x)
        (s.candidates b id key).filterMap (fun y => if path.contains y then none else some (y :: path)))
    let seen := next.map (fun path => path.headD 0)
    match next.find? (fun path => s.slotFree b id (path.headD 0)) with
    | some path => (some path, seen)
    | none =>
      let r := s.chain b id n (next.filter (fun path => s.slotMoves b id (path.headD 0)))
      (r.1, seen ++ r.2)

/-- Perform a chain from its far end: each occupant moves up one place. -/
def State.moveChain (s : State) (b id : Nat) : List Nat → State
  | y :: x :: rest => ((s.setEntry b id y (s.entry b id x)).clearEntry b id x).moveChain b id (x :: rest)
  | _ => s

/-- Room for a new key (R236): an empty candidate, lowest way first, or a chain that empties one. The slot to fill, and the
state with the moves made; parity errors on the slots examined are met (R252) by the reader `src`. -/
def State.makeRoom (s : State) (b id key src : Nat) : State × Option Nat :=
  let cs := s.candidates b id key
  match cs.find? (fun x => s.slotFree b id x) with
  | some x => (s, some x)
  | none =>
    let r := s.chain b id 3 ((cs.filter (s.slotMoves b id)).map (fun x => [x]))
    let s := (s.readMaint b id r.2 src).1
    match r.1 with
    | some path => ((s.moveChain b id path).perf (boughSet b) 0x101, path.getLast?)
    | none => (s, none)

/-- The occupant that eviction takes (R241): neither STATIC nor in a locked page; the oldest, lowest way on a tie, or one
that the bough's LFSR picks (a free value). -/
def State.evictee (s : State) (b id key : Nat) (random : Bool) : Option Nat :=
  let k := s.tblKind b id
  let cs := (s.candidates b id key).filter (fun x =>
    entryValid k (s.entry b id x) && !entryStatic k (s.entry b id x) && !s.pageLocked b id x && !s.lineDead b id x)
  if random then (if cs = [] then none else cs[s.free % cs.length]?)
  else cs.foldl (fun (a : Option Nat) x =>
    match a with
    | none => some x
    | some y => if entryAge k (s.entry b id y) < entryAge k (s.entry b id x) then some x else some y) none

/-- A filter counter goes up, or down; a counter at 15 stays (R237). -/
def State.filterStep (s : State) (b id len i : Nat) (up : Bool) : State :=
  let c := s.filterAt b id len i
  let c' := if c = 15 then 15 else if up then c + 1 else c - 1
  { s with tblFilter := tabSet s.tblFilter (tblRow b id, len * 65536 + i) c' 0 }

/-- A prefix enters or leaves a table: its filter counters and the use of its length; a length that leaves use has its
filter cleared. -/
def State.prefixUse (s : State) (b id key : Nat) (up : Bool) : State :=
  let k := s.tblKind b id
  let len := keyLen k key
  let s := eachIn [0, 1] s (fun s j => s.filterStep b id len (filterIdx k (keyAddr k key) (keyVrf k key) len j) up)
  let n := s.lenUse b id len
  let s := { s with tblLens := tabSet s.tblLens (tblRow b id, len) (if up then n + 1 else n - 1) 0 }
  if !up && n ≤ 1 then
    { s with tblFilter := s.tblFilter.filter (fun e => !(e.1.1 == tblRow b id && e.1.2 / 65536 == len)) }
  else s

/-- Put a new entry into a table (R236, R241): `evict` 0 none, 1 random, 2 oldest; SRC for the records. The slot it took. -/
def State.place (s : State) (b id e evict src : Nat) : State × Option Nat :=
  let k := s.tblKind b id
  let key := entryKey k e
  match s.makeRoom b id key src with
  | (t, some x) => (t.setEntry b id x e, some x)
  | (s, none) =>
    if evict = 0 then (s, none)
    else match s.evictee b id key (evict == 1) with
    | none => (s, none)
    | some x =>
      let old := s.entry b id x
      let s := if evict = 1 then s.drawn else s
      let s := (s.bump .TBL_EVICT b).record b 3 id src x 0 old
      let s := if isLpm k then s.prefixUse b id (entryKey k old) false else s
      (s.setEntry b id x e, some x)

/-- The distinct non-zero lengths in use. -/
def State.lensUsed (s : State) (b id : Nat) : Nat := ((tabRow s.tblLens (tblRow b id)).filter (fun e => e.1 != 0)).length

/-! ## Learning (R239 to R242) -/

/-- The learn configuration word of a table (R244). -/
def State.learnCfg (s : State) (b id : Nat) : Nat := tabGet (s.tables1 b).learn (id, 0) 0

/-- Show the learn queue's occupancy. -/
def State.showQueue (s : State) (b : Nat) : State := s.setFld TBL_STATUS.LQ_USED b (s.tables1 b).queue.length

/-- A learn request discarded (R239, R244). -/
def State.learnDrop (s : State) (b : Nat) : State := (s.bump .TBL_LEARN_DROP b).ev TBL_EVENT.LEARN_DROP b

/-- A request enters the learn queue; a full queue of 256 discards it; LEARN_EN 0 discards a learn insert (R239, R244). -/
def State.learnAsk (s : State) (b : Nat) (r : LearnReq) : State :=
  let v := s.tables1 b
  if r.op = 1 ∧ nbit (s.learnCfg b r.table) 8 = false then s.learnDrop b
  else if 256 ≤ v.queue.length then s.learnDrop b
  else (s.setTables1 b { v with queue := v.queue ++ [r] }).showQueue b

/-- A walker's table operation completes: TOP_ERR, TOP_FOUND, TOP_DONE of R201 in bits 2, 1, 0. -/
def State.topDone (s : State) (b walker : Nat) (found err : Bool) : State :=
  if walker < 4 then s.setWalker b walker { s.walker b walker with top := 1 + b2n found * 2 + b2n err * 4 } else s

/-- A learn insert executes (R240). -/
def State.learnInsert (s : State) (b : Nat) (r : LearnReq) : State :=
  let id := r.table
  let k := s.tblKind b id
  let key := r.key % 2 ^ emBits k
  let e := emEntry k key r.action r.data false true
  match s.findKey b id key with
  | some x =>
    let old := s.entry b id x
    if s.pageLocked b id x then s.topDone b r.walker true true
    else if entryStatic k old then s.topDone b r.walker true true
    else if entryAction k old = r.action % 256 ∧ entryData k old = entryData k e then
      (s.setEntry b id x (putBits old (ageBit k) 4 0)).topDone b r.walker true false
    else
      let new := putBits e (ageBit k + 5) 1 (b2n (entryLearned k old))
      (((s.setEntry b id x new).bump .TBL_LEARN_OK b).record b 2 id r.src x 0 new).topDone b r.walker true false
  | none =>
    match s.place b id e (nbits (s.learnCfg b id) 9 2) r.src with
    | (t, some x) => ((t.bump .TBL_LEARN_OK b).record b 1 id r.src x 0 e).topDone b r.walker false false
    | (s, none) =>
      (((s.bump .TBL_LEARN_FAIL b).ev TBL_EVENT.LEARN_FAIL b).record b 5 id r.src 0 0 (putBits e (validBit k) 1 0)).topDone b r.walker false true

/-- A request on a key already there: refresh, delete, or the ageing step that tests AGE again (R239, R242). -/
def State.learnOnKey (s : State) (b : Nat) (r : LearnReq) : State :=
  let id := r.table
  let k := s.tblKind b id
  match s.findKey b id (r.key % 2 ^ emBits k) with
  | none => s.topDone b r.walker false false
  | some x =>
    let e := s.entry b id x
    if s.pageLocked b id x then s.topDone b r.walker true true
    else if r.op = 2 then (s.setEntry b id x (putBits e (ageBit k) 4 0)).topDone b r.walker true false
    else if entryStatic k e then s.topDone b r.walker true true
    else if r.op = 3 then (s.clearEntry b id x).topDone b r.walker true false
    else
      let max := nbits (s.learnCfg b id) 12 4
      if entryAge k e ≠ r.data then s
      else if entryAge k e = max then ((s.clearEntry b id x).bump .TBL_AGED b).record b 4 id 9 x 0 e
      else s.setEntry b id x (putBits e (ageBit k) 4 (entryAge k e + 1))

/-- The ageing requests of one pass over a table (R242): every VALID entry that is not STATIC and whose page is unlocked,
with the AGE seen. -/
def State.agePass (s : State) (b id : Nat) : List LearnReq :=
  let k := s.tblKind b id
  (tabRow s.tbl (tblRow b id)).filterMap (fun e =>
    if entryValid k e.2 && !entryStatic k e.2 && !s.pageLocked b id e.1 then
      some { op := 11, table := id, key := entryKey k e.2, data := entryAge k e.2 }
    else none)

/-- The slots of a table with a parity error. -/
def State.badSlots (s : State) (b id : Nat) : List Nat :=
  (s.flt.planted.filter (fun e => e.target == tgt cBOUGH b && e.kind == 1 && e.loc / 2 ^ 24 == id)).map (fun e => e.loc % 2 ^ 24)

/-- A pass of walker 0 over a table is under way. -/
def State.ageing (s : State) (b id : Nat) : Bool :=
  (s.tables1 b).ageWait.any (fun r => r.table == id) || (s.tables1 b).queue.any (fun r => r.op == 11 && r.table == id)

/-- Walker 0 starts a pass over a table (R242): it reads the table, and its requests go behind those in the learn queue. -/
def State.ageStart (s : State) (b id : Nat) : State :=
  let s := ((s.maint b (ceilDiv (s.tblCap b id * kindBytes (s.tblKind b id)) 64)).readSlots b id (s.badSlots b id) 9).1
  let v := s.tables1 b
  let all := v.ageWait ++ s.agePass b id
  let room := 256 - v.queue.length
  let s := (s.setTables1 b { v with queue := v.queue ++ all.take room, ageWait := all.drop room }).showQueue b
  if s.ctxState b 0 = 0 then s.startVendor b 0 else s

/-- A pass that outlasted its tick has ended: the next one starts (R242). With no pass under way walker 0 is idle. -/
def State.ageNext (s : State) (b : Nat) : State :=
  let s := eachIn ((s.tables1 b).ageDue.filter (fun id => !s.ageing b id)) s (fun s id =>
    (s.setTables1 b { s.tables1 b with ageDue := (s.tables1 b).ageDue.erase id }).ageStart b id)
  if (List.range 16).any (s.ageing b) then s else s.endVendor b 0

/-- A table ages: an exact-match table with AGE_EN. -/
def State.ages (s : State) (b id : Nat) : Bool := isEm (s.tblKind b id) && nbit (s.learnCfg b id) 11

/-- Walker 0 restarts from table 0 after a fetch fault (R242). -/
def State.ageRestart (s : State) (b : Nat) : State :=
  let s := s.setTables1 b { s.tables1 b with ageWait := [], ageDue := [] }
  eachIn ((List.range 16).filter (fun id => s.ages b id)) s (fun s id => s.ageStart b id)

/-- The learn engine executes the next queued request (R239, R240); ageing requests that waited move up. -/
def State.learnStep (s : State) (b : Nat) : State :=
  match (s.tables1 b).queue ++ (s.tables1 b).ageWait.take 1 with
  | [] => s
  | r :: _ =>
    let v := s.tables1 b
    let q := v.queue.drop 1
    let fromWait := if v.queue = [] then 1 else 0
    let wait := v.ageWait.drop fromWait
    let room := 256 - q.length
    let s := ((s.setTables1 b { v with queue := q ++ wait.take room, ageWait := wait.drop room }).showQueue b).perf (boughSet b) 0x100
    let k := s.tblKind b r.table
    if isEm k = false then s.ageNext b
    else
    let s := (s.readMaint b r.table (s.candidates b r.table (r.key % 2 ^ emBits k)) r.src).1
    (if r.op = 1 then s.learnInsert b r else s.learnOnKey b r).ageNext b

/-- LEARN_EXECUTE. -/
def execLearnExecute (b : Nat) (s : State) : Host.Outcome State Fault Refusal := .next (s.learnStep b)

/-- AGE_TICK: once an AGE_TICK of a table has passed, walker 0 starts a pass over it (R242); one still under way sets AGE_SLOW, and the
next starts when it ends. -/
def execAgeTick (b id : Nat) (s : State) : Host.Outcome State Fault Refusal :=
  .next (if s.ages b id = false ∨ s.now < tabGet (s.tables1 b).ageNext (id, 0) 0 then s
    else
      let v := s.tables1 b
      let s := s.setTables1 b { v with ageNext := tabSet v.ageNext (id, 0) (s.now + nbits (s.learnCfg b id) 16 16 * (10 * msNs)) 0 }
      if s.ageing b id then
        (s.setTables1 b { s.tables1 b with ageDue := (s.tables1 b).ageDue.filter (· != id) ++ [id] }).ev TBL_EVENT.AGE_SLOW b
      else s.ageStart b id)

/-! ## TBL_PROFILE (R229) -/

/-- The size of profile 3's table `id` in bytes. -/
def userBytes (id w : Nat) : Nat :=
  if w % 32 = 0 then 0
  else 2 ^ (w % 32) * kindBytes (if id < 8 then fixedKind id else userKind (nbits w 8 3))

/-- A word of profile 3 is legal. -/
def userWordOk (id w : Nat) : Bool :=
  w == nbits w 0 5 + nbits w 8 3 * 256 && (w % 32 == 0 || (10 ≤ w % 32 && w % 32 ≤ 22)) && decide (nbits w 8 3 ≤ 4)
    && !(id < 8 && nbits w 8 3 != 0)

/-- One bough takes a profile: the profile region and every page lock are empty, queued learn requests and flowlets (R281)
gone. -/
def State.profile1 (s : State) (b profile seed : Nat) (caps : List Nat) : State :=
  let keep := fun (r : Nat) => !(r / 32 == b && r % 32 < 16)
  let s := { s with
    tbl := s.tbl.filter (fun e => keep e.1.1),
    tblLocks := s.tblLocks.filter (fun e => e.1.1 / 32 != b),
    tblFilter := s.tblFilter.filter (fun e => keep e.1.1),
    tblLens := s.tblLens.filter (fun e => keep e.1.1),
    flowlets := tabDropRow s.flowlets b,
    flt.planted := s.flt.planted.filter (fun e => !(e.target == tgt cBOUGH b && e.kind == 1 && decide (e.loc / 2 ^ 24 < 16))) }
  let s := s.setTables1 b { s.tables1 b with caps := caps, queue := [], ageWait := [] }
  let s := eachIn (List.range 16) s (fun s i => s.setReg .TBL_OCC (b * 16 + i) 0)
  let s := (s.setFld TBL_STATUS.PROFILE b profile).setFld TBL_STATUS.CHANGING b 0
  (s.setReg .TBL_SEED b (wd seed)).showQueue b

/-- The profile change of a checked `TBL_PROFILE`. -/
def State.profileDo (s : State) (p : Packet) : State :=
  let caps := if parF p 0 0 2 = 3 then (List.range 16).map (fun i => parN p (2 + i)) else []
  eachIn (instances p.target 8) s (fun s b => s.profile1 b (parF p 0 0 2) (parN p 1) caps)

/-- TBL_PROFILE's effect. -/
def effTblProfile (p : Packet) (s : State) : State × Rep :=
  let pr := parF p 0 0 2
  if onlyBits p 0 3 = false then (s, badPar 0)
  else if pr = 3 ∧ parCount p ≠ 18 then (s, refuse eLEN (lenDetail 18 18))
  else if pr ≠ 3 ∧ 2 < parCount p then (s, badPar 2)
  else match (if pr = 3 then (List.range 16).find? (fun i => !userWordOk i (parN p (2 + i))) else none) with
  | some i => (s, badPar (2 + i))
  | none =>
    if pr = 3 ∧ 19840 * 1024 < sumN ((List.range 16).map (fun i => userBytes i (parN p (2 + i)))) then (s, deny eRESOURCE)
    else if p.slow then
      (eachIn (instances p.target 8) s (fun s b => s.setFld TBL_STATUS.CHANGING b 1), laterRep)
    else (s.profileDo p, ok)

/-- The background end of a `TBL_PROFILE`. -/
def State.tblProfileEnd (s : State) (p : Packet) : State :=
  (s.profileDo p).finish 0x0201 (fun q => q.target == p.target) ok

/-! ## TBL_INSERT and TBL_DELETE (R245, R246) -/

/-- The words of an entry. -/
def entryWords (k : TKind) : Nat := kindBytes k / 4
/-- The words of a key (R246). -/
def keyWords (k : TKind) : Nat :=
  match k with
  | .emS => 5
  | .emL => 10
  | .lpm4 => 2
  | .lpm6 => 5
  | _ => 0

/-- The first offending word of an entry given to `TBL_INSERT`: reserved bits, LEN, ADDR below it. -/
def entryBad (k : TKind) (e : Nat) : Option Nat :=
  match k with
  | .emS => if nbit e 174 then some 5 else if nbits e 240 16 ≠ 0 then some 7 else none
  | .emL => if nbit e 334 then some 10 else if nbits e 464 16 ≠ 0 then some 14 else if nbits e 480 32 ≠ 0 then some 15 else none
  | .lpm4 =>
    if 32 < nbits e 44 6 then some 1
    else if truncAddr k (nbits e 0 32) (nbits e 44 6) ≠ nbits e 0 32 then some 0
    else if nbits e 58 5 ≠ 0 then some 1
    else none
  | .lpm6 =>
    if 128 < nbits e 140 8 then some 4
    else if truncAddr k (nbits e 0 128) (nbits e 140 8) ≠ nbits e 0 128 then
      (List.range 4).find? (fun i => nbits (truncAddr k (nbits e 0 128) (nbits e 140 8)) (32 * i) 32 != nbits e (32 * i) 32)
    else if nbits e 156 3 ≠ 0 then some 4
    else if nbits e 224 32 ≠ 0 then some 7
    else none
  | _ => some 0

/-- An entry as `TBL_INSERT` writes it: VALID 1, LEARNED 0, AGE 0, STATIC as given. -/
def insertForm (k : TKind) (e : Nat) : Nat :=
  let e := putBits e (validBit k) 1 1
  if isEm k then putBits (putBits e (ageBit k) 4 0) (ageBit k + 5) 1 0 else e

/-- One entry of a batch goes into a bough's table, or the status that refuses the batch. -/
def State.insertOne (s : State) (b id e : Nat) (evict : Bool) : State × Nat :=
  let k := s.tblKind b id
  let key := entryKey k e
  let s := (s.readMaint b id (s.candidates b id key) 8).1
  match s.findKey b id key with
  | some x => if s.pageLocked b id x then (s, eLOCKED) else (s.setEntry b id x e, 0)
  | none =>
    if k = .lpm6 ∧ keyLen k key ≠ 0 ∧ s.lenUse b id (keyLen k key) = 0 ∧ 32 ≤ s.lensUsed b id then (s, eRESOURCE)
    else match s.place b id e (if evict then 2 else 0) 8 with
    | (s, none) => (s, eRESOURCE)
    | (t, some _) => (if isLpm k then t.prefixUse b id key true else t, 0)

/-- A whole batch in one bough: the first status that refuses it ends it. -/
def State.insertAll (s : State) (b id : Nat) (evict : Bool) (es : List Nat) : State × Nat :=
  es.foldl (fun (a : State × Nat) e => if a.2 = 0 then a.1.insertOne b id e evict else a) (s, 0)

/-- The entries of a batch. -/
def batch (p : Packet) (k : Nat) (n : Nat) : List Nat := (List.range n).map (fun i => wordsNat (parWords p (1 + k * i) k))

/-- A key present in the table, or earlier in the batch (R245, REPLACE 0). -/
def State.clash (s : State) (b id : Nat) (es : List Nat) (i : Nat) : Bool :=
  let k := s.tblKind b id
  let key := entryKey k (es.getD i 0)
  (s.findKey b id key).isSome || (List.range i).any (fun j => entryKey k (es.getD j 0) == key)

/-- The candidate slots of every key of a command are read in each of its boughs. -/
def State.readKeys (s : State) (bs : List Nat) (id : Nat) (keys : List Nat) (src : Nat) : State :=
  eachIn bs s (fun s b => (s.readMaint b id (keys.flatMap (s.candidates b id)) src).1)

/-- TBL_INSERT's effect: the whole batch is planned in every bough before anything is written. -/
def effTblInsert (p : Packet) (s : State) : State × Rep :=
  let id := parF p 0 0 5
  let n := parF p 0 16 16
  let bs := instances p.target 8
  let k := s.tblKind (bs.headD 0) id
  let want := 1 + n * entryWords k
  if onlyBits p 0 0xFFFF031F = false ∨ 4096 < n ∨ bs.any (fun b => s.tblKind b id != k) = true ∨ isKeyed k = false then (s, badPar 0)
  else if parCount p ≠ want then (s, refuse eLEN (lenDetail want want))
  else
    let es := batch p (entryWords k) n
    match (List.range n).findSome? (fun i => (entryBad k (es.getD i 0)).map (fun w => 1 + i * entryWords k + w)) with
    | some w => (s, badPar w)
    | none =>
      match (if parF p 0 8 1 = 1 then none else (List.range n).find? (fun i => bs.any (fun b => s.clash b id es i))) with
      | some i => (s, badPar (1 + i * entryWords k))
      | none =>
        let fs := es.map (insertForm k)
        let s := s.readKeys bs id (es.map (entryKey k)) 8
        let r := bs.foldl (fun (a : State × Nat) b => if a.2 = 0 then a.1.insertAll b id (parF p 0 9 1 == 1) fs else a) (s, 0)
        if r.2 ≠ 0 then (s, deny r.2) else (r.1, if n = 0 then ok else ok [wd (n * bs.length)])

/-- The key that words spell for a table (R246). -/
def keyOfWords (k : TKind) (ws : List Word) : Nat :=
  let w := fun i => (ws.getD i 0).toNat
  match k with
  | .lpm4 => lpmKey k (w 0) (nbits (w 1) 0 12) (nbits (w 1) 16 6)
  | .lpm6 => lpmKey k (wordsNat (ws.take 4)) (nbits (w 4) 0 12) (nbits (w 4) 16 8)
  | _ => wordsNat (ws.take (keyWords k))

/-- The reserved bits of an LPM key word are zero; LEN in range, unless it is ignored. -/
def keyBad (k : TKind) (ws : List Word) (anyLen : Bool) : Option Nat :=
  let w := fun i => (ws.getD i 0).toNat
  match k with
  | .lpm4 => if w 1 ≠ nbits (w 1) 0 12 + nbits (w 1) 16 6 * 2 ^ 16 ∨ (!anyLen && decide (32 < nbits (w 1) 16 6)) = true then some 1 else none
  | .lpm6 => if w 4 ≠ nbits (w 4) 0 12 + nbits (w 4) 16 8 * 2 ^ 16 ∨ (!anyLen && decide (128 < nbits (w 4) 16 8)) = true then some 4 else none
  | _ => none

/-- The keys of a command. -/
def keysOf (p : Packet) (k : TKind) (n : Nat) : List Nat := (List.range n).map (fun i => keyOfWords k (parWords p (1 + keyWords k * i) (keyWords k)))

/-- The first offending word of the keys of a command. -/
def keysBad (p : Packet) (k : TKind) (n : Nat) (anyLen : Bool) : Option Nat :=
  (List.range n).findSome? (fun i => (keyBad k (parWords p (1 + keyWords k * i) (keyWords k)) anyLen).map (fun w => 1 + keyWords k * i + w))

/-- Delete one key: the state, and whether it was there. -/
def State.deleteOne (s : State) (b id key : Nat) : State × Bool :=
  let s := (s.readMaint b id (s.candidates b id key) 8).1
  match s.findKey b id key with
  | some x =>
    let s := s.clearEntry b id x
    (if isLpm (s.tblKind b id) then s.prefixUse b id key false else s, true)
  | none => (s, false)

/-- TBL_DELETE's effect. -/
def effTblDelete (p : Packet) (s : State) : State × Rep :=
  let id := parF p 0 0 5
  let n := parF p 0 16 16
  let bs := instances p.target 8
  let k := s.tblKind (bs.headD 0) id
  let want := 1 + n * keyWords k
  if onlyBits p 0 0xFFFF001F = false ∨ 4096 < n ∨ bs.any (fun b => s.tblKind b id != k) = true ∨ isKeyed k = false then (s, badPar 0)
  else if parCount p ≠ want then (s, refuse eLEN (lenDetail want want))
  else match keysBad p k n false with
  | some w => (s, badPar w)
  | none =>
    let keys := keysOf p k n
    if bs.any (fun b => keys.any (fun key => (s.findKey b id key).any (fun x => s.pageLocked b id x))) then (s, deny eLOCKED)
    else
      let r := bs.foldl (fun (a : State × Nat) b => keys.foldl (fun (a : State × Nat) key =>
        let q := a.1.deleteOne b id key
        (q.1, a.2 + b2n q.2)) a) (s, 0)
      (r.1, if n = 0 then ok else ok [wd r.2, wd (n * bs.length - r.2)])

/-! ## TBL_LOOKUP, TBL_LOCK, TBL_LEARN_CFG (R244, R247, R248) -/

/-- The result words of one lookup (R247). -/
def State.lookupWords (s : State) (b id : Nat) (f : Found) : List Word :=
  let k := s.tblKind b id
  match f.slot with
  | some x => wd (1 + x / (s.tblCap b id / 4) % 4 * 2 ^ 2 + x * 2 ^ 8) :: natWords (entryWords k) (s.entry b id x)
  | none => wd (b2n f.par * 2) :: List.replicate (entryWords k) 0

/-- Look keys up one after another. -/
def State.lookupAll (s : State) (b id : Nat) (longest : Bool) : List Nat → State × List Word
  | [] => (s, [])
  | key :: rest =>
    let k := s.tblKind b id
    let r := if longest then s.lpmLookup b id (keyAddr k key) (keyVrf k key) 8 else s.emLookup b id key 8
    let ws := r.1.lookupWords b id r.2
    let q := r.1.lookupAll b id longest rest
    (q.1, ws ++ q.2)

/-- TBL_LOOKUP's effect. -/
def effTblLookup (p : Packet) (s : State) : State × Rep :=
  let b := tInst p.target
  let id := parF p 0 0 5
  let n := parF p 0 16 16
  let k := s.tblKind b id
  let want := 1 + n * keyWords k
  if onlyBits p 0 0xFFFF011F = false ∨ 64 < n ∨ isKeyed k = false ∨ (parF p 0 8 1 = 1 ∧ isLpm k = false) then (s, badPar 0)
  else if parCount p ≠ want then (s, refuse eLEN (lenDetail want want))
  else match keysBad p k n (parF p 0 8 1 == 1) with
  | some w => (s, badPar w)
  | none =>
    let r := s.lookupAll b id (parF p 0 8 1 == 1) (keysOf p k n)
    (r.1, ok r.2)

/-- TBL_LOCK's effect: locks on page numbers up to the table's end. -/
def effTblLock (p : Packet) (s : State) : State × Rep :=
  let b := tInst p.target
  let id := parF p 0 0 5
  let first := parN p 1
  let n := parN p 2
  if onlyBits p 0 0x11F = false ∨ isKeyed (s.tblKind b id) = false then (s, badPar 0)
  else if n = 0 then (s, ok)
  else if s.tblCap b id / 64 ≤ first then (s, badPar 1)
  else if s.tblCap b id / 64 < first + n then (s, badPar 2)
  else
    (eachIn (List.range n) s (fun s i =>
      { s with tblLocks := tabSet s.tblLocks (tblRow b id, first + i) (parF p 0 8 1 == 1) false }), ok)

/-- TBL_LEARN_CFG's effect. -/
def effTblLearnCfg (p : Packet) (s : State) : State × Rep :=
  let id := parF p 0 0 5
  let bs := instances p.target 8
  if bitsAt (par p 0) 5 3 ≠ 0 ∨ bs.any (fun b => !isEm (s.tblKind b id)) = true ∨ parF p 0 9 2 = 3
      ∨ (parF p 0 11 1 = 1 ∧ (parF p 0 12 4 = 0 ∨ parF p 0 16 16 = 0)) then (s, badPar 0)
  else (eachIn bs s (fun s b =>
    let v := s.tables1 b
    let next := if s.ages b id then v.ageNext else tabSet v.ageNext (id, 0) (s.now + parF p 0 16 16 * (10 * msNs)) 0
    s.setTables1 b { v with learn := tabSet v.learn (id, 0) (parN p 0) 0, ageNext := next }), ok)

/-! ## TBL_DMA (R249) -/

/-- The E_PARAM cases of `TBL_DMA`. -/
def State.dmaBad (s : State) (p : Packet) (b : Nat) : Option Nat :=
  let id := parF p 0 8 5
  if onlyBits p 0 0x1F03 = false ∨ parF p 0 0 2 = 3 ∨ (parF p 0 0 2 = 2 ∧ id ≠ 27) ∨ s.tblKind b id = .absent then some 0
  else if parN p 2 ≠ 0 ∧ s.tblCap b id ≤ parN p 1 then some 1
  else if parN p 2 ≠ 0 ∧ s.tblCap b id < parN p 1 + parN p 2 then some 2
  else if parN p 3 % 64 ≠ 0 then some 3
  else none

/-- A DMA write may put an entry at a slot: not valid, or one of its candidate slots. -/
def State.dmaEntryOk (s : State) (b id slot e : Nat) : Bool :=
  let k := s.tblKind b id
  !isKeyed k || !entryValid k e || (s.candidates b id (entryKey k e)).contains slot

/-- Write entries one by one; the slot of the first that lies in no candidate slot stops it. -/
def State.dmaWrite (s : State) (b id : Nat) : Nat → List Nat → State × Option Nat
  | _, [] => (s, none)
  | slot, e :: rest =>
    if s.dmaEntryOk b id slot e then (s.setEntry b id slot e).dmaWrite b id (slot + 1) rest else (s, some slot)

/-- The lines that a DMA write of `n` entries rewrote whole have good parity again (R252). -/
def State.dmaLines (s : State) (b id first n : Nat) : State :=
  let k := kindBytes (s.tblKind b id)
  let lo := ceilDiv (first * k) 64
  eachIn ((List.range ((first + n) * k / 64 - lo)).map (fun i => lo + i)) s (fun s line => s.wellLine b id line)

/-- Move the entries of a `TBL_DMA`. `env` holds first 0, or 1 + the number of entries moved before a PCIe error, then the
entries in host memory. -/
def State.dmaDo (s : State) (p : Packet) : State × Rep :=
  let b := tInst p.target
  let id := parF p 0 8 5
  let k := s.tblKind b id
  let first := parN p 1
  let n := if envAt p 0 = 0 then parN p 2 else Nat.min (parN p 2) (envAt p 0 - 1)
  let addr := parN p 3 + parN p 4 * 2 ^ 32
  let s := s.setFld TBL_STATUS.DMA b 0
  let fin := fun (s : State) => (s, if envAt p 0 = 0 then ok else refuse ePARAM 0xFFFFFFFE)
  if parF p 0 0 2 = 1 then
    let r := s.dmaWrite b id first ((List.range n).map (fun i => envAt p (1 + i)))
    match r.2 with
    | some x => (r.1.dmaLines b id first (x - first), refuse eINTEGRITY x)
    | none => fin (r.1.dmaLines b id first n)
  else
    let slots := (List.range n).map (fun i => first + i)
    let s := (s.readMaint b id slots 8).1
    let s := if n = 0 then s else s.emit (.hostBytes addr (slots.flatMap (fun x => bytesOf (kindBytes k) (s.entry b id x))))
    fin (if parF p 0 0 2 = 2 then ((s.dmaWrite b id first (List.replicate n 0)).1.dmaLines b id first n) else s)

/-- A DMA write that touches the active tree half of a partition in MODE 1 (R270). -/
def State.treeLocked (s : State) (b first n : Nat) : Bool :=
  (List.range 8).any (fun q =>
    let lo := q * 4096 + s.fld CLS_STATUS.ACT_HALF (b * 8 + q) * 2048
    s.fld CLS_STATUS.MODE (b * 8 + q) == 1 && decide (first < lo + 2048) && decide (lo < first + n))

/-- TBL_DMA's effect. -/
def effTblDma (p : Packet) (s : State) : State × Rep :=
  let b := tInst p.target
  let id := parF p 0 8 5
  match s.dmaBad p b with
  | some w => (s, badPar w)
  | none =>
    if parF p 0 0 2 = 1 ∧ isKeyed (s.tblKind b id) = true ∧ (List.range (parN p 2)).any (fun i => !s.pageLocked b id (parN p 1 + i)) = true then
      (s, deny eLOCKED)
    else if parF p 0 0 2 = 1 ∧ id = 26 ∧ s.treeLocked b (parN p 1) (parN p 2) = true then (s, deny eLOCKED)
    else if p.slow then (s.setFld TBL_STATUS.DMA b 1, laterRep)
    else s.dmaDo p

/-- The background end of a `TBL_DMA`. -/
def State.tblDmaEnd (s : State) (p : Packet) : State :=
  let r := s.dmaDo p
  r.1.finish 0x0205 (fun q => q.target == p.target) r.2

/-! ## TBL_AUDIT (R253) -/

/-- The mismatch KIND of a slot against a shadow entry: 0 for none. -/
def State.auditKind (s : State) (b id slot shadow : Nat) (ignAge ignLearned : Bool) : Nat :=
  let k := s.tblKind b id
  let e := s.entry b id slot
  if s.parityAt b id slot then 4
  else if isKeyed k = false then (if e = shadow then 0 else 1)
  else if ignLearned && ((entryValid k e && entryLearned k e) || (entryValid k shadow && entryLearned k shadow)) then 0
  else
    let norm := fun x => if ignAge && isEm k then putBits x (ageBit k) 4 0 else x
    match entryValid k e, entryValid k shadow with
    | true, true => if norm e = norm shadow then 0 else 1
    | true, false => 2
    | false, true => 3
    | false, false => 0

/-- The mismatch words of a bough. -/
def State.auditBough (s : State) (p : Packet) (b : Nat) : List Nat :=
  let id := parF p 0 0 5
  let first := parN p 1 * 64
  (List.range (Nat.min (parN p 2 * 64) (s.tblCap b id - first))).filterMap (fun i =>
    let kd := s.auditKind b id (first + i) (envAt p i) (parF p 0 8 1 == 1) (parF p 0 9 1 == 1)
    if kd = 0 then none else some (first + i + kd * 2 ^ 24 + b * 2 ^ 28))

/-- The comparison of a checked `TBL_AUDIT`: the table's parity errors are met, nothing else changes. -/
def State.auditDo (s : State) (p : Packet) : State × Rep :=
  let bs := instances p.target 8
  let all := bs.flatMap (fun b => s.auditBough p b)
  let s := eachIn bs s (fun s b =>
    let id := parF p 0 0 5
    let first := parN p 1 * 64
    ((s.readMaint b id ((List.range (parN p 2 * 64)).map (fun i => first + i)) 9).1).setFld TBL_STATUS.AUDIT b 0)
  let s := eachIn bs s (fun s b => s.endVendor b 1)
  (s, if parN p 2 = 0 then ok else ok ([wd (parN p 2 * bs.length), wd all.length] ++ (all.take (parF p 0 16 16)).map wd))

/-- TBL_AUDIT's effect. -/
def effTblAudit (p : Packet) (s : State) : State × Rep :=
  let bs := instances p.target 8
  let id := parF p 0 0 5
  let pages := fun b => ceilDiv (s.tblCap b id) 64
  if onlyBits p 0 0xFFFF031F = false ∨ 4096 < parF p 0 16 16 ∨ bs.any (fun b => s.tblKind b id == .absent) = true then (s, badPar 0)
  else if bs.any (fun b => parN p 2 != 0 && decide (pages b ≤ parN p 1)) = true then (s, badPar 1)
  else if bs.any (fun b => parN p 2 != 0 && decide (pages b < parN p 1 + parN p 2)) = true then (s, badPar 2)
  else if parN p 3 % 64 ≠ 0 then (s, badPar 3)
  else if parN p 5 ≠ 0 then (s, badPar 5)
  else if 8 ≤ id ∧ id < 16 ∧ bs.any (fun b => s.fld UC_STATUS.MODE b == 0) = true then (s, deny eLOCKED)
  else if p.slow then (eachIn bs s (fun s b => (s.setFld TBL_STATUS.AUDIT b 1).startVendor b 1), laterRep)
  else s.auditDo p

/-- The background end of a `TBL_AUDIT`. -/
def State.tblAuditEnd (s : State) (p : Packet) : State :=
  let r := s.auditDo p
  r.1.finish 0x0206 (fun q => q.target == p.target)
    (if resultsFit p r.2 then r.2 else refuse eLEN r.2.results.length)

/-! ## Counters (R232) -/

/-- A counter update of a stage: bank · 8,192 + index of table 27; an index of 8,192 or more changes nothing. -/
def State.countEntry (s : State) (b bank idx frames bytes src : Nat) : State :=
  if 8192 ≤ idx then s.bump .TBL_CNT_RANGE b
  else
    let i := bank * 8192 + idx
    if s.parityAt b 27 i then s.parityMet b 27 i src
    else
      let e := s.entry b 27 i
      let f := (nbits e 0 48 + frames) % 2 ^ 48
      let y := (nbits e 48 64 + bytes) % 2 ^ 64
      s.setEntry b 27 i (f + y * 2 ^ 48)

/-- TBL_PROFILE. -/
def execTblProfile (p : Packet) (s : State) : Host.Outcome State Fault Refusal := .next (s.command 0x0201 effTblProfile p)
/-- TBL_INSERT. -/
def execTblInsert (p : Packet) (s : State) : Host.Outcome State Fault Refusal := .next (s.command 0x0202 effTblInsert p)
/-- TBL_DELETE. -/
def execTblDelete (p : Packet) (s : State) : Host.Outcome State Fault Refusal := .next (s.command 0x0203 effTblDelete p)
/-- TBL_LOOKUP. -/
def execTblLookup (p : Packet) (s : State) : Host.Outcome State Fault Refusal := .next (s.command 0x0204 effTblLookup p)
/-- TBL_DMA. -/
def execTblDma (p : Packet) (s : State) : Host.Outcome State Fault Refusal := .next (s.command 0x0205 effTblDma p)
/-- TBL_AUDIT. -/
def execTblAudit (p : Packet) (s : State) : Host.Outcome State Fault Refusal := .next (s.command 0x0206 effTblAudit p)
/-- TBL_LOCK. -/
def execTblLock (p : Packet) (s : State) : Host.Outcome State Fault Refusal := .next (s.command 0x0207 effTblLock p)
/-- TBL_LEARN_CFG. -/
def execTblLearnCfg (p : Packet) (s : State) : Host.Outcome State Fault Refusal := .next (s.command 0x0208 effTblLearnCfg p)

end Sys2Proof.Machine
end

