-- ==== Sys2Proof/Machine/Base.lean ====
section
/-! DEFINITION. What the vendor base program does (R186, R69, R391, R393): PTP event messages, Grist packets, host frames sent
directly, and the SRv6 behaviours of RFC 8986. The program's words are the vendor's (log 46): which lookup answer names which
behaviour is an opaque constant of Config; the behaviour itself is defined here, on a frame's bytes before its FCS. -/
namespace Sys2Proof.Machine

/-- The bytes that the base program may look at: those its parser may consume (R176). -/
def parsable (d : List Nat) : List Nat := d.take 256

/-- Where the PTP header of a frame starts: behind EtherType 0x88F7, or behind a UDP header to port 319, with that UDP header and
the IP header above it. -/
def ptpAt (d : List Nat) : Option (Nat × Option (Layer × Nat)) :=
  let o := if tagged d then (if tagged (d.drop 4) then 20 else 16) else 12
  if be16 d o = 0x88F7 then some (o + 2, none)
  else
    ((layers d).foldl (fun (a : Option Layer × Option (Nat × Option (Layer × Nat))) l =>
      match l.kind with
      | .udp =>
        match a.1, a.2 with
        | some ip, none => if be16 d (l.off + 2) = 319 then (a.1, some (l.off + 8, some (ip, l.off))) else a
        | _, _ => a
      | .ext _ => a
      | _ => (some l, a.2)) (none, none)).2

/-- A PTP event message: messageType 0 to 3 (R186). -/
def ptpEvent (d : List Nat) : Bool :=
  match ptpAt (parsable d) with
  | some (o, _) => decide (o < (parsable d).length) && decide (d.getD o 0 % 16 ≤ 3)
  | none => false

/-- Where the Grist header of a frame starts: behind a UDP header to port 46,503 (R391). -/
def gristAt (d : List Nat) : Option Nat :=
  let d := parsable d
  ((layers d).find? (fun l => l.kind == .udp && be16 d (l.off + 2) == 46503 && decide (l.off + 24 ≤ d.length))).map (fun l => l.off + 8)

/-- GRIST_MAP (R393): the answer of table 30. -/
def State.gristLookup (s : State) (key : Nat) : LookupRes :=
  let g := key % 2 ^ 20
  match tabGet s.grist.map (g, 0) 0 with
  | 0 => {}
  | e => if g < 65536 then { hit := true, adb := 514 + 16 * (e - 1) } else {}

/-! ## SRv6 (RFC 8986) -/

/-- The behaviours of R186. -/
inductive Srv6 where
  | end_ (psp usd : Bool)
  | endX (psp usd : Bool)
  | endDX4
  | endDX6
  | endDT4
  | endDT6
  | endDT46
  | encaps (red : Bool)
  deriving DecidableEq, Repr

/-- The behaviour of a code of `Config.srv6Of`; none for codes above 14 and for 0. -/
def srv6Code (n : Nat) : Option Srv6 :=
  match n with
  | 1 => some (.end_ false false) | 2 => some (.end_ true false) | 3 => some (.end_ false true) | 4 => some (.end_ true true)
  | 5 => some (.endX false false) | 6 => some (.endX true false) | 7 => some (.endX false true) | 8 => some (.endX true true)
  | 9 => some .endDX4 | 10 => some .endDX6 | 11 => some .endDT4 | 12 => some .endDT6 | 13 => some .endDT46
  | 14 => some (.encaps false) | 15 => some (.encaps true) | _ => none

/-- The segment routing header of the IPv6 header whose next-header byte is at `nh`, and the byte that names it. -/
def srhFrom (d : List Nat) : Nat → Nat → Nat → Option (Nat × Nat)
  | 0, _, _ => none
  | n + 1, nh, o =>
    if d.length < o + 8 then none
    else match d.getD nh 0 with
      | 43 => if d.getD (o + 2) 0 = 4 then some (o, nh) else none
      | 0 => srhFrom d n o (o + (d.getD (o + 1) 0 + 1) * 8)
      | 60 => srhFrom d n o (o + (d.getD (o + 1) 0 + 1) * 8)
      | _ => none

/-- The upper-layer header under an IPv6 header: its protocol and where it starts, behind at most 4 extension headers. -/
def upperFrom (d : List Nat) : Nat → Nat → Nat → Nat × Nat
  | 0, nh, o => (d.getD nh 0, o)
  | n + 1, nh, o =>
    match d.getD nh 0 with
    | 0 => upperFrom d n o (o + (d.getD (o + 1) 0 + 1) * 8)
    | 43 => upperFrom d n o (o + (d.getD (o + 1) 0 + 1) * 8)
    | 60 => upperFrom d n o (o + (d.getD (o + 1) 0 + 1) * 8)
    | _ => (d.getD nh 0, o)

/-- The outer IPv6 header at `ip` and its extension headers are removed, where the header under them is IPv4 (4) or IPv6 (41) as
allowed; none discards the packet. -/
def decap (d : List Nat) (ip : Nat) (allowed : List Nat) : Option (List Nat) :=
  let u := upperFrom d 4 (ip + 6) (ip + 40)
  if allowed.contains u.1 = false ∨ d.length ≤ u.2 then none
  else
    let link := d.take ip
    let link := if be16 d (ip - 2) = 0x86DD then putBytes link (ip - 2) (beBytes 2 (if u.1 = 4 then 0x0800 else 0x86DD)) else link
    some (link ++ d.drop u.2)

/-- The step to the next segment (RFC 8986, 4.1): hop limit and Segments Left go down, the next segment becomes the destination;
PSP removes the header where no segment is left. None discards the packet. -/
def nextSegment (d : List Nat) (ip o nh : Nat) (psp : Bool) : Option (List Nat) :=
  let sl := d.getD (o + 3) 0
  let le := d.getD (o + 4) 0
  let n := d.getD (o + 1) 0
  let hop := d.getD (ip + 7) 0
  if hop ≤ 1 ∨ n / 2 < le + 1 ∨ le + 1 < sl ∨ d.length < o + 8 * (n + 1) then none
  else
    let d := putBytes d (ip + 7) [hop - 1]
    let d := putBytes d (o + 3) [sl - 1]
    let d := putBytes d (ip + 24) (sliceZ d (o + 8 + 16 * (sl - 1)) 16)
    if psp && sl == 1 then
      let d := putBytes d nh [d.getD o 0]
      let d := putBytes d (ip + 4) (beBytes 2 (be16 d (ip + 4) - 8 * (n + 1)))
      some (d.take o ++ d.drop (o + 8 * (n + 1)))
    else some d

/-- End and End.X: with segments left, the next segment; else USD decapsulates, and without USD the packet is discarded. -/
def srv6End (d : List Nat) (ip : Nat) (psp usd : Bool) : Option (List Nat) :=
  match srhFrom d 4 (ip + 6) (ip + 40) with
  | some (o, nh) => if d.getD (o + 3) 0 = 0 then (if usd then decap d ip [4, 41] else none) else nextSegment d ip o nh psp
  | none => if usd then decap d ip [4, 41] else none

/-- The decapsulating behaviours: a packet with segments left is discarded. -/
def srv6Decap (d : List Nat) (ip : Nat) (allowed : List Nat) : Option (List Nat) :=
  match srhFrom d 4 (ip + 6) (ip + 40) with
  | some (o, _) => if d.getD (o + 3) 0 = 0 then decap d ip allowed else none
  | none => decap d ip allowed

/-- H.Encaps and H.Encaps.Red (RFC 8986, 5.1, 5.2): an outer IPv6 header, with a segment routing header over the policy's segments;
the reduced form leaves the first segment out, and the header where it was the only one. -/
def srv6Encaps (d : List Nat) (l : Layer) (red : Bool) (first hop : Nat) (src : Nat) (segs : List Nat) : List Nat :=
  match segs with
  | [] => d
  | dst :: more =>
    let inner := d.drop l.off
    let proto := if l.kind = .ip4 then 4 else 41
    let listed := if red then more else segs
    let srh := if listed = [] then []
      else [proto, 2 * listed.length, 4, segs.length - 1, listed.length - 1, 0, 0, 0] ++ (listed.reverse.flatMap (fun x => beBytes 16 x))
    let link := d.take l.off
    let link := if be16 d (l.off - 2) = 0x0800 ∨ be16 d (l.off - 2) = 0x86DD then putBytes link (l.off - 2) (beBytes 2 0x86DD) else link
    link ++ beBytes 4 (6 * 2 ^ 28 + first % 2 ^ 28) ++ beBytes 2 (srh.length + inner.length) ++
      [if srh = [] then proto else 43, hop % 256] ++ beBytes 16 src ++ beBytes 16 dst ++ srh ++ inner

/-- A behaviour applied to a frame: the frame it makes; none discards it. Frames the behaviour is not for stay as they are. `adb` is
the action data that named it. -/
def srv6Apply (x : Srv6) (adb : Nat) (d : List Nat) : Option (List Nat) :=
  match outerIp d with
  | none => some d
  | some l =>
    match x with
    | .encaps red => some (srv6Encaps d l red (Config.srv6First adb).toNat (Config.srv6Hop adb).toNat (Config.srv6Src adb).toNat
        ((Config.srv6Segs adb).map (fun a => a.toNat)))
    | .end_ psp usd => if l.kind = .ip6 then srv6End d l.off psp usd else some d
    | .endX psp usd => if l.kind = .ip6 then srv6End d l.off psp usd else some d
    | .endDX4 => if l.kind = .ip6 then srv6Decap d l.off [4] else some d
    | .endDX6 => if l.kind = .ip6 then srv6Decap d l.off [41] else some d
    | .endDT4 => if l.kind = .ip6 then srv6Decap d l.off [4] else some d
    | .endDT6 => if l.kind = .ip6 then srv6Decap d l.off [41] else some d
    | .endDT46 => if l.kind = .ip6 then srv6Decap d l.off [4, 41] else some d

/-! ## The end of the program -/

/-- A host frame that goes directly (R69): EG_PORT and EG_Q of its HOST_META. -/
def hostDirect (m : Nat) (v : Phv) : Phv :=
  if nbit m 14 && decide (m < 2 ^ 15) then ((v.setMf 3 0 10 (nbits m 0 10)).setMf 3 10 4 (nbits m 10 4)).setMf 3 14 1 1 else v

/-- A Grist packet (R393): to its group's engines, or discarded where the group is not open. -/
def State.gristMark (s : State) (d : List Nat) (v : Phv) : Phv :=
  match gristAt d with
  | none => v.setMf 3 18 1 0
  | some o =>
    let r := s.gristLookup (beNat (sliceZ d (o + 2) 3))
    if r.hit then ((((v.setMf 3 0 10 r.adb).setMf 3 10 4 0).setMf 3 14 1 1).setMf 3 18 1 1).setMf 5 0 16 o else v.setMf 3 15 1 1

/-- What the base program has decided when stage 15 ends, and the frame it makes where it ran an SRv6 behaviour. -/
def State.baseEnd (s : State) (f : PFrame) : PFrame :=
  if s.flag (if f.bank = 0 then UC_STATUS.BASE0 else UC_STATUS.BASE1) (f.twig / 8) = false then f
  else
    let d := bodyOf f.src.bytes
    let v := if f.src.port = 512 then hostDirect f.src.hmeta f.phv else f.phv
    let v := s.gristMark d (v.setMf 5 16 1 (b2n (ptpEvent d)))
    match f.srv6 with
    | none => { f with phv := v }
    | some (code, adb) =>
      match (srv6Code code).map (fun x => srv6Apply x adb d) with
      | none => { f with phv := v }
      | some none => { f with phv := v.setMf 3 15 1 1 }
      | some (some e) => { f with phv := v, out := some e }

end Sys2Proof.Machine
end

