-- ==== Sys2Proof/Machine/Classify.lean ====
section
/-! DEFINITION. The classifier (R255 to R272): TCAM entries, decision trees, the search, and its commands. A partition is
named by its PIPE instance. -/
namespace Sys2Proof.Machine

/-! ## Storage (R255, R259, R266) -/

/-- A TCAM entry of a partition. -/
def State.tcamAt (s : State) (part i : Nat) : TcamEnt := tabGet s.tcam (part, i) {}

/-- Write a TCAM entry; `CLS_STATUS`.VALID_CNT follows. -/
def State.setTcam (s : State) (part i : Nat) (e : TcamEnt) : State :=
  let was := (s.tcamAt part i).valid
  let n := s.fld CLS_STATUS.VALID_CNT part
  let s := { s with tcam := tabSet s.tcam (part, i) e {} }
  if was = e.valid then s else s.setFld CLS_STATUS.VALID_CNT part (if e.valid then n + 1 else n - 1)

/-- The slot of table 26 that holds node `n` of a half of a partition. -/
def nodeSlot (part half n : Nat) : Nat := part % 8 * 4096 + half * 2048 + n

/-- A tree node. -/
def State.node (s : State) (part half n : Nat) : Nat := s.entry (part / 8) 26 (nodeSlot part half n)

/-- TYPE of a node. -/
def nodeType (n : Nat) : Nat := nbits n 0 2
/-- NBITS. -/
def nodeNbits (n : Nat) : Nat := nbits n 2 4
/-- POSk. -/
def nodePos (n k : Nat) : Nat := nbits n (6 + 9 * k) 9
/-- CHILD. -/
def nodeChild (n : Nat) : Nat := nbits n 78 11
/-- NEXT. -/
def nodeNext (n : Nat) : Nat := nbits n 2 11
/-- NEXT_EN. -/
def nodeNextEn (n : Nat) : Bool := nbit n 13
/-- Rule `r` of a leaf. -/
def nodeRule (n r : Nat) : Nat := nbits n (16 + 224 * r) 224

/-- A slice of a rule passes on a key (R266). -/
def slicePass (rule key k : Nat) : Bool :=
  let b := 32 + 48 * k
  let v := nbits key (nbits rule b 9) 16
  decide (nbits rule (b + 16) 16 ≤ v) && decide (v ≤ nbits rule (b + 32) 16)

/-- A rule of a leaf matches a key: valid, and every enabled slice passes. -/
def ruleHit (rule key : Nat) : Bool := nbit rule 0 && (List.range 4).all (fun k => !nbit rule (1 + k) || slicePass rule key k)

/-! ## The search (R256 to R258, R265, R267) -/

/-- CLS_RESULT (R258). -/
def clsWord (data : Nat) (hit par tree : Bool) : Nat :=
  data % 2 ^ 24 + b2n hit * 2 ^ 24 + b2n par * 2 ^ 25 + b2n tree * 2 ^ 26

/-- The planted error of a TCAM entry (R508): in the parity over VALUE, MASK and VALID, or in that over DATA (R265), kept as kind 18. -/
def tcamPlanted (part i : Nat) (data : Bool) : Planted := ⟨tgt cBOUGH (part / 8), if data then 18 else 2, part % 8 * 8192 + i⟩

/-- A parity of a TCAM entry fails. -/
def State.tcamBad (s : State) (part i : Nat) (data : Bool) : Bool := s.flt.planted.contains (tcamPlanted part i data)

/-- A TCAM parity error is met (R265): the entry is cleared, counted and reported; two on one entry within 1 s move it to a
spare (R501). -/
def State.tcamParity (s : State) (part i : Nat) : State :=
  let t := tgt cPIPE part
  let s := (s.setTcam part i { s.tcamAt part i with valid := false }).unplant (tcamPlanted part i false)
  let s := s.unplant (tcamPlanted part i true)
  let s := ((s.bump .CLS_PAR_ERR part).ev CLS_EVENT.PARITY part).setFld CLS_PAR_INDEX.INDEX part i
  let s := s.raise 0x0704 kCORRECTED t (i % 2 ^ 13) true
  let mech := 0x0704 * 2 ^ 32 + i
  let s := s.notePerm t mech true
  if s.permCount t mech (1000 * msNs) = 2 then
    let n := tabGet s.tcamSpare (part / 8, 0) 0
    if n < 64 then { s with tcamSpare := tabSet s.tcamSpare (part / 8, 0) (n + 1) 0 }.raise 0x0705 kRETIRED t (i % 2 ^ 13) true
    else s.raise 0x0706 kDEGRADED t (i % 2 ^ 13) true
  else s

/-- The matching entry of lowest index. -/
def State.tcamSearch (s : State) (part key : Nat) : Option (Nat × TcamEnt) :=
  (tabRow s.tcam part).find? (fun e => e.2.valid && Nat.land key e.2.mask == e.2.value)

/-- The walk of R267 with `n` reads left, from a node, for physical pipe `pp`: CLS_RESULT. -/
def State.walkTree (s : State) (pp part half key miss : Nat) : Nat → Nat → State × Nat
  | 0, _ => (s, clsWord miss false false true)
  | n + 1, i =>
    let slot := nodeSlot part half i
    let s := s.perf (pipeSet pp) 0x006
    if s.parityAt (part / 8) 26 slot then
      let s := ((s.bump .CLS_PAR_ERR part).ev CLS_EVENT.TREE_PAR part).setFld CLS_PAR_INDEX.NODE part i
      let s := s.setFld CLS_PAR_INDEX.HALF part half
      let s := s.raise 0x0707 kCORRECTED (tgt cPIPE part) (i % 2 ^ 11 + half * 2 ^ 11) true
      (s.lineRepeat (part / 8) 26 slot, clsWord miss false true true)
    else
      let w := if s.lineDead (part / 8) 26 slot then 0 else s.node part half i
      if nodeType w = 1 then
        let idx := sumN ((List.range (nodeNbits w)).map (fun k => b2n (nbit key (nodePos w k)) * 2 ^ k))
        s.walkTree pp part half key miss n (nodeChild w + idx)
      else match [0, 1].find? (fun r => ruleHit (nodeRule w r) key) with
      | some r => (s, clsWord (nbits (nodeRule w r) 5 24) true false true)
      | none => if nodeNextEn w then s.walkTree pp part half key miss n (nodeNext w) else (s, clsWord miss false false true)

/-- The frames of a partition that a lookup engine still has (R180). -/
def State.clsEarlier (s : State) (part : Nat) : List PFrame :=
  (s.pframes.flatMap (fun e => e.2)).filter (fun f => f.twig == part && f.cls.isNone)

/-- One classifier search of a partition by physical pipe `pp`, counted (R256 to R258, R272, R383). -/
def State.clsSearch (s : State) (pp part key : Nat) : State × Nat :=
  let key := key % 2 ^ 320
  let miss := s.fld CLS_MISS.MISS_DATA part
  let s := s.bump .CLS_LOOKUPS part
  let r := match s.fld CLS_STATUS.MODE part with
    | 0 =>
      match s.tcamSearch part key with
      | some (i, e) =>
        if s.tcamBad part i true then (s.tcamParity part i, clsWord miss false true false)
        else (s, clsWord e.data true false false)
      | none => (s, clsWord miss false false false)
    | 1 => s.walkTree pp part (s.fld CLS_STATUS.ACT_HALF part) key miss 16 0
    | _ => (s, clsWord miss false false false)
  (if nbit r.2 24 then r.1.bump .CLS_HITS part else r.1, r.2)

/-- TCAM_SCRUB: the scrubber checks both parities of an entry (R265); until then a search takes an entry whose VALUE, MASK or VALID is
bad as stored. -/
def execTcamScrub (part i : Nat) (s : State) : Host.Outcome State Fault Refusal :=
  .next (if s.tcamBad part i false || s.tcamBad part i true then s.tcamParity part i else s)

/-! ## CLS_WRITE (R261) -/

/-- A record of `CLS_WRITE`: OP, INDEX, its words after word 0, and the index of word 0. -/
structure ClsRec where
  op    : Nat
  index : Nat
  data  : List Word
  at0   : Nat
  deriving DecidableEq, Repr

/-- The words of a record, by OP. -/
def recLen (op : Nat) : Nat :=
  match op with
  | 0 => 22
  | 1 => 1
  | _ => 2

/-- The first offending word of a record, relative to its word 0. -/
def clsRecBad (w0 : Word) (d : List Word) : Option Nat :=
  let op := bitsAt w0 0 2
  if bitsAt w0 2 14 ≠ 0 ∨ bitsAt w0 29 3 ≠ 0 ∨ 8191 < bitsAt w0 16 13 ∨ (op = 3 ∧ bitsAt w0 16 13 ≠ 0) then some 0
  else match op with
  | 0 =>
    match (List.range 10).find? (fun i => (d.getD i 0 &&& ~~~(d.getD (10 + i) 0)) != 0) with
    | some i => some (1 + i)
    | none => if bitsAt (d.getD 20 0) 24 8 ≠ 0 then some 21 else none
  | 1 => none
  | _ => if bitsAt (d.getD 0 0) 24 8 ≠ 0 then some 1 else none

/-- `n` records from parameter word `at0`, and the first offending word if any. -/
def clsRecs : Nat → Nat → List Word → List ClsRec × Option Nat
  | 0, at0, ws => ([], if ws = [] then none else some at0)
  | _ + 1, at0, [] => ([], some at0)
  | n + 1, at0, w0 :: rest =>
    let k := recLen (bitsAt w0 0 2) - 1
    if rest.length < k then ([], some at0)
    else match clsRecBad w0 (rest.take k) with
    | some w => ([], some (at0 + w))
    | none =>
      let r := clsRecs n (at0 + 1 + k) (rest.drop k)
      (⟨bitsAt w0 0 2, bitsAt w0 16 13, rest.take k, at0⟩ :: r.1, r.2)

/-- Apply a record (R262). -/
def State.clsApply (s : State) (part : Nat) (r : ClsRec) : State :=
  match r.op with
  | 0 =>
    let e : TcamEnt := ⟨wordsNat (r.data.take 10), wordsNat ((r.data.drop 10).take 10), (r.data.getD 20 0).toNat, true⟩
    ((s.setTcam part r.index e).unplant (tcamPlanted part r.index false)).unplant (tcamPlanted part r.index true)
  | 1 => s.setTcam part r.index { s.tcamAt part r.index with valid := false }
  | 2 => (s.setTcam part r.index { s.tcamAt part r.index with data := (r.data.getD 0 0).toNat }).unplant (tcamPlanted part r.index true)
  | _ => s.setFld CLS_MISS.MISS_DATA part ((r.data.getD 0 0).toNat)

/-- A record suits the entry it names (R261): OP 0 an invalid one, OP 1 and 2 a valid one. -/
def State.clsFits (s : State) (part : Nat) (r : ClsRec) : Bool :=
  match r.op with
  | 0 => !(s.tcamAt part r.index).valid
  | 1 => (s.tcamAt part r.index).valid
  | 2 => (s.tcamAt part r.index).valid
  | _ => true

/-- Apply records in order; the first that does not fit stops with the index of its word 0. -/
def State.clsAll (s : State) (part : Nat) : List ClsRec → State × Option Nat
  | [] => (s, none)
  | r :: rest => if s.clsFits part r then (s.clsApply part r).clsAll part rest else (s, some r.at0)

/-- CLS_WRITE's effect. -/
def effClsWrite (p : Packet) (s : State) : State × Rep :=
  let n := parF p 0 0 16
  if onlyBits p 0 0xFFFF = false ∨ 1024 < n then (s, badPar 0)
  else
    let r := clsRecs n 1 (parWords p 1 (parCount p - 1))
    match r.2 with
    | some w => (s, badPar w)
    | none =>
      let q := s.clsAll (tInst p.target) r.1
      match q.2 with
      | some w => (s, refuse eSTATE w)
      | none => (q.1, ok [wd n])

/-! ## CLS_TREE_LOAD (R268, R269) -/

/-- The first offending word of a node. -/
def nodeBad (n : Nat) : Option Nat :=
  let firstSet := fun (lo : Nat) => (List.range 16).find? (fun w =>
    nbits n (32 * w) 32 / 2 ^ (if lo ≤ 32 * w then 0 else Nat.min 32 (lo - 32 * w)) != 0)
  match nodeType n with
  | 0 => firstSet 2
  | 1 =>
    if nodeNbits n < 1 ∨ 8 < nodeNbits n then some 0
    else match (List.range 8).find? (fun k => 319 < nodePos n k || (decide (nodeNbits n ≤ k) && nodePos n k != 0)) with
    | some k => some ((6 + 9 * k) / 32)
    | none => if 2047 < nodeChild n + 2 ^ nodeNbits n - 1 then some 2 else firstSet 89
  | 2 =>
    if nbits n 14 2 ≠ 0 then some 0
    else match [0, 1].findSome? (fun r =>
        let rule := nodeRule n r
        let base := 16 + 224 * r
        if nbits rule 29 3 ≠ 0 then some ((base + 29) / 32)
        else (List.range 4).findSome? (fun k =>
          let b := 32 + 48 * k
          if 304 < nbits rule b 9 ∨ nbits rule (b + 9) 7 ≠ 0 then some ((base + b) / 32)
          else if nbits rule (b + 32) 16 < nbits rule (b + 16) 16 then some ((base + b + 16) / 32)
          else none)) with
    | some w => some w
    | none => firstSet 464
  | _ => some 0

/-- The nodes a node leads to: every child index of an internal node, NEXT of a leaf. -/
def nodeKids (n : Nat) : List Nat :=
  if nodeType n = 1 then (List.range (2 ^ nodeNbits n)).map (fun k => nodeChild n + k)
  else if nodeType n = 2 ∧ nodeNextEn n = true then [nodeNext n]
  else []

/-- The levels of reads from the root, at most `fuel`: the depth, or the node and cause that R268 refuses. -/
def State.treeCheck (s : State) (part half : Nat) : Nat → Nat → List Nat → Except (Nat × Nat) Nat
  | _, depth, [] => .ok depth
  | 0, _, i :: _ => .error (i, 2)
  | fuel + 1, depth, lvl =>
    match lvl.find? (fun i => nodeType (s.node part half i) == 0) with
    | some i => .error (i, 1)
    | none =>
      let kids := lvl.flatMap (fun i => nodeKids (s.node part half i))
      s.treeCheck part half fuel (depth + 1) ((List.range 2048).filter (fun i => kids.contains i))

/-- Write nodes into a half. -/
def State.putNodes (s : State) (part half start : Nat) (ns : List Nat) : State :=
  eachIn (List.range ns.length) s (fun s i =>
    let slot := nodeSlot part half (start + i)
    (s.setEntry (part / 8) 26 slot (ns.getD i 0)).wellLine (part / 8) 26 (s.lineOf (part / 8) 26 slot))

/-- A switch of a partition is over once every frame dealt before it has its result (R269). -/
def State.clsSettle (s : State) (part : Nat) : State :=
  if s.flag CLS_STATUS.SWITCHING part = false ∨ (s.clsEarlier part).any (fun f => f.before) = true then s
  else (s.setFld CLS_STATUS.SWITCHING part 0).ev CLS_EVENT.SWITCH_DONE part

/-- The switch of a partition (R269): frames dealt to an engine before it have been searched with the old mode and half, and the
switch is under way until their results have returned. -/
def State.clsSwitch (s : State) (part mode depth : Nat) : State :=
  let s := if mode = 1 then (s.setFld CLS_STATUS.ACT_HALF part (1 - s.fld CLS_STATUS.ACT_HALF part)).setFld CLS_STATUS.DEPTH part depth else s
  let s := (s.setFld CLS_STATUS.MODE part mode).setFld CLS_STATUS.SWITCHING part 1
  let mark : PFrame → PFrame := fun f => if f.twig = part ∧ f.cls = none then { f with before := true } else f
  let s : State := { s with pframes := s.pframes.map (fun e => (e.1, e.2.map mark)) }
  s.clsSettle part

/-- The nodes of a CLS_TREE_LOAD are written, and the partition switches where it asks for that. -/
def State.treeApply (s : State) (p : Packet) : State × Rep :=
  let part := tInst p.target
  let mode := parF p 0 0 2
  let half := 1 - s.fld CLS_STATUS.ACT_HALF part
  let n := parF p 0 16 16
  let t := s.putNodes part half (parN p 1) ((List.range n).map (fun i => wordsNat (parWords p (2 + 16 * i) 16)))
  if parF p 0 8 1 = 0 then (t, if n = 0 then ok else ok [0])
  else if mode = 1 then
    match t.treeCheck part half 16 0 [0] with
    | .error (i, c) => (s.ev CLS_EVENT.TREE_REJECT part, refuse eSTATE (i + c * 2 ^ 16))
    | .ok d => (t.clsSwitch part 1 d, ok [wd d])
  else (t.clsSwitch part mode 0, ok [0])

/-- A PENDING CLS_TREE_LOAD that switches has done its work. -/
def State.clsTreeEnd (s : State) (p : Packet) : State :=
  let r := (s.setFld CLS_STATUS.SWITCHING (tInst p.target) 0).treeApply p
  r.1.finish 0x0303 (fun q => q.target == p.target) r.2

/-- CLS_TREE_LOAD's effect. COUNT 0 without SWITCH is a no-op (R58). -/
def effClsTreeLoad (p : Packet) (s : State) : State × Rep :=
  let part := tInst p.target
  let mode := parF p 0 0 2
  let n := parF p 0 16 16
  let start := parN p 1
  let want := 2 + 16 * n
  if onlyBits p 0 0xFFFF0103 = false ∨ mode = 3 ∨ 2048 < n then (s, badPar 0)
  else if parCount p ≠ want then (s, refuse eLEN (lenDetail want want))
  else if 2047 < start ∨ 2048 < start + n then (s, badPar 1)
  else match (List.range n).findSome? (fun i => (nodeBad (wordsNat (parWords p (2 + 16 * i) 16))).map (fun w => 2 + 16 * i + w)) with
    | some w => (s, badPar w)
    | none =>
      let r := s.treeApply p
      if p.slow = true ∧ parF p 0 8 1 = 1 ∧ r.2.status = 0 then (s.setFld CLS_STATUS.SWITCHING part 1, laterRep) else r

/-! ## CLS_READ (R271) -/

/-- The 22 words of an entry. -/
def State.clsWords (s : State) (part i : Nat) : List Word :=
  let e := s.tcamAt part i
  wd (b2n e.valid + b2n (s.tcamBad part i false || s.tcamBad part i true) * 2 + i * 2 ^ 16) ::
    (natWords 10 e.value ++ natWords 10 e.mask ++ [wd e.data])

/-- CLS_READ's effect. -/
def effClsRead (p : Packet) (s : State) : State × Rep :=
  let first := parF p 0 0 13
  let n := parF p 0 16 16
  if bitsAt (par p 0) 13 3 ≠ 0 ∨ 256 < n ∨ 8192 < first + n then (s, badPar 0)
  else (s, ok ((List.range n).flatMap (fun i => s.clsWords (tInst p.target) (first + i))))

/-- CLS_WRITE. -/
def execClsWrite (p : Packet) (s : State) : Host.Outcome State Fault Refusal := .next (s.command 0x0301 effClsWrite p)
/-- CLS_READ. -/
def execClsRead (p : Packet) (s : State) : Host.Outcome State Fault Refusal := .next (s.command 0x0302 effClsRead p)
/-- CLS_TREE_LOAD. -/
def execClsTreeLoad (p : Packet) (s : State) : Host.Outcome State Fault Refusal := .next (s.command 0x0303 effClsTreeLoad p)

end Sys2Proof.Machine
end

