-- ==== Sys2Proof/Machine/Spread.lean ====
section
/-! DEFINITION. Path spreading and flow pinning (R273 to R293): the two hashes, ECMP groups and members, flowlets, spraying,
the imbalance monitor, and the commands. -/
namespace Sys2Proof.Machine

/-- A bough's hashing. -/
def State.spreadB (s : State) (b : Nat) : SpreadRec := tabGet s.spreads (b, 0) {}
/-- Write it. -/
def State.setSpreadB (s : State) (b : Nat) (v : SpreadRec) : State := { s with spreads := tabSet s.spreads (b, 0) v {} }

/-- The hash input bytes of a field set (R273): IN_PORT low byte first, then each container at its width, lowest byte first. -/
def hashBytes (ids : List Nat) (inPort : Bool) (port : Nat) (cont : Nat → Nat) : List Nat :=
  (if inPort then bytesOf 2 port else []) ++ ids.flatMap (fun id => bytesOf (contBytes id) (cont id))

/-- HASH_P (R273). -/
def State.hashP (s : State) (b port : Nat) (cont : Nat → Nat) : Nat :=
  crcBytes (s.fld PS_PIN_SEED.SEED b) (hashBytes (s.spreadB b).pinIds (s.spreadB b).pinPort port cont)

/-- HASH_E with ECMP seed `sel` (R273). -/
def State.hashE (s : State) (b sel port : Nat) (cont : Nat → Nat) : Nat :=
  crcBytes (s.fld PS_SEED.SEED (b * 4 + sel)) (hashBytes (s.spreadB b).ecmpIds (s.spreadB b).ecmpPort port cont)

/-! ## Groups and members (R278, R279) -/

/-- BASE of a group entry. -/
def grpBase (e : Nat) : Nat := nbits e 0 16
/-- SIZE. -/
def grpSize (e : Nat) : Nat := nbits e 16 10
/-- MODE: 0 HASH, 1 FLOWLET, 2 SPRAY. -/
def grpMode (e : Nat) : Nat := nbits e 26 2
/-- VALID. -/
def grpValid (e : Nat) : Bool := nbit e 31
/-- GAP. -/
def grpGap (e : Nat) : Nat := nbits e 32 10
/-- SEED_SEL. -/
def grpSeed (e : Nat) : Nat := nbits e 44 2
/-- MON_EN. -/
def grpMon1 (e : Nat) : Bool := nbit e 46
/-- GEN. -/
def grpGen (e : Nat) : Nat := nbits e 48 4

/-- The reserved bits of a group entry are zero. -/
def grpRsvOk (e : Nat) : Bool := nbits e 28 3 == 0 && nbits e 42 2 == 0 && !nbit e 47 && nbits e 52 76 == 0

/-- A group entry that frames may use (R278). -/
def grpOk (e : Nat) : Bool :=
  grpValid e && grpMode e != 3 && decide (1 ≤ grpSize e) && decide (grpSize e ≤ 512) && decide (grpBase e + grpSize e ≤ 65536)
    && decide (1 ≤ grpGap e) && decide (grpGap e ≤ 1000) && grpRsvOk e

/-- The first offending word of a group entry that is to be written (R286). -/
def grpBad (e : Nat) : Option Nat :=
  let rsv := if nbits e 28 3 ≠ 0 then some 0 else if nbits e 42 2 ≠ 0 ∨ nbit e 47 = true ∨ nbits e 52 12 ≠ 0 then some 1
    else if nbits e 64 32 ≠ 0 then some 2 else if nbits e 96 32 ≠ 0 then some 3 else none
  if grpValid e = false then rsv
  else if grpMode e = 3 ∨ grpSize e = 0 ∨ 512 < grpSize e ∨ 65536 < grpBase e + grpSize e ∨ nbits e 28 3 ≠ 0 then some 0
  else if grpGap e = 0 ∨ 1000 < grpGap e then some 1
  else rsv

/-- A member slot that frames may use (R279). -/
def memberOk (m : Nat) : Bool := nbit m 15 && decide (nbits m 0 10 ≤ 585) && nbits m 33 31 == 0

/-! ## Selection (R280 to R285) -/

/-- The µs units of the flowlet table: bits [25:10] of TOD in ns (R281). -/
def State.flNow (s : State) : Nat := s.tod / 2 ^ 10 % 65536

/-- A flowlet entry. -/
def State.flowlet (s : State) (b i : Nat) : Flowlet := tabGet s.flowlets (b, i) {}
/-- Write it. -/
def State.setFlowlet (s : State) (b i : Nat) (f : Flowlet) : State := { s with flowlets := tabSet s.flowlets (b, i) f {} }

/-- FL_IDX (R276). -/
def flIdx (hashP group : Nat) : Nat := Nat.xor (hashP / 2 ^ 14 % 2 ^ 18) (group % 2 ^ 18)

/-- The slot a 16-bit selector chooses (R280). -/
def slotOf (e sel : Nat) : Nat := grpBase e + sel % 65536 * grpSize e / 2 ^ 16

/-- The selection of R282 on pipe `p` for group `grp` with entry `g`, flowlet index `i`: the slot and the outcome of R284. -/
def State.flSelect (s : State) (p grp g i hashE rand : Nat) : State × Nat × Nat :=
  let b := p / 8
  let f := s.flowlet b i
  let now := s.flNow
  let live := f.valid && decide ((now + 65536 - f.last % 65536) % 65536 < grpGap g)
  let r := if live then s.readDirect b 25 f.slot (p % 8) else (s, 0)
  let mine := f.group == grp && f.gen == grpGen g && memberOk r.2
  let s := r.1
  if live && mine then (s.setFlowlet b i { f with last := now }, f.slot, 3)
  else
    let slot := slotOf g (if grpMode g = 1 then rand / 2 ^ 16 else hashE / 2 ^ 16)
    if live && f.group != grp then (s.bump .PS_FL_COLLIDE b, slot, 5)
    else ((s.setFlowlet b i ⟨true, grpGen g, grp, slot, now⟩).bump .PS_FL_NEW b |>.perf (boughSet b) 0x106, slot, if grpMode g = 1 then 2 else 1)

/-- The selection of stage 13 (R280, R282, R285): the slot and the outcome of R284. -/
def State.ecmpSelect (s : State) (p grp g i hashE rand q : Nat) : State × Nat × Nat :=
  let b := p / 8
  if grpMode g = 2 ∧ nbit (s.spreadB b).rtMask q = true then (s.bump .PS_SPRAYED b, slotOf g (rand / 2 ^ 16), 4)
  else s.flSelect p grp g i hashE rand

/-- Charge bytes to a slot in the current window (R280). -/
def State.chargeSlot (s : State) (b slot bytes : Nat) : State :=
  { s with slotBytes := tabSet s.slotBytes (b, slot) (tabGet s.slotBytes (b, slot) 0 + bytes) 0 }

/-- FLOWLET_SWEEP: entries aged 16,384 units or more become invalid (R281). -/
def execFlowletSweep (b : Nat) (s : State) : Host.Outcome State Fault Refusal :=
  .next { s with flowlets := s.flowlets.filter (fun e =>
    !(e.1.1 == b && decide (16384 ≤ (s.flNow + 65536 - e.2.last % 65536) % 65536))) }

/-! ## The imbalance monitor (R289 to R291) -/

/-- The groups that the monitor evaluates: valid, mode HASH, MON_EN 1, two slots or more. -/
def State.watched (s : State) (b : Nat) : List (Nat × Nat) :=
  (tabRow s.tbl (tblRow b 24)).filter (fun e => grpOk e.2 && grpMode e.2 == 0 && grpMon1 e.2 && decide (2 ≤ grpSize e.2))

/-- The bytes of a group's slots in the window: their sum and their greatest. -/
def State.grpLoad (s : State) (b e : Nat) : Nat × Nat :=
  (List.range (grpSize e)).foldl (fun (a : Nat × Nat) k =>
    let x := tabGet s.slotBytes (b, grpBase e + k) 0
    (a.1 + x, Nat.max a.2 x)) (0, 0)

/-- Evaluate one group at a window's end (R290). -/
def State.evalGroup (s : State) (b : Nat) (g : Nat × Nat) : State :=
  let v := s.spreadB b
  let m := tabGet s.grpMon (b, g.1) {}
  let put := fun (s : State) (m : GrpMon) => { s with grpMon := tabSet s.grpMon (b, g.1) m {} }
  if tabGet s.grpNew (b, g.1) false then put s { m with hot := 0, eval := false }
  else
    let l := s.grpLoad b g.2
    let hot := decide (2 ^ v.minLog2 ≤ l.1) && decide (l.1 * v.thresh < l.2 * grpSize g.2 * 16)
    let run := if hot then Nat.min v.run (m.hot + 1) else 0
    if l.1 = 0 then put s.drawn ⟨run, s.free % 256, true⟩
    else put s ⟨run, Nat.min 255 (l.2 * grpSize g.2 * 16 / l.1), true⟩

/-- Whether the monitor may replace seed `k` now (R291): no reseed since reset, or HOLDOFF minutes ago. -/
def State.mayReseed (s : State) (b k : Nat) : Bool :=
  match (s.spreadB b).reseeds.getD k none with
  | none => true
  | some t => decide (t + (s.spreadB b).holdoff * 60000 * msNs ≤ s.now)

/-- Replace a seed by a value of the bough's random source, never the old one (R291): a free value. -/
def State.reseed (s : State) (b k : Nat) : State :=
  let old := s.fld PS_SEED.SEED (b * 4 + k)
  let new := s.free % 2 ^ 32
  let s := s.drawn
  let s := s.setFld PS_SEED.SEED (b * 4 + k) (if new = old then new + 1 else new)
  let v := s.spreadB b
  let s := s.setSpreadB b { v with reseeds := v.reseeds.set k (some s.now) }
  let s := { s with grpMon := s.grpMon.filterMap (fun (e : Key × GrpMon) =>
    if e.1.1 == b && grpSeed (s.entry b 24 e.1.2) == k then
      let m : GrpMon := { e.2 with hot := 0 }
      if m = ({} : GrpMon) then none else some (e.1, m)
    else some e) }
  (s.ev PS_EVENT.RESEED b).bump .PS_RESEEDS b

/-- The report and the reseeds of an evaluation in which groups reached RUN (R291), lowest group first. -/
def State.hotGroups (s : State) (b : Nat) (hot : List (Nat × Nat)) : State :=
  match hot with
  | [] => s
  | g :: _ =>
    let v := s.spreadB b
    let ratio := (tabGet s.grpMon (b, g.1) {}).ratio
    let seeds := [0, 1, 2, 3].filter (fun k => hot.any (fun h => grpSeed h.2 == k))
    let may := seeds.filter (fun k => v.auto && s.mayReseed b k)
    let t := s.tod
    let s := s.ev PS_EVENT.HOT b
    let s := s.setReg .PS_IMB_LAST b (wd (g.1 + grpSeed g.2 * 2 ^ 16 + b2n (may.contains (grpSeed g.2)) * 2 ^ 18 + ratio * 2 ^ 24))
    let s := (s.setReg .PS_IMB_TIME_LO b (lo32 t)).setReg .PS_IMB_TIME_HI b (hi32 t)
    let s := if s.flag PS_CTL.IRQ_EN b then s.msix (10 + b) else s
    let s := eachIn may s (fun s k => s.reseed b k)
    let held := seeds.filter (fun k => !may.contains k)
    if v.auto then eachIn held s (fun s _ => (s.ev PS_EVENT.SUPPRESSED b).bump .PS_RESEED_SUPP b) else s

/-- A new window starts: what was charged is the last completed window. -/
def State.newWindow (s : State) (b : Nat) : State :=
  { s with
    slotLast := (tabRow s.slotBytes b).foldl (fun t e => tabSet t (b, e.1) e.2 0) (tabDropRow s.slotLast b),
    slotBytes := tabDropRow s.slotBytes b,
    grpNew := tabDropRow s.grpNew b }

/-- Where the monitor's window of a bough ends on TOD (R289). -/
def State.winEnd (s : State) (b : Nat) : Nat := (s.spreadB b).winStart + (s.spreadB b).win * 1000000000

/-- A window of bough `b` ends and its groups are evaluated (R289 to R291); the next starts where it ended. -/
def State.windowEnds (s : State) (b : Nat) : State :=
  let gs := s.watched b
  let next := s.winEnd b
  let s := { s with grpMon := s.grpMon.filterMap (fun (e : Key × GrpMon) =>
    if e.1.1 == b then (let m : GrpMon := { e.2 with eval := false }; if m = ({} : GrpMon) then none else some (e.1, m)) else some e) }
  let s := eachIn gs s (fun s g => s.evalGroup b g)
  let hot := gs.filter (fun g =>
    let m := tabGet s.grpMon (b, g.1) {}
    m.eval && m.hot == (s.spreadB b).run)
  let s := s.hotGroups b hot
  let s := s.newWindow b
  let s := s.setSpreadB b { s.spreadB b with winStart := next }
  s.setFld PS_WIN.SEQ b (s.fld PS_WIN.SEQ b + 1)

/-- IMB_WINDOW_END: WIN seconds of TOD have passed since the window began. -/
def execImbWindowEnd (b : Nat) (s : State) : Host.Outcome State Fault Refusal :=
  .next (if s.tod < s.winEnd b then s else s.windowEnds b)

/-! ## Computed register views (R293) -/

/-- `PS_GRP_MON` for the group `PS_GRP_SEL` names. -/
def State.grpMonWord (s : State) (b : Nat) : Word :=
  let m := tabGet s.grpMon (b, s.fld PS_GRP_SEL.GROUP b) {}
  wd (m.hot + m.ratio * 2 ^ 8 + b2n m.eval * 2 ^ 16)

/-- The bytes of the slot `PS_SLOT_SEL` names in the last completed window. -/
def State.slotView (s : State) (b : Nat) : Nat := tabGet s.slotLast (b, s.fld PS_SLOT_SEL.SLOT b) 0

/-- `PS_WIN`: seconds into the window and windows completed. -/
def State.winWord (s : State) (b : Nat) : Word :=
  wd ((s.tod - (s.spreadB b).winStart) / 1000000000 % 4096 + s.fld PS_WIN.SEQ b * 2 ^ 16)

/-! ## Commands (R286 to R288) -/

/-- ECMP_GROUP_SET's effect. -/
def effEcmpGroupSet (p : Packet) (s : State) : State × Rep :=
  let first := parF p 0 0 13
  let n := parF p 0 16 16
  let want := 1 + 4 * n
  if bitsAt (par p 0) 13 3 ≠ 0 ∨ 1024 < n then (s, badPar 0)
  else if parCount p ≠ want then (s, refuse eLEN (lenDetail want want))
  else if 8192 < first + n then (s, badPar 0)
  else
    let es := batch p 4 n
    match (List.range n).findSome? (fun i => (grpBad (es.getD i 0)).map (fun w => 1 + 4 * i + w)) with
    | some w => (s, badPar w)
    | none =>
      (eachIn (instances p.target 8) s (fun s b =>
        eachIn (List.range n) s (fun s i => s.setEntry b 24 (first + i) (es.getD i 0))), ok)

/-- The first offending word of a member slot that is to be written (R287). -/
def memberBad (m : Nat) : Option Nat := if 585 < nbits m 0 10 then some 0 else if nbits m 33 31 ≠ 0 then some 1 else none

/-- ECMP_MEMBER_SET's effect. -/
def effEcmpMemberSet (p : Packet) (s : State) : State × Rep :=
  let first := parF p 0 0 16
  let n := parF p 0 16 13
  let want := 1 + 2 * n
  if bitsAt (par p 0) 29 3 ≠ 0 ∨ 4096 < n then (s, badPar 0)
  else if parCount p ≠ want then (s, refuse eLEN (lenDetail want want))
  else if 65536 < first + n then (s, badPar 0)
  else
    let es := batch p 2 n
    match (List.range n).findSome? (fun i => (memberBad (es.getD i 0)).map (fun w => 1 + 2 * i + w)) with
    | some w => (s, badPar w)
    | none =>
      (eachIn (instances p.target 8) s (fun s b =>
        eachIn (List.range n) s (fun s i => s.setEntry b 25 (first + i) (es.getD i 0))), ok)

/-- The length that each SEL of `HASH_CFG` calls for. -/
def hashLen (sel : Nat) : Nat :=
  match sel with
  | 3 => 2
  | 4 => 3
  | _ => 6

/-- The container ids of a field set in words `w` to `w` + 2. -/
def setIds (p : Packet) (w : Nat) : List Nat := (List.range 12).map (fun k => parF p (w + k / 4) (8 * (k % 4)) 8)

/-- The first offending word of a field set (SEL 0 and 1). -/
def setBad (p : Packet) : Option Nat :=
  let n := parF p 2 0 4
  if !onlyBits p 2 0x1F || 12 < n || (n == 0 && parF p 2 4 1 == 0) then some 2
  else ((List.range 12).find? (fun k =>
    let id := (setIds p 3).getD k 0
    if k < n then 0xDF < id else id != 0)).map (fun k => 3 + k / 4)

/-- The first offending word of `HASH_CFG` (R288). -/
def hashBad (p : Packet) : Option Nat :=
  match parF p 0 0 4 with
  | 0 => setBad p
  | 1 => if parN p 1 ≠ 0 then some 1 else setBad p
  | 2 => if onlyBits p 5 0xF = false ∨ parF p 5 0 4 = 0 then some 5 else none
  | 3 => if onlyBits p 1 0xFFFF then none else some 1
  | _ =>
    if onlyBits p 1 0xFFFF0FFF = false ∨ parF p 1 0 12 = 0 ∨ 3600 < parF p 1 0 12 ∨ parF p 1 16 8 = 0 ∨ parF p 1 24 8 < 17 then some 1
    else if onlyBits p 2 0x07FF013F = false ∨ parF p 2 0 6 < 20 ∨ 48 < parF p 2 0 6 ∨ parF p 2 16 11 = 0 ∨ 1440 < parF p 2 16 11 then some 2
    else none

/-- Apply `HASH_CFG` to a bough. -/
def State.hashSet (s : State) (p : Packet) (b : Nat) : State :=
  let v := s.spreadB b
  let ids := (setIds p 3).take (parF p 2 0 4)
  match parF p 0 0 4 with
  | 0 => (s.setSpreadB b { v with pinIds := ids, pinPort := parF p 2 4 1 == 1 }).setReg .PS_PIN_SEED b (par p 1)
  | 1 => s.setSpreadB b { v with ecmpIds := ids, ecmpPort := parF p 2 4 1 == 1 }
  | 2 => eachIn [0, 1, 2, 3] s (fun s k =>
      if nbit (parN p 5) k then
        (s.setReg .PS_SEED (b * 4 + k) (par p (1 + k))).setSpreadB b
          { s.spreadB b with reseeds := (s.spreadB b).reseeds.set k (some s.now) }
      else s)
  | 3 => s.setSpreadB b { v with rtMask := parF p 1 0 16 }
  | _ =>
    let s := s.setSpreadB b { v with
      win := parF p 1 0 12, run := parF p 1 16 8, thresh := parF p 1 24 8, minLog2 := parF p 2 0 6,
      auto := parF p 2 8 1 == 1, holdoff := parF p 2 16 11, winStart := s.tod }
    { s with slotBytes := tabDropRow s.slotBytes b, grpNew := tabDropRow s.grpNew b }

/-- HASH_CFG's effect. -/
def effHashCfg (p : Packet) (s : State) : State × Rep :=
  let sel := parF p 0 0 4
  if onlyBits p 0 0xF = false ∨ 4 < sel then (s, badPar 0)
  else if parCount p ≠ hashLen sel then (s, refuse eLEN (lenDetail (hashLen sel) (hashLen sel)))
  else if sel = 0 ∧ s.mode ≠ mSTEEPING then (s, deny eSTATE)
  else match hashBad p with
  | some w => (s, badPar w)
  | none => (eachIn (instances p.target 8) s (fun s b => s.hashSet p b), ok)

/-- ECMP_GROUP_SET. -/
def execEcmpGroupSet (p : Packet) (s : State) : Host.Outcome State Fault Refusal := .next (s.command 0x0209 effEcmpGroupSet p)
/-- ECMP_MEMBER_SET. -/
def execEcmpMemberSet (p : Packet) (s : State) : Host.Outcome State Fault Refusal := .next (s.command 0x020A effEcmpMemberSet p)
/-- HASH_CFG. -/
def execHashCfg (p : Packet) (s : State) : Host.Outcome State Fault Refusal := .next (s.command 0x020B effHashCfg p)

end Sys2Proof.Machine
end

