-- ==== Sys2Proof/Machine/Micro.lean ====
section
/-! DEFINITION. Microwords (R196 to R209): the fetch with its match registers and faults, what a word does, the next address, the
routines of the pipes' stages, and the long routines of the walkers with their safe points. -/
namespace Sys2Proof.Machine

/-! ## Contexts and fetch (R192, R208, R209, R212) -/

/-- What a word runs in: its store, its SRC code (R225), the pipe for stage sources, the bank whose footprint it may fetch, its
match-register set with the image of its vendor patch words, whether it is a long routine. -/
structure UCtx where
  st   : Nat
  src  : Nat
  pipe : Nat := 0
  bank : Nat
  set  : List Word
  vend : Nat := 0
  long : Bool := false
  deriving DecidableEq, Repr

/-- The TARGET that a context's fetch faults name. -/
def ctxTarget (c : UCtx) : Nat :=
  if c.src < 0x20 then tgt cPIPE c.pipe else if c.src < 0x40 then storeTgt c.st else tgt cGRIST (c.src - 0x40)

/-- Where a fetch of address `a` reads: the patch word that an enabled match register gives for a ROM address. -/
def patched (set : List Word) (a : Nat) : Nat :=
  if 0x4000 ≤ a then a
  else match set.find? (fun w => bitsAt w 31 1 == 1 && bitsAt w 0 14 == a) with
  | some w => 0x4000 + bitsAt w 16 9
  | none => a

/-- The cause of a fetch fault that the address alone gives (R208, R212), before the word is read. -/
def State.addrFault (s : State) (c : UCtx) (a : Nat) : Option Nat :=
  if storeHas c.st a = false then some 1
  else if a < 0x6000 then none
  else if 0x40 ≤ c.src then some 0
  else if s.fld UC_STATUS.MODE c.st = 0 ∨ inFoot (s.footprint c.st c.bank) a = false then some 0
  else none

/-- A fetch fault of a context. -/
def State.ctxFault (s : State) (c : UCtx) (a cause : Nat) (inj : Bool := false) : State :=
  let s := s.fetchFault c.st a cause c.src (c.pipe % 8) (ctxTarget c) inj
  if c.src < 0x20 then s.perf (pipeSet c.pipe) 0x00C else s

/-! ## Legality (R198 to R200, R239, R333, R385) -/

/-- The container ids of a word that are in use. -/
def usedIds (w : Nat) : List Nat :=
  let op := nbits w 130 5
  (if op = 0 then [] else [nbits w 122 8]) ++ (if op = 0 ∨ op = 1 then [] else [nbits w 114 8]) ++
  (if op = 0 ∨ nbit w 105 = true then [] else [nbits w 106 8])

/-- A word breaks R200 in a long routine: a field that must be zero, or a container id below 0xE0. -/
def longBad (w : Nat) : Bool :=
  nbits w 86 3 != 0 || nbits w 56 3 != 0 || nbits w 47 2 != 0 || nbits w 40 3 != 0 || nbits w 36 4 != 0 ||
  (usedIds w).any (fun i => decide (i < 0xE0)) ||
  [nbits w 122 8, nbits w 114 8, nbits w 106 8, nbits w 72 8].any (fun i => i != 0 && decide (i < 0xE0))

/-- A word's table operation is a fetch fault in its context. -/
def State.topBad (s : State) (c : UCtx) (w : Nat) : Bool :=
  let op := nbits w 33 3
  let id := nbits w 28 5
  if op = 0 then false
  else if c.src = 0x10 ∨ c.src = 0x11 ∨ 0x40 ≤ c.src then true
  else if id = 28 then !(c.long && c.st == 8 && (op == 4 || op == 5))
  else if id = 29 then !(c.long && op == 4)
  else if c.st = 8 then true
  else if isEm (s.tblKind c.st id) = false then true
  else if op = 6 then c.src != 0x21
  else if c.long then op == 7
  else decide (4 ≤ op)

/-- A word that may not run in its context: fetch fault cause 3. -/
def State.wordIllegal (s : State) (c : UCtx) (w : Nat) : Bool := (microBad w).isSome || (c.long && longBad w) || s.topBad c w

/-- A fetch (R208): the word, or the cause of its fault; a ROM word's planted error is met once (R508), and an uncorrectable vendor
patch word is rewritten at once (R195). -/
def State.fetch (s : State) (c : UCtx) (a : Nat) : State × Option Nat :=
  let r := patched c.set a
  match s.addrFault c r with
  | some k => (s.ctxFault c a k, none)
  | none =>
    if s.wordBad c.st r then
      let s' := s.ctxFault c a 2 (!s.ucodeBad.contains (c.st, r))
      (if r < 0x4100 then s'.unplant (storePlanted c.st r) else s', none)
    else
      let w := s.storeWordOf c.vend c.st r
      if s.wordIllegal c w then (s.ctxFault c a 3, none) else (s, some w)

/-! ## The data fields (R197 to R199) -/

/-- The ALU at a width of `n` bits: its result and C. -/
def aluRun (op n a b : Nat) : Nat × Nat :=
  let m := 2 ^ n
  match op with
  | 1 => (b, 0)
  | 2 => ((a + b) % m, (a + b) / m)
  | 3 => ((a + m - b) % m, b2n (a < b))
  | 4 => (Nat.min (m - 1) (a + b), (a + b) / m)
  | 5 => (a - b, b2n (a < b))
  | 6 => (Nat.land a b, 0)
  | 7 => (Nat.lor a b, 0)
  | 8 => (Nat.xor a b, 0)
  | 9 => (Nat.land a (m - 1 - b), 0)
  | 10 => (a * 2 ^ (b % 32) % m, 0)
  | 11 => (a / 2 ^ (b % 32), 0)
  | 12 => (Nat.min a b, 0)
  | 13 => (Nat.max a b, 0)
  | 14 => ((a + m - b) % m, b2n (a < b))
  | 15 => (Nat.lor a (2 ^ (b % 32)) % m, 0)
  | _ => (if nbit a (b % 32) then a - 2 ^ (b % 32) else a, 0)

/-- The bits of a metadata word that a program may write (R174). -/
def metaMask (k : Nat) : Nat :=
  match k with
  | 0 => 0
  | 1 => 0
  | 2 => 0
  | 3 => 0x1FFFFF
  | 4 => 0x3FFFF
  | 7 => 0x3FFF
  | 8 => 0
  | 9 => 0x7FFFF
  | 10 => 0
  | 11 => 0
  | _ => 2 ^ 32 - 1

/-- A program's write of a container: only the bits it may write change. -/
def Phv.write (v : Phv) (long : Bool) (id x : Nat) : Phv :=
  if long || decide (id < 0xE0) then v.put id x
  else
    let m := metaMask (id - 0xE0)
    let old := v.get id
    v.put id (old - Nat.land old m + Nat.land x m)

/-- The effects of a word on containers, valid bits, flags and the loop counter: every source is read from `v`, and the writes
apply in the order of R199. -/
def wordData (long : Bool) (w : Nat) (v : Phv) : Phv :=
  let he := nbits w 86 3
  let adst := nbits w 72 8
  let op := nbits w 130 5
  let dst := nbits w 122 8
  let n := 8 * contBytes dst
  let a := v.get (nbits w 114 8) % 2 ^ n
  let b := (if nbit w 105 then nbits w 89 16 else v.get (nbits w 106 8)) % 2 ^ n
  let r := aluRun op n a b
  let t := v
  let t := if he = 1 then t.setInst (nbits w 80 6) true else if he = 2 then t.setInst (nbits w 80 6) false else t
  let t := if he = 3 then t.write long adst (nbits v.adb (8 * nbits w 68 4) (8 * contBytes adst)) else t
  let t := if op = 0 then t
    else
      let t := if op = 14 then t else t.write long dst r.1
      { t with flags := b2n (r.1 == 0) + r.2 * 2 + r.1 / 2 ^ (n - 1) * 4 + b2n (a == b) * 8, alu := r.1 % 16 }
  let md := 0xE0 + nbits w 61 5
  let bus := nbits v.adb (32 * nbits w 59 2) 32
  let old := v.get md
  let t := match nbits w 66 2 with
    | 1 => t.write long md bus
    | 2 => t.write long md (Nat.lor old bus)
    | 3 => t.write long md (Nat.land old (2 ^ 32 - 1 - bus))
    | _ => t
  let t := match nbits w 47 2 with
    | 1 => ((t.setMf 3 0 10 (nbits v.adb 0 10)).setMf 3 10 4 (nbits v.adb 10 4)).setMf 3 14 1 1
    | 2 => t.setMf 3 10 4 (nbits w 43 4)
    | 3 => t.setMf 3 14 1 0
    | _ => t
  let t := if nbit w 40 then t.setMf 3 15 1 1 else t
  let t := if nbit w 41 then ((t.setMf 3 16 1 1).setMf 4 0 10 (nbits v.adb 32 10)).setMf 4 10 4 (nbits v.adb 42 4) else t
  let t := if nbit w 42 then (t.setMf 3 17 1 1).setMf 4 14 4 (nbits w 43 4) else t
  let t := match nbits w 56 2 with
    | 1 => (t.setMf 9 16 1 1).setMf 9 0 16 (nbits v.adb 0 16)
    | 2 => (t.setMf 9 16 1 1).setMf 9 0 16 (nbits v.adb 16 16)
    | 3 => t.setMf 9 16 1 0
    | _ => t
  let t := if nbit w 58 then t.setMf 9 17 2 (v.mf 3 19 2) else t
  let t := if nbit w 36 then t.setMf 5 18 1 1 else t
  let t := if nbit w 37 then t.setMf 5 20 1 1 else t
  let t := { t with noSketch := t.noSketch || nbit w 38, flagIns := t.flagIns || nbit w 39 }
  match nbits w 26 2 with
  | 1 => { t with loop := nbits w 89 16 }
  | 2 => { t with loop := v.loop - 1 }
  | _ => t

/-! ## The next address (R201, R202) -/

/-- What a condition vector reads beside the header vector: BAD, the outcome of the last table operation (DONE, FOUND, ERR in
bits 0 to 2), pending requests (FAULT, INT, PREEMPT in bits 0 to 2), the context's LFSR. -/
structure CvIn where
  bad  : Bool := false
  top  : Nat := 0
  pend : Nat := 0
  rand : Nat := 0
  deriving DecidableEq, Repr

/-- Condition vector `sel`, sampled after the word's own writes. -/
def condVec (long : Bool) (v : Phv) (x : CvIn) (sel chdr : Nat) : Nat :=
  if long && (sel == 2 || sel == 3 || (6 ≤ sel && sel ≤ 10) || sel == 13) then 0
  else match sel with
  | 1 => v.flags
  | 2 => v.look
  | 3 => sumN ((List.range 4).map (fun k => b2n (v.has (chdr + k)) * 2 ^ k))
  | 4 => nbits v.adb 0 4
  | 5 => nbits v.adb 4 4
  | 6 => v.mf 3 14 2 + v.mf 3 18 1 * 4 + b2n x.bad * 8
  | 7 => v.mf 3 19 2 + v.mf 9 16 1 * 4
  | 8 => v.mf 10 0 3 + b2n (v.mf 0 12 2 != 0) * 8
  | 9 => v.mf 16 0 4
  | 10 => v.mf 12 0 4
  | 11 => b2n (v.loop == 0) + x.top % 8 * 2
  | 12 => if long then x.pend % 8 else 0
  | 13 => v.mf 0 10 2 + v.mf 5 17 1 * 4
  | 14 => if long then x.rand % 16 else v.mf 11 0 4
  | 15 => v.alu
  | _ => 0

/-- The address after a word. -/
def nextAddr (long : Bool) (v : Phv) (x : CvIn) (w : Nat) : Nat :=
  Nat.lor (nbits w 145 15) (Nat.land (condVec long v x (nbits w 141 4) (nbits w 20 6)) (nbits w 137 4))

/-- END of a word. -/
def wordEnd (w : Nat) : Bool := nbit w 136
/-- SAFE of a word. -/
def wordSafe (w : Nat) : Bool := nbit w 135
/-- WAIT of a word. -/
def wordWait (w : Nat) : Bool := nbit w 19

/-! ## Per-packet routines (R203, R204) -/

/-- A frame's routine in a stage: its context, the stage's key, BAD as known. -/
structure PCtx where
  ctx : UCtx
  key : Nat := 0
  bad : Bool := false
  deriving DecidableEq, Repr

/-- The counter update of a word (R198, R232), on the values it met. -/
def State.wordCount (s : State) (b w adb frames bytes src : Nat) : State :=
  let idx := nbits adb (if nbit w 53 then 16 else 0) 16
  match nbits w 54 2 with
  | 1 => s.countEntry b (nbits w 49 4) idx frames bytes src
  | 2 => s.countEntry b (nbits w 49 4) idx frames 0 src
  | 3 => s.countEntry b (nbits w 49 4) idx 0 bytes src
  | _ => s

/-- The learn request of a word (R239): ACTION from IMM, DATA from M12 to M15 or M16 to M19. -/
def learnOf (w : Nat) (v : Phv) (key src walker : Nat) : LearnReq :=
  let base := if nbit w 97 then 0xF0 else 0xEC
  {
    op := nbits w 33 3, table := nbits w 28 5, key := key, action := nbits w 89 8,
    data := sumN ((List.range 4).map (fun k => v.get (base + k) * 2 ^ (32 * k))), src := src, walker := walker }

/-- A word's effects outside the frame: its counter and its table request. -/
def State.packetSide (s : State) (p : PCtx) (w : Nat) (v : Phv) : State :=
  let b := p.ctx.st
  let s := s.wordCount b w v.adb 1 (v.mf 0 16 15) (p.ctx.pipe % 8)
  if nbits w 33 3 = 0 then s
  else
    let k := s.tblKind b (nbits w 28 5)
    (s.learnAsk b (learnOf w v (p.key % 2 ^ emBits k) (p.ctx.pipe % 8) 4)).perf (pipeSet p.ctx.pipe) 0x00F

/-- A per-packet routine from address `a` with `n` words left: the state, the header vector, whether a fetch fault ended it. -/
def State.routine (s : State) (p : PCtx) : Nat → Nat → Phv → State × Phv × Bool
  | 0, _, v => (s, v, false)
  | n + 1, a, v =>
    match s.fetch p.ctx a with
    | (s, none) => (s, v, true)
    | (s, some w) =>
      let t := wordData false w v
      let s := s.packetSide p w v
      let s := if p.ctx.src < 0x10 then s.perf (pipeSet p.ctx.pipe) 0x00A else s
      if wordEnd w then (s, t, false)
      else if n = 0 then
        (((s.bump .UC_OVERRUN_CNT p.ctx.st).ev UC_EVENT.OVERRUN p.ctx.st).perf (pipeSet p.ctx.pipe) 0x00B, t, false)
      else s.routine p n (nextAddr false t { bad := p.bad } w) t

/-- A routine entered at an address: what the flags, the ALU result and the loop counter hold before its first word is not
stated (a free value). -/
def State.runRoutine (s : State) (p : PCtx) (a : Nat) (v : Phv) : State × Phv × Bool :=
  let x := s.free
  s.drawn.routine p 8 a { v with flags := x % 16, alu := x / 16 % 16, loop := x / 256 % 65536 }

/-! ## Long routines (R200, R205, R206) -/

/-- The header vector that a walker's word works on: its scratch words as containers 0xE0 to 0xFF. -/
def walkPhv (k : Walker) : Phv :=
  { cont := k.scratch, adb := k.adb, loop := k.loop, flags := k.flags % 16, alu := k.flags / 16 }

/-- The walker after a word. -/
def walkBack (k : Walker) (v : Phv) : Walker :=
  { k with scratch := v.cont, loop := v.loop, flags := v.flags + 16 * v.alu }

/-- A walker's pending requests, as condition vector 12 shows them. -/
def walkPend (k : Walker) : Nat := b2n k.fault + b2n k.intr * 2 + b2n k.preempt * 4

/-- The counter that SET and CTR of R385 name, for a bough or the Tun. -/
def State.perfValue (s : State) (st word : Nat) : Option Nat :=
  let set := nbits word 0 4
  let ctr := nbits word 4 4
  if 8 < set then none
  else
    let ps := if st = 8 then tunSet set else if set = 8 then boughSet st else pipeSet (st * 8 + set)
    let cyc : Reg := if st = 8 then .PERF_CYC else if set = 8 then .BPERF_CYC else .PPERF_CYC
    if ctr = 0 then some (s.cnt cyc ps.idx)
    else if ctr ≤ ps.n then some (s.cnt ps.cnt (ps.base + ctr - 1))
    else none

/-- A quarter of a WALK line as a number (R333). -/
def State.walkQuarter (s : State) (line q : Nat) : Nat :=
  sumN ((List.range 4).map (fun k => (s.extWord (s.extLine 1 line) (4 * q + k)) * 2 ^ (32 * k)))

/-- Write one. -/
def State.setWalkQuarter (s : State) (line q v : Nat) : State :=
  eachIn (List.range 4) s (fun s k => s.setExtWord (s.extLine 1 line) (4 * q + k) (v / 2 ^ (32 * k) % 2 ^ 32))

/-- Four scratch words from 0xE4 as a number. -/
def scratch4 (v : Phv) : Nat := sumN ((List.range 4).map (fun i => v.get (0xE4 + i) * 2 ^ (32 * i)))

/-- A walker's record with a table operation completed: DONE, FOUND, ERR. -/
def topIs (k : Walker) (found err : Bool) : Walker := { k with top := 1 + b2n found * 2 + b2n err * 4 }

/-- TOP 4, 5 and 6 on an exact-match table of the walker's bough (R239), with the scratch words of `v`, as they stood before the
word (R199); a quarter beyond the entry reads a free value and writes nothing. TOP 6 shows whether the slot is valid: what is made of
the shadow is the audit's (R253). -/
def State.walkEntry (s : State) (b n id op : Nat) (v : Phv) : State :=
  let wr := op == 5
  let k := s.walker b n
  let slot := v.get 0xE0
  let q := v.get 0xE1 % 4
  let kd := s.tblKind b id
  if s.tblCap b id ≤ slot then s.setWalker b n (topIs k false true)
  else
    let par := s.parityAt b id slot
    let s := if par then s.parityMet b id slot 9 else s
    let e := s.entry b id slot
    let found := entryValid kd e
    let k := { k with fault := k.fault || par }
    if wr then
      if s.pageLocked b id slot || (found && entryStatic kd e) then s.setWalker b n (topIs k found true)
      else
        (if q * 16 < kindBytes kd then s.setEntry b id slot (putBits e (128 * q) 128 (scratch4 v)) else s).setWalker b n (topIs k found false)
    else if op = 6 then s.setWalker b n (topIs k found false)
    else if q * 16 < kindBytes kd then s.setWalker b n { topIs k found false with adb := nbits e (128 * q) 128 }
    else s.drawn.setWalker b n { topIs k found false with adb := s.free % 2 ^ 128 }

/-- TOP 4 and 5 on WALK lines (R333), with the scratch words of `v`. -/
def State.walkLine (s : State) (n : Nat) (wr : Bool) (v : Phv) : State :=
  let k := s.walker 8 n
  let line := v.get 0xE0
  let q := v.get 0xE1 % 4
  let s := s.perf (tunSet 8) 0x284
  if s.partLines 1 ≤ line then s.setWalker 8 n (topIs k false true)
  else
    let s := s.extUsed (s.extChan (s.extLine 1 line))
    if wr then (s.setWalkQuarter line q (scratch4 v)).setWalker 8 n (topIs k true false)
    else s.setWalker 8 n { topIs k true false with adb := s.walkQuarter line q }

/-- A word waits for the Cellar: the channel of its WALK line serves no extension access now (R334). -/
def State.walkWaits (s : State) (st w : Nat) (v : Phv) : Bool :=
  st == 8 && nbits w 33 3 != 0 && nbits w 28 5 == 28 && decide (v.get 0xE0 < s.partLines 1) &&
    !s.mayServe (s.extChan (s.extLine 1 (v.get 0xE0))) 2

/-- TOP 4 on a performance counter (R385). -/
def State.walkPerf (s : State) (st n : Nat) (custom : Bool) (v : Phv) : State :=
  let k := s.walker st n
  match (if custom && !s.flag TELEM_PERF_CTL.COUNTER_READ_EN then none else s.perfValue st (v.get 0xE0)) with
  | some v => s.setWalker st n { topIs k true false with adb := v % 2 ^ 64 }
  | none => s.setWalker st n (topIs k false true)

/-- The learn engine runs until a walker's request is done (at most `fuel` requests). -/
def State.untilDone (s : State) (b n : Nat) : Nat → State
  | 0 => s
  | fuel + 1 =>
    if (s.walker b n).top % 2 = 1 ∨ ((s.tables1 b).queue.any (fun r => r.walker == n)) = false then s
    else (s.learnStep b).untilDone b n fuel

/-- A walker's table operation. A WAIT word completes only when it does; until then FOUND and ERR are those of the last one that has
completed (R201). The ageing requests of a bough's walker 0 are those of AGE_TICK (R242): what its words find is a free value. -/
def State.walkTop (s : State) (st n w addr : Nat) (v : Phv) : State :=
  let op := nbits w 33 3
  let id := nbits w 28 5
  if op = 0 then s
  else if id = 28 then s.walkLine n (op == 5) v
  else if id = 29 then s.walkPerf st n (decide (0x6000 ≤ addr)) v
  else if n = 0 ∧ op ≠ 4 then s.drawn.setWalker st n (topIs (s.walker st n) (nbit s.free 0) (nbit s.free 1))
  else if 4 ≤ op then s.walkEntry st n id op v
  else
    let key := sumN ((List.range 10).map (fun k => v.get (0xE0 + k) * 2 ^ (32 * k)))
    let s := s.setWalker st n { s.walker st n with top := (s.walker st n).top / 2 * 2 }
    let s := s.learnAsk st (learnOf w v (key % 2 ^ emBits (s.tblKind st id)) 9 n)
    let s := if (s.tables1 st).queue.any (fun r => r.walker == n) then s else s.topDone st n false true
    if wordWait w then s.untilDone st n 513 else s

/-- How a walker's run ends: at a safe point, at its END word, in a fetch fault, waiting for the Cellar, or at the watchdog's limit. -/
inductive WalkEnd where
  | waits
  | safe (next : Nat)
  | done
  | fault
  | limit (addr : Nat)
  deriving DecidableEq, Repr

/-- A long-routine context, with the set that it uses (R210). -/
def State.walkCtx (s : State) (st n : Nat) : UCtx :=
  {
    st := st, src := if n < 4 then 0x20 + n else 0x3C + n, bank := s.actBank st, set := s.setOf st (s.walker st n).set,
    vend := s.vendOf st (s.walker st n).set, long := true }

/-- A walker runs words from address `a`: `fuel` more words may run without a SAFE word, and `waits` WAIT words have run (R206). -/
def State.walkRun (s : State) (st n : Nat) : Nat → Nat → Nat → State × WalkEnd
  | 0, _, a => (s, .limit a)
  | fuel + 1, waits, a =>
    match s.fetch (s.walkCtx st n) a with
    | (s, none) => (s, .fault)
    | (s, some w) =>
      let v := walkPhv (s.walker st n)
      if s.walkWaits st w v then (s, .waits)
      else
      let t := wordData true w v
      let s := s.setWalker st n (walkBack (s.walker st n) t)
      let s := if st < 8 then s.perf (boughSet st) 0x107 else s
      let s := if st < 8 ∧ nbits w 54 2 ≠ 0 then s.drawn.wordCount st w v.adb 1 (s.free % 2 ^ 14) 9 else s
      let s := s.walkTop st n w (patched (s.walkCtx st n).set a) v
      let k := s.walker st n
      let next := nextAddr true (walkPhv k) { top := k.top, pend := walkPend k, rand := s.free } w
      let s := if nbits w 141 4 = 14 then s.drawn else s
      if wordEnd w then (s, .done)
      else if wordSafe w then (s, .safe next)
      else if 32 ≤ waits + b2n (wordWait w) then (s, .limit a)
      else s.walkRun st n fuel (waits + b2n (wordWait w)) next

/-- At a safe point the context takes its first pending request (R205). -/
def State.takeRequest (s : State) (st n : Nat) : State :=
  let k := s.walker st n
  if k.fault then (s.setWalker st n { k with fault := false }).walkState st n 3
  else if k.preempt then s.walkState st n 2
  else if k.intr then
    if k.stop then (s.setWalker st n { k with intr := false, stop := false }).walkState st n 0 else s.walkState st n 2
  else s

/-- The issue rate of the engine group of a sequencer is limited (R415): it gives way at its safe points. -/
def State.issueHeld (s : State) (n : Nat) : Bool :=
  decide (4 ≤ n) && decide (s.fld GRIST_G_LIMIT.LIM (engineQuad (n - 4)) < 16)

/-- A running context goes on from its last safe point to its next, where it takes a pending request and from where it uses the
current set, or to its END word or a fetch fault. Where it waits, or the watchdog would stop it first, no safe point is reached. What
the fetch fault of a sequencer means for its engine is `State.seqFaulted`. -/
def State.walkOn (s : State) (st n : Nat) : State × WalkEnd :=
  let r := s.walkRun st n 512 0 (s.ctxPc st n)
  match r.2 with
  | .safe next =>
    let t := ((r.1.setCtxPc st n next).takeSet st n).takeRequest st n
    (if t.ctxState st n = 1 ∧ t.issueHeld n = true then t.walkState st n 2 else t, r.2)
  | .done => (r.1.walkState st n 0, r.2)
  | .fault =>
    let t := r.1.walkState st n (if n < 4 then 3 else 0)
    (if st < 8 ∧ n = 0 then (t.ageRestart st).startVendor st 0 else t, r.2)
  | .waits => (s, r.2)
  | .limit _ => (s, r.2)

/-- The watchdog of R206 meets a running context that no SAFE word lets go: fetch fault of cause 4, the context FAULTED. -/
def State.walkWatchdog (s : State) (st n : Nat) : State :=
  if 8 < st ∨ 4 ≤ n ∨ s.ctxState st n ≠ 1 then s
  else
    let r := s.walkRun st n 512 0 (s.ctxPc st n)
    match r.2 with
    | .limit a =>
      let t := ((r.1.ctxFault (s.walkCtx st n) a 4).ev UC_EVENT.SAFE_WDOG st).walkState st n 3
      if st < 8 ∧ n = 0 then (t.ageRestart st).startVendor st 0 else t
    | _ => s

end Sys2Proof.Machine
end

