-- ==== Sys2Proof/Machine/Sched.lean ====
section
/-! DEFINITION. Each port's scheduler: eligibility (R339), the pick (R340, R341), credit (R342), shapers (R343), the dequeue with
its checks (R312, R313, R315), DN frames and their acknowledgement (R164). -/
namespace Sys2Proof.Machine

/-! ## Shapers (R343, R344) -/

/-- Parts of a byte that a bucket counts. -/
abbrev tokUnit : Nat := 65536000

/-- What a rate of 1 Mb/s gains in a ns, in those parts. -/
abbrev tokRate : Nat := 8192

/-- A bucket's tokens at moment `now`, at `rate` Mb/s: they grow at RATE and stop at BURST. A bucket of rate 0 is ignored. -/
def bucketAt (b : Bucket) (rate now : Nat) : Int :=
  if rate = 0 then b.tok else min ((b.burst * tokUnit : Nat) : Int) (b.tok + ((rate * tokRate * (now - b.time) : Nat) : Int))

/-- A bucket is charged `bytes`. -/
def bucketPay (b : Bucket) (rate now bytes : Nat) : Bucket :=
  if rate = 0 then b else { b with tok := bucketAt b rate now - ((bytes * tokUnit : Nat) : Int), time := now }

/-- A bucket takes a rate and a burst: one whose rate changes from 0 starts full, any other keeps its tokens, clipped (R345). -/
def bucketSet (b : Bucket) (old rate burst now : Nat) : Bucket :=
  let full := ((burst * tokUnit : Nat) : Int)
  { tok := if old = 0 ∧ rate ≠ 0 then full else min full (bucketAt b old now), time := now, burst := burst }

/-- MIN_RATE of a queue. -/
def State.minRate (s : State) (q : Nat) : Nat := s.fld SCHED_Q_MIN.RATE q
/-- MAX_RATE of a queue. -/
def State.maxRate (s : State) (q : Nat) : Nat := s.fld SCHED_Q_MAX.RATE q

/-- A queue is below its minimum: its minimum bucket is not negative, with MIN_RATE not 0. -/
def State.underMin (s : State) (q : Nat) : Bool :=
  s.minRate q != 0 && decide (0 ≤ bucketAt (s.squeue q).min (s.minRate q) s.now)

/-- A queue's maximum bucket is below 0. -/
def State.maxBlock (s : State) (q : Nat) : Bool :=
  s.maxRate q != 0 && decide (bucketAt (s.squeue q).max (s.maxRate q) s.now < 0)

/-- A port's bucket is below 0. -/
def State.portBlock (s : State) (p : Nat) : Bool :=
  s.fld SCHED_P_MAX.RATE p != 0 && decide (bucketAt (s.sport p).max (s.fld SCHED_P_MAX.RATE p) s.now < 0)

/-! ## Credit (R342, R164) -/

/-- A port's credit in bytes. -/
def State.credit (s : State) (p : Nat) : Nat :=
  if p < 512 then Nat.min 262144 (32768 + 128 * (speedMbps (s.portSpeed p) / 1000)) else 65536

/-- The DN frames of a bough that are on its clusters or in its resequencing buffer. -/
def State.dnFrames (s : State) (b : Nat) : List DnFrame :=
  (s.dnLink.filter (fun e => e.1.1 / 16 == b)).flatMap (fun e => e.2.filter (fun d => !d.got)) ++ (s.rootBough b).reseq ++
    (s.rootBough b).waiting

/-- The bough's buffer credit has room for a frame of `len` bytes to port `p`: 2 MiB in all, 256 KiB a port (R164). -/
def State.dnRoom (s : State) (p len : Nat) : Bool :=
  let fs := s.dnFrames (egBough p)
  decide (sumN (fs.map dnLen) + len + 16 ≤ 2097152) &&
    decide (sumN ((fs.filter (fun d => d.outPort == p)).map dnLen) + len + 16 ≤ 262144)

/-- The bytes in a FIFO of injected or recirculated frames. -/
def State.injectUsed (s : State) (k : Nat) : Nat := sumN ((tabGet s.injectQ (k, 0) []).map (fun f => f.bytes.length))

/-- The recirculation FIFO of bough `b` is full: its port's queues are not scheduled (R169). -/
def State.recircFull (s : State) (b : Nat) : Bool := decide (32768 ≤ s.injectUsed (2 + b))

/-! ## Eligibility (R339) -/

/-- The length of a queue's head frame. -/
def State.headLen (s : State) (q : Nat) : Nat :=
  match (s.tqueue q).frames with
  | i :: _ => (s.tframe i).bytes.length
  | [] => 0

/-- A port's side of R339: it is UP and in RUN; internal ports are always UP. -/
def State.portReady (s : State) (p : Nat) : Bool :=
  if p < 512 then s.pstate p == pUP && s.holdState p == 0
  else p == 512 || p == 513 || (decide (578 ≤ p ∧ p ≤ 585) && !s.recircFull (p - 578))

/-- The receive ring that queue `q4` of port 512 is mapped to (R70). -/
def State.rxRing (s : State) (q4 : Nat) : Nat :=
  bitsAt (s.reg (if q4 < 8 then .PKT_RX_MAP0 else .PKT_RX_MAP1)) (4 * (q4 % 8)) 3

/-- L of a frame for the host: its length without its FCS, at most 256 for a copy that carries TRUNC (R70). -/
def hostLen (f : TFrame) : Nat := if nbit f.fmeta 25 then Nat.min (f.full - 4) 256 else f.full - 4

/-- The entries of ring `r` that a frame fills. -/
def State.rxNeed (s : State) (r : Nat) (f : TFrame) : Nat := ceilDiv (hostLen f) (2 ^ s.fld PKT_RX_SIZE.BUF_LOG2 r)

/-- The posted entries of ring `r` that no picked frame is promised. -/
def State.rxPosted (s : State) (r : Nat) : Nat :=
  let n := s.fld PKT_RX_SIZE.ENTRIES r
  (s.fld PKT_RX_TAIL.TAIL r + n - s.fld PKT_RX_HEAD.HEAD r) % n -
    sumN ((s.tun.hostOut.filter (fun e => e.2 == r)).map (fun e => s.rxNeed r (s.tframe e.1)))

/-- The side of eligibility that R70 adds for a queue of port 512: the DMA runs, and the ring has the buffers that the head
frame needs, or is unused. -/
def State.hostReady (s : State) (q : Nat) : Bool :=
  let r := s.rxRing (q % 16)
  s.flag PKT_STATUS.RUN && (s.fld PKT_RX_SIZE.ENTRIES r == 0 ||
    (s.tqueue q).frames.head?.all (fun i => decide (s.rxNeed r (s.tframe i) ≤ s.rxPosted r)))

/-- Queue `q` has a frame to send, its port's low-power idle apart (R339, R142). -/
def State.wouldSend (s : State) (q : Nat) : Bool :=
  let p := q / 16
  s.headWhole q && !((s.tqueue q).frames.head?.any (fun i => (s.tframe i).cells.any s.unmoved)) &&
  s.portReady p && (p != 512 || s.hostReady q) && !s.stopped q && s.fld SCHED_Q_STATE.WD q != 1 && !s.maxBlock q && !s.portBlock p &&
  decide ((s.sport p).ahead + s.headLen q ≤ s.credit p) && (p == 512 || p == 513 || s.dnRoom p (s.headLen q))

/-- Queue `q` is eligible (R339). -/
def State.eligible (s : State) (q : Nat) : Bool := !s.lpiHolds (q / 16) && s.wouldSend q

/-- What `SCHED_Q_STATE` reads: WD is stored, the other bits follow the state (R361). -/
def State.qStateWord (s : State) (q : Nat) : Word :=
  if queueServed q then
    wd (b2n (s.eligible q) + b2n (s.underMin q) * 2 + b2n (s.maxBlock q) * 4 + b2n (s.pfcStops q) * 8
      + s.fld SCHED_Q_STATE.WD q * 16)
  else 0

/-! ## The pick (R340, R341) -/

/-- The quantum of a queue. -/
def State.quantum (s : State) (q : Nat) : Nat := 256 * s.fld SCHED_Q_CFG.WEIGHT q

/-- DWRR (R341), over the eligible queues `e` (0 to 11) of port `p`; the fuel bounds the turns. -/
def State.dwrr (s : State) (p : Nat) (e : List Nat) : Nat → State × Option Nat
  | 0 => (s, none)
  | fuel + 1 =>
    let v := s.sport p
    let q := v.ptr
    let id := p * 16 + q
    let s' := if e.contains q && !v.turn then
        (s.setFld SCHED_Q_DEFICIT.BYTES id (s.fld SCHED_Q_DEFICIT.BYTES id + s.quantum id)).setSport p { v with turn := true }
      else s
    if e.contains q && decide (s'.headLen id ≤ s'.fld SCHED_Q_DEFICIT.BYTES id) then (s', some q)
    else (s'.setSport p { s'.sport p with ptr := (q + 11) % 12, turn := false }).dwrr p e fuel

/-- The decision (R340): the queue picked, and whether DWRR picked it. -/
def State.pick (s : State) (p : Nat) : State × Option (Nat × Bool) :=
  let e := (List.range 16).filter (fun q => s.eligible (p * 16 + q))
  match (e.filter (fun q => s.underMin (p * 16 + q))).getLast? with
  | some q => (s, some (q, false))
  | none =>
    match (e.filter (fun q => decide (12 ≤ q))).getLast? with
    | some q => (s, some (q, false))
    | none =>
      if e = [] then (s, none)
      else
        let r := s.dwrr p e 1024
        (r.1, r.2.map (fun q => (q, true)))

/-! ## Dequeue -/

/-- Take the head frame off a queue's list. -/
def State.unlinkHead (s : State) (q i : Nat) : State :=
  let v := s.tqueue q
  let n := (s.tframe i).cells.length
  ((s.setTqueue q { v with frames := v.frames.drop 1, head := v.head - n }).showEmpty q).wdEmpty q

/-- A frame beyond a break is lost (R313): its cells, and Q_LEN and Q_HR with them, are left to the tally audit; ING_USED, which counts the
cells of frames, gives them up at once (DEDUCED from R302). What still arrives of it is discarded. -/
def State.loseFrame (s : State) (i : Nat) : State :=
  let f := s.tframe i
  let s := ((s.bump .TUN_POISON).tunDrop f 9).chargeIng f (chargedCells f) false
  let s := match s.tun.asm.find? (fun e => e.2 == some i) with
    | some e =>
      let s := s.setAsm e.1.1 e.1.2 none
      if e.1.2 = 0 then (s.setInBuf e.1.1 0).dropUp e.1.1 else s
    | none => s
  s.setTframe i {}

/-- A list is broken beyond its first `k` frames: every later frame is lost (R313). -/
def State.cutList (s : State) (q k : Nat) : State :=
  let v := s.tqueue q
  let gone := v.frames.drop k
  if gone = [] then s
  else
    let keepCells := sumN ((v.frames.take k).map (fun i => (s.tframe i).cells.length))
    let nb := Nat.min v.blocks.length (ceilDiv (keepCells - v.head) 16)
    let s := eachIn (v.blocks.drop nb) s (fun s b => s.freeSlot b.chan b.slot)
    let s := eachIn gone s (fun s i => s.loseFrame i)
    let s := s.setTqueue q { v with frames := v.frames.take k, blocks := v.blocks.take nb }
    let s := s.setFld CELLAR_Q_BLOCKS.BLOCKS q nb
    (((s.ev TUN_EVENT.POISON).raise 0x0804 kRETRIED (tgt cTUN 0) q).joinTail q).showEmpty q

/-- The shapers of a queue and its port are charged a frame (R343). -/
def State.payShapers (s : State) (q len : Nat) : State :=
  let p := q / 16
  let n := len + s.fld SCHED_P_CFG.ADJ p
  let v := s.squeue q
  let s := s.setSqueue q { v with
    min := bucketPay v.min (s.minRate q) s.now n, max := bucketPay v.max (s.maxRate q) s.now n, stuck := none }
  s.setSport p { s.sport p with max := bucketPay (s.sport p).max (s.fld SCHED_P_MAX.RATE p) s.now n }

/-- The DWRR state after a dequeue: the deficit pays for a frame that DWRR picked; a queue left with no linked frame loses its
deficit and its turn (R341). -/
def State.payDeficit (s : State) (q len : Nat) (dw : Bool) : State :=
  let p := q / 16
  let s := if dw then s.setFld SCHED_Q_DEFICIT.BYTES q (s.fld SCHED_Q_DEFICIT.BYTES q - len) else s
  if (s.tqueue q).frames = [] then
    let s := s.setFld SCHED_Q_DEFICIT.BYTES q 0
    let v := s.sport p
    if v.ptr = q % 16 ∧ v.turn = true then s.setSport p { v with ptr := (v.ptr + 11) % 12, turn := false } else s
  else s

/-- The DN frame of a Tun frame (R156). -/
def dnOf (f : TFrame) (i pseq soj : Nat) : DnFrame :=
  {
    outPort := f.qid / 16, q := f.qid % 16, ce := f.ce, pseq := pseq, inTs := f.inTs, sojourn := Nat.min (2 ^ 24 - 1) soj,
    fmeta := f.fmeta % 2 ^ 24, pin := f.pin, bytes := f.bytes, bad := f.bad, fid := i, exp := f.exp }

/-- The cells of frame `i` that a reader is to read: those whose bank is still there. A place whose data went with its bank is POISON that
the pick meets (R312). -/
def State.askReads (s : State) (i r k : Nat) : State :=
  let f := s.tframe i
  let s := if (dieCells f).length = f.cells.length then s else s.poisonMet i
  s.setReads r (s.readsAt r k ++ (dieCells f).map (fun x => (i * 2, x))) k

/-- A picked frame goes on its way: to the host's rings, to the Malthouse, or DN on the cluster of its PIN, with the port's next
PSEQ (R16, R156, R161). Its cells are read by the requester of its way (R18). One for the host that is known to be bad is discarded at its
pick (R70). -/
def State.sendDn (s : State) (i soj : Nat) : State :=
  let f := s.tframe i
  let p := f.qid / 16
  let s := s.setTframe i { f with place := 4, pick := s.tod }
  if p = 512 then
    let r := s.rxRing (f.qid % 16)
    if s.fld PKT_RX_SIZE.ENTRIES r = 0 ∨ f.bad = true ∨ f.poison ≠ [] then
      let s := s.bump (if s.fld PKT_RX_SIZE.ENTRIES r = 0 then .PKT_RX_NORING else .PKT_RX_BAD)
      let s := if f.poison = [] then s else s.poisonMet i
      ((s.lostExport f).setAhead 512 ((s.sport 512).ahead - f.bytes.length)).freeFrame i
    else
      let s := s.askReads i 1 1
      { s with tun.hostOut := s.tun.hostOut ++ [(i, r)] }
  else if p = 513 then
    let s := s.askReads i 3 1
    { s with tun.maltOut := s.tun.maltOut ++ [i] }
  else
    let b := egBough p
    let c := b * 16 + s.pinMap b true f.pin
    let v := s.sport p
    let s := s.setSport p { v with pseq := (v.pseq + 1) % 65536 }
    let s := s.setTframe i { s.tframe i with pseq := v.pseq, dnClus := c }
    (s.setDnList c (s.dnList c ++ [dnOf f i v.pseq soj])).askReads i (dnReader c) 0

/-- The head frame of queue `q` is dequeued and sent. -/
def State.dequeue (s : State) (q i : Nat) (dw : Bool) : State :=
  let f := s.tframe i
  let soj := s.sojourn f
  let len := f.bytes.length
  let s := (s.unlinkHead q i).payShapers q len
  let s := (s.payDeficit q len dw).setAhead (q / 16) ((s.sport (q / 16)).ahead + len)
  ((s.countSent f soj).recordPick f soj).sendDn i soj |>.starveCheck q

/-- One decision of port `p` (R340): a frame past its queue's MAX_SOJ is discarded, charges nothing, and the decision picks again
(R315). The fuel bounds the frames discarded. -/
def State.decision (s : State) (p : Nat) (readable : Option Nat) : Nat → State
  | 0 => s
  | fuel + 1 =>
    let r := s.pick p
    match r.2 with
    | none => r.1
    | some (q4, dw) =>
      let q := p * 16 + q4
      let s := r.1
      match readable with
      | some k => ((s.cutList q k).starveCheck q).decision p none fuel
      | none =>
        match (s.tqueue q).frames with
        | [] => s
        | i :: _ =>
          let f := s.tframe i
          let soj := s.sojourn f
          let s := s.maxFld SCHED_Q_HWM_SOJ.NS q soj
          let lim := s.fld TUN_Q_CFG1.MAX_SOJ q
          if lim ≠ 0 ∧ lim * 1000 < soj then
            let s := ((s.bump .TUN_SOJOURN_DROP).tunDrop f 6).unlinkHead q i
            (((s.freeFrame i).payDeficit q 0 false).starveCheck q).decision p none fuel
          else s.dequeue q i dw

/-- SCHED_PICK: one decision of a port's scheduler, in a mode that forwards (R427 to R430), while its quadrant's clock and
quadrant 0's run (R457). A frame scheduled on a
port in low-power idle starts the wake and waits in its queue (R142). -/
def execSchedPick (p : Nat) (broken : Bool) (readable : Nat) (s : State) : Host.Outcome State Fault Refusal :=
  .next (if (s.mode ≠ mSERVICE ∧ s.mode ≠ mDRAIN) ∨ (s.quadStopped 0 || s.quadStopped (egBough p / 2)) = true then s
    else if s.lpiHolds p then (if (List.range 16).any (fun q => s.wouldSend (p * 16 + q)) then s.wakePort p else s)
    else s.decision p (if broken then some readable else none) (s.tun.frames.length + 2))

/-! ## DN frames acknowledged (R164) -/

/-- PSEQ `a` comes before `b`, mod 2^16. -/
def pseqBefore (a b : Nat) : Bool := decide (32768 < (a + 65536 - b % 65536) % 65536)

/-- The bough takes a DN frame into its resequencing buffer; a copy whose PSEQ it has passed on, or holds, is discarded. What a gap skip
passed over comes too late: an export frame that is lost so is reported (R377). -/
def State.takeDn (s : State) (b : Nat) (d : DnFrame) : State :=
  let v := s.rootBough b
  let d := { dnCarried d with since := s.now }
  if v.reseq.any (fun e => e.outPort == d.outPort && e.pseq == d.pseq) then s
  else if pseqBefore d.pseq (s.nextPseq d.outPort) then (if d.dup then s else s.lostExport (s.tframe d.fid))
  else (s.setRootBough b { v with reseq := v.reseq ++ [d] }).showReseq b

/-- DN_ACK: an ACK covers the last flit of the oldest frame a cluster carries DN: its cells are freed. -/
def execDnAck (c : Nat) (s : State) : Host.Outcome State Fault Refusal :=
  .next (match s.dnList c with
    | [] => s
    | d :: _ =>
      if d.got = false ∨ (s.rdir c true).ackPos < frameUnits d.bytes ∨ s.unread d.fid = true then s
      else (s.popDn c).freeFrame d.fid)

end Sys2Proof.Machine
end

