-- ==== Sys2Proof/Machine/Flits.lean ====
section
/-! DEFINITION. A flit at the end of its way (R153 to R155, R158, R164): what the sender sends next meets the lanes, the receiver checks it,
and what it completes goes on. -/
namespace Sys2Proof.Machine

/-- The units that a flit of a direction's retry buffer carries. -/
def State.sentUnits (s : State) (c : Nat) (dn : Bool) (seq : Nat) : Nat :=
  ((s.rdir c dn).retry.find? (fun f => f.seq == seq)).elim 0 SentFlit.units

/-- What newly accepted flits complete at the Tun: a refused frame has gone by, cells enter the input buffer (R301, R302). -/
def State.upCame (s : State) (c : Nat) : State := (s.dropGone c).fillInBuf c

/-- What newly accepted flits complete at the bough: every frame that is now whole enters the resequencing buffer (R164). -/
def State.dnCame (s : State) (c : Nat) : State :=
  let old := s.dnList c
  let new := markGot (s.rdir c true).rxPos old
  let whole := ((old.zip new).filter (fun x => !x.1.got && x.2.got)).map Prod.snd
  eachIn whole (s.setDnList c new) (fun s d => s.takeDn (c / 16) d)

/-- A direction sends: its cluster carries flits, it does not pause for a swap (R160), its clock runs. -/
def State.dirRuns (s : State) (c : Nat) (dn : Bool) : Bool :=
  s.carries c && !(s.rdir c dn).swapOn && !(s.cluster c).clkGone

/-- The bits inverted on the way of a flit: those of the environment and one of a planted error (R508). -/
def State.flitErr (s : State) (c : Nat) (dn : Bool) (err : Nat) : State × Nat × Bool :=
  match s.flitPlanted c dn with
  | some (e, i) => (s.unplant e, Nat.xor (err % 2 ^ 512) (2 ^ i), true)
  | none => (s, err % 2 ^ 512, false)

/-- FLIT_RX: the next flit of a direction arrives (R158). A receiver that is full accepts no DATA or CTRL flit and withholds ACK; what was
sent meanwhile is asked for again every 64 ns (R301; DEDUCED from step 3 of R158, since nothing is lost). -/
def execFlitRx (c : Nat) (dn : Bool) (body crc : Nat) (s : State) : Host.Outcome State Fault Refusal :=
  .next (if s.dirRuns c dn = false then s
    else
      let n := s.nextFlit c dn
      let units := n.2.1.elim 0 (n.1.sentUnits c dn)
      if dn = false ∧ s.upFull c = true ∧ n.2.1 ≠ none then n.1.setRdir c dn { n.1.rdir c dn with nak := true, nakAt := s.now }
      else
        let x := n.1.flitErr c dn (body % 2 ^ 480 + crc * 2 ^ 480)
        let s := x.1.flitIn c dn n.2.1 units (Nat.xor n.2.2 x.2.1) x.2.2
        if dn then s.dnCame c else s.upCame c)

end Sys2Proof.Machine
end

