-- ==== Sys2Proof/Machine/Police.lean ====
section
/-! DEFINITION. Scheduler, shaper and WRED settings (R345, R346, R353), meters (R347 to R351), PFC generation (R354, R355), the PFC
watchdog (R356, R357), high-water marks (R358, R359). -/
namespace Sys2Proof.Machine

/-! ## Scheduler settings -/

/-- SCHED_CFG's effect (R346). -/
def effSchedCfg (p : Packet) (s : State) : State × Rep :=
  let w := parF p 1 0 11
  match firstBad p [(0, 0xFFF), (1, 0x7FF)] with
  | some i => (s, badPar i)
  | none =>
    if w = 0 ∨ 1024 < w then (s, badPar 1)
    else (eachIn (queuesOf (schedTargets p) (parF p 0 0 12)) s (fun s q => s.setFld SCHED_Q_CFG.WEIGHT q w), ok)

/-- SCHED_CFG. -/
def execSchedCfg (p : Packet) (s : State) : Host.Outcome State Fault Refusal := .next (s.command 0x0403 effSchedCfg p)

/-- The highest rate, in Mb/s. -/
abbrev rateMax : Nat := 3200000

/-- A queue's two buckets are set. -/
def State.shapeQueue (s : State) (p : Packet) (q : Nat) : State :=
  let v := s.squeue q
  let s := s.setSqueue q { v with
    min := bucketSet v.min (s.minRate q) (parF p 1 0 22) (parF p 2 0 24) s.now,
    max := bucketSet v.max (s.maxRate q) (parF p 3 0 22) (parF p 4 0 24) s.now }
  (s.setFld SCHED_Q_MIN.RATE q (parF p 1 0 22)).setFld SCHED_Q_MAX.RATE q (parF p 3 0 22)

/-- A port's bucket and byte adjustment are set. -/
def State.shapePort (s : State) (p : Packet) (i : Nat) : State :=
  let v := s.sport i
  let s := s.setSport i { v with max := bucketSet v.max (s.fld SCHED_P_MAX.RATE i) (parF p 3 0 22) (parF p 4 0 24) s.now }
  (s.setFld SCHED_P_MAX.RATE i (parF p 3 0 22)).setFld SCHED_P_CFG.ADJ i (parF p 5 0 6)

/-- SHAPER_CFG's effect (R345). -/
def effShaperCfg (p : Packet) (s : State) : State × Rep :=
  let sel := parF p 0 0 1
  let masks := if sel = 0 then [(0, 0xFFFF0001), (1, 0x3FFFFF), (2, 0xFFFFFF), (3, 0x3FFFFF), (4, 0xFFFFFF), (5, 0)]
    else [(0, 1), (1, 0), (2, 0), (3, 0x3FFFFF), (4, 0xFFFFFF), (5, 0x3F)]
  match firstBad p masks with
  | some i => (s, badPar i)
  | none =>
    if rateMax < parF p 1 0 22 then (s, badPar 1)
    else if rateMax < parF p 3 0 22 then (s, badPar 3)
    else if sel = 0 then (eachIn (queuesOf (schedTargets p) (parF p 0 16 16)) s (fun s q => s.shapeQueue p q), ok)
    else (eachIn (schedTargets p) s (fun s i => s.shapePort p i), ok)

/-- SHAPER_CFG. -/
def execShaperCfg (p : Packet) (s : State) : Host.Outcome State Fault Refusal := .next (s.command 0x0404 effShaperCfg p)

/-- The three WRED profiles that words 2 to 7 give. -/
def wredProfiles (p : Packet) : List (Nat × Nat × Nat) :=
  (List.range 3).map (fun k => (parF p (2 + 2 * k) 0 25, parF p (3 + 2 * k) 0 25, parF p (2 + 2 * k) 25 7))

/-- The E_PARAM cases of `WRED_CFG`. -/
def wredBad (p : Packet) : Option Nat :=
  match firstBad p [(0, 0xFFFF), (1, 0xF3), (3, 0x1FFFFFF), (5, 0x1FFFFFF), (7, 0x1FFFFFF)] with
  | some i => some i
  | none =>
    if parF p 1 0 1 = 0 then none
    else ((List.range 3).find? (fun k => decide (parF p (3 + 2 * k) 0 25 ≤ parF p (2 + 2 * k) 0 25))).map (fun k => 3 + 2 * k)

/-- WRED_CFG's effect (R353): AVG restarts at D. -/
def effWredCfg (p : Packet) (s : State) : State × Rep :=
  match wredBad p with
  | some i => (s, badPar i)
  | none =>
    (eachIn (queuesOf (schedTargets p) (parF p 0 0 16)) s (fun s q =>
      let s := (s.setFld SCHED_Q_CFG.WRED_EN q (parF p 1 0 1)).setFld SCHED_Q_CFG.ECN_EN q (parF p 1 1 1)
      let s := (s.setFld SCHED_Q_CFG.W q (parF p 1 4 4)).setFld SCHED_Q_WRED_AVG.AVG q (s.depth q)
      s.setSqueue q { s.squeue q with prof := wredProfiles p, avg := s.depth q * 65536 }), ok)

/-- WRED_CFG. -/
def execWredCfg (p : Packet) (s : State) : Host.Outcome State Fault Refusal := .next (s.command 0x0405 effWredCfg p)

/-! ## High-water marks (R359) -/

/-- HWM_READ's effect: with CLEAR each mark returned is cleared, for a reply that has room (R45). -/
def effHwmRead (p : Packet) (s : State) : State × Rep :=
  if !onlyBits p 0 0x1FFFF then (s, badPar 0)
  else
    let qs := queuesOf [tInst p.target] (parF p 0 0 16)
    let r := ok (qs.flatMap (fun q => [s.reg .SCHED_Q_HWM_CELLS q, s.reg .SCHED_Q_HWM_SOJ q]))
    (if parF p 0 16 1 = 1 ∧ resultsFit p r = true then
      eachIn qs s (fun s q => (s.setReg .SCHED_Q_HWM_CELLS q 0).setReg .SCHED_Q_HWM_SOJ q 0) else s, r)

/-- HWM_READ. -/
def execHwmRead (p : Packet) (s : State) : Host.Outcome State Fault Refusal := .next (s.command 0x0409 effHwmRead p)

/-! ## Meters (R347 to R351) -/

/-- A meter of a partition. -/
def State.meter (s : State) (part i : Nat) : Meter := tabGet s.meters (part, i) {}
/-- Write it. -/
def State.setMeter (s : State) (part i : Nat) (v : Meter) : State := { s with meters := tabSet s.meters (part, i) v {} }

/-- A meter's buckets refilled to `now` (R348). -/
def meterFill (m : Meter) (now : Nat) : Meter :=
  let dt := now - m.time
  { m with
           tc := Nat.min (m.cbs * tokUnit) (m.tc + m.cir * tokRate * dt), tp := Nat.min (m.pbs * tokUnit) (m.tp + m.pir * tokRate * dt),
           time := now }

/-- The colour a meter gives `b` bytes, and its buckets after it (R348): mode 0 RFC 2698, 1 RFC 4115. PRE_COLOR 3 counts as
red. -/
def meterColor (m : Meter) (b pre : Nat) : Meter × Nat :=
  let n := b * tokUnit
  let pre := if m.aware then Nat.min 2 pre else 0
  if m.mode = false then
    if pre = 2 ∨ m.tp < n then (m, 2)
    else if pre = 1 ∨ m.tc < n then ({ m with tp := m.tp - n }, 1)
    else ({ m with tp := m.tp - n, tc := m.tc - n }, 0)
  else if pre = 0 ∧ n ≤ m.tc then ({ m with tc := m.tc - n }, 0)
  else if pre ≤ 1 ∧ n ≤ m.tp then ({ m with tp := m.tp - n }, 1)
  else (m, 2)

/-- A frame of `b` bytes runs meter `i` of a partition: its colour (R347, R348). -/
def State.runMeter (s : State) (part i b pre : Nat) : State × Nat :=
  let r := meterColor (meterFill (s.meter part i) s.now) b pre
  let m := r.1
  (s.setMeter part i { m with cnt := m.cnt.set r.2 ((m.cnt.getD r.2 0 + b) % 2 ^ 64) }, r.2)

/-- The five words of meter `k` in a `METER_CFG`. -/
def meterPar (k : Nat) : Nat := 1 + 5 * k

/-- The first offending word of a `METER_CFG`. -/
def meterCfgBad (p : Packet) (count : Nat) : Option Nat :=
  (List.range count).findSome? (fun k =>
    let o := meterPar k
    match firstBad p [(o, 7), (o + 1, 0x3FFFFF), (o + 2, 0x3FFFFF), (o + 3, 0xFFFFFF), (o + 4, 0xFFFFFF)] with
    | some i => some i
    | none =>
      if rateMax < parF p (o + 1) 0 22 then some (o + 1)
      else if rateMax < parF p (o + 2) 0 22 then some (o + 2)
      else if parF p o 0 1 = 0 ∧ parF p (o + 2) 0 22 < parF p (o + 1) 0 22 then some (o + 2)
      else none)

/-- A meter is written whole, its buckets full (R350). -/
def meterOf (p : Packet) (o now : Nat) (m : Meter) : Meter :=
  { m with
    mode := parF p o 0 1 == 1, aware := parF p o 1 1 == 1, cir := parF p (o + 1) 0 22, pir := parF p (o + 2) 0 22,
    cbs := parF p (o + 3) 0 24, pbs := parF p (o + 4) 0 24, tc := parF p (o + 3) 0 24 * tokUnit,
    tp := parF p (o + 4) 0 24 * tokUnit, time := now, cnt := if parF p o 2 1 = 1 then [0, 0, 0] else m.cnt }

/-- METER_CFG's effect. -/
def effMeterCfg (p : Packet) (s : State) : State × Rep :=
  let first := parF p 0 0 16
  let count := parF p 0 16 13
  if !onlyBits p 0 0x1FFFFFFF || 4096 < count then (s, badPar 0)
  else if parCount p ≠ 1 + 5 * count then (s, refuse eLEN (lenDetail (1 + 5 * count) (1 + 5 * count)))
  else if 65536 < first + count then (s, badPar 0)
  else match meterCfgBad p count with
    | some i => (s, badPar i)
    | none =>
      (eachIn (instances p.target 64) s (fun s part =>
        eachIn (List.range count) s (fun s k =>
          s.setMeter part (first + k) (meterOf p (meterPar k) s.now (s.meter part (first + k))))), ok)

/-- METER_CFG. -/
def execMeterCfg (p : Packet) (s : State) : Host.Outcome State Fault Refusal := .next (s.command 0x0304 effMeterCfg p)

/-- The 13 words of a meter (R351); the byte counters are those of the last snapshot. -/
def meterWords (m : Meter) : List Word :=
  [wd (b2n m.mode + b2n m.aware * 2), wd m.cir, wd m.pir, wd m.cbs, wd m.pbs, wd (m.tc / tokUnit), wd (m.tp / tokUnit)] ++
  (List.range 3).flatMap (fun c => [lo32 (m.vis.getD c 0), hi32 (m.vis.getD c 0)])

/-- METER_READ's effect. -/
def effMeterRead (p : Packet) (s : State) : State × Rep :=
  let first := parF p 0 0 16
  let count := parF p 0 16 9
  if !onlyBits p 0 0x1FFFFFF || 256 < count || 65536 < first + count then (s, badPar 0)
  else (s, ok ((List.range count).flatMap (fun k => meterWords (meterFill (s.meter (tInst p.target) (first + k)) s.now))))

/-- METER_READ. -/
def execMeterRead (p : Packet) (s : State) : Host.Outcome State Fault Refusal := .next (s.command 0x0305 effMeterRead p)

/-! ## PFC generation (R354, R355) -/

/-- The XOFF state of a port's priority after its conditions are evaluated (R354). -/
def State.xoffOf (s : State) (p n : Nat) (old : Bool) : Bool :=
  let i := p * 8 + n
  let hr := s.fld TUN_ING_HR.CELLS i
  let d := s.fld TUN_ING_USED.CELLS i - hr
  if s.fld SCHED_P_TH.XOFF_TH p ≤ d ∨ 0 < hr then true
  else if d ≤ s.fld SCHED_P_TH.XON_TH p then false
  else old

/-- The XOFF states of a port, bit n for priority n. -/
def State.xoffMask (s : State) (p : Nat) : Nat :=
  let old := s.fld SCHED_P_PFC.XOFF p
  sumN ((List.range 8).map (fun n => b2n (s.xoffOf p n (nbit old n)) * 2 ^ n))

/-- A MAC control frame (IEEE 802.3, 802.1Qbb): destination, the port's SA, EtherType, opcode and parameters, padded, with its
FCS. SA's byte 0 is its bits [7:0]. -/
def macControl (sa opcode : Nat) (params : List Nat) : List Nat :=
  let body := [0x01, 0x80, 0xC2, 0x00, 0x00, 0x01] ++ bytesOf 6 sa ++ beBytes 2 0x8808 ++ beBytes 2 opcode ++ params
  let body := body ++ List.replicate (60 - body.length) 0
  body ++ bytesOf 4 (fcsOf body)

/-- A port sends a PFC frame for the priorities of `held`, XOFF, and `freed`, just gone to 0 (R355). -/
def State.sendPfc (s : State) (p held freed : Nat) : State :=
  let v := s.port p
  let named := (List.range 8).filter (fun n => nbit held n || nbit freed n)
  let times := (List.range 8).flatMap (fun n => beBytes 2 (if nbit held n then v.txQuanta else 0))
  let vec := sumN (named.map (fun n => 2 ^ n))
  let s := s.macSend p (macControl (s.sport p).sa 0x0101 (beBytes 2 vec ++ times)) false
  let s := s.setSport p { s.sport p with sentAt := s.now }
  eachIn named (s.bump .TX_CTRL p) (fun s n => s.bump .PFC_TX (p * 8 + n))

/-- A port sends an IEEE 802.3 pause frame: XOFF or XON. -/
def State.sendPause (s : State) (p : Nat) (off : Bool) : State :=
  let q := if off then (s.port p).txQuanta else 0
  let s := (s.macSend p (macControl (s.sport p).sa 0x0001 (beBytes 2 q)) false).bump .TX_CTRL p
  s.setSport p { s.sport p with sentAt := s.now }

/-- Send what the port's XOFF states call for, beyond what it has told its partner (R355). -/
def State.tellXoff (s : State) (p : Nat) : State :=
  let x := s.fld SCHED_P_PFC.XOFF p
  let v := s.port p
  let told := (s.sport p).told
  if s.pstate p ≠ pUP then s
  else if v.pfcMode = 2 then
    let held := Nat.land x v.txEn
    let freed := Nat.land told (255 - held)
    if Nat.land told v.txEn = held then s
    else (s.sendPfc p held (Nat.land freed v.txEn)).setSport p { s.sport p with told := held }
  else if v.pfcMode = 1 ∧ nbit v.txEn 0 = true then
    if (x = 0) = (told = 0) then s
    else ((s.sendPause p (x != 0)).setSport p { s.sport p with told := x }).setFld SCHED_P_PFC.PAUSE_XOFF p (b2n (x != 0))
  else s

/-- PFC_XOFF_CHANGE: the XOFF states of a port's priorities are evaluated (R354); what changes is sent, and what is held is sent
when the port has returned to UP (R355). -/
def execPfcXoffChange (p : Nat) (s : State) : Host.Outcome State Fault Refusal :=
  .next (if 512 ≤ p then s else (s.setFld SCHED_P_PFC.XOFF p (s.xoffMask p)).tellXoff p)

/-- PFC_REFRESH_TIMER: REFRESH quanta have passed while an XOFF is held: it is sent again. -/
def execPfcRefreshTimer (p : Nat) (s : State) : Host.Outcome State Fault Refusal :=
  .next (
    let x := s.fld SCHED_P_PFC.XOFF p
    let v := s.port p
    if 512 ≤ p ∨ s.pstate p ≠ pUP ∨ s.now < (s.sport p).sentAt + quantaNs (speedMbps (s.portSpeed p)) v.refresh then s
    else if v.pfcMode = 2 ∧ Nat.land x v.txEn ≠ 0 then
      (s.sendPfc p (Nat.land x v.txEn) 0).setSport p { s.sport p with told := Nat.land x v.txEn }
    else if v.pfcMode = 1 ∧ nbit v.txEn 0 = true ∧ x ≠ 0 then
      ((s.sendPause p true).setSport p { s.sport p with told := x }).setFld SCHED_P_PFC.PAUSE_XOFF p 1
    else s)

/-! ## The PFC watchdog (R356, R357) -/

/-- What keeps a queue from sending: bit 0 a received pause or PFC timer, bit 1 its port is not in RUN. -/
def State.wdCauses (s : State) (q : Nat) : Nat := b2n (s.pfcStops q) + 2 * b2n (s.holdState (q / 16) != 0)

/-- The cause of a trip, of those that held throughout: 1 a timer, else 2. -/
def wdCause (held : Nat) : Nat := if held % 2 = 1 then 1 else 2

/-- A queue returns to NORMAL. -/
def State.wdNormal (s : State) (q : Nat) : State :=
  if s.fld SCHED_Q_STATE.WD q = 0 then s
  else
    let s := (s.setFld SCHED_Q_STATE.WD q 0).ev SCHED_EVENT.WD_RESTORE
    s.setSqueue q { s.squeue q with stuck := none, cause := 0, absent := none }

/-- The watchdog trips on a queue for a cause. -/
def State.wdTrip (s : State) (q cause : Nat) : State :=
  let fwd := s.flag SCHED_Q_CFG.ACTION q && cause == 1
  let s := (s.ev SCHED_EVENT.WD_TRIP).bump .SCHED_WD_TRIPS
  let s := s.setReg .SCHED_WD_LAST 0 (wd (q + cause * 2 ^ 16 + b2n fwd * 2 ^ 18))
  let s := if s.flag SCHED_CTL.WD_IRQ_EN then s.msix 18 else s
  let s := s.setSqueue q { s.squeue q with stuck := none, cause := cause, absent := if cause = 1 then some s.now else none }
  if fwd then s.setFld SCHED_Q_STATE.WD q 2
  else (s.setFld SCHED_Q_STATE.WD q 1).flushQueue q .SCHED_WD_DROP 8 false

/-- PFC_WD_CHECK: the check of a queue with WD_EN, 1 ms after the last (R356). -/
def execPfcWdCheck (q : Nat) (s : State) : Host.Outcome State Fault Refusal :=
  .next (
    let v := s.squeue q
    let c := s.wdCauses q
    if s.flag SCHED_Q_CFG.WD_EN q = false ∨ s.now < v.chk then s
    else
    let v := { v with chk := s.now + msNs }
    let s := s.setSqueue q v
    if s.fld SCHED_Q_STATE.WD q = 0 then
      if (s.tqueue q).frames = [] ∨ c = 0 then s.setSqueue q { v with stuck := none, cause := 0 }
      else match v.stuck with
        | none => s.setSqueue q { v with stuck := some s.now, cause := c }
        | some t =>
          let held := Nat.land v.cause c
          if held = 0 then s.setSqueue q { v with stuck := some s.now, cause := c }
          else if t + v.detect * msNs ≤ s.now then s.wdTrip q (wdCause held)
          else s.setSqueue q { v with cause := held }
    else if v.cause = 2 ∧ s.holdState (q / 16) ≠ 0 then s.setSqueue q { v with absent := none }
    else match v.absent with
      | none => s.setSqueue q { v with absent := some s.now }
      | some t => if t + v.restore * msNs ≤ s.now then s.wdNormal q else s)

/-- SEL 0 of `PFC_WD_CFG`: thresholds and source address. -/
def effPfcTh (p : Packet) (ps : List Nat) (s : State) : State × Rep :=
  if parF p 1 0 16 ≤ parF p 1 16 16 then (s, badPar 1)
  else if !onlyBits p 3 0xFFFF then (s, badPar 3)
  else (eachIn ps s (fun s i =>
    (s.setReg .SCHED_P_TH i (par p 1)).setSport i { s.sport i with sa := parN p 2 + parF p 3 0 16 * 2 ^ 32 }), ok)

/-- SEL 1: the watchdog of the selected queues. -/
def effPfcWd (p : Packet) (ps : List Nat) (s : State) : State × Rep :=
  let en := parF p 1 0 1 == 1
  let detect := parF p 1 4 12
  let restore := parF p 2 0 14
  if !onlyBits p 1 0xFFF3 || (en && (detect == 0 || 1000 < detect)) then (s, badPar 1)
  else if !onlyBits p 2 0x3FFF || (en && (restore == 0 || 10000 < restore)) then (s, badPar 2)
  else (eachIn (queuesOf ps (parF p 0 16 16)) s (fun s q =>
    let s := (s.setFld SCHED_Q_CFG.WD_EN q (b2n en)).setFld SCHED_Q_CFG.ACTION q (parF p 1 1 1)
    let s := s.setSqueue q { s.squeue q with detect := detect, restore := restore }
    if en then s else s.wdNormal q), ok)

/-- PFC_WD_CFG's effect (R357). -/
def effPfcWdCfg (p : Packet) (s : State) : State × Rep :=
  let sel := parF p 0 0 4
  match s.needPort p with
  | some r => (s, r)
  | none =>
    if 2 ≤ sel ∨ onlyBits p 0 (if sel = 0 then 0xF else 0xFFFF000F) = false then (s, badPar 0)
    else
      let n := if sel = 0 then 4 else 3
      if parCount p ≠ n then (s, refuse eLEN (lenDetail n n))
      else if sel = 0 then effPfcTh p (s.namedPorts p) s
      else effPfcWd p (s.namedPorts p) s

/-- PFC_WD_CFG. -/
def execPfcWdCfg (p : Packet) (s : State) : Host.Outcome State Fault Refusal := .next (s.command 0x0406 effPfcWdCfg p)

end Sys2Proof.Machine
end

