-- ==== Sys2Proof/Machine/PortCfg.lean ====
section
/-! DEFINITION. The configuration of ports and the PAIRED port groups (R129 to R131, R85 to R88). -/
namespace Sys2Proof.Machine

/-- A port group applies: the active copy, the state of R136, the lanes of a removed port, the twig's PLL setting. A removed port
flushes every queue at once, LOSSLESS queues included (R314). -/
def State.applyPort (s : State) (p lanes speed fec : Nat) : State :=
  let s := s.lanesDown p 2
  let s := s.setFld PORT_STATUS.LANES_ACT p lanes
  let s := s.setFld PORT_STATUS.SPEED_ACT p speed
  let s := s.setFld PORT_STATUS.FEC_ACT p fec
  let s := s.setFld PORT_STATUS.LANES_UP p 0
  if lanes = 0 then (s.setPState p pUNCONF).flushPort p true
  else (s.setPState p pDISABLED).setTwigSetting (p / 8) (rateSetting (shapeRate speed lanes))

/-- The ports of bough `b` that a PORT_CFG waits to change (R131). -/
def State.reconfPorts (s : State) (b : Nat) : List Nat :=
  ((List.range 64).map (fun k => b * 64 + k)).filter (fun p => (s.port p).reconf != [])

/-- BUSY of a bough's pair status. -/
def State.boughBusy (s : State) (b : Nat) : Bool := (s.pair b).isSome || s.reconfPorts b != []

/-- Show the commit under way in `BOUGH_PAIR_STATUS`, and a final result of group `g` (R86). -/
def State.showPair (s : State) (b g : Nat) (result : Option Nat) : State :=
  let s := s.setFld BOUGH_PAIR_STATUS.BUSY b (b2n (s.boughBusy b))
  let s := s.setFld BOUGH_PAIR_STATUS.GROUP b g
  match result with
  | some r => s.setFld BOUGH_PAIR_STATUS.RESULT b r
  | none => s

/-- A commit of a bough's group (R87, R88): refused while BUSY; a group that is no port's, or whose staging copies
disagree, is a mismatch; an agreeing sample waits for its change point. -/
def State.boughCommit (s : State) (b g : Nat) : State :=
  if s.boughBusy b then s.setFld BOUGH_PAIR_STATUS.RESULT b 3
  else
    let p := b * 64 + g
    let lanes := s.fld PORT_MODE.LANES p
    let speed := s.fld PORT_MODE.SPEED p
    let fec := s.fld PORT_MODE.FEC p
    if 64 ≤ g ∨ s.portFits p lanes speed fec = false then (s.showPair b g (some 2)).pairMismatch b g
    else (s.setPair b (some ⟨g, [lanes, speed, fec]⟩)).showPair b g none

/-- A `PORT_CFG` that waited to change an enabled port applies its group (R131): the port is disabled, changed, and
enabled again; then the command's final reply. -/
def State.reconfApply (s : State) (p : Nat) : State :=
  let v := s.port p
  let n := fun i => v.reconf.getD i 0
  let s := s.setPort p { v with reconf := [] }
  let s := s.portOff p 2
  let good := s.portFits p (n 0) (n 1) (n 2)
  let s := if good then
      let s := s.applyPort p (n 0) (n 1) (n 2)
      (if n 0 = 0 then s else s.portOn p).showPair (p / 64) (p % 64) (some 1)
    else ((s.portOn p).showPair (p / 64) (p % 64) (some 2)).pairMismatch (p / 64) (p % 64)
  s.finish 0x0101 (fun q => tInst q.target == p) (if good then ok else badPar 0)

/-- A bough's agreeing group reaches its change point, any time the port is disabled or unconfigured: the test runs again
and the group applies (R87, R130). Else a port that a `PORT_CFG` waits to change is changed (R131). -/
def State.boughApply (s : State) (b : Nat) : State :=
  match s.pair b with
  | some c =>
    let p := b * 64 + c.group
    let n := fun i => c.sample.getD i 0
    if (s.port p).enabled then s
    else if s.portFits p (n 0) (n 1) (n 2) then
      ((s.setPair b none).applyPort p (n 0) (n 1) (n 2)).showPair b c.group (some 1)
    else ((s.setPair b none).showPair b c.group (some 2)).pairMismatch b c.group
  | none =>
    match s.reconfPorts b with
    | p :: _ => s.reconfApply p
    | [] => s

/-! ## PORT_CFG (R129, R131) -/

/-- The E_PARAM cases of `PORT_CFG` (R129). -/
def portCfgBad (p : Packet) : Option Nat :=
  let lanes := parF p 0 0 4
  let speed := parF p 0 4 4
  let fec := parF p 0 8 3
  if !onlyBits p 0 0x7FF || !(lanes == 0 || lanes == 1 || lanes == 2 || lanes == 4 || lanes == 8) || 9 < speed || 4 < fec
      || (lanes != 0 && (!fecAllowed speed lanes fec || (tInst p.target % 8) % lanes != 0)) then some 0
  else if hasPar p 1 && (!onlyBits p 1 0x0FFF7FFF || parF p 1 0 15 < 64 || 16384 < parF p 1 0 15 || 1000 < parF p 1 16 10
      || (parF p 1 26 1 == 1 && shapeRate speed lanes != 6)) then some 1
  else if hasPar p 2 && (!onlyBits p 2 0x3FF || 1000 < parF p 2 0 10) then some 2
  else none

/-- Words 1 and 2 of `PORT_CFG`; omitted words leave the current values. -/
def portWords (p : Packet) (v : Port) : Port :=
  let v := if hasPar p 1 then
      { v with maxFrame := parF p 1 0 15, lpiIdle := parF p 1 16 10, steepEn := parF p 1 26 1 == 1, train := parF p 1 27 1 == 1 }
    else v
  if hasPar p 2 then { v with holdoff := parF p 2 0 10 } else v

/-- The RATE of each lane of a port returns to 0, the port's rate (R129). -/
def State.clearRates (s : State) (i lanes : Nat) : State :=
  eachIn (List.range lanes) s (fun s k => s.setLane (i + k) { s.lane (i + k) with cfg := { (s.lane (i + k)).cfg with rate := 0 } })

/-- PORT_CFG's effect. -/
def effPortCfg (p : Packet) (s : State) : State × Rep :=
  let i := tInst p.target
  let b := i / 64
  let lanes := parF p 0 0 4
  let speed := parF p 0 4 4
  let fec := parF p 0 8 3
  match portCfgBad p with
  | some w => (s, badPar w)
  | none =>
    if lanes = 0 ∧ s.portConf i = false then (s, ok)
    else if lanes = s.portLanes i ∧ speed = s.portSpeed i ∧ fec = s.fld PORT_STATUS.FEC_ACT i then
      ((s.setPort i (portWords p (s.port i))).clearRates i lanes, ok)
    else if lanes ≠ 0 ∧ s.overlaps i lanes = true then (s, deny eSTATE)
    else if lanes ≠ 0 ∧ s.twigMay (i / 8) (rateSetting (shapeRate speed lanes)) i = false then (s, deny eSTATE)
    else if (s.pair b).any (fun c => c.group == i % 64) then (s, refuse eSTATE (i % 64))
    else
      let stage := s.setReg .PORT_MODE i (wd (lanes + speed * 2 ^ 4 + fec * 2 ^ 8))
      if s.portAgrees i lanes speed fec = false then ((stage.showPair b (i % 64) (some 2)).pairMismatch b (i % 64), badPar 0)
      else
        let s := (stage.setPort i (portWords p (s.port i))).clearRates i lanes
        if (s.port i).enabled then
          ((s.setPort i { s.port i with reconf := [lanes, speed, fec] }).showPair b (i % 64) none, laterRep)
        else ((s.applyPort i lanes speed fec).showPair b (i % 64) (some 1), ok)

/-- PORT_CFG. -/
def execPortCfg (p : Packet) (s : State) : Host.Outcome State Fault Refusal := .next (s.command 0x0101 effPortCfg p)

end Sys2Proof.Machine
end

