-- ==== Sys2Proof/Machine/Repin.lean ====
section
/-! DEFINITION. Flows that move between clusters: the pinning map change and the re-pin hold (R161 to R163), the resequencing
buffer's gaps (R164), and commits of PAIRED groups (R87). -/
namespace Sys2Proof.Machine

/-- The pinning indexes whose UP cluster differs between two states. -/
def changedPins (s t : State) (b : Nat) : List Nat :=
  (List.range 256).filter (fun i => s.pinMap b false i != t.pinMap b false i)

/-- Of frames, the one whose PSEQ comes first. -/
def firstPseq : List DnFrame → Option DnFrame
  | [] => none
  | d :: rest =>
    match firstPseq rest with
    | none => some d
    | some e => if pseqBefore e.pseq d.pseq then some e else some d

/-- Frames with those of each port in PSEQ order, the ports' places kept; the fuel bounds their number. -/
def inPseqOrder : Nat → List DnFrame → List DnFrame
  | 0, l => l
  | _, [] => []
  | n + 1, d :: rest =>
    match firstPseq ((d :: rest).filter (fun e => e.outPort == d.outPort)) with
    | some e => e :: inPseqOrder n ((d :: rest).erase e)
    | none => d :: rest

/-- Every DN frame of a cluster that leaves, not covered by an ACK, is sent again on the new map's clusters, with its PSEQ and in PSEQ order
(R164). -/
def State.resendDn (s : State) (c : Nat) : State :=
  let b := c / 16
  let frames := s.dnList c
  let s := (s.setDnList c []).setRdir c true (s.rdir c true).emptied
  let mine := fun (x : Nat × Nat) => frames.any (fun d => x.1 == d.fid * 2)
  let s := s.setReads c ((s.readsAt c).filter (fun x => !mine x))
  eachIn (inPseqOrder frames.length frames) s (fun s d =>
    let n := b * 16 + s.pinMap b true d.pin
    let s := s.setTframe d.fid { s.tframe d.fid with dnClus := n }
    (s.setDnList n (s.dnList n ++ [{ d with got := false, dup := d.got || d.dup }])).askReads d.fid (dnReader n) 0)

/-- CTRL MAP (R154, R161): the epoch, then the 128-byte DN map of 256 four-bit entries in the payloads of three CTRL flits. -/
def State.mapFlits (s : State) (b : Nat) : List Nat :=
  let m := (List.range 256).foldl (fun a i => a + s.pinMap b true i * 16 ^ i) 0
  (4 + s.fld ROOT_MAP_EPOCH.DN b * 2 ^ 8) :: (List.range 3).map (fun k => nbits m (448 * k) 448)

/-- The Tun sends the new DN map to the bough on the DN direction of its lowest ACTIVE cluster (DESIGN CHOICE: R161 names no cluster). -/
def State.sendMap (s : State) (b : Nat) : State :=
  match s.activeClusters b with
  | k :: _ => eachIn (s.mapFlits b) s (fun s x => s.sendCtl (b * 16 + k) true x)
  | [] => s

/-- A map change begins (R161, R162): both maps take their new entries and epochs; the bough sends END on a retiring cluster that
still carries flits, FENCE on every other that lost entries, and from then on REPIN with every frame of a changed entry; frames that
waited for the map follow (R163). The Tun sends the DN map. -/
def State.mapChange (s : State) (b : Nat) (r : MapReq) : State :=
  let c := r.cluster % 16
  let t := if r.kind = 2 then (s.unspread b false c).unspread b true c else (s.spread b false c).spread b true c
  let pins := changedPins s t b
  let losers := (pins.map (fun i => s.pinMap b false i)).eraseDups.map (fun k => b * 16 + k)
  let losers := if r.kind = 2 ∨ losers.contains r.cluster then losers else r.cluster :: losers
  let t := (t.advanceEpoch b false).advanceEpoch b true
  let t := t.sendMap b
  let epoch := t.fld ROOT_MAP_EPOCH.UP b
  let t := eachIn losers t (fun t k =>
    if r.kind ≠ 2 ∧ k = r.cluster then
      if (t.cluster k).clkGone then t else t.setUpList k (t.upList k ++ [.fin])
    else t.setUpList k (t.upList k ++ [.fence epoch]))
  let t := if r.kind = 2 then t else t.resendDn r.cluster
  let v := t.rootBough b
  let t := (t.setRootBough b { v with run := some ⟨r, pins, losers, t.now⟩, repins := pins, upWait := [] }).setFld ROOT_RESEQ.HOLD b 1
  eachIn v.upWait t (fun t u => if t.activeClusters b = [] then t.bump .ROOT_IN_DROP b else t.putUp b u)

/-- A change begins; the event of a permanent cluster that has waited for it takes the time it waited (R31, R499). -/
def State.mapBegin (s : State) (b : Nat) (r : MapReq) : State :=
  if r.kind = 3 then (s.tellWait 0x0502 (tgt cROOT r.cluster) ((s.now - r.since) / usNs)).mapChange b { r with kind := 0 }
  else s.mapChange b r

/-- Held frames are linked in hold-list order; one whose queue was flushed is freed (R162, R314). -/
def State.releaseHold (s : State) (b : Nat) : State :=
  let l := s.holdList b
  eachIn l (s.setHoldList b []) (fun s i =>
    let f := s.tframe i
    if f.doomed then ((s.bump .TUN_FLUSH_DROP).tunDrop f 7).freeFrame i else s.linkFrame i)

/-- A map change ends: the hold is released, a leaving cluster is out of service, the command that asked is answered. -/
def State.mapEnd (s : State) (b : Nat) (m : MapRun) : State :=
  let s := s.releaseHold b
  let s := s.setRootBough b { s.rootBough b with run := none }
  let s := s.showReseq b
  let c := m.req.cluster
  let t := tgt cROOT c
  let sel := fun (q : Packet) => q.target == t
  if m.req.kind = 2 then (s.setHeld t false).finish 0x0C02 sel (ok [wd uACTIVE])
  else
    let s := s.clusterGone c
    if m.req.kind = 1 then s.finish 0x0C01 sel (ok [wd uGRAFT]) else s.finish 0x0C03 sel (ok [wd uRETIRED])

/-- PIN_MAP_CHANGE: the oldest change that a bough asks for begins, unless one is under way (R161). One that moves no entry ends at once. -/
def execPinMapChange (b : Nat) (s : State) : Host.Outcome State Fault Refusal :=
  let v := s.rootBough b
  .next (match v.run, v.asked with
    | none, r :: rest =>
      let s := (s.setRootBough b { v with asked := rest }).mapBegin b r
      match (s.rootBough b).run with
      | some m => if m.waiting = [] then s.mapEnd b m else s
      | none => s
    | _, _ => s)

/-- FENCE or END of the change under way has come from cluster `c`: the hold ends with the last of them. -/
def State.fenceCame (s : State) (c : Nat) (m : MapRun) : State :=
  let m := { m with waiting := m.waiting.filter (· != c) }
  let s := s.setRootBough (c / 16) { s.rootBough (c / 16) with run := some m }
  if m.waiting = [] then s.mapEnd (c / 16) m else s

/-- REPIN_FENCE_RX: FENCE or END has reached the Tun on a cluster, behind every frame sent before it; when every awaited one has, the hold
ends (R162). A FENCE of another epoch ends nothing. -/
def execRepinFenceRx (c : Nat) (s : State) : Host.Outcome State Fault Refusal :=
  .next (if (s.rdir c false).rxPos = 0 then s
    else match s.upList c, (s.rootBough (c / 16)).run with
    | .fin :: _, some m => (s.popUp c).fenceCame c m
    | .fence e :: _, some m =>
      if e % 65536 = s.fld ROOT_MAP_EPOCH.UP (c / 16) then (s.popUp c).fenceCame c m else s.popUp c
    | .fin :: _, none => s.popUp c
    | .fence _ :: _, none => s.popUp c
    | _, _ => s)

/-- A cluster's UP receiver is disabled: every frame whose tail has not arrived is discarded; one that has begun to leave by
cut-through is stomped (R162). Answers how many. A frame's tail has arrived once the Tun has taken it (FRAME_EOF_ARRIVE; DEDUCED: what it
took later would be linked behind its held successors). -/
def State.disableUp (s : State) (c : Nat) : State × Nat :=
  let n := ((s.upList c).filter (fun x => match x with | .frame _ => true | _ => false)).length
  let s := (s.setUpList c []).setRdir c false (s.rdir c false).emptied
  let s := s.setInBuf c 0
  match s.asmAt c 0 with
  | none => (s, n)
  | some i =>
    let f := s.tframe i
    let s := s.setAsm c 0 none
    if f.ct then ((s.setTframe i { f with total := f.cells.length, eof := true, bad := true }).markDnBad i |>.bump .TUN_CT_STOMP, n)
    else (s.freeFrame i, n)

/-- REPIN_END_WAIT_EXPIRE: 200 µs have passed since the change began (R162): the Tun releases the hold, and every cluster still awaited shows
END_TIMEOUT. A retiring cluster's receiver is disabled and what had not arrived from it is discarded, counted and reported; where no
cluster retires, or its END has come, nothing is disabled or discarded (DESIGN CHOICE: R162 speaks of the retiring cluster alone). -/
def execRepinEndWaitExpire (b : Nat) (s : State) : Host.Outcome State Fault Refusal :=
  .next (match (s.rootBough b).run with
    | none => s
    | some m =>
      if s.now < m.start + 200 * usNs then s
      else
        let c := m.req.cluster
        let s := eachIn m.waiting s (fun s k => s.ev ROOT_EVENT.END_TIMEOUT k)
        if m.req.kind ≠ 2 ∧ m.waiting.contains c = true then
          let r := s.disableUp c
          let s := r.1.bump .ROOT_REPIN_DROP b r.2
          (s.raise 0x0503 kCORRECTED (tgt cROOT c) (Nat.min (2 ^ 20 - 1) r.2)).mapEnd b m
        else s.mapEnd b m)

/-- RESEQ_GAP_SKIP: a PSEQ gap of a port has stayed unfilled for 250 µs since the first frame past it came: it is skipped; the frames
after it leave in order (R164). -/
def execReseqGapSkip (p : Nat) (s : State) : Host.Outcome State Fault Refusal :=
  let b := egBough p
  let v := s.rootBough b
  let next := s.nextPseq p
  let mine := v.reseq.filter (fun d => d.outPort == p)
  let ahead := mine.map (fun d => (d.pseq + 65536 - next) % 65536)
  .next (match ahead with
    | [] => s
    | x :: xs =>
      let n := xs.foldl Nat.min x
      if n = 0 ∨ mine.all (fun d => decide (s.now < d.since + 250 * usNs)) = true then s
      else (s.setRootBough b { v with nextSeq := tabSet v.nextSeq (p, 0) ((next + n) % 65536) 0 }).bump .ROOT_RESEQ_SKIP b)

/-- PAIR_APPLY: an agreeing group reaches its block's change point: 0 to 7 the boughs, 8 the TUN block (R87). -/
def execPairApply (b : Nat) (s : State) : Host.Outcome State Fault Refusal := .next (if b = 8 then s.tunApply else s.boughApply b)

end Sys2Proof.Machine
end

