-- ==== Sys2Proof/Machine/Pipes.lean ====
section
/-! DEFINITION. Pipes: the MAC's receive side (R140, R145), the twig FIFOs (R168), the frame's way through the parser and the sixteen
stages (R169 to R180), the dispose and its copies (R181, R182). -/
namespace Sys2Proof.Machine

/-! ## Records -/

/-- The frames in a pipe, in entry order. -/
def State.pframesOf (s : State) (p : Nat) : List PFrame := tabGet s.pframes (p, 0) []
/-- Set them. -/
def State.setPframes (s : State) (p : Nat) (l : List PFrame) : State := { s with pframes := tabSet s.pframes (p, 0) l [] }
/-- A pipe's record. -/
def State.pipe (s : State) (p : Nat) : PipeRec := tabGet s.pipes (p, 0) {}
/-- Write it. -/
def State.setPipe (s : State) (p : Nat) (v : PipeRec) : State := { s with pipes := tabSet s.pipes (p, 0) v {} }
/-- A partition's telemetry settings. -/
def State.part (s : State) (p : Nat) : PipePart := tabGet s.parts (p, 0) {}
/-- Write them. -/
def State.setPart (s : State) (p : Nat) (v : PipePart) : State := { s with parts := tabSet s.parts (p, 0) v {} }
/-- A twig's FIFO. -/
def State.twigQ (s : State) (t : Nat) : List InFrame := tabGet s.twigFifo (t, 0) []
/-- Set it. -/
def State.setTwigQ (s : State) (t : Nat) (l : List InFrame) : State := { s with twigFifo := tabSet s.twigFifo (t, 0) l [] }
/-- A FIFO of injected or recirculated frames. -/
def State.injQ (s : State) (k : Nat) : List InFrame := tabGet s.injectQ (k, 0) []
/-- Set it. -/
def State.setInjQ (s : State) (k : Nat) (l : List InFrame) : State := { s with injectQ := tabSet s.injectQ (k, 0) l [] }

/-! ## Twig FIFOs (R168) -/

/-- The pipe that serves twig `t`, if any (R21). -/
def State.serverOf (s : State) (t : Nat) : Option Nat :=
  if s.flag PIPE_STATUS.SERVED_VALID t then some (s.fld PIPE_STATUS.SERVED_BY t) else none

/-- The bytes a twig's FIFO holds: frames that wait, and frames in the pipe that it has not released. -/
def State.twigUsed (s : State) (t : Nat) : Nat :=
  sumN ((s.twigQ t).map (fun f => f.bytes.length)) +
  sumN ((s.pframes.filter (fun e => e.1.1 / 8 == t / 8)).map (fun e =>
    sumN ((e.2.filter (fun f => f.src.port / 8 == t && decide (f.src.port < 512))).map (fun f => f.src.bytes.length))))

/-- Show a twig FIFO's use in KiB, and its high-water mark. -/
def State.showFifo (s : State) (t : Nat) : State :=
  let n := ceilDiv (s.twigUsed t) 1024
  (s.setFld TWIG_FIFO.USED t n).maxFld TWIG_FIFO.HWM t n

/-- Pipes take frames: SERVICE, not draining (R427 to R429), no FATAL event (R502). -/
def State.intakeOpen (s : State) : Bool := s.mode == mSERVICE && !s.draining && !s.flt.fatal

/-- A checked frame reaches its twig's FIFO (R168), or is dropped at its start; outside SERVICE it is discarded before the FIFO
(R427, R429). -/
def State.twigAdmit (s : State) (f : InFrame) : State :=
  let t := f.port / 8
  if s.mode ≠ mSERVICE ∨ s.draining = true ∨ 131072 < s.twigUsed t + 18432 then s.bump .TWIG_IN_DROP t
  else (s.setTwigQ t (s.twigQ t ++ [f])).showFifo t

/-! ## The MAC's receive side (R140, R145, R146) -/

/-- A timer of a port has been set or cleared: a tripped queue whose cause was a timer and that is stopped has its cause present; for one
that no timer stops, the stop is over (R356). -/
def State.wdSeen (s : State) (p : Nat) : State :=
  eachIn ((List.range 16).map (fun q => p * 16 + q)) s (fun s q =>
    let s := s.wdGap q
    if s.pfcStops q = true ∧ s.fld SCHED_Q_STATE.WD q ≠ 0 ∧ (s.squeue q).cause = 1 then
      s.setSqueue q { s.squeue q with absent := some s.now } else s)

/-- A received pause or PFC frame acts (R145). -/
def State.rxControl (s : State) (p opcode : Nat) (d : List Nat) : State :=
  let v := s.port p
  let s := eachIn ((List.range 16).map (fun q => p * 16 + q)) s State.wdGap
  let speed := speedMbps (s.portSpeed p)
  if opcode = 0x0001 then
    if v.pfcMode = 1 ∧ nbit v.rxEn 0 = true then
      let q := be16 d 16
      (s.setPort p { v with pauseEnd := if q = 0 then 0 else s.now + quantaNs speed q }).wdSeen p
    else s
  else if v.pfcMode = 2 then
    let named := (List.range 8).filter (fun n => nbit (be16 d 16) n && nbit v.rxEn n)
    let s := s.setPort p { v with timers := named.foldl (fun l n =>
      l.set n (if be16 d (18 + 2 * n) = 0 then 0 else s.now + quantaNs speed (be16 d (18 + 2 * n)))) v.timers }
    (eachIn named s (fun s n => s.bump .PFC_RX (p * 8 + n))).wdSeen p
  else s

/-- A pause or PFC frame: its opcode. -/
def controlOp (d : List Nat) : Option Nat :=
  if be16 d 12 = 0x8808 ∧ (be16 d 14 = 0x0001 ∨ be16 d 14 = 0x0101) then some (be16 d 14) else none

/-- The FCS a frame carries, as `fcsOf` numbers it. -/
def fcsField (bytes : List Nat) : Nat := leNat (bytes.drop (bytes.length - 4))

/-- RX_FRAME: the MAC checks a frame at the lands (R140), stamps it (R146), and it acts or goes to the twig's FIFO. While the bough's
clock is stopped the PCS discards the frame (R457). -/
def execRxFrame (p : Nat) (bytes : List Nat) (errored : Bool) (s : State) : Host.Outcome State Fault Refusal :=
  .next (if 512 ≤ p ∨ s.pstate p ≠ pUP then s
    else if s.boughStopped (p / 64) then s.bump .TWIG_IN_DROP (p / 8)
    else if bytes.length < 64 then s.bump .RX_RUNT p
    else
      let v := s.port p
      let big := decide (v.maxFrame < bytes.length)
      let kept := bytes.take v.maxFrame
      let s := (s.bump .RX_FRAMES p).bump .RX_BYTES p kept.length
      let good := fcsOf (bytes.take (bytes.length - 4))
      let stomped := !big && fcsField bytes == 2 ^ 32 - 1 - good
      let wrong := !big && !stomped && (errored || fcsField bytes != good)
      let s := if big then s.bump .RX_OVERSIZE p else if stomped then s.bump .RX_STOMPED p
        else if wrong then s.bump .RX_FCS_ERR p else s
      let bad := big || stomped || wrong
      match (if bad then none else controlOp bytes) with
      | some op => (s.bump .RX_CTRL p).rxControl p op bytes
      | none =>
        s.twigAdmit { port := p, bytes := kept, bad := bad, ts := ((s.tod : Int) + signedOf 16 v.inAdj).toNat, since := s.now })

/-! ## Entry (R169 to R174) -/

/-- The twigs that a pipe serves: its own, and one it fosters (R189). -/
def State.twigsOf (s : State) (p : Nat) : List Nat :=
  (if s.flag PIPE_STATUS.OWN p then [p] else []) ++
  (if s.flag PIPE_STATUS.FOSTER_VALID p then [s.fld PIPE_STATUS.FOSTER_TWIG p] else [])

/-- A twig whose own pipe is being restored: its fosterer takes no more of its frames (R190). -/
def State.returning (s : State) (t : Nat) : Bool := (s.pipe t).leave == 4

/-- The injection and recirculation FIFOs whose role comes with twig `t` (R16, R169). -/
def roleFifos (t : Nat) : List Nat :=
  (if t = 0 then [0] else if t = 8 then [1] else []) ++ (if t % 8 = 0 then [2 + t / 8] else [])

/-- The twig whose partitions serve a FIFO's frames (R255). -/
def fifoTwig (k : Nat) : Nat := if k = 0 then 0 else if k = 1 then 8 else (k - 2) * 8

/-- The twig that parser slot `slot` serves: a fosterer gives each of its twigs one frame a clock (R189). -/
def State.slotTwig (s : State) (p slot : Nat) : Option Nat :=
  if s.flag PIPE_STATUS.FOSTER_VALID p then
    if slot = 0 then (if s.flag PIPE_STATUS.OWN p then some p else none)
    else if s.returning (s.fld PIPE_STATUS.FOSTER_TWIG p) then none
    else some (s.fld PIPE_STATUS.FOSTER_TWIG p)
  else if s.flag PIPE_STATUS.OWN p then some p
  else none

/-- Where a pipe takes its next frame from. -/
inductive Source where
  | twig (t : Nat)
  | fifo (k : Nat)
  deriving DecidableEq, Repr

/-- The source of the next frame (R169): an injected or recirculated frame that has waited 10 µs, else the slot's twig, else an
injected, else a recirculated frame. -/
def State.nextSource (s : State) (p slot : Nat) : Option Source :=
  let ks := (((s.twigsOf p).filter (fun t => !s.returning t)).flatMap roleFifos).filter (fun k => !(s.injQ k).isEmpty)
  match ks.find? (fun k => (s.injQ k).head?.any (fun f => decide (f.since + 10 * usNs ≤ s.now))) with
  | some k => some (.fifo k)
  | none =>
    match (s.slotTwig p slot).filter (fun t => !(s.twigQ t).isEmpty) with
    | some t => some (.twig t)
    | none => ks.head?.map .fifo

/-- SRC_KIND of a port (R174). -/
def srcKind (port : Nat) : Nat := if port < 512 then 0 else if port = 512 then 1 else if port = 513 then 2 else 3

/-- LEN_SRC and PKT_LEN while a frame's tail has not arrived (R174). -/
def State.lenGuess (s : State) (f : InFrame) : Nat × Nat :=
  match ipLength (f.bytes.take 256) with
  | some n => (1, n)
  | none => (2, if f.port < 512 then (s.port f.port).maxFrame else f.bytes.length)

/-- The metadata that the module writes at entry (R174, R373). -/
def State.entryPhv (s : State) (t tail : Nat) (f : InFrame) : State × Phv :=
  let len := if tail = 0 then (0, f.bytes.length) else s.lenGuess f
  let v : Phv := {}
  let v := v.put 0xE0 (f.port + srcKind f.port * 2 ^ 10 + len.1 * 2 ^ 12 + len.2 % 2 ^ 15 * 2 ^ 16)
  let v := ((v.put 0xE1 (f.ts % 2 ^ 32)).put 0xE2 (f.ts / 2 ^ 32)).put 0xEB (s.free % 2 ^ 32)
  let s := s.drawn
  let v := if f.port = 512 then v.put 0xEC f.hmeta else v
  let g := s.part t
  if g.tagEn then (s.drawn, if s.free % 2 ^ g.tagN = 0 then v.setMf 5 19 1 1 else v) else (s, v)

/-- A frame's stage key: its containers, K0 lowest (R234). -/
def stageKey (v : Phv) (cfg : Nat) : Nat :=
  ((List.range (nbits cfg 128 5)).foldl (fun (a : Nat × Nat) i =>
    let id := nbits cfg (8 * i) 8
    (a.1 + v.get id * 2 ^ a.2, a.2 + 8 * contBytes id)) (0, 0)).1

/-- The routine's entry address (R203); none for NONE. -/
def State.entryAddr (s : State) (b bank sg cfg : Nat) (r : LookupRes) : Option Nat :=
  if r.hit then
    let e := s.progWord b bank 5 (sg * 256 + r.action) 0
    if nbit e 15 then none else some (nbits e 0 15)
  else if nbit cfg 159 then none else some (nbits cfg 144 15)

/-! ## Fixed functions of the stages (R179) -/

/-- Stage 10's meter (R347): COLOR. -/
def State.meterStage (s : State) (p : Nat) (f : PFrame) : State × PFrame :=
  if f.phv.mf 9 16 1 = 0 then (s, f)
  else
    let r := s.runMeter f.twig (f.phv.mf 9 0 16) (f.phv.mf 0 16 15) (f.phv.mf 9 17 2)
    (if r.2 = 2 then r.1.perf (pipeSet p) 0x00D else r.1, { f with phv := f.phv.setMf 3 19 2 r.2 })

/-- The four sketch indices of a frame (R367). -/
def State.sketchIdx (s : State) (b port : Nat) (v : Phv) : List Nat :=
  let bytes := hashBytes (s.spreadB b).pinIds (s.spreadB b).pinPort port v.get
  (List.range 4).map (fun r => crcBytes (Nat.xor (s.fld PS_PIN_SEED.SEED b) ((r + 1) * 0x9E3779B9 % 2 ^ 32)) bytes % 65536)

/-- Stage 12: the hashes, PIN, the group's entry, the flag set, the sketch indices (R273, R275, R367, R369). -/
def State.hashStage (s : State) (p : Nat) (f : PFrame) : State × PFrame :=
  let b := p / 8
  let v := f.phv
  let port := f.src.port
  let hp := s.hashP b port v.get
  let en := v.mf 7 13 1 == 1
  let grp := v.mf 7 0 13
  let r := if en then s.readDirect b 24 grp (p % 8) else (s, 0)
  let seed := if en && grpOk r.2 then grpSeed r.2 else 0
  let he := s.hashE b seed port v.get
  let w := (v.put 0xE6 he).setMf 7 16 8 (hp % 256)
  let w := if (s.part f.twig).flagSet.contains hp then w.setMf 5 18 1 1 else w
  (r.1, { f with phv := w, hashP := hp, sketch := s.sketchIdx b port v, grpId := grp, grp := if en then some r.2 else none })

/-- Stage 13: ECMP member selection (R280, R282, R284, R285), for a frame whose ECMP_EN is 1 then too. -/
def State.memberStage (s : State) (p : Nat) (f : PFrame) : State × PFrame :=
  let b := p / 8
  match f.grp.filter (fun _ => f.phv.mf 7 13 1 == 1) with
  | none => (s, { f with phv := f.phv.setMf 7 24 3 0 })
  | some g =>
    let v := f.phv
    if grpOk g = false then ((s.bump .PS_GROUP_INVALID b).ev PS_EVENT.GROUP_INVALID b, { f with phv := (v.setMf 3 15 1 1).setMf 7 24 3 7 })
    else
      let r := s.ecmpSelect p f.grpId g (flIdx f.hashP f.grpId) (v.get 0xE6) (v.get 0xEB) (v.mf 3 10 4)
      let m := r.1.readDirect b 25 r.2.1 (p % 8)
      if memberOk m.2 = false then ((m.1.bump .PS_MEMBER_INVALID b).ev PS_EVENT.MEMBER_INVALID b, { f with phv := (v.setMf 3 15 1 1).setMf 7 24 3 6 })
      else
        let v := (v.setMf 3 0 10 (nbits m.2 0 10)).setMf 3 14 1 1
        let v := if nbit m.2 14 then v.setMf 3 10 4 (nbits m.2 10 4) else v
        let v := if nbit m.2 32 then v.setMf 5 0 16 (nbits m.2 16 16) else v
        (m.1.chargeSlot b r.2.1 (v.mf 0 16 15), { f with phv := v.setMf 7 24 3 r.2.2 })

/-- The fixed function of a stage, before its match slot. -/
def State.fixedStage (s : State) (p : Nat) (f : PFrame) (sg : Nat) : State × PFrame :=
  match sg with
  | 6 => (s, { f with phv := f.phv.put 0xE8 (f.cls.getD 0) })
  | 10 => s.meterStage p f
  | 12 => s.hashStage p f
  | 13 => s.memberStage p f
  | _ => (s, f)

/-! ## A stage (R178, R203, R234) -/

/-- PKT_LEN becomes exact from the stage from which the tail has arrived (R174). -/
def tailArrived (f : PFrame) (sg : Nat) : PFrame :=
  if f.phv.mf 0 12 2 ≠ 0 ∧ f.tail ≤ sg then
    { f with phv := (f.phv.setMf 0 12 2 0).setMf 0 16 15 f.src.bytes.length } else f

/-- What a stage's lookup answers, counted (R232, R234, R383). -/
def State.lookStage (s : State) (p sg cfg key : Nat) : State × LookupRes :=
  let b := p / 8
  if nbit cfg 133 = false then (s, {})
  else
    let id := nbits cfg 136 5
    let r := if id = 30 then (s, s.gristLookup key) else s.stageLookup b id key (p % 8)
    let s := if r.2.hit then (r.1.perf (pipeSet p) 0x007).perf (pipeSet p) (0x020 + sg) else r.1.perf (pipeSet p) 0x008
    (if r.2.par then s.perf (pipeSet p) 0x009 else s, r.2)

/-- Condition vector 2 of an outcome (R234). -/
def lookBits (r : LookupRes) : Nat := if r.hit then 1 else 4 + b2n r.par * 2

/-- One ingress stage of a frame. -/
def State.stage (s : State) (p : Nat) (f : PFrame) (sg : Nat) : State × PFrame :=
  let b := p / 8
  let a := s.fixedStage p (tailArrived f sg) sg
  let f := a.2
  let cfg := wordsNat (s.progUnit b f.bank 4 sg)
  let key := stageKey f.phv cfg
  let d := if sg = 5 then a.1.clsSearch p f.twig key else (a.1, 0)
  let f := if sg = 5 then { f with key := key % 2 ^ 320, found := d.2 } else f
  let l := d.1.lookStage p sg cfg key
  let f := { f with phv := { f.phv with adb := l.2.adb, look := lookBits l.2 } }
  let f := if l.2.hit ∧ Config.srv6Of sg l.2.action ≠ 0 then { f with srv6 := some (Config.srv6Of sg l.2.action, l.2.adb) } else f
  match l.1.entryAddr b f.bank sg cfg l.2 with
  | none => (l.1, f)
  | some addr =>
    let c : UCtx := { st := b, src := sg, pipe := p, bank := f.bank, set := l.1.setOf b f.set, vend := l.1.vendOf b f.set }
    let r := l.1.runRoutine ⟨c, key, f.src.bad && decide (f.tail ≤ sg)⟩ addr f.phv
    (r.1, { f with phv := r.2.1, failed := f.failed || r.2.2 })

/-- A run of stages. -/
def State.stages (s : State) (p : Nat) (f : PFrame) (sgs : List Nat) : State × PFrame :=
  sgs.foldl (fun (a : State × PFrame) sg => a.1.stage p a.2 sg) (s, f)

/-- Take the head frame off its source. -/
def State.takeFrom (s : State) (x : Source) : State × Option (InFrame × Nat) :=
  match x with
  | .twig t => (s.setTwigQ t ((s.twigQ t).drop 1), (s.twigQ t).head?.map (fun f => (f, t)))
  | .fifo k => (s.setInjQ k ((s.injQ k).drop 1), (s.injQ k).head?.map (fun f => (f, fifoTwig k)))

/-- A frame of an internal port whose length keeps it from the parser (R170). -/
def badLength (f : InFrame) : Bool := decide (512 ≤ f.port) && (decide (f.bytes.length < 14) || decide (16384 < f.bytes.length))

/-- A frame is discarded for its length. -/
def State.lenDrop (s : State) (p : Nat) : State := (s.bump .PIPE_LEN_DROP p).ev PIPE_EVENT.LEN_DROP p

/-- A frame enters pipe `p`: parser and stages 0 to 5 (R176, R179). -/
def State.enterPipe (s : State) (p t tail : Nat) (f : InFrame) : State :=
  let b := p / 8
  let tail := if f.port < 512 ∧ 256 < f.bytes.length then Nat.min 17 tail else 0
  let m := s.entryPhv t tail f
  let bank := tabGet s.pipeBank (p, 0) 0
  let start := nbits (s.progWord b bank 7 0 0) (8 * srcKind f.port) 8
  let r := m.1.parse b bank start (bodyOf f.bytes) m.2
  let s := m.1.perf (pipeSet p) 0x001
  let s := if r.err = 0 then s else (s.bump .PIPE_PARSE_ERR p).ev PIPE_EVENT.PARSE_ERR p
  let n := (s.pipe p).count
  let s := s.setPipe p { s.pipe p with count := n + 1, held := if s.pframesOf p = [] then s.now else (s.pipe p).held }
  let g : PFrame := {
    n := n, twig := t, since := s.now, src := f, tail := tail, bank := bank, set := s.fld UC_STATUS.PATCH_SET b, spans := r.spans,
    cursor := r.cursor, phv := r.phv }
  let x := s.stages p g [0, 1, 2, 3, 4, 5]
  (x.1.setPframes p (x.1.pframesOf p ++ [x.2])).showFifo t

/-- A pipe runs: ACTIVE, its domain on, not held by a recovery. -/
def State.pipeRuns (s : State) (p : Nat) : Bool :=
  s.ust (tgt cPIPE p) == uACTIVE && s.domOn (domBough (p / 8)) && !s.boughStopped (p / 8)

/-- When stage 6 needs the result of a frame (R172): 16 clocks of the parser, 96 of stages 0 to 5 and the reorder wait of up to 32
clocks, at 1.6 GHz, after it entered. -/
def needAt (f : PFrame) : Nat := f.since + 90

/-- The frames in the reorder buffer: results that have returned for frames not yet in stage 6. -/
def State.inReorder (s : State) (p : Nat) : Nat := ((s.pframesOf p).filter (fun f => f.cls.isSome && !f.ran)).length

/-- Stage 6 needs a result that has not arrived, or the reorder buffer of 64 is full: the parser and stages 0 to 5 stand still (R180). -/
def State.pipeStalls (s : State) (p : Nat) : Bool :=
  ((s.pframesOf p).find? (fun f => !f.ran)).any (fun f => f.cls.isNone && decide (needAt f < s.now)) || decide (64 ≤ s.inReorder p)

/-- PIPE_FRAME_ENTRY: the pipe takes the next ready frame into a parser slot (R169), unless its stages stall (R180). -/
def execPipeFrameEntry (p slot tail : Nat) (s : State) : Host.Outcome State Fault Refusal :=
  .next (if s.pipeRuns p = false ∨ s.intakeOpen = false ∨ s.pipeStalls p = true ∨ s.switchHolds p = true then s
    else match s.nextSource p slot with
    | none => s
    | some x =>
      match s.takeFrom x with
      | (s, none) => s
      | (s, some (f, t)) =>
        let s := s.setPipe p { s.pipe p with fed := s.now, usNow := (s.pipe p).idle }
        if badLength f then s.lenDrop p else s.enterPipe p t tail f)

/-! ## The classifier's result (R180) -/

/-- Show the reorder buffer's use. -/
def State.showReorder (s : State) (p : Nat) : State := (s.setFld PIPE_REORDER.OCC p (s.inReorder p)).maxFld PIPE_REORDER.HWM p (s.inReorder p)

/-- Frames whose results have returned go on through stages 6 to 15, in entry order, up to the first that has none. -/
def State.releaseFrames (s : State) (p : Nat) : List PFrame → List PFrame → State
  | done, [] => s.setPframes p done
  | done, f :: rest =>
    if f.ran then s.releaseFrames p (done ++ [f]) rest
    else if f.cls = none then s.setPframes p (done ++ f :: rest)
    else
      let r := s.stages p f [6, 7, 8, 9, 10, 11, 12, 13, 14, 15]
      r.1.releaseFrames p (done ++ [{ r.1.baseEnd r.2 with ran := true }]) rest

/-- The clocks that a pipe has stalled for a frame whose result returns now (R180): from when stage 6 needed it, or from the last
clock counted, at 1.6 GHz. Only the oldest frame without a result stalls the pipe. -/
def State.stallClocks (s : State) (p : Nat) (f : PFrame) : Nat :=
  if ((s.pframesOf p).find? (fun g => !g.ran)).any (fun g => g.n == f.n) then (s.now - Nat.max (needAt f) (s.pipe p).stall) * 8 / 5 else 0

/-- Stalled clocks are counted. -/
def State.countStall (s : State) (p n : Nat) : State :=
  let s := s.setPipe p { s.pipe p with stall := Nat.max s.now (s.pipe p).stall }
  if n = 0 then s else ((s.bump .PIPE_STALL p n).ev PIPE_EVENT.STALL p).perf (pipeSet p) 0x004 n

/-- The engine of frame `n` returns its result to the reorder buffer (R180, R257); a full buffer takes only the result that stage 6
needs next. -/
def State.resultReturns (s : State) (p n : Nat) : State :=
  match (s.pframesOf p).find? (fun f => f.n == n && f.cls.isNone) with
    | none => s
    | some f =>
      let next := ((s.pframesOf p).find? (fun g => !g.ran)).any (fun g => g.n == n)
      if 64 ≤ s.inReorder p ∧ next = false then s
      else
        let k := s.stallClocks p f
        let s := s.perf (pipeSet p) 0x005
        let s := if next then s.countStall p k else s
        let s := s.setPframes p ((s.pframesOf p).map (fun g => if g.n = n then { g with cls := some g.found, before := false } else g))
        let s := (s.clsSettle f.twig).showReorder p
        (s.releaseFrames p [] (s.pframesOf p)).showReorder p

/-! ## Dispose (R181, R182) -/

/-- The pipe's sketch counts a frame (R367). -/
def State.sketchAdd (s : State) (p : Nat) (f : PFrame) : State :=
  if f.phv.noSketch then s
  else eachIn (List.zipIdx f.sketch) s (fun s e =>
    let k := (p, e.2 * 65536 + e.1)
    { s with sketch := tabSet s.sketch k (Nat.min (2 ^ 48 - 1) (tabGet s.sketch k 0 + f.phv.mf 0 16 15)) 0 })

/-- TEL.EXPORT inserts HASH_P into the partition's flag set (R369). -/
def State.flagAdd (s : State) (part h : Nat) : State :=
  let g := s.part part
  if g.flagSet.contains h then s
  else if 4096 ≤ g.flagSet.length then (s.bump .TELEM_FLAG_FULL).ev TELEM_EVENT.FLAG_FULL
  else s.setPart part { g with flagSet := g.flagSet ++ [h] }

/-- META as a descriptor carries it: reserved bits zero, COPY as the frame is one, TRUNC only in a copy (R175). -/
def metaOf (v : Phv) (copy : Bool) : Nat :=
  let m := Nat.land (v.get 0xE5) 0x03DDFFFF
  if copy then m + 2 ^ 17 else m - nbits m 25 1 * 2 ^ 25

/-- The frame that goes UP for queue `qid` (R156). -/
def upOf (f : PFrame) (bytes : List Nat) (qid : Nat) (bad copy : Bool) : UpFrame :=
  let v := f.phv
  {
    qid := qid, grist := !copy && v.mf 3 18 1 == 1, repin := false, pin := v.mf 7 16 8, inPort := f.src.port,
    color := v.mf 3 19 2, inTs := f.src.ts % 2 ^ 32, fmeta := metaOf v copy, bytes := bytes, bad := bad }

/-- A frame takes the cluster of its PIN (R161). A bough whose clusters have no room drops it (R157). -/
def State.sendUp (s : State) (p : Nat) (u : UpFrame) (excess : Bool) : State :=
  let b := p / 8
  let n := (s.activeClusters b).length
  if n = 0 ∨ (excess = true ∧ n ≤ 14) then s.bump .ROOT_IN_DROP b
  else
    let s := s.putUp b u
    if u.bad then s else (s.bump .PIPE_FRAMES p).perf (pipeSet p) 0x002

/-- What a frame's copy goes to: PUNT wins over MIRROR_EN (R181). -/
def copyQid (v : Phv) : Option Nat :=
  if v.mf 3 17 1 = 1 then some (512 * 16 + v.mf 4 14 4)
  else if v.mf 3 16 1 = 1 then some (v.mf 4 0 10 * 16 + v.mf 4 10 4)
  else none

/-- The dispose of one frame. -/
def State.disposeFrame (s : State) (p : Nat) (f : PFrame) (excess : Bool) : State :=
  let b := p / 8
  let f := tailArrived f 16
  let v := f.phv
  let drop := v.mf 3 15 1 == 1
  let s := s.sketchAdd p f
  let s := if v.flagIns then s.flagAdd f.twig f.hashP else s
  let s := if drop then s.perf (pipeSet p) 0x00E else s
  if f.failed then s.bump .PIPE_PROG_DROP p
  else
    let primary := !drop && v.mf 3 14 1 == 1
    match primary, copyQid v with
    | false, none => if drop then s.bump .PIPE_PROG_DROP p else (s.bump .PIPE_NO_DEST p).ev PIPE_EVENT.NO_DEST p
    | _, copy =>
      let r := match f.out with
        | some d => (d, d.length + f.cursor - (bodyOf f.src.bytes).length)
        | none => s.deparse b f.bank v (bodyOf f.src.bytes) f.spans f.cursor
      let s := s.drawn
      let bytes := r.1 ++ f.src.bytes.drop (f.src.bytes.length - 4)
      let guess := v.mf 0 16 15 + bytes.length - f.src.bytes.length
      if 384 < r.2 ∨ bytes.length < 14 ∨ 16384 < guess then s.lenDrop p
      else
        let bad := f.src.bad || decide (16384 < bytes.length)
        let s := if primary then s.sendUp p (upOf f bytes (v.mf 3 0 10 * 16 + v.mf 3 10 4) bad false) excess else s
        match copy with
        | none => s
        | some q =>
          (s.bump (if v.mf 3 17 1 = 1 then .PIPE_PUNT else .PIPE_MIRROR) p).sendUp p (upOf f bytes q bad true) excess

/-- PIPE_DISPOSE: the pipe's oldest frame, past stage 15, is disposed of and its bytes leave the twig's FIFO. -/
def execPipeDispose (p : Nat) (excess : Bool) (s : State) : Host.Outcome State Fault Refusal :=
  .next (match s.pframesOf p with
    | f :: rest =>
      if f.ran then ((((s.setPframes p rest).setPipe p { s.pipe p with held := s.now }).disposeFrame p f excess)).showFifo f.twig else s
    | [] => s)

end Sys2Proof.Machine
end

