-- ==== Sys2Proof/Machine/Egress.lean ====
section
/-! DEFINITION. Egress processing (R184, R185), the PTP and IOAM functions (R147, R380), the MAC's transmit side (R141, R143),
dozing (R187) and fostering (R188 to R190). -/
namespace Sys2Proof.Machine

/-! ## PTP (R147) -/

/-- ONE_STEP: the residence time in ns is added to correctionField, in units of 2^-16 ns; an IPv4 UDP checksum is zeroed, an IPv6
one corrected. -/
def oneStep (d : List Nat) (residence : Int) : List Nat :=
  match ptpAt d with
  | none => d
  | some (o, u) =>
    let old := sliceZ d (o + 8) 8
    let new := beBytes 8 (toField 64 (signedOf 64 (old.foldl (fun a b => a * 256 + b) 0) + residence * 65536))
    let d := putBytes d (o + 8) new
    match u with
    | none => d
    | some (ip, u) =>
      if ip.kind = .ip4 then putBytes d (u + 6) [0, 0]
      else putBytes d (u + 6) (beBytes 2 (sumFix (be16 d (u + 6)) old new))

/-- The PTP function for a frame that its pipe marked as an event message. Whether a frame carries a capture id, and which, is
not stated (a free value). -/
def State.ptpEgress (s : State) (p : Nat) (d : List Nat) (stamp inTs : Nat) : State × List Nat :=
  let v := s.port p
  let x := s.free
  let s := s.drawn
  let s := if v.twoStep && nbit x 16 then s.pushTs p (x % 65536) stamp else s
  (s, if v.oneStep then oneStep d ((stamp : Int) - inTs) else d)

/-! ## IOAM (R380) -/

/-- The options of a hop-by-hop header: the offset of the first IOAM option in bytes `o` to `e` for the namespace. -/
def ioamIn (d : List Nat) (ns : Nat) (e : Nat) : Nat → Nat → Option Nat
  | 0, _ => none
  | n + 1, o =>
    if e < o + 2 then none
    else
      let t := d.getD o 0
      let l := d.getD (o + 1) 0
      if t = 0 then ioamIn d ns e n (o + 1)
      else if t = 0x31 ∧ 10 ≤ l ∧ d.getD (o + 3) 0 = 0 ∧ o + 2 + l ≤ e ∧ (be16 d (o + 4) = ns ∨ be16 d (o + 4) = 0) then some (o + 4)
      else ioamIn d ns e n (o + 2 + l)

/-- Where the first IOAM pre-allocated trace option's data start, within the first 256 bytes. -/
def ioamAt (d : List Nat) (ns : Nat) : Option Nat :=
  (((layers d).filterMap (fun l =>
    match l.kind with
    | .ext 0 =>
      let e := l.off + (d.getD (l.off + 1) 0 + 1) * 8
      if e ≤ 256 then ioamIn d ns e 256 (l.off + 2) else none
    | _ => none))).head?

/-- The Hop Limit of the outermost IPv6 header. -/
def hopLimit (d : List Nat) : Nat :=
  match (layers d).find? (fun l => l.kind == .ip6) with
  | some l => d.getD (l.off + 7) 0
  | none => 0

/-- The node data of one Trace-Type bit. -/
def ioamPart (g : PipePart) (hop stamp inTs bit : Nat) : List Nat :=
  match bit with
  | 0 => [hop] ++ beBytes 3 g.nodeId
  | 2 => beBytes 4 (stamp / 1000000000)
  | 3 => beBytes 4 (stamp % 1000000000)
  | 4 => beBytes 4 (if 2 ^ 31 ≤ stamp - inTs then 2 ^ 32 - 1 else stamp - inTs)
  | 5 => beBytes 4 g.nsData
  | 8 => [hop] ++ beBytes 7 g.wideId
  | 10 => beBytes 8 g.nsWide
  | _ => []

/-- The IOAM function at egress. -/
def State.ioamEgress (s : State) (pp twig : Nat) (d : List Nat) (stamp inTs : Nat) : State × List Nat :=
  let g := s.part twig
  if g.ioEn = false then (s, d)
  else match ioamAt d g.nsId with
  | none => (s, d)
  | some o =>
    let w := be16 d (o + 2)
    let nodeLen := w / 2048
    let left := w % 128
    let ty := be16 d (o + 4) * 256 + d.getD (o + 6) 0
    let bits := (List.range 24).filter (fun i => nbit ty (23 - i))
    let data := bits.flatMap (ioamPart g (hopLimit d) stamp inTs)
    if bits.any (fun i => !([0, 2, 3, 4, 5, 8, 10].contains i)) ∨ nodeLen * 4 ≠ data.length then (s.bump .IOAM_SKIP, d)
    else if left < nodeLen then (s.bump .IOAM_OVF, putBytes d (o + 2) (beBytes 2 (Nat.lor w 1024)))
    else
      let d := putBytes d (o + 8 + (left - nodeLen) * 4) data
      (s.perf (pipeSet pp) 0x011, putBytes d (o + 2) (beBytes 2 (w - nodeLen)))

/-! ## The MAC's transmit side (R141, R143) -/

/-- A frame with its padding and FCS. -/
def withFcs (d : List Nat) : List Nat :=
  let d := d ++ List.replicate (60 - d.length) 0
  d ++ bytesOf 4 (fcsOf d)

/-- The bytes on the wire of a frame stomped after `sent` bytes: zero padding to at least 64 bytes and a multiple of 8 with the
inverted FCS (R143). -/
def stompBytes (d : List Nat) (sent : Nat) : List Nat :=
  let d := d.take sent
  let n := Nat.max 64 (ceilDiv (d.length + 4) 8 * 8)
  let d := d ++ List.replicate (n - 4 - d.length) 0
  d ++ bytesOf 4 (2 ^ 32 - 1 - fcsOf d)

/-- A frame that is bad or too long, when that reaches the MAC: stomped where the MAC has begun it. -/
def State.stompOr (s : State) (p : Nat) (d : List Nat) (sent : Nat) : State :=
  if sent = 0 then s else (s.bump .TX_STOMP p).macSend p (stompBytes d sent) true

/-! ## Egress processing (R184, R185) -/

/-- The next frame of port `p` in its turn (R164, R342): a frame whose queue is stopped waits aside, later frames of other queues
pass it. -/
def State.nextDn (s : State) (p : Nat) : Nat → State × Option DnFrame
  | 0 => (s, none)
  | n + 1 =>
    let b := egBough p
    let v := s.rootBough b
    match v.waiting.find? (fun d => d.outPort == p && !s.stopped (p * 16 + d.q)) with
    | some d => (s.setRootBough b { v with waiting := v.waiting.erase d }, some d)
    | none =>
      match v.reseq.find? (fun d => d.outPort == p && d.pseq == s.nextPseq p) with
      | none => (s, none)
      | some d =>
        let v := { v with reseq := v.reseq.erase d, nextSeq := tabSet v.nextSeq (p, 0) ((d.pseq + 1) % 65536) 0 }
        if s.stopped (p * 16 + d.q) then (s.setRootBough b { v with waiting := v.waiting ++ [d] }).nextDn p n
        else (s.setRootBough b v, some d)

/-- The egress PHV of a frame before its parse. -/
def State.egressPhv (s : State) (d : DnFrame) (inTs len : Nat) : Phv :=
  let v : Phv := {}
  let v := (v.put 0xE0 (len % 2 ^ 15 * 2 ^ 16)).put 0xE1 inTs
  let v := (v.put 0xE2 (inTs / 2 ^ 32)).put 0xE3 (d.outPort + d.q * 2 ^ 10 + 2 ^ 14)
  (v.put 0xE5 d.fmeta).put 0xEB (s.free % 2 ^ 32)

/-- Stage E1 or E2 (R203). -/
def State.egressStage (s : State) (pp : Nat) (bad : Bool) (prof e : Nat) (v : Phv) : State × Phv × Bool :=
  let b := pp / 8
  let bank := tabGet s.pipeBank (pp, 0) 0
  let w := s.progWord b bank 5 (4096 + (e - 1) * 4 + prof) 0
  if nbit w 15 then (s, v, false)
  else
    let c : UCtx := { st := b, src := 0x0F + e, pipe := pp, bank := bank, set := s.matchSet b, vend := (s.store b).vend }
    s.runRoutine { ctx := c, bad := bad } (nbits w 0 15) v

/-- E0's lookup (R184): the rewrite entry of EG_IDX and its outcome; zero where it selects none (R232), and a miss while the profile
changes (R229). -/
def State.rewriteEntry (s : State) (pp idx : Nat) : State × Nat × LookupRes :=
  if idx = 0 ∨ s.tblCap (pp / 8) 7 ≤ idx ∨ s.flag TBL_STATUS.CHANGING (pp / 8) = true then (s, 0, {})
  else
    let r := s.readDirect (pp / 8) 7 idx (pp % 8)
    (r.1, r.2, { hit := true })

/-- Egress parser, then stages E0 to E3: the frame without its FCS, the edited frame, whether a fetch fault discards it. -/
def State.egressEdit (s : State) (pp : Nat) (f : DnFrame) (inTs : Nat) : State × List Nat × Bool :=
  let b := pp / 8
  let bank := tabGet s.pipeBank (pp, 0) 0
  let d := bodyOf f.bytes
  let r := s.parse b bank (nbits (s.progWord b bank 7 0 1) 0 8) d (s.egressPhv f inTs (d.length + 4))
  let s := s.drawn
  let e := s.rewriteEntry pp (f.fmeta % 65536)
  let s := e.1
  let x := rewriteParse e.2.1 d r
  let r := x.2
  let prof := nbits f.fmeta 22 2
  let look := lookBits e.2.2
  let a := s.egressStage pp f.bad prof 1 { r.phv with adb := nbits e.2.1 128 128, look := look }
  let c := if a.2.2 then a else a.1.egressStage pp f.bad prof 2 { a.2.1 with adb := nbits e.2.1 256 128, look := look }
  let o := c.1.deparse b bank c.2.1 x.1 r.spans r.cursor
  (c.1.drawn, if f.ce then markCe o.1 else o.1, c.2.2)

/-- The fixed egress functions: PTP and IOAM. -/
def State.egressFixed (s : State) (pp twig p : Nat) (f : DnFrame) (d : List Nat) (inTs : Nat) : State × List Nat :=
  let stamp := ((s.tod : Int) + signedOf 16 (s.port p).egAdj).toNat
  let x := if p < 512 ∧ nbit f.fmeta 16 = true then s.ptpEgress p d stamp inTs else (s, d)
  if nbit f.fmeta 20 then x.1.ioamEgress pp twig x.2 stamp inTs else x

/-- A discarded export frame is told to the exporter (R377). -/
def State.exportGone (s : State) (f : DnFrame) : State :=
  match f.exp with
  | [i, first, n] => { s with expLost := s.expLost ++ [(i, first, n)] }
  | _ => s

/-- A frame at the end of egress: to its MAC, or around to its bough's recirculation FIFO. -/
def State.egressOut (s : State) (pp p : Nat) (f : DnFrame) (d : List Nat) (sent : Nat) : State :=
  if 512 ≤ p then
    if f.bad then s
    else
      let k := p - 578 + 2
      let s := s.setInjQ k (s.injQ k ++ [{ port := p, bytes := d ++ bytesOf 4 (fcsOf d), ts := s.free % 2 ^ 64, since := s.now }])
      s.drawn
  else if (s.port p).maxFrame < d.length + 4 then
    if sent = 0 then ((s.bump .PIPE_EG_OVERSIZE pp).ev PIPE_EVENT.EG_OVERSIZE pp).exportGone f else (s.exportGone f).stompOr p d sent
  else if f.bad then (s.exportGone f).stompOr p d sent
  else s.macSend p (withFcs d) false

/-- One frame through egress processing: export frames skip the stages and the fixed functions (R375). -/
def State.egressFrame (s : State) (pp twig p : Nat) (f : DnFrame) (sent : Nat) : State :=
  let s := s.setAhead p ((s.sport p).ahead - f.bytes.length)
  let s := s.showReseq (egBough p)
  let s := (s.bump .PIPE_EG_FRAMES pp).perf (pipeSet pp) 0x010
  if f.exp ≠ [] then s.egressOut pp p f (bodyOf f.bytes) sent
  else
    let inTs := extTs s.tod f.inTs
    let x := s.egressEdit pp f inTs
    if x.2.2 then if sent = 0 then x.1.bump .PIPE_PROG_DROP pp else x.1.stompOr p x.2.1 sent
    else
      let y := x.1.egressFixed pp twig p f x.2.1 inTs
      y.1.egressOut pp p f y.2 sent

/-- The twig whose pipe runs an egress port's processing (R184). -/
def egTwig (p : Nat) : Nat := if p < 512 then p / 8 else egBough p * 8

/-- A port's MAC starts frames: UP, no fault, not in low-power idle (R137, R142); a recirculation FIFO has room (R169). -/
def State.macReady (s : State) (p : Nat) : Bool :=
  if p < 512 then s.pstate p == pUP && !s.flag PORT_STATUS.LF p && !s.flag PORT_STATUS.RF p && !s.lpiHolds p
  else decide (578 ≤ p ∧ p ≤ 585)

/-- A pipe of this state runs: ACTIVE, its domain on. -/
def State.egressPipe (s : State) (p : Nat) : Option Nat := (s.serverOf (egTwig p)).filter (fun q => s.pipeRuns q)

/-- EGRESS_PROCESS: the next frame of port `p` leaves the resequencing buffer through egress. -/
def execEgressProcess (p sent : Nat) (s : State) : Host.Outcome State Fault Refusal :=
  .next (match s.egressPipe p with
    | none => s
    | some pp =>
      if s.macReady p = false ∨ s.switchHolds pp = true then s
      else match s.nextDn p ((s.rootBough (egBough p)).reseq.length + 1) with
        | (s, none) => s
        | (s, some f) => s.egressFrame pp (egTwig p) p f sent)

/-! ## Dozing (R187) -/

/-- Nothing waits for pipe `p`: its FIFOs are empty, no frame is in it, no DN frame waits for its ports. -/
def State.pipeIdle (s : State) (p : Nat) : Bool :=
  (s.twigsOf p).all (fun t => (s.twigQ t).isEmpty && (roleFifos t).all (fun k => (s.injQ k).isEmpty)) &&
  (s.pframesOf p).isEmpty &&
  ((s.rootBough (p / 8)).reseq ++ (s.rootBough (p / 8)).waiting).all (fun d => !(s.twigsOf p).contains (egTwig d.outPort))

/-- The performance counters of a pipe read from now on as they stand, while it dozes (R75). -/
def State.freezePerf (s : State) (p : Nat) : State := s.setPipe p { s.pipe p with froze := s.perfLive (pipeSet p) .PPERF_CYC }

/-- IDLE_US of a pipe: of the idle period under way, at most 5 while doze is forced (R438, R475). -/
def State.pipeIdleUs (s : State) (p : Nat) : Nat := if s.pwr.forced then Nat.min (s.pipe p).usNow 5 else (s.pipe p).usNow

/-- PIPE_DOZE_ENTRY: the pipe's FIFOs have been empty for its IDLE_US and it holds nothing: it gates its clock. IDLE_US 0 means never. -/
def execPipeDozeEntry (p : Nat) (s : State) : Host.Outcome State Fault Refusal :=
  .next (if s.ust (tgt cPIPE p) = uACTIVE ∧ s.pipeIdleUs p ≠ 0 ∧ s.pipeIdle p = true ∧ s.switchHolds p = false ∧
      (s.pipe p).fed + s.pipeIdleUs p * usNs ≤ s.now then (s.freezePerf p).setUst (tgt cPIPE p) uDOZE 1 else s)

/-- A dozing pipe wakes. -/
def State.wakePipe (s : State) (p : Nat) : State :=
  if s.ust (tgt cPIPE p) = uDOZE then
    (s.bump .PIPE_WAKE p).setUst (tgt cPIPE p) (if s.twigsOf p = [] then uREADY else uACTIVE) 1
  else s

/-- The reload of a pipe at a switch, in ns: that of the worked example of R223 (DESIGN CHOICE; R222 gives the bound of 30 µs). -/
def reloadNs : Nat := 25700

/-- A switch under way goes on (R222): the pipe in turn, woken if it dozes, drains, reloads and runs the new bank; then the next. A pipe
that is RETIRED by then is passed over. With every pipe switched and walker 3 parked, the new bank is active. -/
def State.switchStep (s : State) (st : Nat) : State :=
  let v := s.store st
  match v.sw with
  | none => s
  | some bank =>
    if v.after && (List.range st).any (fun k => (s.store k).sw.isSome) then s
    else match v.left with
    | [] => if s.ctxState st 3 = 1 then s else s.switchBank st bank
    | p :: rest =>
      let next := fun (s : State) => (s.setStore st { s.store st with left := rest, swAt := 0 }).setFld UC_STATUS.SW_PIPE st (rest.headD 0)
      if s.ust (tgt cPIPE p) = uRETIRED then next s
      else if s.pframesOf p ≠ [] then s.wakePipe p
      else if v.swAt = 0 then (s.wakePipe p).setStore st { v with swAt := s.now + reloadNs }
      else if s.now < v.swAt then s
      else
        let s : State := { s with pipeBank := tabSet s.pipeBank (p, 0) bank 0 }
        next (s.setStore st { v with did := v.did ++ [p] })

/-- PIPE_WAKE: an arrival wakes a dozing pipe. -/
def execPipeWake (p : Nat) (s : State) : Host.Outcome State Fault Refusal := .next (if s.pipeIdle p then s else s.wakePipe p)

/-! ## Fostering (R21, R188 to R190) -/

/-- A pipe can foster: powered and in service, and fostering none. -/
def State.mayFoster (s : State) (p : Nat) : Bool :=
  let u := s.ust (tgt cPIPE p)
  (u == uREADY || u == uACTIVE || u == uDOZE) && !s.flag PIPE_STATUS.FOSTER_VALID p && (s.pipe p).leave == 0

/-- The pipe that would foster twig `t` (R21): the left neighbour in the bough, else the right. -/
def State.fostererOf (s : State) (t : Nat) : Option Nat :=
  let l := t / 8 * 8 + (t % 8 + 7) % 8
  let r := t / 8 * 8 + (t % 8 + 1) % 8
  if s.mayFoster l then some l else if s.mayFoster r then some r else none

/-- A twig passes to the pipe that fosters it, or its ports are taken down (R21). -/
def State.fosterTwig (s : State) (t : Nat) : State :=
  match s.fostererOf t with
  | some f =>
    let s := s.wakePipe f
    let s := (s.setFld PIPE_STATUS.FOSTER_VALID f 1).setFld PIPE_STATUS.FOSTER_TWIG f t
    ((s.setFld PIPE_STATUS.SERVED_BY t f).setFld PIPE_STATUS.SERVED_VALID t 1).ev PIPE_EVENT.FOSTER_START f
  | none =>
    let s := s.setFld PIPE_STATUS.SERVED_VALID t 0
    eachIn ((List.range 8).map (fun k => t * 8 + k)) s State.portTaken

/-- Pipe `p` gives up its twigs, its own first. -/
def State.passTwigs (s : State) (p : Nat) : State :=
  eachIn (s.twigsOf p) ((s.setFld PIPE_STATUS.OWN p 0).setFld PIPE_STATUS.FOSTER_VALID p 0) State.fosterTwig

/-- Pipes whose fostering takes the same neighbours (R31). -/
def nearPipes (p q : Nat) : Bool := p / 8 == q / 8 && ((p + 1) % 8 == q % 8 || (q + 1) % 8 == p % 8 || (p + 2) % 8 == q % 8 || (q + 2) % 8 == p % 8)

/-- Pipe `q` leaves service by a fostering that comes before that of pipe `p`: the two take the same neighbours, and its fault was
detected earlier (R31). -/
def State.fostersFirst (s : State) (q p : Nat) : Bool :=
  let a := s.pipe q
  let b := s.pipe p
  nearPipes p q && a.leave != 0 && a.leave != 4 &&
    (decide (a.since < b.since) || (a.since == b.since && ((a.leave != 5 && b.leave == 5) || ((a.leave == 5) == (b.leave == 5) && decide (q < p)))))

/-- The earlier fosterings that pipe `p` waits for. -/
def State.fosterQueue (s : State) (p : Nat) : List Nat := (List.range 64).filter (fun q => s.fostersFirst q p)

/-- The state once the fosterings that pipe `p` waits for, and its own, are done: what they will end in is known at detection (R493). -/
def State.afterFostering (s : State) (p : Nat) : State := (eachIn (s.fosterQueue p) s State.passTwigs).passTwigs p

/-- The events of a permanent pipe at detection, by the outcome of its fostering (R21, R28, R188, R493): each twig left without a pipe,
and its own twig's fosterer. -/
def State.fosterTold (s : State) (p : Nat) (perm : Bool) : State :=
  let t := s.afterFostering p
  let s := eachIn ((s.twigsOf p).filter (fun k => !t.flag PIPE_STATUS.SERVED_VALID k)) s (fun s k => s.raise 0x0604 kDEGRADED (tgt cTWIG k) 0)
  if perm = true ∧ (s.twigsOf p).contains p = true ∧ t.flag PIPE_STATUS.SERVED_VALID p = true then
    s.raise 0x0603 kRETIRED (tgt cPIPE p) (t.fld PIPE_STATUS.SERVED_BY p)
  else s

/-- Pipe `p` leaves service (R188 step 1): by a graft (1), a command to retire it (2) or as permanent (3, or 5 where it waits for
the fostering of a pipe near it), which discards the frames in it. A restore under way with either pipe stops (R190). -/
def State.pipeLeave (s : State) (p kind : Nat) : State :=
  let t := tgt cPIPE p
  let fail := fun (s : State) (q : Nat) =>
    ((s.setPipe q { s.pipe q with leave := 0 }).setUst (tgt cPIPE q) uGRAFT 3).finish 0x0C02 (fun k => k.target == tgt cPIPE q)
      { status := eHW, results := [wd uGRAFT], anyDetail := true }
  let s := if (s.pipe p).leave = 4 then fail s p else s
  let f := s.fld PIPE_STATUS.FOSTER_TWIG p
  let s := if kind = 3 ∧ s.flag PIPE_STATUS.FOSTER_VALID p = true ∧ (s.pipe f).leave = 4 then fail s f else s
  let s := s.wakePipe p
  let s := if kind = 3 then ((s.bump .TWIG_FOSTER_DROP p (s.pframesOf p).length).setPframes p []).showReorder p else s
  let s := eachIn (s.twigsOf p) s (fun s t => (s.showFifo t).clsSettle t)
  let waits := (List.range 64).any (fun q => nearPipes p q && (s.pipe q).leave != 0 && (s.pipe q).leave != 4)
  let s := s.setPipe p { s.pipe p with leave := if kind = 3 ∧ waits = true then 5 else kind, since := s.now, began := s.now }
  let s := s.fosterTold p (kind == 3)
  (s.setUst t uGRAFT (if kind = 3 then 3 else 2)).setHeld t (kind == 3)

/-- CLS_RESULT_RETURN: the engine of frame `n` returns its result (R180). `mem` from 1 to 4: the pipe met an uncorrectable error in that
internal memory on the way (R498; 4 is a lookup engine's) and repeated the operation; the fourth within 10 ms makes the pipe
permanent, and it is fostered (R501). -/
def execClsResultReturn (p n mem : Nat) (s : State) : Host.Outcome State Fault Refusal :=
  let t := tgt cPIPE p
  let s := s.resultReturns p n
  .next (if mem = 0 ∨ 4 < mem ∨ s.ust t ≠ uACTIVE then s
    else
      let s := (s.raise 0x0602 kRETRIED t mem).notePerm t 0x0602
      if 4 ≤ s.permCount t 0x0602 (10 * msNs) then s.pipeLeave p 3 else s)

/-- PIPE_FOSTER_START: the twigs of a pipe that leaves pass to their fosterers, its own first; the pipe ends in GRAFT or RETIRED.
A grafted pipe first finishes the frames it holds; a fostering that takes a neighbour of an earlier one waits for that one (R31). -/
def execPipeFosterStart (p : Nat) (s : State) : Host.Outcome State Fault Refusal :=
  let v := s.pipe p
  let t := tgt cPIPE p
  let sel := fun (k : Packet) => k.target == t
  .next (if v.leave = 0 ∨ v.leave = 4 ∨ s.pframesOf p ≠ [] ∨ s.fosterQueue p ≠ [] then s
    else
      let waited := (v.began - v.since) / usNs
      let s := if waited = 0 then s else eachIn (s.twigsOf p) (s.tellWait 0x0603 t waited) (fun s k => s.tellWait 0x0604 (tgt cTWIG k) waited)
      let s := (s.passTwigs p).setPipe p { v with leave := 0 }
      let s := eachIn (List.range 64) s (fun s q =>
        let w := s.pipe q
        if nearPipes p q = true ∧ w.leave ≠ 0 ∧ w.leave ≠ 4 ∧ v.since ≤ w.since then s.setPipe q { w with began := s.now } else s)
      if v.leave = 1 then (s.setUst t uGRAFT 2).finish 0x0C01 sel (ok [wd uGRAFT])
      else if v.leave = 2 then (s.retire t 2).finish 0x0C03 sel (ok [wd uRETIRED])
      else (s.retire t 3).setHeld t false)

/-- A restored pipe waits for its twig (R190, R441). -/
def State.pipeReturn (s : State) (p : Nat) : State :=
  (s.setPipe p { s.pipe p with leave := 4, since := s.now, began := s.now }).setUst (tgt cPIPE p) uWAKING 2

/-- PIPE_FOSTER_HANDBACK: the fosterer has disposed of the last frame of the twig: the restored pipe takes it back. -/
def execPipeFosterHandback (p : Nat) (s : State) : Host.Outcome State Fault Refusal :=
  .next (if (s.pipe p).leave ≠ 4 then s
    else
      let f := s.fld PIPE_STATUS.SERVED_BY p
      let valid := s.flag PIPE_STATUS.SERVED_VALID p
      if valid = true ∧ (s.pframesOf f).any (fun g => g.twig == p) = true then s
      else
        let s := if valid then (s.setFld PIPE_STATUS.FOSTER_VALID f 0).ev PIPE_EVENT.FOSTER_END f else s
        let s := ((s.setFld PIPE_STATUS.OWN p 1).setFld PIPE_STATUS.SERVED_BY p p).setFld PIPE_STATUS.SERVED_VALID p 1
        let s := (s.setPipe p { s.pipe p with leave := 0 }).setUst (tgt cPIPE p) uACTIVE 2
        s.finish 0x0C02 (fun k => k.target == tgt cPIPE p) (ok [wd uACTIVE]))

/-- PIPE_NO_PROGRESS: the pipe holds a frame and has disposed of none for 10 µs: permanent (R501). -/
def execPipeNoProgress (p : Nat) (s : State) : Host.Outcome State Fault Refusal :=
  .next (if s.ust (tgt cPIPE p) = uACTIVE ∧ s.pframesOf p ≠ [] ∧ (s.pipe p).held + 10 * usNs ≤ s.now then s.pipeLeave p 3 else s)

end Sys2Proof.Machine
end

