-- ==== Sys2Proof/Machine/Clocks.lean ====
section
/-! DEFINITION. Clocks: sources and their monitors (R445 to R448, R451), PLLs and fallback (R449 to R459), trimming (R452, R453), the
clock commands (R453, R454, R463). -/
namespace Sys2Proof.Machine

/-! ## Sources (R445, R446) -/

/-- OFF. -/
abbrev kOFF : Nat := 0
/-- STARTING. -/
abbrev kSTARTING : Nat := 1
/-- READY. -/
abbrev kREADY : Nat := 2
/-- FAILED. -/
abbrev kFAILED : Nat := 3

/-- The state of a source. -/
def State.srcState (s : State) (n : Nat) : Nat := s.fld CLK_SRC.STATE n
/-- A source changes state. -/
def State.setSrc (s : State) (n st : Nat) : State :=
  { s.setFld CLK_SRC.STATE n st with
    clk.srcAt := tabSet s.clk.srcAt (n, 0) s.now 0, clk.goodWin := tabSet s.clk.goodWin (n, 0) 0 0 }
/-- When a source entered its state (R446). -/
def State.srcSince (s : State) (n : Nat) : Nat := tabGet s.clk.srcAt (n, 0) 0
/-- The start-up timeout of a source in ns (R445). -/
def State.srcTimeout (s : State) (n : Nat) : Nat :=
  if n = 1 then 100 * usNs else if n = 2 ∨ (n = 3 ∧ s.flag CLK_SRC.EXT 3 = false) then 20 * msNs else msNs

/-- The TARGET instance of a source (R445). -/
def srcInst (n : Nat) : Nat := if n < 4 then n else n + 4
/-- The source an instance names. -/
def srcOfInst (i : Nat) : Option Nat := if i < 4 then some i else if i = 8 ∨ i = 9 then some (i - 4) else none

/-- The limits of a monitor window's count (R451). -/
def windowLimits (n : Nat) : Nat × Nat :=
  match n with
  | 1 => (1465, 1660)
  | 2 => (184, 207)
  | 3 => (92, 103)
  | _ => (573, 648)

/-- A window of a starting source ends: it counts where it lies within the limits, and one that does not starts the row anew. -/
def State.windowSeen (s : State) (n count : Nat) : State :=
  if s.srcState n ≠ kSTARTING then s
  else
    let w := if (windowLimits n).1 ≤ count ∧ count ≤ (windowLimits n).2 then tabGet s.clk.goodWin (n, 0) 0 + 1 else 0
    { s with clk.goodWin := tabSet s.clk.goodWin (n, 0) w 0 }

/-- The windows in a row that make a source READY: one for a crystal, whose amplitude detector answers for the rest; two for a source
without such a detector (R447). -/
def State.winsNeeded (s : State) (n : Nat) : Nat := if n = 2 ∨ (n = 3 ∧ s.flag CLK_SRC.EXT 3 = false) then 1 else 2

/-! ## PLLs (R449) -/

/-- The PLL instances of R449, ascending. -/
def pllList : List Nat := [4] ++ (List.range 4).map (0x10 + ·) ++ (List.range 8).map (0x20 + ·) ++ (List.range 64).map (0x40 + ·) ++ [0x80, 0x81]

/-- An instance is a PLL's. -/
def isPll (i : Nat) : Bool := pllList.contains i

/-- A PLL's chain, in order. -/
def chainOf (i : Nat) : List Nat :=
  if i = 4 then [2, 3, 1, 0] else if 0x40 ≤ i ∧ i < 0x80 then [4, 5] else [2, 3, 1]

/-- A PLL's record. -/
def State.pll (s : State) (i : Nat) : PllRec := tabGet s.clk.plls (i, 0) {}
/-- Write it. -/
def State.setPll (s : State) (i : Nat) (v : PllRec) : State := { s with clk.plls := tabSet s.clk.plls (i, 0) v {} }
/-- A PLL's state: 0 OFF, 1 LOCKING, 2 LOCKED, 3 HELD. -/
def State.pllState (s : State) (i : Nat) : Nat := s.fld CLK_PLL.STATE i

/-- A PLL takes its reference from source `n` and relocks. -/
def State.selectSrc (s : State) (i n : Nat) : State :=
  ((s.setPll i { s.pll i with wait := none, noSrc := false }).setFld CLK_PLL.SRC i n).setFld CLK_PLL.STATE i 1

/-- The lanes of a twig whose PLL stops lose lock; their ports take local fault (R457, R137). -/
def State.twigStops (s : State) (t : Nat) : State :=
  eachIn ((List.range 8).map (fun k => t * 8 + k)) s (fun s l =>
    if s.linkable l = true ∧ s.lstate l = lUP then ((s.lockLost l).setLState l lHUNT 3).laneFault l else s)

/-- A PLL's gate closes (R449, R456): its domain's clock stops. -/
def State.closeGate (s : State) (i : Nat) : State :=
  let s := s.setPll i { s.pll i with since := s.now }
  if 0x40 ≤ i ∧ i < 0x80 then s.twigStops (i - 0x40) else s

/-- A PLL becomes HELD (R456, R459); while quadrant PLL 0 is, TOD runs from SIRC (R449). A gate that is closed already stays
closed: the hold goes on. -/
def State.holdPll (s : State) (i : Nat) : State :=
  let old := s
  let s := (if s.pllState i = 2 then s.closeGate i else s).setFld CLK_PLL.STATE i 3
  let s := (s.showTwigTx old i).ev CLK_EVENT.HOLD
  if i = 0x10 then s.ev CLK_EVENT.TOD_COARSE else s

/-- The ports of a twig take local fault and are in FAULT (R459, R501). -/
def State.twigFault (s : State) (t : Nat) : State :=
  eachIn ((List.range 8).map (fun k => t * 8 + k)) s (fun s p => if pTRAINING ≤ s.pstate p then s.portTaken p else s)

/-! ## The history entry of a trip (R459) -/

/-- Record a trip whose PLLs are all done. -/
def State.tripEntry (s : State) (r : TripRec) : State :=
  s.raise 0x0201 (if r.waited then kDEGRADED else kRETIRED) (tgt cCLK (srcInst r.src))
    (r.src + r.new % 16 * 16 + Nat.min (2 ^ 24 - 1) r.hold * 256)

/-- Record the trips that no PLL is open on any more. -/
def State.settleTrips (s : State) : State :=
  let done := s.clk.trips.filter (fun r => r.pend == [])
  eachIn done { s with clk.trips := s.clk.trips.filter (fun r => r.pend != []) } State.tripEntry

/-- A PLL's fallback has to wait, or finds no source: its trips are DEGRADED. -/
def State.tripWaits (s : State) (i : Nat) : State :=
  { s with clk.trips := s.clk.trips.map (fun (r : TripRec) => if r.pend.contains i then { r with waited := true } else r) }

/-- A PLL is done with its trips, after a hold of `us` on source `n`. -/
def State.tripDone (s : State) (i us n : Nat) : State :=
  { s with clk.trips := s.clk.trips.map (fun (r : TripRec) =>
      if r.pend.contains i then { r with pend := r.pend.erase i, hold := Nat.max r.hold us, new := n } else r) }.settleTrips

/-! ## Fallback (R456) -/

/-- The procedure of R456 for a HELD PLL, up to where it waits; a PLL under it is held against commands (R461). -/
def State.fallBack (s : State) (i : Nat) : State :=
  let t := tgt cCLK i
  if s.pllState i ≠ 3 ∨ s.flag CLK_PLL.CHAIN_EN i = false then s
  else match (chainOf i).find? (fun n => s.srcState n == kREADY) with
  | some n => (s.setHeld t true).selectSrc i n
  | none =>
    match (chainOf i).find? (fun n => s.srcState n == kOFF || s.srcState n == kSTARTING) with
    | some n =>
      let s := if s.srcState n = kOFF then s.setSrc n kSTARTING else s
      ((s.setHeld t true).setPll i { s.pll i with wait := some n, noSrc := false }).tripWaits i
    | none =>
      let s := ((s.setHeld t false).setPll i { s.pll i with wait := none, noSrc := true }).ev CLK_EVENT.NO_SOURCE
      let s := (s.tripWaits i).tripDone i ((s.now - (s.pll i).since) / usNs) 0xF
      if 0x40 ≤ i ∧ i < 0x80 then (s.raise 0x0203 kDEGRADED t (i - 0x40)).twigFault (i - 0x40)
      else s.raise 0x0204 kFATAL t i

/-- A PLL of a domain that powers up locks to the source its multiplexer names, where that is READY; else it falls back (R449). -/
def State.startPll (s : State) (i : Nat) : State :=
  let s := (s.setFld CLK_PLL.STATE i 3).setPll i { since := s.now }
  let n := s.fld CLK_PLL.SRC i
  if s.srcState n = kREADY then s.selectSrc i n else s.fallBack i

/-- TWIG_PLL_WAKE: the PLL of a twig in DEEP_DOZE relocks; its lanes are in DOZE again and may wake (R120). With its reference
failed it falls back first, and the lanes wait for its lock. -/
def execTwigPllWake (t : Nat) (s : State) : Host.Outcome State Fault Refusal :=
  .next (if s.ust (tgt cTWIG t) ≠ uDEEP then s
    else if s.pllState (0x40 + t) = 2 ∨ (s.pllState (0x40 + t) = 0 ∧ s.srcState (s.fld CLK_PLL.SRC (0x40 + t)) = kREADY) then
      let s := s.setFld CLK_PLL.STATE (0x40 + t) 2
      let s := s.setUst (tgt cTWIG t) uDOZE 1
      eachIn (List.range 8) s (fun s k =>
        if s.ust (tgt cLANE (t * 8 + k)) = uDEEP then s.setUst (tgt cLANE (t * 8 + k)) uDOZE 1 else s)
    else if s.pllState (0x40 + t) = 0 then s.startPll (0x40 + t)
    else s)

/-- The PLLs that use a source: LOCKED on it or LOCKING to it. -/
def State.usersOf (s : State) (n : Nat) : List Nat :=
  pllList.filter (fun i => s.fld CLK_PLL.SRC i == n && (s.pllState i == 1 || s.pllState i == 2))

/-- The PLLs that a trip of `n` takes with it are held: those that use it; an entry is opened for the trip. -/
def State.tripHolds (s : State) (n : Nat) : State :=
  let us := s.usersOf n
  let s := eachIn us s State.holdPll
  let pend := us.filter (fun i => s.flag CLK_PLL.CHAIN_EN i || (s.pll i).want.isSome)
  let l : TripRec := { src := n, pend := pend, waited := pend != us, hold := 0, new := if us = [] then s.free % 16 else 0xF }
  { s with clk.trips := s.clk.trips ++ [l], freeCtr := s.freeCtr + 1 }

/-- A commanded switch to a source that fails before its selection ends E_NOT_READY (R461). -/
def State.wantFails (s : State) (n : Nat) : State :=
  eachIn (pllList.filter (fun i => (s.pll i).want == some n)) s (fun s i =>
    (s.setPll i { s.pll i with want := none }).finish 0x0801 (fun q => q.target == tgt cCLK i) (refuse eNOTREADY kFAILED))

/-- Sources trip at the end of one window: all are FAILED before any chain is evaluated (R461). -/
def State.tripSources (s : State) (ns : List Nat) : State :=
  let s := eachIn ns s (fun s n => (s.setSrc n kFAILED).setFld ⟨.CLK_EVENT, n, 1⟩ 0 1)
  let s := eachIn ns s State.wantFails
  let s := eachIn ns s State.tripHolds
  (eachIn (pllList.filter (fun i => s.pllState i == 3 && (s.pll i).want.isNone && (s.clk.trips.any (fun r => ns.contains r.src && r.pend.contains i))))
    s State.fallBack).settleTrips

/-- CLK_MONITOR_WINDOW: windows of 16 SIRC cycles end (R451): the counts show, and a READY source outside its limits trips. -/
def execClkMonitorWindow (counts : List (Nat × Nat)) (s : State) : Host.Outcome State Fault Refusal :=
  let live := counts.filter (fun c => decide (1 ≤ c.1) && decide (c.1 ≤ 5) && s.srcState c.1 != kOFF)
  let out := live.filter (fun c => s.srcState c.1 == kREADY && (decide (c.2 < (windowLimits c.1).1) || decide ((windowLimits c.1).2 < c.2)))
  .next ((eachIn live s (fun s c => (s.setFld CLK_SRC.COUNT c.1 (Nat.min 4095 c.2)).windowSeen c.1 c.2)).tripSources ((out.map Prod.fst).eraseDups))

/-- At boot SYSPLL starts on FIRC and moves to XA once XA is READY, or to XB if XA fails its start-up (R452); `n` is the source that
has just become READY or failed. -/
def State.bootClock (s : State) (n : Nat) : State :=
  if s.clk.bootMove = false ∨ s.pllState 4 ≠ 2 then s
  else if n = 2 ∧ s.srcState 2 = kREADY then { s.setFld CLK_PLL.SRC 4 2 with clk.bootMove := false }
  else if s.srcState 2 = kFAILED ∧ s.srcState 3 = kREADY then { s.setFld CLK_PLL.SRC 4 3 with clk.bootMove := false }
  else s

/-- CLK_SOURCE_READY: a starting source passes its READY test (R447): the fallbacks that wait for it go on, and every PLL without a
source whose chain holds it is taken again (R456). -/
def execClkSourceReady (n : Nat) (s : State) : Host.Outcome State Fault Refusal :=
  .next (if 1 ≤ n ∧ n ≤ 5 ∧ s.srcState n = kSTARTING ∧ s.winsNeeded n ≤ tabGet s.clk.goodWin (n, 0) 0 then
      let s := (s.setSrc n kREADY).bootClock n
      eachIn (pllList.filter (fun i => s.pllState i == 3 && ((s.pll i).wait == some n || ((s.pll i).noSrc && (chainOf i).contains n))))
        s State.fallBack
    else s)

/-- CLK_START_TIMEOUT: a source fails its start-up (R446, R459). -/
def execClkStartTimeout (n : Nat) (s : State) : Host.Outcome State Fault Refusal :=
  .next (if 1 ≤ n ∧ n ≤ 5 ∧ s.srcState n = kSTARTING ∧ s.srcSince n + s.srcTimeout n ≤ s.now then
      let s := ((s.setSrc n kFAILED).ev CLK_EVENT.START_TIMEOUT).bootClock n
      let ws := pllList.filter (fun i => s.pllState i == 3 && (s.pll i).wait == some n)
      let s := if ws = [] then s else s.raise 0x0202 kDEGRADED (tgt cCLK (srcInst n)) n
      eachIn ws s State.fallBack
    else s)

/-- CLK_SOURCE_RETRY: 1 s after it failed, an enabled source starts again (R446). -/
def execClkSourceRetry (n : Nat) (s : State) : Host.Outcome State Fault Refusal :=
  .next (if 1 ≤ n ∧ n ≤ 5 ∧ s.srcState n = kFAILED ∧ s.flag CLK_SRC.EN n = true ∧ s.srcSince n + 1000 * msNs ≤ s.now then
      s.setSrc n kSTARTING
    else s)

/-- Whether a PLL uses a source or waits for it. -/
def State.srcUsed (s : State) (n : Nat) : Bool :=
  s.usersOf n != [] || pllList.any (fun i => (s.pll i).wait == some n || (s.pll i).want == some n)

/-- A write of `CLK_SRC`.EN (R446, R461). -/
def State.writeSrcEn (s : State) (n en : Nat) : State :=
  if n = 0 ∨ 5 < n then s
  else if en % 2 = 1 then
    let s := s.setFld CLK_SRC.EN n 1
    if s.srcState n = kOFF then s.setSrc n kSTARTING else s
  else if s.srcUsed n then s.ev CLK_EVENT.EN_REFUSED
  else (s.setFld CLK_SRC.EN n 0).setSrc n kOFF

/-- CLK_SRC_EN_WRITE. -/
def execClkSrcEnWrite (n en : Nat) (s : State) : Host.Outcome State Fault Refusal := .next (s.writeSrcEn n en)

/-- A write of `CLK_SRC`.TRIM: the trim code of SIRC or FIRC (R462). -/
def State.writeTrim (s : State) (n code : Nat) : State := if n < 2 then s.setFld CLK_SRC.TRIM n code else s

/-- CLK_TRIM_WRITE. -/
def execClkTrimWrite (n code : Nat) (s : State) : Host.Outcome State Fault Refusal := .next (s.writeTrim n code)

/-- A write of `CLK_PLL`.CHAIN_EN: 1 to a HELD PLL starts the procedure of R456 at once (R462). -/
def State.writeChainEn (s : State) (i en : Nat) : State :=
  if isPll i then
    let s := s.setFld CLK_PLL.CHAIN_EN i en
    if (s.pll i).wait.isNone && (s.pll i).want.isNone then s.fallBack i else s
  else s

/-- CHAIN_EN_WRITE. -/
def execChainEnWrite (i en : Nat) (s : State) : Host.Outcome State Fault Refusal := .next (s.writeChainEn i en)

/-! ## Relock (R449, R450) -/

/-- A Cellar PLL runs again after a hold of more than 1 ms (R458): the racked blocks of its channels are lost, the extension is
cleared, and the channels train in full. -/
def State.cellarCold (s : State) (k : Nat) : State :=
  let chs := ((List.range 8).map (fun j => 8 * k + j)).filter (fun c => s.ust (tgt cCELLAR c) == uACTIVE)
  let s := eachIn chs s (fun s c =>
    (eachIn (s.tun.queues.map (fun e => e.1.1)) s (fun s q => s.loseBlocks q c)).setUst (tgt cCELLAR c) uWAKING 3)
  s.relayExt (s.fld CELLAR_EXT.TELEM_MIB) (s.fld CELLAR_EXT.WALK_MIB)

/-- A PLL is permanent (R501): it cannot lock, or has lost lock 4 times within 10 ms. -/
def State.pllDead (s : State) (i : Nat) : State :=
  let s := s.setPll i { s.pll i with dead := true }
  if 0x40 ≤ i ∧ i < 0x80 then (s.raise 0x0205 kDEGRADED (tgt cCLK i) 0).twigFault (i - 0x40)
  else s.raise 0x0205 kFATAL (tgt cCLK i) 0

/-- The clusters that a quadrant's or bough's PLL clocks. -/
def pllClusters (i : Nat) : List Nat :=
  if 0x10 ≤ i ∧ i < 0x14 then (List.range 32).map (fun k => 32 * (i - 0x10) + k)
  else if 0x20 ≤ i ∧ i < 0x28 then (List.range 16).map (fun k => 16 * (i - 0x20) + k)
  else []

/-- After a hold of an end, a cluster retrains with its retry state kept and resumes from ACK + 1 (R458). -/
def State.clusterResumes (s : State) (c : Nat) : State := if s.carries c then (s.replay c false).replay c true else s

/-- A PLL reaches lock: its gate opens, and what waits for it goes on. -/
def State.pllLock (s : State) (i : Nat) : State :=
  let us := (s.now - (s.pll i).since) / usNs
  let old := s
  let s := ((s.setFld CLK_PLL.STATE i 2).setHeld (tgt cCLK i) false).setPll i { s.pll i with want := none }
  let s := (if 0x40 ≤ i ∧ i < 0x80 then s.takeSetting (i - 0x40) else s).showTwigTx old i
  let s := eachIn (pllClusters i) s State.clusterResumes
  let s := (s.tripDone i us (s.fld CLK_PLL.SRC i)).finish 0x0801 (fun q => q.target == tgt cCLK i) ok
  if (i = 0x80 ∨ i = 0x81) ∧ 1000 < us then s.cellarCold (i - 0x80) else s

/-- PLL_LOCKED: a relocking PLL reaches lock (R449), or cannot (R500). -/
def execPllLocked (i : Nat) (pass : Bool) (s : State) : Host.Outcome State Fault Refusal :=
  .next (if isPll i = false ∨ s.pllState i ≠ 1 ∨ (s.pll i).dead = true then s
    else if pass then s.pllLock i
    else ((s.setHeld (tgt cCLK i) false).finish 0x0801 (fun q => q.target == tgt cCLK i) (deny eHW)).pllDead i)

/-- PLL_LOCK_LOSS: a LOCKED PLL loses lock with its reference good, and relocks (R450). -/
def execPllLockLoss (i : Nat) (s : State) : Host.Outcome State Fault Refusal :=
  .next (if isPll i = false ∨ s.pllState i ≠ 2 then s
    else
      let t := tgt cCLK i
      let s := ((s.satFld CLK_PLL.LOCK_LOSS i 1).ev CLK_EVENT.LOCK_LOSS).raise 0x0205 kRETRIED t 0
      let old := s
      let s := (((s.setFld CLK_PLL.STATE i 1).closeGate i).showTwigTx old i).notePerm t 0x0205
      if 4 ≤ s.permCount t 0x0205 (10 * msNs) then s.pllDead i else s)

/-! ## Switching by command (R454, R455) -/

/-- CLK_SWITCH's effect. The first value the environment supplies says whether the old reference has stopped: then the forced path
ends the switch (R455). -/
def effClkSwitch (p : Packet) (s : State) : State × Rep :=
  let i := tInst p.target
  let n := parF p 0 0 3
  let en := parF p 0 8 1
  if isPll i = false then (s, refuse eTARGET (p.target % 65536))
  else if !onlyBits p 0 0x107 || !(chainOf i).contains n then (s, badPar 0)
  else if s.pllState i = 0 then (s, deny eSTATE)
  else if (s.pll i).dead then (s, deny eHW)
  else if s.srcState n ≠ kREADY then (s, refuse eNOTREADY (s.srcState n))
  else
    let s := s.setFld CLK_PLL.CHAIN_EN i en
    if s.fld CLK_PLL.SRC i = n ∧ s.pllState i ≠ 3 then (s, ok)
    else if s.pllState i = 2 then
      if envAt p 0 = 1 then (s.setPll i { s.pll i with want := some n }, laterRep)
      else (s.setFld CLK_PLL.SRC i n, ok)
    else (s.selectSrc i n, laterRep)

/-- CLK_SWITCH. -/
def execClkSwitch (p : Packet) (s : State) : Host.Outcome State Fault Refusal := .next (s.command 0x0801 effClkSwitch p)

/-- MUX_FORCE_SELECT: 8 SIRC cycles after the old clock's last edge the multiplexer takes the new reference (R455). -/
def execMuxForceSelect (i : Nat) (s : State) : Host.Outcome State Fault Refusal :=
  .next (match (s.pll i).want with
    | some n =>
      let old := s
      let s := if s.pllState i = 2 then s.closeGate i else s
      ((s.setPll i { s.pll i with want := none }).selectSrc i n).showTwigTx old i
    | none => s)

/-- CLK_STATUS's effect (R463). -/
def effClkStatus (p : Packet) (s : State) : State × Rep :=
  let i := tInst p.target
  if i = 0xFFF then (s, ok ((List.range 6).map (fun n => s.reg .CLK_SRC n) ++ pllList.map (fun i => s.reg .CLK_PLL i)))
  else match srcOfInst i with
  | some n => (s, ok [s.reg .CLK_SRC n])
  | none => (s, ok [s.reg .CLK_PLL i])

/-- CLK_STATUS. -/
def execClkStatus (p : Packet) (s : State) : Host.Outcome State Fault Refusal := .next (s.command 0x0803 effClkStatus p)

/-! ## Trimming (R452, R453) -/

/-- A trim reference is available: 1 XA, 2 XB, 3 SOF marks, 0 any of them. -/
def State.trimRef (s : State) (r : Nat) : Bool :=
  let sof := s.flag CLK_TRIM_CTL.SOF_SEEN && s.flag SVC_USB.CONN && s.flag SVC_USB.CONFIGURED
  match r with
  | 1 => s.srcState 2 == kREADY
  | 2 => s.srcState 3 == kREADY
  | 3 => sof
  | _ => s.srcState 2 == kREADY || s.srcState 3 == kREADY || sof

/-- Half a trim step of an oscillator, in ppm. -/
def halfStep (osc : Nat) : Int := if osc = 0 then 500 else 1000

/-- A trim code moved one step against an error; a code at its end stays and sets TRIM_LIMIT. A higher code is a higher frequency
(DESIGN CHOICE). -/
def State.trimStep (s : State) (osc : Nat) (ppm : Int) : State :=
  let c := s.fld CLK_SRC.TRIM osc
  if ppm ≤ halfStep osc ∧ -(halfStep osc) ≤ ppm then s
  else if 0 < ppm then (if c = 0 then s.ev CLK_EVENT.TRIM_LIMIT else s.setFld CLK_SRC.TRIM osc (c - 1))
  else if c = 255 then s.ev CLK_EVENT.TRIM_LIMIT
  else s.setFld CLK_SRC.TRIM osc (c + 1)

/-- The last error measured of an oscillator. -/
def State.trimErr (s : State) (osc : Nat) : Word := if osc = 0 then s.clk.errSirc else s.clk.errFirc
/-- Keep it. -/
def State.setTrimErr (s : State) (osc : Nat) (ppm : Int) : State :=
  if osc = 0 then { s with clk.errSirc := BitVec.ofInt 32 ppm } else { s with clk.errFirc := BitVec.ofInt 32 ppm }

/-- The automatic trimming of an oscillator. -/
def autoFld (osc : Nat) : Fld := if osc = 0 then CLK_TRIM_CTL.SIRC_AUTO else CLK_TRIM_CTL.FIRC_AUTO

/-- TRIM_MEASURE: a measurement of automatic trimming ends, 100 ms after the one before (R452). -/
def execTrimMeasure (osc : Nat) (ppm : Int) (s : State) : Host.Outcome State Fault Refusal :=
  .next (if osc < 2 ∧ s.flag (autoFld osc) = true ∧ s.trimRef (s.fld CLK_TRIM_CTL.REF) = true ∧
        tabGet s.clk.trimAt (osc, 0) 0 ≤ s.now then
      ({ s with clk.trimAt := tabSet s.clk.trimAt (osc, 0) (s.now + 100 * msNs) 0 }.setTrimErr osc ppm).trimStep osc ppm
    else s)

/-- Trim now to convergence (MODE 1): a step after every measurement that is out, 16 measurements at most. -/
def State.trimNow (s : State) (osc : Nat) : List Int → State
  | [] => s
  | e :: rest =>
    let s := s.setTrimErr osc e
    if (e ≤ halfStep osc ∧ -(halfStep osc) ≤ e) ∨ rest = [] then s else (s.trimStep osc e).trimNow osc rest

/-- CLK_TRIM's effect (R453). The measurements of MODE 1 are what the environment supplies, in ppm as 32-bit two's complement. -/
def effClkTrim (p : Packet) (s : State) : State × Rep :=
  let osc := tInst p.target
  let m := parF p 0 0 2
  let r := parF p 0 4 2
  if 1 < osc then (s, refuse eTARGET (p.target % 65536))
  else if m = 3 ∨ onlyBits p 0 0x00FF0033 = false then (s, badPar 0)
  else if (r ≠ 0 ∨ m = 1) ∧ s.trimRef r = false then (s, refuse eNOTREADY r)
  else
    let s := s.setFld (autoFld osc) 0 (b2n (m == 0))
    let s := if m = 0 then s.setFld CLK_TRIM_CTL.REF 0 r
      else if m = 1 then s.trimNow osc ((List.range 16).map (fun k => signedOf 32 (envAt p k)))
      else s.setFld CLK_SRC.TRIM osc (parF p 0 16 8)
    (s, ok [wd (s.fld CLK_SRC.TRIM osc), if m = 2 then 0 else s.trimErr osc])

/-- CLK_TRIM. -/
def execClkTrim (p : Packet) (s : State) : Host.Outcome State Fault Refusal := .next (s.command 0x0802 effClkTrim p)

/-- SIRC_FAULT: a SIRC period longer than 800 FIRC cycles (R448). -/
def execSircFault (cycles : Nat) (s : State) : Host.Outcome State Fault Refusal :=
  .next (if cycles ≤ 800 then { s with clk.sircBad := false }
    else if s.clk.sircBad then s
    else { s.ev CLK_EVENT.SIRC_FAULT with clk.sircBad := true }.raise 0x0206 kFATAL (tgt cCLK 0) 0)

/-- USB_SOF_MARK: a start-of-frame mark arrives at the connected, configured service port (R452). -/
def execUsbSofMark (s : State) : Host.Outcome State Fault Refusal :=
  .next (if s.flag SVC_USB.CONN = true ∧ s.flag SVC_USB.CONFIGURED = true then s.setFld CLK_TRIM_CTL.SOF_SEEN 0 1 else s)

end Sys2Proof.Machine
end

