-- ==== Sys2Proof/Machine/Reduce.lean ====
section
/-! DEFINITION. Grist arithmetic: the formats of R392, the operations of R403, the output conversions of R404. A float is taken
apart as sign, and the exact magnitude num / den · 2^e. -/
namespace Sys2Proof.Machine

/-! ## Binary formats -/

/-- A binary float format: mantissa bits, the exponent of its least subnormal, the bits of its infinity or, where it saturates,
of its largest value, whether it saturates, its NaN. -/
structure FFmt where
  mant : Nat
  qmin : Int
  top  : Nat
  sat  : Bool
  nan  : Nat
  deriving DecidableEq, Repr

/-- FP32. -/
def fFP32 : FFmt := ⟨23, -149, 0x7F800000, false, 0x7FC00000⟩
/-- FP16. -/
def fFP16 : FFmt := ⟨10, -24, 0x7C00, false, 0x7E00⟩
/-- BF16. -/
def fBF16 : FFmt := ⟨7, -133, 0x7F80, false, 0x7FC0⟩
/-- FP8 E4M3. -/
def fE4M3 : FFmt := ⟨3, -9, 0x7E, true, 0x7F⟩
/-- FP8 E5M2. -/
def fE5M2 : FFmt := ⟨2, -16, 0x7C, false, 0x7E⟩

/-- num / den rounded half to even. -/
def divEven (num den : Nat) : Nat :=
  let q := num / den
  let r := num % den
  if den < 2 * r ∨ (2 * r = den ∧ q % 2 = 1) then q + 1 else q

/-- floor(log2(num / den · 2^e)) for num ≠ 0. -/
def floorLog (num den : Nat) (e : Int) : Int :=
  let k : Int := (Nat.log2 num : Int) - (Nat.log2 den : Int)
  let low := if 0 ≤ k then decide (num < den * 2 ^ k.toNat) else decide (num * 2 ^ (-k).toNat < den)
  e + k - (if low then 1 else 0)

/-- The magnitude num / den · 2^e in a format, round to nearest even, overflow to infinity or saturating. -/
def roundMag (f : FFmt) (num den : Nat) (e : Int) : Nat :=
  if num = 0 then 0
  else
    let q := max (floorLog num den e - f.mant) f.qmin
    let d := e - q
    let n := if 0 ≤ d then divEven (num * 2 ^ d.toNat) den else divEven num (den * 2 ^ (-d).toNat)
    let bits := (q - f.qmin).toNat * 2 ^ f.mant + n
    if f.top ≤ bits then f.top else bits

/-- A decoded FP32: NaN, infinity or a finite value m · 2^e. -/
inductive FVal where
  | nan
  | inf (neg : Bool)
  | fin (neg : Bool) (m : Nat) (e : Int)
  deriving DecidableEq, Repr

/-- An FP32's value. -/
def fp32Val (x : Nat) : FVal :=
  let neg := nbit x 31
  let ex := nbits x 23 8
  let m := nbits x 0 23
  if ex = 255 then (if m = 0 then .inf neg else .nan)
  else if ex = 0 then .fin neg m (-149)
  else .fin neg (m + 2 ^ 23) ((ex : Int) - 150)

/-- The sign bit of FP32. -/
def signBit (neg : Bool) : Nat := if neg then 2 ^ 31 else 0

/-- The canonical NaN (R403). -/
abbrev qNaN : Nat := 0x7FC00000

/-! ## Conversion into accumulation format (R403) -/

/-- A value of a small IEEE-like format with `w` bits into FP32; `ieee` where its top exponent holds infinities and NaNs. -/
def smallTo32 (f : FFmt) (w : Nat) (ieee : Bool) (x : Nat) : Nat :=
  let neg := nbit x (w - 1)
  let ex := nbits x f.mant (w - 1 - f.mant)
  let m := nbits x 0 f.mant
  let top := 2 ^ (w - 1 - f.mant) - 1
  if ieee = true ∧ ex = top then (if m = 0 then signBit neg + 0x7F800000 else qNaN)
  else if ieee = false ∧ ex = top ∧ m = 2 ^ f.mant - 1 then qNaN
  else
    let mm := if ex = 0 then m else m + 2 ^ f.mant
    signBit neg + roundMag fFP32 mm 1 (f.qmin + (if ex = 0 then 0 else (ex : Int) - 1))

/-- An MXFP8 element under its block's scale (R403). -/
def mxTo32 (scale x : Nat) : Nat :=
  if scale = 255 then qNaN
  else
    let v := smallTo32 fE4M3 8 false x
    match fp32Val v with
    | .fin neg m e => signBit neg + roundMag fFP32 m 1 (e + (scale : Int) - 127)
    | _ => qNaN

/-- The payload bytes of `n` elements of a format (R392). -/
def payloadLen (fmt n : Nat) : Nat :=
  match fmt with
  | 0 => 4 * n
  | 1 => 2 * n
  | 2 => 2 * n
  | 3 => n
  | 4 => n
  | 5 => 4 * n
  | _ => 33 * n / 32

/-- An element of a payload in accumulation format. -/
def elemOf (fmt : Nat) (d : List Nat) (i : Nat) : Nat :=
  let le := fun (o k : Nat) => leNat ((d.drop o).take k)
  match fmt with
  | 0 => le (4 * i) 4
  | 1 => smallTo32 fFP16 16 true (le (2 * i) 2)
  | 2 => smallTo32 fBF16 16 true (le (2 * i) 2)
  | 3 => smallTo32 fE4M3 8 false (le i 1)
  | 4 => smallTo32 fE5M2 8 true (le i 1)
  | 5 => le (4 * i) 4
  | _ => mxTo32 (le (33 * (i / 32)) 1) (le (33 * (i / 32) + 1 + i % 32) 1)

/-- A payload's elements in accumulation format. -/
def vectorOf (fmt n : Nat) (d : List Nat) : List Nat := (List.range n).map (elemOf fmt d)

/-! ## Operations (R403) -/

/-- FP32 addition. -/
def fpAdd (x y : Nat) : Nat :=
  match fp32Val x, fp32Val y with
  | .nan, _ => qNaN
  | _, .nan => qNaN
  | .inf a, .inf b => if a = b then signBit a + 0x7F800000 else qNaN
  | .inf a, _ => signBit a + 0x7F800000
  | _, .inf b => signBit b + 0x7F800000
  | .fin a m e, .fin b n f =>
    let up := fun (neg : Bool) (k : Nat) (g : Int) =>
      let v : Int := ((k * 2 ^ (g + 149).toNat : Nat) : Int)
      if neg then -v else v
    let t := up a m e + up b n f
    if t = 0 then signBit (a && b) else signBit (decide (t < 0)) + roundMag fFP32 t.natAbs 1 (-149)

/-- The order of FP32 values, −0 below +0. -/
def fpKey (x : Nat) : Int := if nbit x 31 then -(nbits x 0 31 : Int) - 1 else (nbits x 0 31 : Int)

/-- FP32 minimum or maximum. -/
def fpMinMax (isMax : Bool) (x y : Nat) : Nat :=
  if fp32Val x = .nan ∨ fp32Val y = .nan then qNaN
  else if fpKey x < fpKey y then (if isMax then y else x) else (if isMax then x else y)

/-- One combination of two elements: `op` 0 SUM, 1 MIN, 2 MAX, 3 AVG. -/
def combine (int : Bool) (op x y : Nat) : Nat :=
  if op = 1 ∨ op = 2 then
    if int then (if (signedOf 32 x < signedOf 32 y) = (op = 1) then x else y) else fpMinMax (op == 2) x y
  else if int then (x + y) % 2 ^ 32 else fpAdd x y

/-- Two vectors combined, element by element. -/
def combineVec (int : Bool) (op : Nat) (xs ys : List Nat) : List Nat := List.zipWith (combine int op) xs ys

/-- AVG's division at a ROOT. -/
def divTotal (int : Bool) (total x : Nat) : Nat :=
  if int then
    let v := signedOf 32 x
    let q : Int := divEven v.natAbs total
    toField 32 (if v < 0 then -q else q)
  else match fp32Val x with
  | .nan => qNaN
  | .inf a => signBit a + 0x7F800000
  | .fin a m e => signBit a + roundMag fFP32 m total e

/-! ## Output (R404) -/

/-- An FP32 value in a small format with sign bit `w` − 1; infinities saturate where the format does. -/
def smallOf (f : FFmt) (w x : Nat) : Nat :=
  let sgn := fun (a : Bool) => if a then 2 ^ (w - 1) else 0
  match fp32Val x with
  | .nan => f.nan
  | .inf a => sgn a + f.top
  | .fin a m e => sgn a + roundMag f m 1 e

/-- A block of an MXFP8 payload. -/
def mxBlock (xs : List Nat) : List Nat :=
  let vals := xs.map fp32Val
  if vals.any (fun v => match v with | .fin _ _ _ => false | _ => true) then 255 :: xs.map (fun _ => 0)
  else
    let amax := xs.foldl (fun a x => Nat.max a (nbits x 0 31)) 0
    let e : Nat := match fp32Val amax with
      | .fin _ m k => if m = 0 then 0 else Nat.min 254 (floorLog m 1 k - 8 + 127).toNat
      | _ => 0
    e :: vals.map (fun v => match v with
      | .fin a m k => (if a then 128 else 0) + roundMag fE4M3 m 1 (k + 127 - e)
      | _ => 0)

/-- A vector cut into blocks of 32. -/
def blocksOf (xs : List Nat) : List (List Nat) := (List.range (ceilDiv xs.length 32)).map (fun k => (xs.drop (32 * k)).take 32)

/-- A result vector as payload bytes in a format. -/
def payloadOf (fmt : Nat) (xs : List Nat) : List Nat :=
  match fmt with
  | 0 => xs.flatMap (bytesOf 4)
  | 1 => xs.flatMap (fun x => bytesOf 2 (smallOf fFP16 16 x))
  | 2 => xs.flatMap (fun x => bytesOf 2 (smallOf fBF16 16 x))
  | 3 => xs.map (smallOf fE4M3 8)
  | 4 => xs.map (smallOf fE5M2 8)
  | 5 => xs.flatMap (bytesOf 4)
  | _ => (blocksOf xs).flatMap mxBlock

end Sys2Proof.Machine
end

