-- ==== Sys2Proof/Machine/Telem.lean ====
section
/-! DEFINITION. Telemetry: the clock TOD (R363), flow sketches and histograms (R368), flag sets (R370), tagging (R374), IOAM settings
(R381), export streams (R375 to R379), performance counter sets (R382 to R384). -/
namespace Sys2Proof.Machine

/-! ## TOD (R363) -/

/-- The SET value. -/
def State.todValue (s : State) : Nat := (s.reg .TELEM_TOD_SET_LO).toNat + (s.reg .TELEM_TOD_SET_HI).toNat * 2 ^ 32

/-- A set or step that waits takes effect. -/
def State.todApply (s : State) : State :=
  match s.todPend with
  | 1 => { s with tod := s.todValue, todPend := 0 }
  | 2 => { s with tod := (s.tod + s.todValue) % 2 ^ 64, todPend := 0 }
  | _ => s

/-- TOD_SET: TOD takes the SET value at the next Tun clock. -/
def execTodSet (s : State) : Host.Outcome State Fault Refusal := .next (if s.todPend = 1 then s.todApply else s)

/-- TOD_STEP: the SET value, signed, is added to TOD. -/
def execTodStep (s : State) : Host.Outcome State Fault Refusal := .next (if s.todPend = 2 then s.todApply else s)

/-- TOD is within 4 ns of a multiple of 10^9. -/
def State.atSecond (s : State) : Bool := decide (s.tod % 1000000000 ≤ 4 ∨ 999999996 ≤ s.tod % 1000000000)

/-- PPS_OUT_EDGE: TOD crosses a multiple of 10^9: PPS_OUT rises for PPS_WIDTH µs. -/
def execPpsOutEdge (s : State) : Host.Outcome State Fault Refusal :=
  .next (if s.flag TELEM_TOD_CTL.PPS_OUT_EN = true ∧ s.atSecond = true ∧ s.ppsFall = none then
      { s.emit (.pin "PPS_OUT" 1) with ppsFall := some (s.now + Nat.max 1 (s.fld TELEM_TOD_CTL.PPS_WIDTH) * usNs) }
    else s)

/-- PPS_IN_EDGE: a rising edge latches TOD. -/
def execPpsInEdge (s : State) : Host.Outcome State Fault Refusal :=
  .next (if s.flag TELEM_TOD_CTL.PPS_IN_EN then
      ((s.setReg .TELEM_PPS_IN_LO 0 (lo32 s.tod)).setReg .TELEM_PPS_IN_HI 0 (hi32 s.tod)).ev TELEM_EVENT.PPS_IN
    else s)

/-! ## TELEM_READ (R368) -/

/-- A sketch counter of a physical pipe. -/
def State.sketchAt (s : State) (p row i : Nat) : Nat := tabGet s.sketch (p, row * 65536 + i) 0

/-- TELEM_READ of a sketch row. -/
def effTelemSketch (p : Packet) (s : State) : State × Rep :=
  let row := parF p 1 0 2
  let first := parF p 1 16 16
  let count := parN p 2
  let pipe := tInst p.target
  if !onlyBits p 1 0xFFFF0003 || decide (65536 < first + count) then (s, badPar (if onlyBits p 1 0xFFFF0003 then 2 else 1))
  else if s.outOf p.target then (s, deny eHW)
  else
    let is := (List.range count).map (fun k => first + k)
    let r := ok (is.flatMap (fun i => [lo32 (s.sketchAt pipe row i), hi32 (s.sketchAt pipe row i)]))
    (if parF p 0 8 1 = 1 ∧ resultsFit p r = true then
      { s with sketch := eachIn is s.sketch (fun t i => tabSet t (pipe, row * 65536 + i) 0 0) } else s, r)

/-- TELEM_READ of sojourn histograms. -/
def effTelemHist (p : Packet) (s : State) : State × Rep :=
  if !onlyBits p 1 0xFFFF then (s, badPar 1)
  else
    let bins := (queuesOf [tInst p.target] (parF p 1 0 16)).flatMap (fun q => (List.range 16).map (fun n => q * 16 + n))
    let r := ok (bins.map (fun i => lo32 (s.cnt .TELEM_Q_HIST i)))
    (if parF p 0 8 1 = 1 ∧ resultsFit p r = true then eachIn bins s (fun s i => s.setCnt .TELEM_Q_HIST i 0) else s, r)

/-- TELEM_READ's effect. -/
def effTelemRead (p : Packet) (s : State) : State × Rep :=
  let sel := parF p 0 0 4
  let n := 3 - sel
  if !onlyBits p 0 0x10F || decide (1 < sel) then (s, badPar 0)
  else if parCount p ≠ n then (s, refuse eLEN (lenDetail n n))
  else if (tCls p.target = cPIPE) ≠ (sel = 0) then (s, refuse eTARGET (p.target % 65536))
  else if sel = 0 then effTelemSketch p s
  else effTelemHist p s

/-- TELEM_READ. -/
def execTelemRead (p : Packet) (s : State) : Host.Outcome State Fault Refusal := .next (s.command 0x0503 effTelemRead p)

/-! ## Flag sets, tagging, IOAM settings (R370, R374, R381) -/

/-- The flag set after an operation of SAP_FLAG with these values. -/
def flagOp (op : Nat) (vals set : List Nat) : List Nat :=
  match op with
  | 0 => vals.foldl (fun l v => if l.contains v then l else l ++ [v]) set
  | 1 => set.filter (fun v => !vals.contains v)
  | _ => []

/-- SAP_FLAG's effect. -/
def effSapFlag (p : Packet) (s : State) : State × Rep :=
  let op := parF p 0 0 2
  let count := parF p 0 16 16
  if !onlyBits p 0 0xFFFF0003 || op == 3 || decide (4096 < count) || (op == 2 && count != 0) then (s, badPar 0)
  else if parCount p ≠ 1 + count then (s, refuse eLEN (lenDetail (1 + count) (1 + count)))
  else
    let vals := (parWords p 1 count).map BitVec.toNat
    let ps := instances p.target 64
    if ps.any (fun i => decide (4096 < (flagOp op vals (s.part i).flagSet).length)) then (s, deny eRESOURCE)
    else
      let t := eachIn ps s (fun s i => s.setPart i { s.part i with flagSet := flagOp op vals (s.part i).flagSet })
      (t, ok [wd (t.part (ps.headD 0)).flagSet.length])

/-- SAP_FLAG. -/
def execSapFlag (p : Packet) (s : State) : Host.Outcome State Fault Refusal := .next (s.command 0x0502 effSapFlag p)

/-- TAG_CFG's effect. -/
def effTagCfg (p : Packet) (s : State) : State × Rep :=
  if !onlyBits p 0 0x1F01 || decide (24 < parF p 0 8 5) then (s, badPar 0)
  else (eachIn (instances p.target 64) s (fun s i =>
    s.setPart i { s.part i with tagEn := parF p 0 0 1 == 1, tagN := parF p 0 8 5 }), ok)

/-- TAG_CFG. -/
def execTagCfg (p : Packet) (s : State) : Host.Outcome State Fault Refusal := .next (s.command 0x0504 effTagCfg p)

/-- A partition's IOAM settings after the words given; omitted words keep theirs. -/
def ioamOf (p : Packet) (g : PipePart) : PipePart :=
  let pick := fun (i new old : Nat) => if hasPar p i then new else old
  { g with
    ioEn := parF p 0 0 1 == 1, nsId := parF p 0 16 16,
    nodeId := pick 1 (parF p 1 0 24) g.nodeId,
    wideId := pick 2 (parN p 2) (g.wideId % 2 ^ 32) + pick 3 (parF p 3 0 24) (g.wideId / 2 ^ 32) * 2 ^ 32,
    nsData := pick 4 (parN p 4) g.nsData, nsWide := pick 5 (parN p 5) g.nsWide }

/-- IOAM_CFG's effect. -/
def effIoamCfg (p : Packet) (s : State) : State × Rep :=
  match firstBad p ([(0, 0xFFFF0001), (1, 0xFFFFFF), (3, 0xFFFFFF)].filter (fun m => hasPar p m.1)) with
  | some i => (s, badPar i)
  | none => (eachIn (instances p.target 64) s (fun s i => s.setPart i (ioamOf p (s.part i))), ok)

/-- IOAM_CFG. -/
def execIoamCfg (p : Packet) (s : State) : Host.Outcome State Fault Refusal := .next (s.command 0x0505 effIoamCfg p)

/-! ## Export streams (R375 to R379) -/

/-- The bytes of a template, byte 0 in bits [7:0] of word 4. -/
def tmplOf (p : Packet) (n : Nat) : List Nat := (List.range n).map (fun k => parF p (4 + k / 4) (8 * (k % 4)) 8)

/-- What a word of a stream's settings is refused for. -/
def streamBad (p : Packet) : Option Nat :=
  let encap := parF p 1 1 2
  let len := parF p 1 16 7
  let off := parF p 1 8 7
  let maxB := parF p 2 16 12
  match firstBad p [(0, 0x70F), (1, 0x7F7F07), (2, 0x0FFF3FFF), (3, 0x0FFF03FF)] with
  | some i => some i
  | none =>
    if encap = 3 ∨ 64 < len ∨ (encap = 1 ∧ len ≠ off + 28) ∨ (encap = 2 ∧ len ≠ off + 48) then some 1
    else if 514 * 16 ≤ parF p 2 0 14 ∨ maxB < 32 ∨ 1920 < maxB ∨ maxB % 32 ≠ 0 then some 2
    else if 1000 < parF p 3 0 10 ∨ 2048 < parF p 3 16 12 then some 3
    else none

/-- BACKLOG_MIB of the enabled streams but `i`. -/
def State.backlogSum (s : State) (i : Nat) : Nat :=
  sumN ((List.range 8).map (fun k => if k ≠ i ∧ s.flag TELEM_STR_STATUS.EN k = true then (s.stream k).backlog else 0))

/-- SEL 0: a stream's settings. Its records, gap records and sequence start afresh; a frame of it in assembly is discarded. -/
def effStreamSet (p : Packet) (s : State) : State × Rep :=
  let i := parF p 0 8 3
  let en := parF p 1 0 1
  match streamBad p with
  | some k => (s, badPar k)
  | none =>
    if en = 1 ∧ s.flag TELEM_STR_STATUS.EN i = true then (s, deny eSTATE)
    else if en = 1 ∧ s.fld CELLAR_EXT.TELEM_MIB < s.backlogSum i + parF p 3 16 12 then (s, deny eRESOURCE)
    else
      let v : Stream := {
        encap := parF p 1 1 2, ipOff := parF p 1 8 7, tmpl := tmplOf p (parF p 1 16 7), dest := parF p 2 0 14,
        maxB := parF p 2 16 12, flushUs := parF p 3 0 10, backlog := parF p 3 16 12 }
      let s := (s.setStream i v).setReg .TELEM_STR_STATUS i (wd en)
      let s := if en = 1 then s.setReg .TELEM_STR_SEQ i 0 else s
      let s := s.setOffers 2 ((s.offersAt 2).filter (fun f => f.exp.head? != some i))
      let s := match s.asmAt 2 1 with
        | some k => if (s.tframe k).exp.head? = some i then (s.setAsm 2 1 none).freeFrame k else s
        | none => s
      ({ s with expLost := s.expLost.filter (fun e => e.1 != i) }, ok)

/-- SEL 1: queues' telemetry settings. -/
def effStreamQueues (p : Packet) (s : State) : State × Rep :=
  let first := parF p 1 0 14
  let count := parF p 1 16 14
  match firstBad p [(0, 0xF), (1, 0x3FFF3FFF), (2, 0x1F)] with
  | some i => (s, badPar i)
  | none =>
    if 10240 < first + count then (s, badPar 1)
    else (eachIn ((List.range count).map (fun k => first + k)) s (fun s q =>
      (s.setReg .TELEM_Q_CFG q (par p 2)).setReg .TELEM_Q_SOJ_TH q (par p 3)), ok)

/-- TELEM_STREAM_CFG's effect. -/
def effTelemStreamCfg (p : Packet) (s : State) : State × Rep :=
  let sel := parF p 0 0 4
  let n := if sel = 0 then 20 else 4
  if decide (1 < sel) then (s, badPar 0)
  else if parCount p ≠ n then (s, refuse eLEN (lenDetail n n))
  else if sel = 0 then effStreamSet p s
  else effStreamQueues p s

/-- TELEM_STREAM_CFG. -/
def execTelemStreamCfg (p : Packet) (s : State) : Host.Outcome State Fault Refusal := .next (s.command 0x0501 effTelemStreamCfg p)

/-- A gap record (R377). -/
def gapBytes (dev : Nat) (g : Gap) : List Nat :=
  beBytes 2 dev ++ [0x1F, g.kind % 16 + b2n g.span * 16] ++ beBytes 4 g.lost ++ beBytes 8 g.first ++ beBytes 8 g.last ++
  beBytes 4 g.firstSeq ++ beBytes 4 g.lastSeq

/-- The longest run of whole records that fills at most `room` bytes, and the rest. -/
def fitRecords (room : Nat) : List (List Nat) → List (List Nat) × List (List Nat)
  | [] => ([], [])
  | r :: rs =>
    if room < r.length then ([], r :: rs)
    else
      let x := fitRecords (room - r.length) rs
      (r :: x.1, x.2)

/-- The lengths and checksums that the module fills in, over a frame without its FCS (R376). -/
def fillHeaders (encap off : Nat) (d : List Nat) : List Nat :=
  match encap with
  | 1 =>
    let d := putBytes d (off + 2) (beBytes 2 (d.length - off))
    let d := putBytes (putBytes d (off + 24) (beBytes 2 (d.length - off - 20))) (off + 26) [0, 0]
    let d := putBytes d (off + 10) [0, 0]
    putBytes d (off + 10) (beBytes 2 (inetSum (sliceZ d off 20)))
  | 2 =>
    let n := d.length - off - 40
    let d := putBytes d (off + 4) (beBytes 2 n)
    let d := putBytes (putBytes d (off + 44) (beBytes 2 n)) (off + 46) [0, 0]
    let x := inetSum (sliceZ d (off + 8) 32 ++ beBytes 4 n ++ [0, 0, 0, 17] ++ d.drop (off + 40))
    putBytes d (off + 46) (beBytes 2 (if x = 0 then 65535 else x))
  | _ => d

/-- The exporter holds a frame that the Tun has not taken whole (R375). -/
def State.exporterBusy (s : State) : Bool := !(s.offersAt 2).isEmpty || (s.asmAt 2 1).isSome

/-- The records that wait in a stream, pending gap records first (R377). -/
def State.waitingRecs (s : State) (i : Nat) : List (List Nat) :=
  (s.stream i).gaps.map (gapBytes (s.fld ⟨.GLB_DEV_ID, 0, 16⟩)) ++ (s.stream i).recs

/-- An export frame is built of the records that wait and offered to the Tun (R376, R377). Its PIN is not stated (a free value). -/
def State.buildExport (s : State) (i : Nat) : State :=
  let v := s.stream i
  let x := fitRecords v.maxB (s.waitingRecs i)
  let ng := v.gaps.length
  let n := x.1.length
  let first := s.fld TELEM_STR_SEQ.SEQ i
  let body := x.1.flatten
  let hdr := [0x10 + b2n (!v.started), i] ++ beBytes 2 (s.fld ⟨.GLB_DEV_ID, 0, 16⟩) ++ beBytes 4 first ++ beBytes 2 n ++ beBytes 2 body.length
    ++ beBytes 4 s.tod
  let d := fillHeaders v.encap v.ipOff (v.tmpl ++ hdr ++ body)
  let lost := sumN ((v.gaps.take n).map (fun g => g.lost))
  let s := s.setStream i { v with
    gaps := v.gaps.drop n, gapAt := v.gapAt.drop n, recs := v.recs.drop (n - ng), recAt := v.recAt.drop (n - ng), started := true }
  let s := ((s.setFld TELEM_STR_SEQ.SEQ i ((first + n) % 2 ^ 32)).setFld TELEM_STR_STATUS.GAP i (b2n (decide (n < ng)))).showBacklog i
  let s := (s.bump .TELEM_STR_RECORDS i n).bump .TELEM_STR_LOST i lost
  let f : UpFrame := {
    qid := v.dest, grist := false, repin := false, pin := s.free % 256, inPort := 512, color := 0, inTs := s.tod % 2 ^ 32, fmeta := 0,
    bytes := d ++ bytesOf 4 (fcsOf d), bad := false, exp := [i, first, n] }
  s.drawn.setOffers 2 (s.offersAt 2 ++ [f])

/-- A stream may build a frame: it is enabled, records wait, the exporter is free. -/
def State.mayBuild (s : State) (i : Nat) : Bool :=
  s.flag TELEM_STR_STATUS.EN i && !(s.waitingRecs i).isEmpty && !s.exporterBusy

/-- EXPORT_FRAME_BUILD: the records that wait fill MAX_BYTES, or FLUSH_US is 0 (R376). -/
def execExportFrameBuild (i : Nat) (s : State) : Host.Outcome State Fault Refusal :=
  .next (if s.mayBuild i = true ∧ ((s.stream i).flushUs = 0 ∨ (s.stream i).maxB ≤ (s.waitingRecs i).flatten.length) then s.buildExport i else s)

/-- When the first of a stream's waiting records, gap records among them, began to wait. -/
def State.firstWait (s : State) (i : Nat) : Nat :=
  match (s.stream i).gapAt.head?, (s.stream i).recAt.head? with
  | some a, some b => Nat.min a b
  | some a, none => a
  | none, some b => b
  | none, none => s.now

/-- EXPORT_FLUSH_TIMER: FLUSH_US have passed since the first record began to wait (R376). -/
def execExportFlushTimer (i : Nat) (s : State) : Host.Outcome State Fault Refusal :=
  .next (if s.mayBuild i = true ∧ s.firstWait i + (s.stream i).flushUs * usNs ≤ s.now then s.buildExport i else s)

/-- EXPORT_FRAME_LOST: the exporter learns of a discarded export frame: a numbered gap (R377). -/
def execExportFrameLost (s : State) : Host.Outcome State Fault Refusal :=
  .next (match s.expLost with
    | [] => s
    | (i, first, n) :: rest =>
      let s := { s with expLost := rest }
      if s.flag TELEM_STR_STATUS.EN i then s.gapAdd i ⟨1, n, s.tod, s.tod, first, (first + n + 2 ^ 32 - 1) % 2 ^ 32, false⟩ else s)

/-! ## Performance counter sets (R382 to R384) -/

/-- The set a TARGET names, with its cycle counter. -/
def setOfTarget (t : Nat) : PerfSet × Reg :=
  let i := tInst t
  match tCls t with
  | 5 => (pipeSet i, .PPERF_CYC)
  | 1 => (boughSet i, .BPERF_CYC)
  | 6 => (tunSet (i - 1), .PERF_CYC)
  | 8 => (tunSet (4 + i % 256), .PERF_CYC)
  | _ => (tunSet 8, .PERF_CYC)

/-- A defined event code of a class (R383). -/
def perfCode (cls c : Nat) : Bool :=
  c == 0 ||
  (match cls with
   | 5 => decide (c ≤ 0x012) || decide (0x020 ≤ c ∧ c ≤ 0x02F)
   | 1 => decide (0x100 ≤ c ∧ c ≤ 0x107)
   | 6 => decide (0x180 ≤ c ∧ c ≤ 0x187)
   | 8 => decide (0x200 ≤ c ∧ c ≤ 0x204)
   | _ => decide (0x280 ≤ c ∧ c ≤ 0x284))

/-- The first bad counter word. -/
def perfBad (p : Packet) : Option Nat :=
  ((List.range (parCount p)).drop 1).find? (fun i => !onlyBits p i 0x103FF || !perfCode (tCls p.target) (parF p i 0 10))

/-- PERF_CFG's effect. -/
def effPerfCfg (p : Packet) (s : State) : State × Rep :=
  let v := (setOfTarget p.target).1
  if v.n + 1 < parCount p then (s, refuse eLEN (lenDetail 1 (v.n + 1)))
  else if !onlyBits p 0 0xFFFFFF03 then (s, badPar 0)
  else match perfBad p with
  | some i => (s, badPar i)
  | none =>
    let run := parF p 0 0 1
    let s := eachIn ((List.range (parCount p)).drop 1) s (fun s i => s.setReg v.ev.reg (v.base + i - 1) (par p i))
    let s := if run = 1 ∧ parF p 0 1 1 = 1 then eachIn (List.range v.n) s (fun s k => s.setCnt v.cnt (v.base + k) 0) else s
    let s := { s with perfInt := tabSet s.perfInt (tCls p.target, tInst p.target) (if run = 1 ∧ parF p 0 8 24 ≠ 0 then s.now + parF p 0 8 24 * usNs else 0) 0 }
    let s := s.setFld v.run v.idx run
    (if tCls p.target = cPIPE then s.freezePerf (tInst p.target) else s, ok)

/-- PERF_CFG. -/
def execPerfCfg (p : Packet) (s : State) : Host.Outcome State Fault Refusal := .next (s.command 0x0506 effPerfCfg p)

/-- The sets a TARGET of PERF_READ names, in instance order. -/
def perfTargets (t : Nat) : List Nat :=
  if tInst t ≠ 0xFFF then [t]
  else match tCls t with
  | 5 => (List.range 64).map (tgt 5)
  | 1 => (List.range 8).map (tgt 1)
  | 6 => (List.range 4).map (fun i => tgt 6 (i + 1))
  | 8 => (List.range 4).map (fun i => tgt 8 (0x100 + i))
  | c => [tgt c 0]

/-- The words of one set; those of a pipe in DOZE read as frozen (R75). -/
def State.perfWords (s : State) (t : Nat) : List Word :=
  let v := setOfTarget t
  s.reg v.1.run.reg v.1.idx :: (if tCls t = cPIPE ∧ s.ust t = uDOZE then (s.pipe (tInst t)).froze else s.perfLive v.1 v.2)

/-- PERF_READ's effect. -/
def effPerfRead (p : Packet) (s : State) : State × Rep := (s, ok ((perfTargets p.target).flatMap s.perfWords))

/-- PERF_READ. -/
def execPerfRead (p : Packet) (s : State) : Host.Outcome State Fault Refusal := .next (s.command 0x0507 effPerfRead p)

/-- PERF_INTERVAL_END: the INTERVAL of a set that runs for one has passed (R384). -/
def execPerfIntervalEnd (t : Nat) (s : State) : Host.Outcome State Fault Refusal :=
  let v := (setOfTarget t).1
  let due := tabGet s.perfInt (tCls t, tInst t) 0
  .next (if s.flag v.run v.idx = true ∧ due ≠ 0 ∧ due ≤ s.now then
      ({ s with perfInt := tabSet s.perfInt (tCls t, tInst t) 0 0 }.setFld v.run v.idx 0).ev v.done v.idx
    else s)

end Sys2Proof.Machine
end

