-- ==== Sys2Proof/Machine/Grist.lean ====
section
/-! DEFINITION. Grist engines: groups (R396 to R399, R410, R411), contributions (R391 to R395, R400 to R403), timeouts and failures
(R406), emission (R408), nesting (R409), engine faults and spares (R412 to R414), dozing (R415), the watchdog of R206. -/
namespace Sys2Proof.Machine

/-! ## Records -/

/-- An open group. -/
def State.group (s : State) (g : Nat) : Option GGroup := tabGet s.grist.groups (g, 0) none
/-- A slot was busy until now (R415). -/
def State.slotBusy (s : State) (slot : Nat) : State := { s with grist.busyAt := tabSet s.grist.busyAt (slot, 0) s.now 0 }
/-- The slots of a group's chunks in FILLING and EMITTING. -/
def busySlots (v : Option GGroup) : List Nat :=
  match v with
  | some v => (v.chunks.filter (fun c => c.st == 1 || c.st == 3)).map (fun c => c.slot)
  | none => []
/-- Write a group: the slots that were busy for it were so until now. -/
def State.setGroup (s : State) (g : Nat) (v : Option GGroup) : State :=
  let s := eachIn (busySlots (s.group g)) s State.slotBusy
  { s with grist.groups := tabSet s.grist.groups (g, 0) v none }
/-- A chunk of a group's window. -/
def chunkOf (v : GGroup) (id : Nat) : Option GChunk := v.chunks.find? (fun c => c.id == id)
/-- The timer of a group's chunk as it starts; none with TIMEOUT 0 (R396, R406). -/
def State.startTimer (s : State) (v : GGroup) : Option Nat := if v.timeout = 0 then none else some s.now
/-- A group with a chunk rewritten. -/
def putChunk (v : GGroup) (c : GChunk) : GGroup := { v with chunks := v.chunks.map (fun x => if x.id = c.id then c else x) }

/-- The physical engine of a slot, if it has one. -/
def State.engineOf (s : State) (slot : Nat) : Option Nat :=
  if s.flag GRIST_SLOT_MAP.VALID slot then some (s.fld GRIST_SLOT_MAP.PHYS slot) else none

/-- A slot's engine is on its way out (R413) or its clock is held (R457): its contributions wait in staging. -/
def State.slotHeld (s : State) (slot : Nat) : Bool :=
  match s.engineOf slot with
  | some e => s.grist.leave.any (fun l => l.engine == e) || s.quadStopped (engineQuad e)
  | none => false

/-- A slot's result writes have fallen behind its requester's free clocks (R18): packets wait that no clock has taken, other than behind one
that admission refused (R408). -/
def State.slotBehind (s : State) (slot : Nat) : Bool := s.offersAt (2 * slot + 1) != [] && (s.turned slot).isNone

/-- A dozing engine wakes (R415). -/
def State.wakeEngine (s : State) (slot : Nat) : State :=
  match s.engineOf slot with
  | some e => if s.ust (tgt cGRIST e) = uDOZE then s.setUst (tgt cGRIST e) uACTIVE 1 else s
  | none => s

/-- MSI-X vector 19 (R418). -/
def State.gristIrq (s : State) : State := if s.flag GRIST_CTL.IRQ_EN then s.msix 19 else s

/-- The accumulation format of a group is INT32. -/
def GGroup.isInt (v : GGroup) : Bool := v.inFmt == 5
/-- The accumulation format's FMT. -/
def GGroup.accFmt (v : GGroup) : Nat := if v.isInt then 5 else 0

/-! ## Packets (R391, R398) -/

/-- A Grist header. -/
def gristHeader (type fmt op : Nat) (part : Bool) (d : GDest) (retry chunk elems dev : Nat) : List Nat :=
  [0x10 + type, fmt % 16 + op % 8 * 16 + b2n part * 128] ++ beBytes 3 d.hgroup ++ [retry % 16] ++ beBytes 2 d.hrank ++
  beBytes 4 chunk ++ beBytes 2 elems ++ beBytes 2 dev

/-- An engine's packet for destination `i` of a group: the template, the header and payload; it goes to the slot's requester. -/
def State.sendGrist (s : State) (g : Nat) (c : GChunk) (i : Nat) (d : GDest) (rest : List Nat) (kind : Nat) : State :=
  let r := 2 * c.slot + 1
  let b := fillHeaders d.encap d.ipOff (d.tmpl ++ rest)
  let f : UpFrame := {
    qid := d.qid, grist := false, repin := false, pin := Nat.xor (d.hgroup % 256) i, inPort := 514 + c.slot, color := 0,
    inTs := s.tod % 2 ^ 32, fmeta := 0, bytes := b ++ bytesOf 4 (fcsOf b), bad := false, gtag := [g, c.id, kind] }
  s.setOffers r (s.offersAt r ++ [f])

/-- The destinations of a role with their indices. -/
def destsOf (v : GGroup) (role : Nat) : List (GDest × Nat) := v.dests.zipIdx.filter (fun x => x.1.role == role)

/-- DEV_ID. -/
def State.devId (s : State) : Nat := s.fld ⟨.GLB_DEV_ID, 0, 16⟩

/-- The payload of a NACK: a bit for each rank it names (R406). -/
def nackBits (fanin bits : Nat) : List Nat := bytesOf 64 (Nat.xor (2 ^ fanin - 1) (bits % 2 ^ fanin))

/-- A NACK is formed, and sent where the group has a NACK destination; its FMT is not stated (a free value). -/
def State.sendNack (s : State) (g : Nat) (v : GGroup) (c : GChunk) (retry : Nat) : State :=
  let s := s.bump .GRIST_NACK_TX v.eg
  let s := if destsOf v 1 = [] then s else (s.ev GRIST_G_EVENT.NACK v.eg).perf (tunSet (4 + v.eg)) 0x203
  eachIn (destsOf v 1) s (fun s d =>
    s.drawn.sendGrist g c d.2 d.1 (gristHeader 3 s.free v.op false d.1 retry c.id 0 s.devId ++ nackBits v.fanin c.bits) 4)

/-- A CHILD's partial goes to its parent (R405). -/
def State.sendPartial (s : State) (g : Nat) (v : GGroup) (c : GChunk) : State :=
  let n := c.elems.getD 0
  let s := eachIn (destsOf v 2) s (fun s d =>
    s.sendGrist g c d.2 d.1 (gristHeader 1 v.accFmt v.op true d.1 c.parts c.id n s.devId ++ payloadOf v.accFmt c.root) 2)
  s.setGroup g (some (putChunk v { c with parts := c.parts + 1 }))

/-- A packet of a chunk has not been linked: it is offered, refused or being assembled (R408). -/
def State.chunkBusy (s : State) (g : Nat) (c : GChunk) : Bool :=
  let mine := fun (t : List Nat) => t.take 2 == [g, c.id]
  (s.offersAt (2 * c.slot + 1)).any (fun f => mine f.gtag) ||
  (match s.turned c.slot with | some x => mine x.1.gtag | none => false) ||
  s.tun.frames.any (fun e => mine e.2.gtag && e.2.place == 0)

/-- The packets of a chunk that are not linked are withdrawn. -/
def State.withdraw (s : State) (g : Nat) (c : GChunk) : State :=
  let r := 2 * c.slot + 1
  let mine := fun (t : List Nat) => t.take 2 == [g, c.id]
  let s := s.setOffers r ((s.offersAt r).filter (fun f => !mine f.gtag))
  let s := match s.turned c.slot with
    | some x => if mine x.1.gtag then s.setTurned c.slot none else s
    | none => s
  match s.asmAt r 1 with
  | some i => if mine (s.tframe i).gtag then (s.setAsm r 1 none).freeFrame i else s
  | none => s

/-! ## Failure (R406) -/

/-- A chunk fails: it goes to EMITTING with FAIL. -/
def State.failChunk (s : State) (g id cause : Nat) : State :=
  match s.group g with
  | none => s
  | some v =>
    match chunkOf v id with
    | none => s
    | some c =>
      let c := { c with st := 3, fail := cause, nodes := [], root := [], timer := none, sent := false }
      let s := s.setGroup g (some { putChunk v c with failed := v.failed + 1 })
      let s := (s.bump .GRIST_FAILED v.eg).ev GRIST_G_EVENT.CHUNK_FAIL v.eg
      ((s.setFld GRIST_G_LAST.GROUP v.eg g).setFld GRIST_G_LAST.CAUSE v.eg cause).gristIrq

/-! ## Closing (R410) -/

/-- A group's close ends: its map entries, pages and chunk slots are returned, the commands that wait for it are answered. -/
def State.closeEnd (s : State) (g : Nat) (v : GGroup) (c : GClose) : State :=
  let s := s.setGroup g none
  let s := { s with grist.map := tabSet s.grist.map (g, 0) 0 0 }
  let s := s.setFld GRIST_SCRATCH.FREE 0 (s.fld GRIST_SCRATCH.FREE + v.pages)
  let s := s.setFld GRIST_G_STATUS.OPEN v.eg (s.fld GRIST_G_STATUS.OPEN v.eg - 1)
  let s := eachIn v.slots s (fun s k =>
    match s.engineOf k with
    | some e => s.setFld GRIST_E_STATUS.CHUNKS e (s.fld GRIST_E_STATUS.CHUNKS e - v.per)
    | none => s)
  eachIn (List.range (s.cmd.jobs.length + 1)) s (fun s _ =>
    s.finish 0x0602 (fun p => p.target == tgt cGRIST (0x100 + v.eg) && parF p 0 0 20 == g)
      (ok [wd (v.emitted - c.emitted), wd (v.failed - c.failed)]))

/-- A closing group whose window is empty is closed. -/
def State.closeCheck (s : State) (g : Nat) : State :=
  match s.group g with
  | some v =>
    match v.closing with
    | some c => if v.chunks = [] then s.closeEnd g v c else s
    | none => s
  | none => s

/-- An ABORT: every chunk that accepted a contribution fails with cause 3, the others leave; a chunk whose packets have been handed
over, or that has failed, goes on. -/
def State.abortGroup (s : State) (g : Nat) : State :=
  match s.group g with
  | none => s
  | some v =>
    let keep := v.chunks.filter (fun c => c.st != 0)
    let s := s.setGroup g (some { v with chunks := keep, closing := v.closing.map (fun c => { c with abort := true }) })
    (eachIn keep s (fun s c => if c.fail = 0 ∧ c.sent = false then s.failChunk g c.id 3 else s)).closeCheck g

/-- A close begins: the window is frozen, EMPTY chunks leave. -/
def State.beginClose (s : State) (g : Nat) : State :=
  match s.group g with
  | none => s
  | some v =>
    if v.closing ≠ none then s
    else
      (s.setGroup g (some { v with
        chunks := v.chunks.filter (fun c => c.st != 0), closing := some ⟨v.emitted, v.failed, s.now, false⟩ })).closeCheck g

/-- Entry to DRAIN closes every open group gracefully (R410). -/
def State.closeAllGroups (s : State) : State := eachIn (s.grist.groups.map (fun e => e.1.1)) s State.beginClose

/-- GRIST_GROUP_CLOSE's effect. -/
def effGristGroupClose (p : Packet) (s : State) : State × Rep :=
  let g := parF p 0 0 20
  if !onlyBits p 0 0x010FFFFF || decide (65536 ≤ g) then (s, badPar 0)
  else match s.group g with
  | none => (s, deny eSTATE)
  | some v =>
    if v.eg ≠ tInst p.target % 256 then (s, deny eSTATE)
    else
      let t := s.beginClose g
      let t := if parF p 0 24 1 = 1 then t.abortGroup g else t
      match t.group g with
      | none => (t, ok [0, 0])
      | some _ => (t, laterRep)

/-- GRIST_GROUP_CLOSE. -/
def execGristGroupClose (p : Packet) (s : State) : Host.Outcome State Fault Refusal := .next (s.command 0x0602 effGristGroupClose p)

/-- GRIST_CLOSE_TIMEOUT: 100 ms into a graceful close it continues as an ABORT. -/
def execGristCloseTimeout (g : Nat) (s : State) : Host.Outcome State Fault Refusal :=
  .next (match (s.group g).bind (fun v => v.closing) with
    | some c => if c.abort = true ∨ s.now < c.since + 100 * msNs then s else s.abortGroup g
    | none => s)

/-! ## Opening (R396 to R399) -/

/-- A destination's 20 words from word `i`. -/
def destOf (p : Packet) (i : Nat) : GDest := {
  role := parF p i 0 2, encap := parF p i 2 2, ipOff := parF p i 8 7,
  tmpl := (List.range (parF p i 16 7)).map (fun k => parF p (i + 4 + k / 4) (8 * (k % 4)) 8),
  qid := parF p (i + 1) 0 14, hrank := parF p (i + 1) 16 16, hgroup := parF p (i + 2) 0 20 }

/-- The first bad word of a destination at word `i` (R398). -/
def destBad (p : Packet) (i : Nat) : Option Nat :=
  let encap := parF p i 2 2
  let len := parF p i 16 7
  let off := parF p i 8 7
  match firstBad p [(i, 0x7F7F0F), (i + 1, 0xFFFF3FFF), (i + 2, 0xFFFFF), (i + 3, 0)] with
  | some k => some k
  | none =>
    if parF p i 0 2 = 3 ∨ encap = 3 ∨ 64 < len ∨ (encap = 1 ∧ len ≠ off + 28) ∨ (encap = 2 ∧ len ≠ off + 48) then some i
    else if 514 * 16 ≤ parF p (i + 1) 0 14 then some (i + 1)
    else none

/-- The first bad word of GRIST_GROUP_OPEN's words 0 to 7 (R397). -/
def openBad (p : Packet) : Option Nat :=
  let fanin := parF p 1 16 10
  let inF := parF p 2 0 4
  let outF := parF p 2 8 4
  let el := parF p 2 16 12
  let win := parF p 3 0 9
  match firstBad p [(0, 0x1FFFFF), (1, 0x03FFFFFF), (2, 0x0FFF0F7F), (3, 0x0F0F01FF), (4, 0xFFFFFF), (6, 0x03FFFFFF), (7, 0)] with
  | some k => some k
  | none =>
    if 65536 ≤ parF p 0 0 20 then some 0
    else if parF p 1 0 16 = 0 ∨ fanin = 0 ∨ 512 < fanin then some 1
    else if 6 < inF ∨ 3 < parF p 2 4 3 ∨ 6 < outF ∨ ((inF = 5) ≠ (outF = 5)) ∨ 2048 < el ∨ ((inF = 6 ∨ outF = 6) ∧ el % 32 ≠ 0) then some 2
    else if win = 0 ∨ 256 < win then some 3
    else if 1000000 < parF p 4 0 24 then some 4
    else if parF p 6 0 26 ≠ 0 ∧ ¬(parF p 0 20 1 = 0 ∧ parF p 2 4 3 = 3) then some 6
    else none

/-- Where the roles of the destinations break R398: one beyond its role's number at its first word, a missing PARENT at a word
that is not stated. -/
def rolesBad (p : Packet) (ds : List GDest) : Option Rep :=
  let count := fun (r n : Nat) => ((ds.take n).filter (fun d => d.role == r)).length
  let parents := if parF p 0 20 1 = 1 then 1 else 0
  match (List.range ds.length).find? (fun k => decide (8 < count 0 (k + 1) ∨ 1 < count 1 (k + 1) ∨ parents < count 2 (k + 1))) with
  | some k => some (badPar (8 + 20 * k))
  | none => if count 2 ds.length < parents then some (deny ePARAM) else none

/-- The group that GRIST_GROUP_OPEN describes, with its window bound to its slots (R400). -/
def groupOf (p : Packet) : GGroup :=
  let eg := tInst p.target % 256
  let slots := ((List.range 16).filter (fun i => nbit (parF p 1 0 16) i)).map (fun i => eg * 16 + i)
  let fanin := parF p 1 16 10
  let win := parF p 3 0 9
  let maxEl := parF p 2 16 12
  let first := parN p 5
  let n := slots.length
  {
    owner := p.ctx, eg := eg, child := parF p 0 20 1 == 1, mask := parF p 1 0 16, slots := slots, fanin := fanin,
    inFmt := parF p 2 0 4, op := parF p 2 4 3, outFmt := parF p 2 8 4, maxEl := maxEl, window := win, retries := parF p 3 16 4,
    timeout := parF p 4 0 24, first := first, total := if parF p 6 0 26 = 0 then fanin else parF p 6 0 26,
    dests := (List.range (parF p 3 24 4)).map (fun k => destOf p (8 + 20 * k)),
    pages := win * Nat.max 1 (ceilDiv fanin 2) * ceilDiv (maxEl * 4) 4096, per := ceilDiv win n,
    chunks := (List.range win).map (fun k => { id := (first + k) % 2 ^ 32, slot := slots.getD (k % n) 0 }), low := first }

/-- GRIST_GROUP_OPEN's effect. -/
def effGristGroupOpen (p : Packet) (s : State) : State × Rep :=
  let g := parF p 0 0 20
  let nd := parF p 3 24 4
  let want := 8 + 20 * nd
  let v := groupOf p
  if 10 < nd then (s, badPar 3)
  else if parCount p ≠ want then (s, refuse eLEN (lenDetail want want))
  else match openBad p with
  | some k => (s, badPar k)
  | none =>
    match ((List.range nd).filterMap (fun k => destBad p (8 + 20 * k))).head? with
    | some k => (s, badPar k)
    | none =>
      match rolesBad p v.dests with
      | some r => (s, r)
      | none =>
        if (s.group g).isSome then (s, deny eSTATE)
        else if v.slots.any (fun k => (s.engineOf k).isNone) then (s, deny eHW)
        else if s.fld GRIST_SCRATCH.FREE < v.pages ∨
            v.slots.any (fun k => decide (64 < s.fld GRIST_E_STATUS.CHUNKS (s.fld GRIST_SLOT_MAP.PHYS k) + v.per)) = true then
          (s, deny eRESOURCE)
        else
          let s := s.setGroup g (some v)
          let s := { s with grist.map := tabSet s.grist.map (g, 0) (1 + v.eg) 0 }
          let s := s.setFld GRIST_SCRATCH.FREE 0 (s.fld GRIST_SCRATCH.FREE - v.pages)
          let s := s.setFld GRIST_G_STATUS.OPEN v.eg (s.fld GRIST_G_STATUS.OPEN v.eg + 1)
          let s := eachIn v.slots s (fun s k =>
            let e := s.fld GRIST_SLOT_MAP.PHYS k
            s.setFld GRIST_E_STATUS.CHUNKS e (s.fld GRIST_E_STATUS.CHUNKS e + v.per))
          (s, ok [wd v.pages])

/-- GRIST_GROUP_OPEN. -/
def execGristGroupOpen (p : Packet) (s : State) : Host.Outcome State Fault Refusal := .next (s.command 0x0601 effGristGroupOpen p)

/-! ## Status (R411) -/

/-- The 7 words of a group's status. -/
def groupWords (v : GGroup) : List Word :=
  [wd (1 + b2n v.child * 2 + b2n v.closing.isSome * 4 + b2n v.broken * 8 + v.mask * 2 ^ 16), wd v.low,
   wd (v.chunks.filter (fun c => c.st != 0)).length, wd v.pages, wd v.emitted, wd v.failed, wd (v.owner % 65536)]

/-- GRIST_GROUP_STATUS's effect. -/
def effGristGroupStatus (p : Packet) (s : State) : State × Rep :=
  let i := tInst p.target
  let n := if i < 256 then 0 else 1
  if parCount p ≠ n then (s, refuse eLEN (lenDetail n n))
  else if i < 256 then (s, ok [s.reg .GRIST_E_STATUS i, s.reg .GRIST_E_FAULT i])
  else if !onlyBits p 0 0xFFFFF then (s, badPar 0)
  else match s.group (parF p 0 0 20) with
  | some v => (s, ok (if v.eg = i % 256 then groupWords v else List.replicate 7 0))
  | none => (s, ok (List.replicate 7 0))

/-- GRIST_GROUP_STATUS. -/
def execGristGroupStatus (p : Packet) (s : State) : Host.Outcome State Fault Refusal := .next (s.command 0x0603 effGristGroupStatus p)

/-! ## The header and the checks of R395 -/

/-- A Grist packet's header (R391), where it starts in the frame, the frame without its FCS. -/
structure GHdr where
  ver   : Nat
  type  : Nat
  fmt   : Nat
  op    : Nat
  part  : Bool
  resv  : Nat
  group : Nat
  rank  : Nat
  chunk : Nat
  elems : Nat
  off   : Nat
  body  : List Nat
  deriving DecidableEq, Repr

/-- The header of a diverted frame, at META[15:0]; bytes past the frame read as zero. -/
def gristHdr (f : UpFrame) : GHdr :=
  let off := f.fmeta % 65536
  let d := bodyOf f.bytes
  let b := fun (i : Nat) => d.getD (off + i) 0
  {
    ver := b 0 / 16, type := b 0 % 16, fmt := b 1 % 16, op := b 1 / 16 % 8, part := nbit (b 1) 7, resv := b 2 / 16 + b 5 / 16,
    group := b 2 % 16 * 65536 + b 3 * 256 + b 4, rank := be16 d (off + 6), chunk := be16 d (off + 8) * 65536 + be16 d (off + 10),
    elems := be16 d (off + 12), off := off, body := d }

/-- A contribution's step 3: formats, rank, length. -/
def contribOk (v : GGroup) (h : GHdr) : Bool :=
  (h.fmt == v.inFmt || (h.part && h.fmt == v.accFmt)) && h.op == v.op && decide (h.rank < v.fanin) && decide (h.elems ≤ v.maxEl) &&
  ((h.fmt != 6 && v.outFmt != 6) || h.elems % 32 == 0) && decide (h.off + 16 + payloadLen h.fmt h.elems ≤ h.body.length)

/-- What a diverted frame is, after steps 1 to 3 of R395. -/
inductive GKind where
  | noGroup
  | bad
  | parent (v : GGroup)
  | contrib (v : GGroup)
  deriving DecidableEq, Repr

/-- Steps 1 to 3 of R395 for a frame on engine group `eg`. -/
def State.gristKind (s : State) (eg : Nat) (h : GHdr) : GKind :=
  match s.group h.group with
  | none => .noGroup
  | some v =>
    if v.eg ≠ eg then .noGroup
    else if 256 < h.off + 16 ∨ h.body.length < h.off + 16 ∨ h.ver ≠ 1 ∨ h.resv ≠ 0 ∨ h.type = 0 ∨ 4 < h.type then .bad
    else if h.type ≠ 1 then if v.child then .parent v else .bad
    else if v.broken = true ∨ contribOk v h = false then .bad
    else .contrib v

/-! ## The rank tree (R402) -/

/-- A vector at (level, index) joins the tree of `fanin` ranks: the nodes stored, and the root once it is formed. -/
def joinNode (int : Bool) (op fanin : Nat) :
    Nat → Nat → Nat → List Nat → List (Nat × Nat × List Nat) → List (Nat × Nat × List Nat) × Option (List Nat)
  | 0, _, _, v, nodes => (nodes, some v)
  | n + 1, k, i, v, nodes =>
    if fanin ≤ 2 ^ k then (nodes, some v)
    else
      let j := Nat.xor i 1
      if fanin ≤ j * 2 ^ k then joinNode int op fanin n (k + 1) (i / 2) v nodes
      else match nodes.find? (fun x => x.1 == k && x.2.1 == j) with
      | some x =>
        let w := if i % 2 = 0 then combineVec int op v x.2.2 else combineVec int op x.2.2 v
        joinNode int op fanin n (k + 1) (i / 2) w (nodes.filter (fun y => y != x))
      | none => (nodes ++ [(k, i, v)], none)

/-- A chunk after a rank's contribution; the root where it is complete. -/
def takeRank (v : GGroup) (c : GChunk) (h : GHdr) : GChunk × Option (List Nat) :=
  let first := c.elems.getD h.elems
  let mis := c.mis || h.elems != first
  let c := { c with st := Nat.max 1 c.st, bits := c.bits + 2 ^ h.rank, elems := some first, mis := mis }
  if mis then ({ c with nodes := [] }, none)
  else if h.elems = 0 then (c, some [])
  else
    let r := joinNode v.isInt v.op v.fanin 12 0 h.rank (vectorOf h.fmt h.elems (h.body.drop (h.off + 16))) c.nodes
    ({ c with nodes := r.1 }, r.2)

/-- The result of a ROOT's chunk before its output conversion. -/
def rootValue (v : GGroup) (x : List Nat) : List Nat :=
  if v.child = false ∧ v.op = 3 then x.map (divTotal v.isInt v.total) else x

/-! ## Engine errors (R412, R413) -/

/-- A chunk is reset: EMPTY and failed ones are not. The RETRY of its NACK is not stated (a free value). -/
def State.resetChunk (s : State) (g id : Nat) : State :=
  match s.group g with
  | none => s
  | some v =>
    match chunkOf v id with
    | none => s
    | some c =>
      if c.st = 0 ∨ c.fail ≠ 0 then s
      else
        let s := s.withdraw g c
        let c := { c with
          st := 1, bits := 0, elems := none, mis := false, nodes := [], root := [], timer := s.startTimer v, relay := [], sent := false }
        let v := putChunk v c
        let s := ((s.setGroup g (some v)).bump .GRIST_RESET v.eg).ev GRIST_G_EVENT.RESET v.eg
        s.drawn.sendNack g v c s.free

/-- The slot a physical engine serves. -/
def State.slotOf (s : State) (e : Nat) : Option Nat := if s.flag GRIST_E_STATUS.MAPPED e then some (s.fld GRIST_E_STATUS.SLOT e) else none

/-- The spares an engine may go to, in order (R20): those that are OFF and that no other engine on its way out is to take. -/
def State.spareEngines (s : State) (e : Nat) : List Nat :=
  let q := engineQuad e
  ((64 + q) :: [64, 65, 66, 67].filter (fun k => k != 64 + q)).filter (fun k =>
    s.ust (tgt cGRIST k) == uOFF && !s.grist.leave.any (fun l => l.engine != e && l.kind != 4 && l.dest == k))

/-- The event of a permanent engine, made as the recovery begins (R493): by then it is known whether a spare is free. -/
def State.engineTold (s : State) (e slot : Nat) (inj : Bool) : State :=
  match s.spareEngines e with
  | n :: _ => s.raise 0x0A02 kRETIRED (tgt cGRIST e) (withWait n 0) inj
  | [] => s.raise 0x0A03 kDEGRADED (tgt cGRIST e) (withWait slot 0) inj

/-- Engine `e` leaves its slot: held until a spare takes it or the slot is lost. -/
def State.engineLeave (s : State) (e kind : Nat) (inj : Bool) : State :=
  if s.grist.leave.any (fun l => l.engine == e) then s
  else
    let t := tgt cGRIST e
    let l : GLeave := { engine := e, kind := kind, dest := (s.spareEngines e).headD 0, since := s.now, inj := inj }
    let s := match s.slotOf e with
      | some slot => if kind = 3 then s.engineTold e slot inj else s
      | none => s
    let s := { s with grist.leave := s.grist.leave ++ [l] }.preemptWalker 8 (4 + e)
    (s.setUst t uGRAFT (if kind = 3 then 3 else 2)).setHeld t (kind == 3)

/-- An error of engine `e` resets a chunk; four of its own within 10 ms make it permanent (R412, R501). -/
def State.engineError (s : State) (e cause g id : Nat) (own inj : Bool) : State :=
  let t := tgt cGRIST e
  let s := (s.satFld GRIST_E_FAULT.CNT e 1).setFld GRIST_E_FAULT.CAUSE e cause
  let s := (s.resetChunk g id).raise 0x0A01 kRETRIED t cause inj
  if own then
    let s := s.notePerm t 0x0A01 inj
    if 4 ≤ s.permCount t 0x0A01 (10 * msNs) then s.engineLeave e 3 (s.permInj t 0x0A01 (10 * msNs)) else s
  else s

/-! ## Contributions (R395, R401) -/

/-- A complete chunk goes on: a ROOT's to EMITTING, a CHILD's partial to its parent; with MISMATCH it fails (R401). -/
def State.chunkFull (s : State) (g : Nat) (v : GGroup) (c : GChunk) (root : Option (List Nat)) : State :=
  if c.mis then (s.setGroup g (some (putChunk v c))).failChunk g c.id 2
  else
    let x := rootValue v (root.getD [])
    if v.child then
      let c := { c with st := 2, root := x, timer := s.startTimer v }
      s.sendPartial g (putChunk v c) c
    else s.setGroup g (some (putChunk v { c with st := 3, root := x, timer := none }))

/-- A contribution is accepted: its rank's bit is set, timers start for its chunk and those before it (R406), its vector joins the
tree. -/
def State.acceptRank (s : State) (v : GGroup) (c : GChunk) (h : GHdr) : State :=
  let g := h.group
  let s := ((s.bump .GRIST_CONTRIB v.eg).perf (tunSet (4 + v.eg)) 0x200).wakeEngine c.slot
  if c.st = 3 then s.setGroup g (some (putChunk v { c with bits := c.bits + 2 ^ h.rank }))
  else
    let dist := fun (i : Nat) => (i + 2 ^ 32 - v.low) % 2 ^ 32
    let v := { v with chunks := v.chunks.map (fun (x : GChunk) =>
      if x.st ≤ 1 ∧ dist x.id ≤ dist c.id ∧ x.timer = none then ({ x with timer := s.startTimer v } : GChunk) else x) }
    let r := takeRank v { c with timer := if c.timer = none then s.startTimer v else c.timer } h
    let s := if r.1.bits = 2 ^ v.fanin - 1 then s.chunkFull g v r.1 r.2 else s.setGroup g (some (putChunk v r.1))
    match s.engineOf c.slot with
    | some e =>
      let x : Planted := ⟨tgt cGRIST e, 1, 0⟩
      if s.flt.planted.contains x then (s.unplant x).engineError e 2 g c.id true true else s
    | none => s

/-- Steps 4 and 5 of R395, for a staged frame that leaves its buffer with `s'`. -/
def State.contribute (s s' : State) (v : GGroup) (h : GHdr) : State :=
  let d := (h.chunk + 2 ^ 32 - v.low) % 2 ^ 32
  if v.window ≤ d then s'.bump (if 2 ^ 31 ≤ d then .GRIST_STALE else .GRIST_AHEAD) v.eg
  else match chunkOf v h.chunk with
  | none => s'.bump .GRIST_STALE v.eg
  | some c =>
    if s.slotHeld c.slot || s.slotBehind c.slot then s
    else if nbit c.bits h.rank then (s'.bump .GRIST_DUP v.eg).perf (tunSet (4 + v.eg)) 0x201
    else s'.acceptRank v c h

/-- The slot of a staged contribution's chunk was busy until now (R415). -/
def State.busyFor (s : State) (h : GHdr) : State :=
  match (s.group h.group).bind (fun v => chunkOf v h.chunk) with
  | some c => s.slotBusy c.slot
  | none => s

/-- The engine group a staged frame goes to. -/
def egOf (f : UpFrame) : Nat := (f.qid / 16 - 514) / 16

/-- GRIST_CONTRIB: the oldest staged frame of a cluster goes to its engine. -/
def execGristContrib (c : Nat) (s : State) : Host.Outcome State Fault Refusal :=
  .next (match s.staged c with
    | [] => s
    | f :: rest =>
      let h := gristHdr f
      let s' := (s.busyFor h).setStaged c rest
      match s.gristKind (egOf f) h with
      | .noGroup => (s'.bump .GRIST_NOGROUP (egOf f)).ev GRIST_G_EVENT.NOGROUP (egOf f)
      | .bad => (s'.bump .GRIST_BAD (egOf f)).ev GRIST_G_EVENT.BAD (egOf f)
      | .parent _ => s
      | .contrib v => s.contribute s' v h)

/-! ## Nesting (R409) -/

/-- A result, FAIL or NACK of a CHILD group's parent. -/
def State.fromParent (s : State) (v : GGroup) (h : GHdr) : State :=
  match (chunkOf v h.chunk).filter (fun c => c.st == 2) with
  | none => if h.type = 3 then s else s.bump .GRIST_STALE v.eg
  | some c =>
    match h.type with
    | 2 =>
      let x := (h.body.drop h.off).take (16 + payloadLen h.fmt h.elems)
      s.setGroup h.group (some (putChunk v { c with st := 3, relay := x, timer := none, sent := false }))
    | 4 => (s.setGroup h.group (some (putChunk v { c with relay := [0] }))).failChunk h.group c.id 1
    | _ =>
      let rank := match (destsOf v 2).head? with | some d => d.1.hrank | none => 0
      if decide (rank < 512) && nbit (h.body.getD (h.off + 16 + rank / 8) 0) (rank % 8) then s.sendPartial h.group v c else s

/-- GRIST_PARENT_RX. -/
def execGristParentRx (c : Nat) (s : State) : Host.Outcome State Fault Refusal :=
  .next (match s.staged c with
    | [] => s
    | f :: rest =>
      match s.gristKind (egOf f) (gristHdr f) with
      | .parent v => (s.setStaged c rest).fromParent v (gristHdr f)
      | _ => s)

/-! ## Timeouts (R406, R409) -/

/-- GRIST_CHUNK_TIMEOUT: a chunk's timer has run TIMEOUT µs. An EMPTY chunk whose timer runs counts as FILLING. -/
def execGristChunkTimeout (g id : Nat) (s : State) : Host.Outcome State Fault Refusal :=
  .next (match s.group g with
    | none => s
    | some v =>
      match (chunkOf v id).filter (fun c => match c.timer with | some t => decide (t + 1000 * v.timeout ≤ s.now) | none => false) with
      | none => s
      | some c =>
        let c := { c with timer := some s.now }
        if c.st = 2 then
          if c.late < v.retries then
            let c := { c with late := c.late + 1 }
            s.sendPartial g (putChunk v c) c
          else s.failChunk g id 5
        else if c.nacks < v.retries then
          let c := { c with nacks := c.nacks + 1 }
          (s.setGroup g (some (putChunk v c))).sendNack g v c c.nacks
        else s.failChunk g id 1)

/-! ## Emission (R408) -/

/-- A chunk's packets for its OUT destinations: a result, a relayed result, or FAIL, whose FMT is not stated (a free value). -/
def State.emitChunk (s : State) (g : Nat) (v : GGroup) (c : GChunk) : State :=
  let n := c.elems.getD 0
  let s := eachIn (destsOf v 0) s (fun s d =>
    let s := s.perf (tunSet (4 + v.eg)) 0x202
    if c.fail ≠ 0 then
      s.drawn.sendGrist g c d.2 d.1 (gristHeader 4 s.free v.op false d.1 0 c.id 0 s.devId) (if c.relay ≠ [] then 2 else 5)
    else if c.relay ≠ [] then s.sendGrist g c d.2 d.1 (putBytes (putBytes c.relay 2 (beBytes 3 d.1.hgroup)) 6 (beBytes 2 d.1.hrank)) 2
    else s.sendGrist g c d.2 d.1 (gristHeader 2 v.outFmt v.op false d.1 0 c.id n s.devId ++ payloadOf v.outFmt c.root) 1)
  s.setGroup g (some (putChunk v { c with sent := true }))

/-- Chunk LOW is DONE: LOW advances; the next chunk enters the window, bound to its slot (R400), unless the window is frozen. -/
def State.chunkDone (s : State) (g : Nat) (v : GGroup) (c : GChunk) : State :=
  let rest := v.chunks.drop 1
  let id := (c.id + v.window) % 2 ^ 32
  let next : GChunk := { id := id, slot := v.slots.getD ((id + 2 ^ 32 - v.first) % 2 ^ 32 % Nat.max 1 v.slots.length) 0 }
  let frozen := v.closing.isSome || v.broken
  let v := { v with
    chunks := if frozen then rest else rest ++ [next], low := (c.id + 1) % 2 ^ 32, emitted := v.emitted + (if c.fail = 0 then 1 else 0) }
  (s.setGroup g (some v)).closeCheck g

/-- GRIST_EMIT: the chunk that holds a group's token sends its packets; once the last is linked it passes the token. -/
def execGristEmit (g : Nat) (s : State) : Host.Outcome State Fault Refusal :=
  .next (match s.group g with
    | none => s
    | some v =>
      match v.chunks with
      | [] => s
      | c :: _ =>
        if c.st ≠ 3 ∨ s.slotHeld c.slot = true then s
        else if c.sent = false then s.emitChunk g v c
        else if s.chunkBusy g c then s
        else s.chunkDone g v c)

/-- GRIST_RESULT_RETRY: a slot's refused packet is offered again; 1 ms after its first refusal it is dropped. -/
def execGristResultRetry (slot : Nat) (s : State) : Host.Outcome State Fault Refusal :=
  let r := 2 * slot + 1
  .next (match s.turned slot with
    | none => s
    | some (f, t, l) =>
      if t + msNs ≤ s.now then
        ((s.setTurned slot none).bump .GRIST_RES_DROP (slot / 16)).ev GRIST_G_EVENT.RES_DROP (slot / 16)
      else if s.now < l + 2000 ∨ s.asmAt r 1 ≠ none then s
      else
        let o := s.offer f r
        match o.2 with
        | none => o.1.setTurned slot (some (f, t, s.now))
        | some i => (o.1.setTurned slot none).setAsm r 1 (some i))

/-! ## Chunk resets, spares, lost slots (R412 to R414) -/

/-- A sequencer's fetch met a bad word of the Tun store: cause 2 (DEDUCED: the one cause that neither the vendor's words nor their
addresses exclude). The address, in ROM, is a free value. -/
def State.seqFetchFault (s : State) (e : Nat) : State :=
  let a := s.free % 2 ^ 13
  s.drawn.fetchFault 8 a 2 (0x40 + e) 0 (tgt cGRIST e)

/-- GRIST_CHUNK_RESET: an error of an engine touches a chunk bound to its slot. A fetch fault (cause 1) is that of the shared store: it
is recorded as R208 says and does not count toward the engine's permanence. -/
def execGristChunkReset (e cause g id : Nat) (s : State) : Host.Outcome State Fault Refusal :=
  .next (match (s.group g).bind (fun v => chunkOf v id) with
    | none => s
    | some c =>
      if s.slotOf e = some c.slot ∧ c.st ≠ 0 ∧ c.fail = 0 ∧ 1 ≤ cause ∧ cause ≤ 3 then
        (if cause = 1 then s.seqFetchFault e else s).engineError e cause g id (cause != 1) false
      else s)

/-- The chunks bound to a slot: (group, chunk). -/
def State.slotChunks (s : State) (slot : Nat) : List (Nat × Nat) :=
  s.grist.groups.flatMap (fun e => match e.2 with
    | some v => (v.chunks.filter (fun c => c.slot == slot)).map (fun c => (e.1.1, c.id))
    | none => [])

/-- A slot passes from engine `e` to engine `n` in one clock, and its chunks are reset (R413 steps 2 and 3). -/
def State.moveSlot (s : State) (slot e n : Nat) : State :=
  let k := s.fld GRIST_E_STATUS.CHUNKS e
  let s := (s.setFld GRIST_SLOT_MAP.PHYS slot n).setFld GRIST_E_FAULT.CNT n 0
  let s := ((s.setFld GRIST_E_STATUS.SLOT n slot).setFld GRIST_E_STATUS.MAPPED n 1).setFld GRIST_E_STATUS.CHUNKS n k
  let s := ((s.setFld GRIST_E_STATUS.SLOT e 0).setFld GRIST_E_STATUS.MAPPED e 0).setFld GRIST_E_STATUS.CHUNKS e 0
  let s := (s.setUnit (tgt cGRIST n) { s.unit (tgt cGRIST n) with role := slot }).setUst (tgt cGRIST n) uACTIVE 3
  let s := s.setUnit (tgt cGRIST e) { s.unit (tgt cGRIST e) with role := 0xFFF }
  let s := { s with grist.leave := s.grist.leave.filter (fun l => l.engine != e) }.endVendor 8 (4 + e)
  eachIn (s.slotChunks slot) (s.slotBusy slot) (fun s x => s.resetChunk x.1 x.2)

/-- An engine that has left its slot ends in GRAFT, RETIRED or, a spare that gave its slot back, OFF. -/
def State.engineGone (s : State) (l : GLeave) : State :=
  let t := tgt cGRIST l.engine
  let sel := fun (p : Packet) => p.target == t
  let s := s.setHeld t false
  match l.kind with
  | 1 => (s.setUst t uGRAFT 2).finish 0x0C01 sel (ok [wd uGRAFT])
  | 2 => (s.retire t 2).finish 0x0C03 sel (ok [wd uRETIRED])
  | 4 => (s.setUst t uOFF 2).finish 0x0C02 (fun p => p.target == tgt cGRIST l.dest) (ok [wd uACTIVE])
  | _ => s.retire t 3

/-- GRIST_ENGINE_TAKEOVER. -/
def execGristEngineTakeover (e : Nat) (pass : Bool) (s : State) : Host.Outcome State Fault Refusal :=
  .next (match s.grist.leave.find? (fun l => l.engine == e), s.slotOf e with
    | some l, some slot =>
      let ns := if l.kind = 4 then [l.dest] else s.spareEngines e
      match ns with
      | [] => s
      | n :: _ =>
        if pass then
          let s := ((s.moveSlot slot e n).ev GRIST_G_EVENT.TAKEOVER (slot / 16)).gristIrq
          s.engineGone l
        else if l.kind = 4 then
          let s := { s with grist.leave := s.grist.leave.filter (fun x => x.engine != e) }.setUst (tgt cGRIST e) uACTIVE 2
          let s := s.resumeCtx 8 (4 + e)
          (s.setUst (tgt cGRIST n) uGRAFT 3).finish 0x0C02 (fun p => p.target == tgt cGRIST n) { status := eHW, results := [wd uGRAFT], anyDetail := true }
        else s.retire (tgt cGRIST n) 3
    | _, _ => s)

/-- A group loses a slot: chunks bound to it are bound again and reset; a group without slots is BROKEN, its chunks fail. -/
def State.groupLoses (s : State) (g slot : Nat) : State :=
  match s.group g with
  | none => s
  | some v =>
    if v.slots.contains slot = false then s
    else
      let slots := v.slots.filter (fun k => k != slot)
      let hit := (v.chunks.filter (fun c => c.slot == slot)).map (fun c => c.id)
      if slots = [] then
        let keep := v.chunks.filter (fun c => c.st != 0)
        let s := s.setGroup g (some { v with slots := slots, broken := true, chunks := keep })
        (eachIn keep s (fun s c => if c.fail = 0 then (s.withdraw g c).failChunk g c.id 4 else s)).closeCheck g
      else
        let s := eachIn hit s (fun s id => s.resetChunk g id)
        match s.group g with
        | none => s
        | some v => s.setGroup g (some { v with
            slots := slots,
            chunks := v.chunks.map (fun (c : GChunk) => if c.slot = slot then
              { c with slot := slots.getD ((c.id + 2 ^ 32 - v.first) % 2 ^ 32 % slots.length) 0 } else c) })

/-- A slot loses its engine `e` and leaves every group's list (R414). -/
def State.slotDrop (s : State) (e slot : Nat) : State :=
  let s := { s with grist.leave := s.grist.leave.filter (fun x => x.engine != e) }.endVendor 8 (4 + e)
  let s := (s.setFld GRIST_SLOT_MAP.VALID slot 0).setFld GRIST_G_STATUS.SLOTS_UP (slot / 16)
    (Nat.land (s.fld GRIST_G_STATUS.SLOTS_UP (slot / 16)) (65535 - 2 ^ (slot % 16)))
  let s := ((s.setFld GRIST_E_STATUS.SLOT e 0).setFld GRIST_E_STATUS.MAPPED e 0).setFld GRIST_E_STATUS.CHUNKS e 0
  let s := s.setUnit (tgt cGRIST e) { s.unit (tgt cGRIST e) with role := 0xFFF }
  let s := eachIn (s.grist.groups.map (fun x => x.1.1)) s (fun s g => s.groupLoses g slot)
  (s.ev GRIST_G_EVENT.DEGRADED (slot / 16)).gristIrq

/-- GRIST_SLOT_LOSS: with no spare free, the slot leaves every group's list; DEGRADED is reported now where a spare was still
free when the recovery began. -/
def execGristSlotLoss (e : Nat) (s : State) : Host.Outcome State Fault Refusal :=
  .next (match s.grist.leave.find? (fun l => l.engine == e), s.slotOf e with
    | some l, some slot =>
      if l.kind = 4 ∨ s.spareEngines e ≠ [] then s
      else
        let s := if l.kind = 3 ∧ l.dest ≠ 0 then s.raise 0x0A03 kDEGRADED (tgt cGRIST e) (withWait slot 0) l.inj else s
        (s.slotDrop e slot).engineGone l
    | _, _ => s)

/-! ## Dozing (R415) -/

/-- A staged contribution's chunk is bound to this slot. -/
def State.stagedFor (s : State) (slot : Nat) : Bool :=
  s.grist.stage.any (fun e => e.2.any (fun f => (gristHdr f).type == 1 &&
    match (s.group (gristHdr f).group).bind (fun v => chunkOf v (gristHdr f).chunk) with
    | some c => c.slot == slot
    | none => false))

/-- A phase hint of a group's owner keeps its engines awake (R415). -/
def State.hintAwake (s : State) (slot : Nat) : Bool :=
  s.pwr.hints.any (fun h => h.active && s.grist.groups.any (fun e => match e.2 with
    | some v => v.owner == h.ctx && v.slots.contains slot
    | none => false))

/-- GRIST_ENGINE_DOZE: an engine idle for 20 µs enters DOZE. -/
def execGristEngineDoze (e : Nat) (s : State) : Host.Outcome State Fault Refusal :=
  .next (match s.slotOf e with
    | none => s
    | some slot =>
      let busy := s.grist.groups.any (fun x => match x.2 with
        | some v => v.chunks.any (fun c => c.slot == slot && (c.st == 1 || c.st == 3))
        | none => false)
      if s.ust (tgt cGRIST e) = uACTIVE ∧ tabGet s.grist.busyAt (slot, 0) 0 + 20000 ≤ s.now ∧ busy = false ∧ s.stagedFor slot = false ∧ s.hintAwake slot = false then
        s.setUst (tgt cGRIST e) uDOZE 1
      else s)

/-! ## The watchdog of R206 -/

/-- The first chunk of a slot that holds work. -/
def State.slotWork (s : State) (slot : Nat) : Option (Nat × Nat) :=
  (s.slotChunks slot).find? (fun x => ((s.group x.1).bind (fun v => chunkOf v x.2)).any (fun c => c.st != 0 && c.fail == 0))

/-- A sequencer's fetch fault resets the first chunk of its slot that holds work (R412; which chunk the routine was handling is a
DESIGN CHOICE). -/
def State.seqFaulted (s : State) (e : Nat) : State :=
  match (s.slotOf e).bind s.slotWork with
  | some x => s.engineError e 1 x.1 x.2 false false
  | none => s

/-- A vendor's long routine has work: the ageing pass and the audit start theirs themselves; housekeeping and the tally audit may start at
any time, a sequencer where its slot holds a chunk (R192; when they start is a DESIGN CHOICE). -/
def State.vendorWork (s : State) (st n : Nat) : Bool :=
  if st < 8 then n == 2
  else if n < 3 then true
  else decide (4 ≤ n) && ((s.slotOf (n - 4)).bind s.slotWork).isSome

/-- The domain of a store is on. -/
def State.storeOn (s : State) (st : Nat) : Bool := s.domOn (if st < 8 then domBough st else domQuad 0)

/-- WALKER_SAFE_POINT: a long routine goes on to its next safe point, its END word or a fetch fault. A vendor's routine that is idle
and has work has started since; a sequencer parked for the issue rate alone goes on. -/
def execWalkerSafePoint (st n : Nat) (s : State) : Host.Outcome State Fault Refusal :=
  .next (if 8 < st ∨ (ctxList st).contains n = false ∨ s.storeOn st = false then s
    else
      let s' := if s.ctxState st n = 0 ∧ s.vendorWork st n = true then s.startVendor st n
        else if 4 ≤ n ∧ (s.walker st n).preempt = false then s.resumeCtx st n
        else s
      if s'.ctxState st n ≠ 1 then s
      else
        let r := s'.walkOn st n
        if r.2 = .fault ∧ 4 ≤ n then r.1.seqFaulted (n - 4) else r.1)

/-- SAFE_WATCHDOG: a walker, or (4 + e of the Tun's store) the sequencer of Grist engine e, which faults and resets the first chunk
of its slot that holds work (DESIGN CHOICE). Its address is the vendor's (a free value). -/
def execSafeWatchdog (st ctx : Nat) (s : State) : Host.Outcome State Fault Refusal :=
  .next (if ctx < 4 then s.walkWatchdog st ctx
    else
      let e := ctx - 4
      if st ≠ 8 ∨ 68 ≤ e then s
      else match s.slotOf e with
      | none => s
      | some slot =>
        let a := s.free % 2 ^ 14
        let s := (s.drawn.fetchFault 8 a 4 (0x40 + e) 0 (tgt cGRIST e)).ev UC_EVENT.SAFE_WDOG 8
        match s.slotWork slot with
        | some x => s.engineError e 1 x.1 x.2 true false
        | none => s)

end Sys2Proof.Machine
end

