-- ==== Sys2Proof/Machine/Life.lean ====
section
/-! DEFINITION. Resets (R91), power domains going up and down, and steeping (R425 to R427, R436, R437). -/
namespace Sys2Proof.Machine

/-! ## Resets (R91) -/

/-- A register of the always-on domain, by its position: the blocks GLB, CLK, PWR, FLT and SVC. -/
def aonKey (k : Nat) : Bool :=
  decide (k ≤ Reg.FLT_SRC_CNT.ctorIdx) || (decide (Reg.SVC_FW_STATUS.ctorIdx ≤ k) && decide (k ≤ Reg.GPIO_OE.ctorIdx))

/-- The JTAG instruction outside TEST: IDCODE or BYPASS (R542). -/
def jtagIn (m ir : Nat) : Nat := if m = mTEST ∨ ir = 1 then ir else 0xFF

/-! ## Output pins (R533, R542) -/

/-- The level that a GPIO pin is driven to; 2 where it is not driven. -/
def State.gpioDriven (s : State) (n : Nat) : Nat :=
  if nbit (s.reg .GPIO_OE).toNat n then nbits (s.reg .GPIO_OUT).toNat n 1 else 2

/-- The GPIO pins that are driven. -/
def State.gpioPins (s : State) : List Nat := (List.range 16).filter (fun n => s.gpioDriven n != 2)

/-- The levels at the output pins that the module drives: 2 where a pin is not driven. The board sees those of the boughs' lanes and of
the PCIe lanes as `LANE_TX` and `PCIE_TX`: 1 driven, 0 high-impedance. -/
def State.pinLevels (s : State) : List Out :=
  [.pin "PPS_OUT" (b2n s.ppsFall.isSome), .pin "ERR_N" (b2n s.flt.errN), .pin "ALERT_N" (b2n (!s.pwr.alert)),
   .signal "SYNCE" 0 s.synce.out0.div, .signal "SYNCE" 1 s.synce.out1.div] ++
  (List.range 16).map (fun n => .signal "GPIO" n (s.gpioDriven n)) ++
  ((List.range 8).filter (fun b => s.domOn (domSerdes b))).map (fun b => .signal "LANE_TX" b 1) ++
  (if s.domOn (domQuad 0) then [.signal "PCIE_TX" 0 1] else [])

/-- A pin at another level. -/
def Out.at_ (o : Out) (v : Nat) : Out :=
  match o with
  | .pin n _ => .pin n v
  | .signal n i _ => .signal n i v
  | o => o

/-- The pins under a JTAG instruction (R542): under HIGHZ every output is high-impedance or released; under EXTEST and CLAMP the
boundary register drives them, whose content no row of the table shifts in (free values); otherwise the module does. -/
def State.scanPins (s : State) (ir : Nat) : State :=
  if ir = 4 then eachIn s.pinLevels s (fun s o => s.emit (o.at_ 2))
  else if ir = 0 ∨ ir = 5 then eachIn s.pinLevels s (fun s o => (s.emit (o.at_ (s.free % 2))).drawn)
  else eachIn s.pinLevels s State.emit

/-- A JTAG instruction is selected. The lanes' pulses of EXTEST_PULSE and EXTEST_TRAIN (IEEE 1149.6) are a signal. -/
def State.jtagTo (s : State) (ir : Nat) : State :=
  let t := { s with jtagIr := ir }
  if ir = s.jtagIr then t
  else
    let t := if [0, 4, 5].contains ir || [0, 4, 5].contains s.jtagIr then t.scanPins ir else t
    if ir = 8 ∨ ir = 9 then t.emit (.signal "LANE_AC_TEST" ir 1) else t

/-- A change of mode: MODE, with GOAL equal to it and CHANGING 0 (R422). -/
def State.setMode (s : State) (m : Nat) : State :=
  let s := ((s.setFld GLB_MODE.MODE 0 m).setFld GLB_MODE.GOAL 0 m).setFld GLB_MODE.CHANGING 0 0
  s.jtagTo (jtagIn m s.jtagIr)

/-- A change of mode is under way. -/
def State.setGoal (s : State) (m : Nat) : State := (s.setFld GLB_MODE.GOAL 0 m).setFld GLB_MODE.CHANGING 0 1

/-- The units after their domains went off, for a cause of R443: RETIRED ones stay so (R437), all others are OFF. -/
def State.unitsOff (s old : State) (cause : Nat) : State :=
  let s := eachIn old.units { s with units := [] } (fun s e =>
    let t := tgt e.1.1 e.1.2
    if e.2.ust = uOFF ∨ e.2.ust = uRETIRED ∨ e.1.1 = cCLK then s else s.setUnit t { s.unit t with cause := cause })
  eachIn old.retired s (fun s t => s.setUnit t { s.unit t with ust := uRETIRED, cause := (old.unit t).cause })

/-- A quadrant without power: FREQ 0 and with it OPP 0, no step, no freeze, no FLOOR; the bounds that the always-on domain holds
stay (R473, R490). -/
def State.quadDark (s : State) (q : Nat) : State :=
  eachIn [PWR_QUAD.FREQ, PWR_QUAD.OPP, PWR_QUAD.STEPPING, PWR_QUAD.FROZEN, PWR_QUAD.FLOOR] s (fun s f => s.setFld f q 0)

/-- The always-on registers that show the other domains, when those go off: the states of domains and PLLs, rails, powers,
frequencies. What else the CLK and PWR blocks hold stays: no reset but those of R91 returns them (R462, R490). -/
def State.powerOff (s : State) : State :=
  let s := eachIn (pllList.filter (· != 4)) s (fun s i => ((s.setFld CLK_PLL.STATE i 0).setPll i {}).setHeld (tgt cCLK i) false)
  let s := eachIn ((List.range 26).map (· + 1)) s (fun s n =>
    (((s.setFld PWR_DOM_V.STATE n 0).setFld PWR_DOM_V.MV n 0).setFld PWR_DOM_P.MEAS n 0).setFld PWR_DOM_P.EST n 0)
  let s := eachIn (List.range 4) s State.quadDark
  (s.setFld PWR_STAT.HINTS 0 (s.pwr.hints.filter (·.active)).length).setFld PWR_STAT.THROTTLE 0 0

/-- The lanes of a list whose transmitters drive. -/
def State.driving (s : State) (ls : List Nat) : List Nat := ls.filter (fun l => s.laneTx l != .highZ)

/-- The outputs of the domains, as those go off: lanes and PCIe are high-impedance, PPS_OUT and the SyncE outputs low (R433, R533). -/
def State.linesOff (s : State) : State :=
  let s := eachIn (s.driving (List.range 512)) s (fun s l => s.emit (.laneTx l .highZ))
  let s := if s.domOn (domQuad 0) then s.emit (.signal "PCIE_TX" 0 0) else s
  let s := if s.ppsFall.isSome then s.emit (.pin "PPS_OUT" 0) else s
  let s := if s.synce.out0.div = 0 then s else s.emit (.signal "SYNCE" 0 0)
  if s.synce.out1.div = 0 then s else s.emit (.signal "SYNCE" 1 0)

/-- Every domain but the always-on one goes off: the blocks CMD, BOUGH, TUN, SCHED, GRIST, CELLAR and TELEM are at their reset
values (R91). Where `warm` is false the module goes DORMANT: hints and preferences are discarded, DEFAULT and the privileged
contexts kept (R489), and service-port commands that have arrived stay. A WARM reset keeps the PWR block whole. The sensors and
detectors of the domains go with them. The collector keeps the last TOD it received (R494). -/
def State.coreReset (s : State) (warm : Bool) (cause : Nat) : State :=
  let keep := fun (k : Key) => aonKey k.1
  let runs := s.cmd.seqRuns.filter (fun r => match r with
    | .svc _ _ => !warm
    | .sq _ => false)
  let t : State := {
    pending := s.pending, now := s.now, freeCtr := s.freeCtr,
    out := s.linesOff.out,
    regs := s.regs.filter (fun e => keep e.1), ctr := s.ctr.filter (fun e => keep e.1),
    snapVis := s.snapVis.filter (fun e => keep e.1), snapHid := s.snapHid.filter (fun e => keep e.1),
    flt := s.flt, retired := s.retired, clk := s.clk, fw := s.fw, life := s.life, jtagIr := s.jtagIr,
    cmd := { seqRuns := runs, snapOff := s.cmd.snapOff },
    hiLatch := s.hiLatch.filter (fun e => aonKey (e.1.2 / 65536)),
    pwr := { s.pwr with
             hints := if warm then s.pwr.hints else [], prefs := if warm then s.pwr.prefs else [], vset := [0, 0, 0, 0],
             tripped := [], sensors := [],
             calmAt := s.pwr.limDrp.map (fun l => if l < 16 then some s.now else none) } }
  let t := { t with flt.planted := [] }
  let t := if s.domOn 1 then { t with flt.lastTod := s.tod, flt.lastTodAt := s.now } else t
  let t := { t with life.steps := [], life.ramp := none, life.tests := [], life.fresh := [], life.limit := 0 }
  (t.powerOff.unitsOff s cause).setMode mDORMANT

/-- Every driven GPIO pin is released: a reset makes them high-impedance (R533). -/
def State.gpioOff (s : State) : State := eachIn s.gpioPins s (fun s n => s.emit (.signal "GPIO" n 2))

/-- The SyncE outputs, and PPS_OUT at level `pps`, in a reset: 2 is high-impedance (R533). -/
def State.timeReset (s : State) (pps : Nat) : State :=
  ((s.emit (.signal "SYNCE" 0 2)).emit (.signal "SYNCE" 1 2)).emit (.pin "PPS_OUT" pps)

/-- The outputs take their reset states (R533, R534). -/
def State.pinsReset (s : State) : State := ((s.timeReset 2).emit (.pin "ERR_N" 1)).emit (.pin "ALERT_N" 1)

/-- A reset has ended: the time outputs are low (R433). -/
def State.timeLow (s : State) : State :=
  ((s.emit (.signal "SYNCE" 0 0)).emit (.signal "SYNCE" 1 0)).emit (.pin "PPS_OUT" 0)

/-- Everything but what no reset touches: the model's queue and clock, flash, OTP, fuses, the levels at the pins. -/
def State.bare (s : State) : State :=
  let t : State := {
    pending := s.pending, now := s.now, freeCtr := s.freeCtr, out := s.linesOff.gpioOff.out,
    fw := { s.fw with act := none, dfu := [], parts := 0 }, life := { low := s.life.low } }
  ((t.setReg .GLB_ID 0 (s.reg .GLB_ID)).setReg .PWR_INDEX 0 (s.reg .PWR_INDEX)).setReg .GPIO_IN 0 (s.reg .GPIO_IN)

/-- The straps latch at the end of a reset other than WARM (R537): START, XB_EXT, RECOVERY, SMB_ADDR, BOARD_ID. -/
def State.latchStraps (s : State) : State :=
  let w := s.fld GPIO_IN.LEVEL
  ((s.setFld GLB_STRAP.STRAP 0 w).setFld CLK_SRC.EXT 3 (nbits w 2 1)).setFld SMB_STATUS.ADDR 0 (0x60 + nbits w 4 3)

/-- A power-on reset: every block (R91). -/
def State.resetPor (s : State) : State := s.bare.pinsReset

/-- A reset of the kind of RST_N and COLD, which sets `cause` in `GLB_RESET_CAUSE` (R90, R91): the other causes, the history with
its sequence, I_LIMIT and P_SET and the record of RETIRED units are kept; the straps are latched. -/
def State.resetCold (s : State) (cause : Fld) : State :=
  let t := s.bare
  let t := { t with retired := s.retired, flt.hist := s.flt.hist }
  let t := (t.setReg .GLB_RESET_CAUSE 0 (s.reg .GLB_RESET_CAUSE)).ev cause
  let t := (t.setReg .FLT_SEQ 0 (s.reg .FLT_SEQ)).setFld FLT_STATUS.ENTRIES 0 s.flt.hist.length
  let t := (t.setFld PWR_CAP_CUR.I_LIMIT 0 (s.fld PWR_CAP_CUR.I_LIMIT)).setFld PWR_CAP_CUR.P_SET 0 (s.fld PWR_CAP_CUR.P_SET)
  (t.latchStraps.unitsOff s 0).pinsReset

/-- During a WARM reset the driven GPIO pins are high-impedance (R533); their registers are kept (R544), and so they drive again
when it ends. -/
def State.gpioPulse (s : State) : State :=
  eachIn s.gpioPins s.gpioOff (fun s n => s.emit (.signal "GPIO" n (s.gpioDriven n)))

/-- A WARM reset (R91), for `cause`: the always-on blocks are kept, the Malthouse starts again (R423). -/
def State.resetWarm (s : State) (cause : Fld) : State :=
  let t := (s.coreReset true 0).ev cause
  ({ t with life.boot := 1, fw.act := none, fw.dfu := [], fw.parts := 0 }.timeReset 0).gpioPulse

/-! ## Domains and their units (R425, R466) -/

/-- The PLLs of a domain. -/
def domPlls (n : Nat) : List Nat :=
  if 1 ≤ n ∧ n ≤ 4 then [0x10 + (n - 1)]
  else if 5 ≤ n ∧ n ≤ 12 then [0x20 + (n - 5)]
  else if 13 ≤ n ∧ n ≤ 20 then (List.range 8).map (fun t => 0x40 + 8 * (n - 13) + t)
  else if n = 25 then [0x80, 0x81]
  else []

/-- The soft-start peak of a domain's step in W (R470). -/
def stepPeak (n : Nat) : Nat :=
  if n ≤ 4 then 60 else if n ≤ 12 then 20 else if n ≤ 20 then 15 else if n ≤ 24 then 25 else if n = 25 then 40 else 30

/-- The order in which steeping powers the domains up (R425). -/
def steepOrder : List Nat := [1, 2, 3, 4, 21, 22, 23, 24, 25, 26] ++ (List.range 8).flatMap (fun b => [5 + b, 13 + b])

/-- When a domain's step is scheduled, in µs after t0 (R425). -/
def stepOff (n : Nat) : Nat :=
  if n ≤ 4 then 100 * (n - 1)
  else if n ≤ 12 then 1000 + 200 * (n - 5)
  else if n ≤ 20 then 1050 + 200 * (n - 13)
  else if n ≤ 24 then 400 + 100 * (n - 21)
  else if n = 25 then 800
  else 1000

/-- The banks, spares included, of quadrant `q`. -/
def quadBanks (q : Nat) : List Nat := (List.range 128).map (fun k => q * 128 + k) ++ (List.range 4).map (fun k => 512 + 4 * q + k)
/-- The engines, spare included, of Grist group `g`. -/
def groupEngines (g : Nat) : List Nat := (List.range 16).map (fun k => g * 16 + k) ++ [64 + g]

/-- A unit of a domain that comes up: WAKING, or RETIRED as recorded (R437). -/
def State.wakeUnit (s : State) (t : Nat) : State :=
  if s.retired.contains t then s.setUst t uRETIRED (s.unit t).cause else s.setUst t uWAKING 0

/-- A bank is no longer mapped: its logical bank is out of service (R321). -/
def State.unmapBank (s : State) (n : Nat) : State :=
  let t := tgt cBANK n
  let s := s.setFld TUN_FREE.CELLS 0 (s.fld TUN_FREE.CELLS - s.fld TUN_BANK_STATUS.FREE n)
  let s := (s.setFld TUN_BANK_STATUS.FREE n 0).setFld TUN_BANK_STATUS.MAPPED n 0
  let s := (s.setFld TUN_STATUS.LBANKS 0 (s.fld TUN_STATUS.LBANKS - 1)).ev TUN_EVENT.DEGRADED
  s.setUnit t { s.unit t with role := 0xFFF }

/-- Before the buffer is first used, a bank that cannot serve gives its role to a spare, or its logical bank goes out of service
(R20, R425, R437); `tell` where a spare's taking it is reported, `worse` where its being left without one is. -/
def State.bankTaken (s : State) (n : Nat) (tell worse : Bool) : State :=
  let t := tgt cBANK n
  match s.bankSpare n with
  | some sp =>
    let l := s.fld TUN_BANK_STATUS.LBANK n
    let s := (s.setFld TUN_BANK_MAP.PHYS l sp).setFld TUN_BANK_STATUS.FREE sp (s.fld TUN_BANK_STATUS.FREE n)
    let s := ((s.setFld TUN_BANK_STATUS.LBANK sp l).setFld TUN_BANK_STATUS.MAPPED sp 1).setUst (tgt cBANK sp) uACTIVE 0
    let s := s.setUnit (tgt cBANK sp) { s.unit (tgt cBANK sp) with role := l }
    let s := (s.setFld TUN_BANK_STATUS.FREE n 0).setFld TUN_BANK_STATUS.MAPPED n 0
    let s := s.setUnit t { s.unit t with role := 0xFFF }
    if tell then s.raise 0x0802 kRETIRED t (withWait sp 0) else s
  | none =>
    let s := s.unmapBank n
    if worse then s.raise 0x0803 kDEGRADED t (withWait (s.fld TUN_STATUS.LBANKS) 0) else s

/-- Before the engines are first used, an engine that cannot serve gives its slot to a spare, or the slot is lost (R20, R414). -/
def State.engineTaken (s : State) (e : Nat) (tell worse : Bool) : State :=
  let t := tgt cGRIST e
  match s.slotOf e with
  | none => s
  | some slot =>
    match (s.spareEngines e).filter (fun k => s.domOn (domGrist (engineQuad k))) with
    | n :: _ =>
      let s := s.moveSlot slot e n
      if tell then s.raise 0x0A02 kRETIRED t (withWait n 0) else s
    | [] =>
      let s := s.slotDrop e slot
      if worse then s.raise 0x0A03 kDEGRADED t (withWait slot 0) else s

/-- A channel that is retired at start: its capacity is gone (R325, R335). -/
def State.chanCut (s : State) (c : Nat) : State :=
  let s := s.setFld CELLAR_FREE.SLOTS 0 (s.fld CELLAR_FREE.SLOTS - s.fld CELLAR_CH_FREE.SLOTS c)
  (s.setFld CELLAR_CH_FREE.SLOTS c 0).setFld CELLAR_STATUS.CHANS 0 (s.fld CELLAR_STATUS.CHANS - 1)

/-- A quadrant is on: its banks are to be tested, its operating point is OPP 0 (R472; the starting point is DEDUCED). -/
def State.quadUp (s : State) (q : Nat) : State :=
  let s := s.setUst (tgt cTUN (1 + q)) uACTIVE 0
  let s := eachIn (quadBanks q) s (fun s n =>
    let t := tgt cBANK n
    if s.retired.contains t ∨ n < 512 then s.wakeUnit t else s)
  let s := (s.setFld PWR_QUAD.OPP q 0).setFld PWR_QUAD.FREQ q 800
  { s with pwr.vset := s.pwr.vset.set q (620 + Config.oppOffset (s.fld PWR_INDEX.PIDX) 0 % 81 - 40), life.tests := s.life.tests ++ [domQuad q] }

/-- A Grist group is on. -/
def State.gristUp (s : State) (g : Nat) : State :=
  let s := eachIn (groupEngines g) s (fun s e =>
    let t := tgt cGRIST e
    if s.retired.contains t ∨ e < 64 then s.wakeUnit t else s)
  { s with life.tests := s.life.tests ++ [domGrist g] }

/-- The Cellar is on: its channels train (R325). -/
def State.cellarUp (s : State) : State :=
  eachIn (List.range 16) s (fun s c =>
    let s := s.wakeUnit (tgt cCELLAR c)
    if s.ust (tgt cCELLAR c) = uRETIRED then s.chanCut c else s)

/-- A bough's digital domain is on: its pipes are READY, its clusters train (R152); recorded units are replaced (R437). -/
def State.boughUp (s : State) (b : Nat) : State :=
  let pipes := (List.range 8).map (fun k => b * 8 + k)
  let clus := (List.range 16).map (fun k => b * 16 + k)
  let gone := pipes.filter (fun p => s.retired.contains (tgt cPIPE p))
  let s := eachIn pipes s (fun s p =>
    if gone.contains p then (s.setUst (tgt cPIPE p) uRETIRED (s.unit (tgt cPIPE p)).cause).setFld PIPE_STATUS.OWN p 0
    else (s.setUst (tgt cPIPE p) uREADY 0).setFld PIPE_STATUS.OWN p 1)
  let s := eachIn gone s (fun s p =>
    match s.fostererOf p with
    | some f => ((s.setFld PIPE_STATUS.FOSTER_VALID f 1).setFld PIPE_STATUS.FOSTER_TWIG f p).setFld PIPE_STATUS.SERVED_BY p f
    | none => s.setFld PIPE_STATUS.SERVED_VALID p 0)
  eachIn clus s (fun s c =>
    let s := s.wakeUnit (tgt cROOT c)
    if s.ust (tgt cROOT c) = uRETIRED then
      s.setFld ROOT_STATUS.CSTATE c cRETIRED
    else s.setFld ROOT_STATUS.CSTATE c cTRAINING)

/-- A bough's SerDes analog domain is on: its lanes are calibrated (R95). -/
def State.serdesUp (s : State) (b : Nat) : State :=
  let s := eachIn ((List.range 8).map (fun t => tgt cTWIG (b * 8 + t))) s (fun s t =>
    if s.retired.contains t then s.wakeUnit t else s.setUst t uREADY 0)
  eachIn ((List.range 64).map (fun l => tgt cLANE (b * 64 + l))) s State.wakeUnit

/-- What wakes with a domain. -/
def State.domainUp (s : State) (n : Nat) : State :=
  if 1 ≤ n ∧ n ≤ 4 then (if n = 1 then (s.loadVendor 8).emit (.signal "PCIE_TX" 0 1) else s).quadUp (n - 1)
  else if 5 ≤ n ∧ n ≤ 12 then (s.loadVendor (n - 5)).boughUp (n - 5)
  else if 13 ≤ n ∧ n ≤ 20 then s.serdesUp (n - 13)
  else if 21 ≤ n ∧ n ≤ 24 then s.gristUp (n - 21)
  else if n = 25 then s.cellarUp
  else s

/-! ## Units lost with their domain (R426) -/

/-- A cell whose bank is gone: its frame keeps the place without the data. -/
def State.cellLost (s : State) (p : Nat) : State :=
  eachIn (s.tun.frames.map (fun e => e.1.1)) s (fun s i =>
    let f := s.tframe i
    match f.cells.findIdx? (· == p) with
    | some k =>
      let s := if charged f = true ∧ f.nread ≤ k then s.unchargeCells f 1 else s
      s.setTframe i { f with
        cells := f.cells.set k nullPtr, nread := if k < f.nread then f.nread - 1 else f.nread,
        poison := if f.poison.contains k then f.poison else k :: f.poison }
    | none => s)

/-- A bank is gone with its quadrant's domain: the cells in it are lost, its logical bank is out of service. -/
def State.bankLost (s : State) (n u cause : Nat) : State :=
  let s := if s.flag TUN_BANK_STATUS.MAPPED n then
      let l := s.fld TUN_BANK_STATUS.LBANK n
      let rows := (s.usedRows l).map (fun r => l * 4096 + r)
      let s := eachIn rows s State.cellLost
      let s := { s with
        tun.used := tabDropRow s.tun.used l,
        tun.reads := s.tun.reads.map (fun (e : Key × List (Nat × Nat)) => (e.1, e.2.filter (fun x => !rows.contains x.2))),
        tun.closed := s.tun.closed.filter (fun c => c.lbank != l) }
      let s := { s with tun.reads := s.tun.reads.filter (fun (e : Key × List (Nat × Nat)) => e.2 != []) }
      s.unmapBank n
    else s
  let with_ := fun (m : Migration) => m.src == n || m.dst == n
  let s := eachIn ((s.tun.migs ++ s.tun.migNext).filter with_) s (fun s m =>
    (s.setHeld (tgt cBANK m.src) false).setHeld (tgt cBANK m.dst) false)
  let s := { s with
    tun.migs := s.tun.migs.filter (fun m => !with_ m), tun.migNext := s.tun.migNext.filter (fun m => !with_ m) }
  s.setUst (tgt cBANK n) u cause

/-- A cluster is gone with a domain it needs: what it carried is lost. -/
def State.clusterLost (s : State) (c u cause : Nat) : State :=
  let r := s.disableUp c
  let s := r.1.bump .ROOT_REPIN_DROP (c / 16) r.2
  let gone := s.dnList c
  let s := (s.setDnList c []).setRdir c true (s.rdir c true).emptied
  let s := s.setReads c []
  let s := eachIn gone s (fun s d => (if d.got || d.dup then s else s.lostExport (s.tframe d.fid)).freeFrame d.fid)
  let s := (s.setFld ROOT_STATUS.CSTATE c (if u = uGRAFT then cGRAFT else cOFF)).setUst (tgt cROOT c) u cause
  (s.setHeld (tgt cROOT c) false).lastCluster (c / 16)

/-- An engine is gone with its domain: its slot is lost. -/
def State.engineLost (s : State) (e u cause : Nat) : State :=
  let s := match s.slotOf e with
    | some slot => s.slotDrop e slot
    | none => s
  (s.setUst (tgt cGRIST e) u cause).setHeld (tgt cGRIST e) false

/-- A channel is gone: its blocks are lost. -/
def State.chanLost (s : State) (c u cause : Nat) : State :=
  if s.ust (tgt cCELLAR c) = uACTIVE ∨ s.ust (tgt cCELLAR c) = uWAKING then
    let s := eachIn (s.tun.queues.map (fun e => e.1.1)) s (fun s q => s.loseBlocks q c)
    let s := { s with cellar.leaving := s.cellar.leaving.filter (fun y => y.chan != c) }
    ((s.setHeld (tgt cCELLAR c) false).setUst (tgt cCELLAR c) u cause).chanCut c
  else s

/-- A unit that is RETIRED stays so; any other goes to state `u`. -/
def State.unitDown (s : State) (t u cause : Nat) : State := if s.ust t = uRETIRED then s else s.setUst t u cause

/-- The units of quadrant `q` that go with it (R426, R440): its banks, its Grist group's engines, its channels, the clusters of the
boughs whose root links land in it. -/
def State.quadDown (s : State) (q u cause : Nat) : State :=
  let s := eachIn ((quadBanks q).filter (fun n => s.ust (tgt cBANK n) != uRETIRED)) s (fun s n => s.bankLost n u cause)
  let s := s.planRetest
  let s := eachIn ((groupEngines q).filter (fun e => s.ust (tgt cGRIST e) != uRETIRED)) s (fun s e => s.engineLost e u cause)
  let s := eachIn ((List.range 4).map (fun k => 4 * q + k)) s (fun s c => s.chanLost c u cause)
  let s := s.relayExt (s.fld CELLAR_EXT.TELEM_MIB) (s.fld CELLAR_EXT.WALK_MIB)
  let s := eachIn (((List.range 32).map (fun k => 32 * q + k)).filter (fun c => s.ust (tgt cROOT c) != uRETIRED)) s
    (fun s c => s.clusterLost c u cause)
  (s.setUst (tgt cTUN (1 + q)) u cause).quadDark q

/-- The units of bough `b` are lost with its digital domain: its ports have no MAC and no pipe. -/
def State.boughDown (s : State) (b cause : Nat) : State :=
  let s := eachIn ((List.range 8).map (fun k => b * 8 + k)) s (fun s p =>
    let s := (s.bump .TWIG_IN_DROP p (s.twigQ p).length).setTwigQ p []
    ((s.setPframes p []).showFifo p).unitDown (tgt cPIPE p) uOFF cause)
  let s := eachIn (((List.range 16).map (fun k => b * 16 + k)).filter (fun c => s.ust (tgt cROOT c) != uRETIRED)) s
    (fun s c => s.clusterLost c uOFF cause)
  eachIn (((List.range 64).map (fun k => b * 64 + k)).filter (fun p => decide (pTRAINING ≤ s.pstate p))) s State.portTaken

/-- The lanes and twigs of bough `b` are lost with its SerDes analog domain. -/
def State.serdesDown (s : State) (b cause : Nat) : State :=
  let tx := s.driving ((List.range 64).map (fun k => b * 64 + k))
  let s := eachIn ((List.range 64).map (fun k => b * 64 + k)) s (fun s l =>
    (((s.laneDown l cause).setFld LANE_STATUS.LSTATE l 0).setFld LANE_STATUS.LOCK l 0).unitDown (tgt cLANE l) uOFF cause)
  let s := eachIn ((List.range 8).map (fun t => tgt cTWIG (b * 8 + t))) s (fun s t => s.unitDown t uOFF cause)
  let s := eachIn tx s (fun s l => s.emit (.laneTx l .highZ))
  eachIn (((List.range 64).map (fun k => b * 64 + k)).filter (fun p => decide (pTRAINING ≤ s.pstate p))) s State.portTaken

/-- The sensors and the droop detector of a domain that goes off report no more: what they held ends. -/
def State.domQuiet (s : State) (n : Nat) : State :=
  let was := s.pwr.tripped.contains n
  let q := if n ≤ 4 then n - 1 else n - 21
  let s := { s with
    pwr.tripped := s.pwr.tripped.filter (fun d => d != n),
    pwr.calmAt := if was ∧ ((1 ≤ n ∧ n ≤ 4) ∨ 21 ≤ n) then s.pwr.calmAt.set q (some s.now) else s.pwr.calmAt,
    pwr.sensors := s.pwr.sensors.filter (fun (e : (Nat × Nat) × Sensor) => e.1.1 != n) }
  s.setFld PWR_STAT.THROTTLE 0 (b2n (s.pwr.sensors.any (fun e => decide (0 < e.2.steps))))

/-- What is lost with a domain that has failed. -/
def State.domainLost (s : State) (n : Nat) : State :=
  let s := s.domQuiet n
  let s := eachIn (domPlls n) s (fun s i => ((s.setFld CLK_PLL.STATE i 0).setPll i {}).setHeld (tgt cCLK i) false)
  if 1 ≤ n ∧ n ≤ 4 then s.quadDown (n - 1) uOFF 3
  else if 5 ≤ n ∧ n ≤ 12 then s.boughDown (n - 5) 3
  else if 13 ≤ n ∧ n ≤ 20 then s.serdesDown (n - 13) 3
  else if 21 ≤ n ∧ n ≤ 24 then
    eachIn ((groupEngines (n - 21)).filter (fun e => s.ust (tgt cGRIST e) != uRETIRED)) s (fun s e => s.engineLost e uOFF 3)
  else if n = 25 then
    let s := eachIn (List.range 16) s (fun s c => s.chanLost c uOFF 3)
    s.relayExt 0 0
  else s

/-! ## Steeping (R425) -/

/-- Steeping begins: t0. -/
def State.startSteep (s : State) : State :=
  { s.setGoal mSTEEPING with
    life.steps := steepOrder, life.ramp := none, life.tests := [], life.fresh := [], life.t0 := s.now, life.slip := 0, life.good := s.now }

/-- Of units that cannot serve, in the order in which they take spares: whether the record of R437 alone gives `t` a spare. -/
def State.recordSpares (s : State) (units spares : List Nat) (t : Nat) : Bool :=
  let old := fun (l : List Nat) => l.filter (fun u => s.retired.contains u && !s.life.fresh.contains u)
  decide (((old units).takeWhile (fun u => u != t)).length < spares.length - (old spares).length)

/-- Before the units are first used, banks and engines that cannot serve are replaced (R20, R425, R437): what a self-test of this
steeping found is reported, and a role left without a spare that the record alone would have given one. -/
def State.assignSpares (s : State) : State :=
  let fresh := s.life.fresh
  let worse := fun (units spares : List Nat) (t : Nat) => fresh.contains t || s.recordSpares units spares t
  let banks := (List.range 512).filter (fun n => s.ust (tgt cBANK n) == uRETIRED && s.flag TUN_BANK_STATUS.MAPPED n)
  let s := eachIn banks s (fun s n => s.bankTaken n (fresh.contains (tgt cBANK n))
    (worse (banks.map (tgt cBANK)) ((List.range 16).map (fun k => tgt cBANK (512 + k))) (tgt cBANK n)))
  let s := if banks = [] then s else s.planRetest
  let engines := (List.range 64).filter (fun e => s.ust (tgt cGRIST e) == uRETIRED)
  eachIn engines s (fun s e => s.engineTaken e (fresh.contains (tgt cGRIST e))
    (worse (engines.map (tgt cGRIST)) ((List.range 4).map (fun k => tgt cGRIST (64 + k))) (tgt cGRIST e)))

/-! ## Calibration sets (R480) -/

/-- The typical power of a domain at the TDP workload, in W (R466). -/
def domTypical (n : Nat) : Nat :=
  if n = 0 then 3 else if n ≤ 4 then 100 else if n ≤ 12 then 38 else if n ≤ 20 then 24 else if n ≤ 24 then 45
  else if n = 25 then 60 else 111

/-- The load band of a domain at a power of `m` (0.1 W): 0 L, 1 M, 2 H. -/
def loadBand (n m : Nat) : Nat :=
  if m * 10 < 35 * domTypical n then 0 else if m * 10 ≤ 70 * domTypical n then 1 else 2

/-- A domain's calibration. -/
def State.cal (s : State) (n : Nat) : DomCal := tabGet s.pwr.cals (n, 0) {}
/-- Write it. -/
def State.setCal (s : State) (n : Nat) (c : DomCal) : State := { s with pwr.cals := tabSet s.pwr.cals (n, 0) c {} }

/-- The set a domain uses. -/
def DomCal.set (c : DomCal) : CalSet := c.sets.getD c.tag {}

/-- A domain takes the set of a band anew at its temperature, and uses it; its new DTH is a free value (R480 gives none). -/
def State.retake (s : State) (n band : Nat) (c : DomCal) : State :=
  s.drawn.setCal n { c with
    sets := c.sets.set band { temp := some (s.fld PWR_DOM_V.TEMP n), dth := s.free }, tag := band, run := 0, sumE := 0, sumM := 0 }

/-- The set in use is valid: taken in the band of the load, within 15 °C of the temperature. -/
def State.calValid (s : State) (n : Nat) : Bool :=
  let c := s.cal n
  let t := s.fld PWR_DOM_V.TEMP n
  match c.set.temp with
  | some k => c.tag == s.fld PWR_DOM_V.BAND n && decide (t ≤ k + 15) && decide (k ≤ t + 15)
  | none => false

/-- Show a domain's band, and whether its set is valid; it uses GUARD 10 % without a valid set and while it recalibrates. -/
def State.showCal (s : State) (n band : Nat) : State :=
  let s := s.setFld PWR_DOM_V.BAND n band
  let v := s.calValid n
  let s := (s.setFld PWR_DOM_V.CAL_OK n (b2n v)).setFld PWR_DOM_P.WIDE n (b2n (!v || (s.cal n).recal != 0))
  s.setFld PWR_STAT.GUARD_WIDE 0 (b2n ((List.range 27).any (fun k => s.domOn k && s.flag PWR_DOM_P.WIDE k)))

/-- Steeping calibrates every domain at light load (R480). -/
def State.calibrateAll (s : State) : State :=
  eachIn ((List.range 27).filter (fun n => s.domOn n)) s (fun s n =>
    (s.retake n 0 { s.cal n with recal := 0 }).showCal n (s.fld PWR_DOM_V.BAND n))

/-- Steeping ends in the clock in which the last step, calibration, self-test and training has ended. -/
def State.steepCheck (s : State) : State :=
  if s.fld GLB_MODE.CHANGING = 1 ∧ s.fld GLB_MODE.GOAL = mSTEEPING ∧ s.life.steps = [] ∧ s.life.ramp = none ∧ s.life.tests = []
      ∧ (List.range 16).all (fun c => s.ust (tgt cCELLAR c) != uWAKING) = true
      ∧ (List.range 512).all (fun l => s.ust (tgt cLANE l) != uWAKING) = true then
    (({ s.assignSpares.calibrateAll with life.fresh := [] }.setMode mSTEEPING).finish 0x0002 (fun _ => true) ok)
  else s

/-- STEEP_STEP_GRANT: the next step starts at its scheduled time, once the one before it is power-good and the power manager grants its
peak (R425, R470): P_IN + P_PK at most 0.9 × 0.92 × VIN_MIN × I_LIMIT. A wait for the grant shifts the later steps. -/
def execSteepStepGrant (pIn vinMin : Nat) (s : State) : Host.Outcome State Fault Refusal :=
  .next (match s.life.steps, s.life.ramp with
    | n :: rest, none =>
      let due := Nat.max s.life.good (s.life.t0 + s.life.slip + stepOff n * usNs)
      if due ≤ s.now ∧ (pIn + 10 * stepPeak n) * 10000 ≤ 828 * vinMin * s.fld PWR_CAP_CUR.I_LIMIT then
        let s := (s.setFld PWR_DOM_V.STATE n 1)
        eachIn (domPlls n) { s with
          life.steps := rest, life.ramp := some n, life.slip := s.life.slip + (s.now - due), life.began := s.now } State.startPll
      else s
    | _, _ => s)

/-- A PLL does not keep its domain from power-good: it is LOCKED (R449), or is a twig LC PLL that is permanent or has no source,
which costs its twig's ports and no more (R459, R501). -/
def State.pllPasses (s : State) (i : Nat) : Bool :=
  s.pllState i == 2 || (decide (0x40 ≤ i) && decide (i < 0x80) && ((s.pll i).dead || (s.pll i).noSrc))

/-- DOMAIN_POWER_GOOD: the ramping domain's rails stand and its PLLs are LOCKED (R449): its units wake. -/
def execDomainPowerGood (n mv : Nat) (s : State) : Host.Outcome State Fault Refusal :=
  .next (if s.life.ramp = some n ∧ (domPlls n).all s.pllPasses = true then
      let s := (s.setFld PWR_DOM_V.STATE n 2).setFld PWR_DOM_V.MV n mv
      ({ s with life.ramp := none, life.good := s.now }.domainUp n).steepCheck
    else s)

/-- A regulator fails (R426, R501): FATAL for the always-on domain, Q0 and the root links, DEGRADED for the others. -/
def State.regulatorEvent (s : State) (n mv : Nat) : State :=
  s.raise 0x0301 (if n = 0 ∨ n = 1 ∨ n = 26 then kFATAL else kDEGRADED) (tgt cPWR (pwrInst n)) (mv % 4096)

/-- REGULATOR_FAIL: no power-good within 2 ms of the step's start. -/
def execRegulatorFail (n mv : Nat) (s : State) : Host.Outcome State Fault Refusal :=
  .next (if s.life.ramp ≠ some n ∨ s.now < s.life.began + 2 * msNs then s
    else
      let s := s.regulatorEvent n mv
      if n = 1 ∨ n = 26 then
        let s := s.finish 0x0002 (fun _ => true) (refuse eHW (tgt cPWR (pwrInst n)))
        (s.coreReset false 4).setFld PWR_DOM_V.STATE n 3
      else
        let s := { s.setFld PWR_DOM_V.STATE n 3 with life.ramp := none, life.good := s.now }
        (s.domainLost n).steepCheck)

/-- REGULATOR_PROTECTION_TRIP: a regulator shuts down in operation (code 0x0301). -/
def execRegulatorProtectionTrip (n mv : Nat) (s : State) : Host.Outcome State Fault Refusal :=
  .next (if 26 < n ∨ s.domOn n = false then s
    else
      let s := s.regulatorEvent n mv
      if n = 0 then s else (s.setFld PWR_DOM_V.STATE n 3).domainLost n)

/-- SELF_TEST_DONE: the memory self-test of a quadrant or Grist group ends (R425): what fails it is permanent (R436, R500). -/
def execSelfTestDone (n : Nat) (fails : List Nat) (s : State) : Host.Outcome State Fault Refusal :=
  .next (if s.life.tests.contains n = false then s
    else
      let ts := if n ≤ 4 then (quadBanks (n - 1)).map (tgt cBANK) else (groupEngines (n - 21)).map (tgt cGRIST)
      let bad := ts.filter (fun t => fails.contains (tInst t) && !s.retired.contains t)
      let s := { s with life.tests := s.life.tests.filter (· != n), life.fresh := s.life.fresh ++ bad }
      let s := eachIn bad s (fun s t => s.retire t 3)
      (eachIn ts s (fun s t => if s.ust t = uWAKING then s.setUst t uACTIVE 0 else s)).steepCheck)

/-- CELLAR_TRAINING_DONE: a channel's training ends (R325): in service at 20 or 16 Gb/s, or retired before any block is placed. -/
def execCellarTrainingDone (c result : Nat) (s : State) : Host.Outcome State Fault Refusal :=
  .next (let t := tgt cCELLAR c
    if 16 ≤ c ∨ s.ust t ≠ uWAKING then s
    else if result = 0 then ((s.setFld CELLAR_CH_STATUS.RATE c 1).setUst t uACTIVE 0).steepCheck
    else if result = 1 then
      (((s.setFld CELLAR_CH_STATUS.RATE c 0).ev CELLAR_EVENT.RATE_FALLBACK).raise 0x0905 kCORRECTED t 0 |>.setUst t uACTIVE 0).steepCheck
    else
      let s := ((s.chanCut c).retire t 3).ev CELLAR_EVENT.CH_RETIRED
      (s.raise 0x0904 kDEGRADED t (withWait (s.fld CELLAR_STATUS.CHANS) 0)).steepCheck)

/-- LANE_CAL_DONE: calibration of a waking lane ends (R95); the last one may end steeping. -/
def execLaneCalDone (l : Nat) (pass : Bool) (s : State) : Host.Outcome State Fault Refusal := .next (s.laneCal l pass).steepCheck

end Sys2Proof.Machine
end

