-- ==== Sys2Proof/Machine/Modes.lean ====
section
/-! DEFINITION. Operating modes: SET_MODE and the changes between modes (R419 to R422, R427 to R432). -/
namespace Sys2Proof.Machine

/-! ## Service and its end (R427, R428, R430) -/

/-- SERVICE: admission opens in one clock; frames that entered a twig FIFO before are discarded (R428); pipes that serve a twig are
ACTIVE (R435). -/
def State.toService (s : State) : State :=
  let s := eachIn (List.range 64) (s.setMode mSERVICE) (fun s t =>
    if s.twigQ t = [] then s else ((s.bump .TWIG_IN_DROP t (s.twigQ t).length).setTwigQ t []).showFifo t)
  eachIn (List.range 64) s (fun s p =>
    if s.ust (tgt cPIPE p) = uREADY ∧ s.twigsOf p ≠ [] then s.setUst (tgt cPIPE p) uACTIVE 4 else s)

/-- Forwarding ends: pipes are READY (R435). -/
def State.endForwarding (s : State) : State :=
  eachIn (List.range 64) s (fun s p =>
    if s.ust (tgt cPIPE p) = uACTIVE ∨ s.ust (tgt cPIPE p) = uDOZE then s.setUst (tgt cPIPE p) uREADY 4 else s)

/-- TEST: every configured port is disabled (R431). -/
def State.toTest (s : State) : State := eachIn s.confPorts (s.endForwarding.setMode mTEST) (fun s p => s.portOff p 4)

/-- STEEPING, from DRAIN or TEST; on leaving TEST every port is disabled and every lane returns to DOWN (R431). -/
def State.toSteeping (s : State) : State :=
  let s := if s.mode = mTEST then
      eachIn (List.range 512) (eachIn s.confPorts s (fun s p => s.portOff p 4)) (fun s l =>
        if s.lstate l = lTEST then (s.setLane l { s.lane l with test := {} }).laneDown l 4 else s)
    else s
  s.endForwarding.setMode mSTEEPING

/-! ## Draining (R429, R430) -/

/-- A change to DRAIN begins: intakes stop, every open Grist group is closed gracefully. -/
def State.startDrain (s : State) (limit : Nat) : State :=
  { s.setGoal mDRAIN with draining := true, life.limit := limit, life.since := s.now }.closeAllGroups

/-- DRAIN is entered. -/
def State.drained (s : State) : State := { s.setMode mDRAIN with draining := false, life.limit := 0 }

/-- Everything has left the module: queues and racked blocks, groups, in-flight cells, resequencing buffers (R429, step 4). -/
def State.emptied (s : State) : Bool :=
  s.tun.queues.all (fun e => e.2.frames == [] && e.2.blocks == [] && e.2.rack.isNone) &&
  s.grist.groups == [] && s.inflightCells == 0 &&
  (List.range 8).all (fun b => (s.rootBough b).reseq == [] && (s.rootBough b).waiting == [])

/-- LIMIT has passed: every queue that holds frames is flushed, closing groups go on as ABORT, and the change completes (R430). -/
def State.drainFlush (s : State) : State :=
  let qs := (s.tun.queues.filter (fun e => e.2.frames != [] || e.2.blocks != [])).map (fun e => e.1.1)
  let s := eachIn qs s (fun s q => s.flushQueue q .TUN_FLUSH_DROP 7 true)
  let s := if qs = [] then s else s.ev TUN_EVENT.FLUSH
  (eachIn (s.grist.groups.map (fun e => e.1.1)) s State.abortGroup).drained

/-- A change to DRAIN is under way. -/
def State.toDrain (s : State) : Bool := s.draining && s.fld GLB_MODE.GOAL == mDRAIN && s.flag GLB_MODE.CHANGING

/-- DRAIN_COMPLETE: everything has left the module. -/
def execDrainComplete (s : State) : Host.Outcome State Fault Refusal :=
  .next (if s.toDrain = true ∧ s.emptied = true then s.drained.finish 0x0002 (fun _ => true) ok else s)

/-- DRAIN_LIMIT_EXPIRE: LIMIT ms after the change was accepted; where everything has left the module at that moment, no flush (R444). -/
def execDrainLimitExpire (s : State) : Host.Outcome State Fault Refusal :=
  .next (if s.toDrain = true ∧ s.life.since + s.life.limit * msNs ≤ s.now then
      (if s.emptied then s.drained else s.drainFlush).finish 0x0002 (fun _ => true) ok
    else s)

/-! ## SET_MODE (R420 to R422) -/

/-- The changes that `SET_MODE` accepts (R420). -/
def modeAllowed (old m : Nat) : Bool :=
  match old with
  | 0 => m == 2 || m == 1
  | 2 => m == 3 || m == 5 || m == 0
  | 3 => m == 4
  | 4 => m == 3 || m == 2 || m == 5 || m == 0
  | 5 => m == 2 || m == 0
  | _ => false

/-- RECOVERY from DORMANT: the Malthouse restarts into its ROM loader (R424). -/
def State.toRecovery (s : State) : State := (s.setMode mRECOVERY).setReg .GLB_FW_VER 0 0

/-- SET_MODE's effect. A change to DORMANT takes the domains down after its reply. -/
def effSetMode (p : Packet) (s : State) : State × Rep :=
  let m := parF p 0 0 3
  let lim := parF p 0 8 16
  let old := s.mode
  if !onlyBits p 0 0x00FFFF07 || decide (6 ≤ m) || (lim != 0 && m != mDRAIN) || decide (60000 < lim) then (s, badPar 0)
  else if s.flt.fatal ∧ m ≠ mDORMANT then (s, deny eSTATE)
  else if m = old then (s, ok)
  else if modeAllowed old m = false then (s, refuse eSTATE (old + m * 256))
  else if m = mDORMANT then ({ s with life.down := true }, ok)
  else if m = mRECOVERY then (s.toRecovery, ok)
  else if m = mSERVICE then (s.toService, ok)
  else if m = mTEST then (s.toTest, ok)
  else if m = mDRAIN then (if lim = 0 then ((s.startDrain 0).drainFlush, ok) else (s.startDrain lim, laterRep))
  else if old = mDORMANT then (s.startSteep, laterRep)
  else (s.toSteeping, ok)

/-- The domains go off once the reply of a change to DORMANT is written (R432). -/
def State.goDown (s : State) : State :=
  if s.life.down then { s with life.down := false }.coreReset false 4 else s

/-- SET_MODE. -/
def execSetMode (p : Packet) (s : State) : Host.Outcome State Fault Refusal := .next (s.command 0x0002 effSetMode p).goDown

end Sys2Proof.Machine
end

