-- ==== Sys2Proof/Machine/Units.lean ====
section
/-! DEFINITION. The unit commands: graft, restore, retire, state (R439 to R443), and the doze policy (R438). -/
namespace Sys2Proof.Machine

/-! ## UNIT_STATE (R443) -/

/-- A twig's state: from its lanes while its PLL runs (R435). -/
def State.twigState (s : State) (t : Nat) : Nat :=
  let u := s.ust (tgt cTWIG t)
  let ls := (List.range 8).map (fun k => t * 8 + k)
  if u = uREADY ∨ u = uACTIVE ∨ u = uDOZE then
    if ls.any (fun l => s.ust (tgt cLANE l) == uACTIVE) then uACTIVE
    else if ls.all (fun l => s.ust (tgt cLANE l) == uDOZE || s.ust (tgt cLANE l) == uOFF || s.lstate l == lDOWN) then uDOZE
    else uREADY
  else u

/-- The domain instance of a PWR TARGET's instance; 0 for the module's own. -/
def domOfPwr (i : Nat) : Nat := ((List.range 27).find? (fun n => pwrInst n == i)).getD 0

/-- Whether the domain or source of a class without unit states is on. -/
def State.unitOn (s : State) (t : Nat) : Bool :=
  let i := tInst t
  match tCls t with
  | 1 => s.domOn (domBough i)
  | 8 => s.domOn (domGrist (i - 0x100))
  | 10 => match srcOfInst i with
    | some n => s.srcState n == kREADY
    | none => s.pllState i != 0
  | 11 => s.domOn (domOfPwr i)
  | 4 => if i = 512 ∨ i = 513 then s.domOn 1 else if i < 578 then s.domOn (domGrist ((i - 514) / 16)) else s.domOn (domBough (i - 578))
  | _ => true

/-- The role that a unit's word shows. -/
def State.unitRole (s : State) (t : Nat) : Nat :=
  let i := tInst t
  match tCls t with
  | 5 => (s.twigsOf i).headD 0xFFF
  | 7 => (s.unit t).role
  | 8 => if i < 68 then (s.unit t).role else i
  | _ => i

/-- The word of a unit (R443). -/
def State.unitWord (s : State) (t : Nat) : Word :=
  let t := if tCls t = cPORT ∧ tInst t < 512 then tgt cLANE (tInst t) else t
  let c := tCls t
  let i := tInst t
  let has := c == 2 || c == 3 || c == 5 || c == 6 || c == 7 || (c == 8 && decide (i < 68)) || c == 9 || c == 14
  let u := if c = 2 then s.twigState i
    else if c = 6 ∧ i = 0 then (if s.domOn 1 then uACTIVE else uOFF)
    else if has then s.ust t
    else if s.unitOn t then uACTIVE else uOFF
  wd (u + b2n (s.unit t).held * 8 + (s.unit t).cause * 16 + s.unitRole t * 2 ^ 16)

/-- The instances a class has, ascending. -/
def instancesOf (c : Nat) : List Nat := (List.range 1024).filter (fun i => listed c i)

/-- UNIT_STATE's effect. -/
def effUnitState (p : Packet) (s : State) : State × Rep :=
  let c := tCls p.target
  if tInst p.target = 0xFFF then (s, ok ((instancesOf c).map (fun i => s.unitWord (tgt c i))))
  else (s, ok [s.unitWord p.target])

/-- UNIT_STATE. -/
def execUnitState (p : Packet) (s : State) : Host.Outcome State Fault Refusal := .next (s.command 0x0C04 effUnitState p)

/-! ## DOZE_CFG (R438) -/

/-- The E_PARAM cases of `DOZE_CFG`. -/
def dozeBad (p : Packet) : Bool :=
  match tCls p.target with
  | 5 => !onlyBits p 0 0x3FFF || decide (10000 < parF p 0 0 14)
  | 2 => !onlyBits p 0 0x3FFF0001 || decide (parF p 0 16 14 < 10) || decide (10000 < parF p 0 16 14)
  | _ => !onlyBits p 0 0x7F || parF p 0 0 7 == 0 || decide (100 < parF p 0 0 7)

/-- DOZE_CFG's effect. -/
def effDozeCfg (p : Packet) (s : State) : State × Rep :=
  if dozeBad p then (s, badPar 0)
  else
    let f := fun (s : State) i =>
      match tCls p.target with
      | 5 => s.setPipe i { s.pipe i with idle := parF p 0 0 14 }
      | 2 => s.setTwig i { s.twig i with deepEn := parF p 0 0 1 == 1, deepUs := parF p 0 16 14 }
      | _ => s.setLane i { s.lane i with maxIdle := parF p 0 0 7 }
    (eachIn (instances p.target (if tCls p.target = cLANE then 512 else 64)) s f, ok)

/-- DOZE_CFG. -/
def execDozeCfg (p : Packet) (s : State) : Host.Outcome State Fault Refusal := .next (s.command 0x0C05 effDozeCfg p)

/-! ## Leaving service (R440, R442) -/

/-- A lane leaves service: its port is in FAULT and stays there. -/
def State.laneOut (s : State) (l : Nat) : State :=
  let s := match s.portOf l with
    | some p => s.portTaken p
    | none => s
  (s.laneDown l 2).setUst (tgt cLANE l) uGRAFT 2

/-- A twig leaves service: its ports are in FAULT, its PLL is stopped. -/
def State.twigOut (s : State) (t : Nat) : State :=
  let ls := (List.range 8).map (fun k => t * 8 + k)
  let s := eachIn ls s (fun s l => match s.portOf l with
    | some p => s.portTaken p
    | none => s)
  let s := eachIn ls s (fun s l => if s.ust (tgt cLANE l) = uDEEP then s.setUst (tgt cLANE l) uDOZE 2 else s)
  let s := eachIn ls s (fun s l => s.laneDown l 2)
  ((s.setFld CLK_PLL.STATE (0x40 + t) 0).setPll (0x40 + t) {}).setUst (tgt cTWIG t) uGRAFT 2

/-- Whether leaving service needs FORCE (R440). -/
def State.needsForce (s : State) (t : Nat) : Bool :=
  let i := tInst t
  match tCls t with
  | 5 => (s.twigsOf i).any (fun k => (s.fostererOf k).isNone)
  | 7 => s.flag TUN_BANK_STATUS.MAPPED i && (s.bankSpare i).isNone
  | 8 => s.flag GRIST_E_STATUS.MAPPED i && s.spareEngines i == []
  | _ => true

/-- A quadrant leaves service, in DRAIN: its units go with it, then its domain (R440). -/
def State.quadOut (s : State) (q : Nat) : State :=
  let s := (s.quadDown q uGRAFT 2).domQuiet (domQuad q)
  let s := eachIn (domPlls (domQuad q)) s (fun s i => ((s.setFld CLK_PLL.STATE i 0).setPll i {}).setHeld (tgt cCLK i) false)
  (s.setFld PWR_DOM_V.STATE (domQuad q) 0).setFld PWR_DOM_V.MV (domQuad q) 0

/-- A unit that no command sends out on its own any more: RETIRED at once. -/
def State.retireNow (s : State) (t : Nat) : State :=
  let s := s.retire t 2
  match tCls t with
  | 14 => (s.setFld ROOT_STATUS.CSTATE (tInst t) cRETIRED).ev ROOT_EVENT.RETIRED (tInst t)
  | 9 => s.ev CELLAR_EVENT.CH_RETIRED
  | _ => s

/-- A unit in service is taken out by its owning chapter's procedure (R440), to GRAFT or, with `retire`, to RETIRED. A procedure
that takes time answers when it ends. -/
def State.takeOut (s : State) (t : Nat) (retire : Bool) : State × Rep :=
  let i := tInst t
  let kind := if retire then 2 else 1
  let done := fun (s : State) => if retire then (s.retireNow t, ok [wd uRETIRED]) else (s, ok [wd uGRAFT])
  match tCls t with
  | 3 => done (s.laneOut i)
  | 2 => done (s.twigOut i)
  | 5 => (s.pipeLeave i kind, laterRep)
  | 7 => if s.flag TUN_BANK_STATUS.MAPPED i then (s.replaceBank i (!retire) 2, laterRep) else done (s.setUst t uGRAFT 2)
  | 8 => if s.flag GRIST_E_STATUS.MAPPED i then (s.engineLeave i kind false, laterRep) else done (s.setUst t uGRAFT 2)
  | 9 =>
    if s.ust t = uACTIVE then (s.chanLeave i (!retire) 2, laterRep) else done (s.setUst t uGRAFT 2)
  | 14 =>
    if s.carries i then (s.clusterLeaves i (if retire then 14 else 15) false, laterRep)
    else done ((s.setUst t uGRAFT 2).setFld ROOT_STATUS.CSTATE i cGRAFT)
  | _ => done (s.quadOut (i - 1))

/-- Whether a quadrant may not be taken out: outside DRAIN, and Q0 always (R440). -/
def State.quadStays (s : State) (t : Nat) : Bool := tCls t == cTUN && (s.mode != mDRAIN || tInst t < 2)

/-- UNIT_GRAFT's effect. -/
def effUnitGraft (p : Packet) (s : State) : State × Rep :=
  let t := p.target
  let u := s.ust t
  if !onlyBits p 0 1 then (s, badPar 0)
  else if u = uGRAFT ∨ u = uOFF ∨ u = uRETIRED ∨ s.quadStays t = true then (s, deny eSTATE)
  else if parF p 0 0 1 = 0 ∧ s.needsForce t = true then (s, deny eRESOURCE)
  else s.takeOut t false

/-- UNIT_GRAFT. -/
def execUnitGraft (p : Packet) (s : State) : Host.Outcome State Fault Refusal := .next (s.command 0x0C01 effUnitGraft p)

/-- A free spare (R20): a bank or engine that no role uses. -/
def State.freeSpare (s : State) (t : Nat) : Bool :=
  s.ust t == uOFF && ((tCls t == 7 && decide (512 ≤ tInst t)) || (tCls t == 8 && decide (64 ≤ tInst t)))

/-- UNIT_RETIRE's effect (R442). -/
def effUnitRetire (p : Packet) (s : State) : State × Rep :=
  let t := p.target
  let u := s.ust t
  if !onlyBits p 0 1 then (s, badPar 0)
  else if u = uRETIRED then (s, ok [wd uRETIRED])
  else if u = uGRAFT ∨ s.freeSpare t = true then (s.retireNow t, ok [wd uRETIRED])
  else if u = uOFF ∨ s.quadStays t = true then (s, deny eSTATE)
  else if parF p 0 0 1 = 0 ∧ s.needsForce t = true then (s, deny eRESOURCE)
  else s.takeOut t true

/-- UNIT_RETIRE. -/
def execUnitRetire (p : Packet) (s : State) : Host.Outcome State Fault Refusal := .next (s.command 0x0C03 effUnitRetire p)

/-! ## Restoring (R441) -/

/-- A lane is in service again: READY in DOWN; where its port is enabled it looks for its partner. -/
def State.laneBack (s : State) (l : Nat) : State :=
  let s := ((s.setUst (tgt cLANE l) uREADY 2).setFld LANE_STATUS.LSTATE l lDOWN)
  match s.portOf l with
  | some p => if (s.port p).enabled then s.laneEnable l else s
  | none => s

/-- A twig's PLL runs again; its lanes look for their partners. -/
def State.twigBack (s : State) (t : Nat) : State :=
  let s := (s.startPll (0x40 + t)).setUst (tgt cTWIG t) uREADY 2
  eachIn ((List.range 8).map (fun k => t * 8 + k)) s (fun s l => match s.portOf l with
    | some p => if (s.port p).enabled then s.laneEnable l else s
    | none => s)

/-- An engine is back: it takes its slot from the spare that serves it (R413), its lost slot is in service again, or, a spare
without a slot, it is free. -/
def State.engineBack (s : State) (e : Nat) : State × Bool :=
  let t := tgt cGRIST e
  if 64 ≤ e then (s.setUst t uOFF 2, false)
  else match s.engineOf e with
    | some n =>
      let s := (s.setUst t uWAKING 2).engineLeave n 4 false
      ({ s with grist.leave := s.grist.leave.map (fun (l : GLeave) => if l.engine = n ∧ l.kind = 4 then { l with dest := e } else l) }, true)
    | none =>
      let s := (s.setFld GRIST_SLOT_MAP.PHYS e e).setFld GRIST_SLOT_MAP.VALID e 1
      let s := s.setFld GRIST_G_STATUS.SLOTS_UP (e / 16) (Nat.lor (s.fld GRIST_G_STATUS.SLOTS_UP (e / 16)) (2 ^ (e % 16)))
      let s := (s.setFld GRIST_E_STATUS.SLOT e e).setFld GRIST_E_STATUS.MAPPED e 1
      ((s.setUnit t { s.unit t with role := e }).setUst t uACTIVE 2, false)

/-- A cluster is trained again, with the lanes that fail now on spares, and asks for its pins back (R152, R161, R163). -/
def State.clusterBack (s : State) (c : Nat) (failUp failDn : List Nat) : State :=
  let s := s.trained c failUp failDn
  let s := s.setCluster c { s.cluster c with cause := 0, clkGone := false }
  let s := ((s.setFld ROOT_STATUS.CSTATE c cACTIVE).setUst (tgt cROOT c) uACTIVE 2).setHeld (tgt cROOT c) true
  let v := s.rootBough (c / 16)
  s.setRootBough (c / 16) { v with asked := v.asked ++ [⟨2, c, s.now⟩] }

/-- A quadrant is on again with the units that went with it (R440, R441). -/
def State.quadBack (s : State) (q : Nat) : State :=
  let n := domQuad q
  let s := eachIn (domPlls n) (s.setFld PWR_DOM_V.STATE n 2) State.startPll
  let s := (s.setFld PWR_QUAD.OPP q 0).setFld PWR_QUAD.FREQ q 800
  let s := { s.setUst (tgt cTUN (1 + q)) uACTIVE 2 with
    pwr.vset := s.pwr.vset.set q (620 + Config.oppOffset (s.fld PWR_INDEX.PIDX) 0 % 81 - 40) }
  let s := eachIn ((quadBanks q).filter (fun k => s.ust (tgt cBANK k) == uGRAFT)) s State.restoreBank
  let s := eachIn ((groupEngines q).filter (fun e => s.ust (tgt cGRIST e) == uGRAFT)) s (fun s e => (s.engineBack e).1)
  let s := eachIn (((List.range 4).map (fun k => 4 * q + k)).filter (fun c => s.ust (tgt cCELLAR c) == uGRAFT)) s State.restoreChan
  let s := eachIn (((List.range 32).map (fun k => 32 * q + k)).filter (fun c => s.ust (tgt cROOT c) == uGRAFT)) s (fun s c => s.clusterBack c [] [])
  s.relayExt (s.fld CELLAR_EXT.TELEM_MIB) (s.fld CELLAR_EXT.WALK_MIB)

/-- The physical lanes that an environment value names, one a bit. -/
def envLanes (p : Packet) (k : Nat) : List Nat := (List.range 66).filter (fun l => nbit (envAt p k) l)

/-- A unit that passed its self-test returns to its role by its owning chapter's procedure. -/
def State.bringBack (s : State) (p : Packet) (t : Nat) : State × Rep :=
  let i := tInst t
  let now := fun (s : State) => (s, ok [wd (s.ust t)])
  match tCls t with
  | 3 => now (s.laneBack i)
  | 2 => now (s.twigBack i)
  | 5 => (s.pipeReturn i, laterRep)
  | 7 =>
    let s := s.restoreBank i
    if s.ust t = uACTIVE ∨ s.ust t = uOFF then now s else (s, laterRep)
  | 8 =>
    let r := s.engineBack i
    if r.2 then (r.1, laterRep) else now r.1
  | 9 => now (s.restoreChan i)
  | 14 => (s.clusterBack i (envLanes p 1) (envLanes p 2), laterRep)
  | _ => now (s.quadBack (i - 1))

/-- The calibration or self-test of a unit fails: the first value the environment supplies says so; a cluster's training fails also with the
lanes that the second and third name, one a bit, UP and DN, where more than two of a direction are out (R152). -/
def State.restoreFails (s : State) (p : Packet) : Bool :=
  envAt p 0 == 1 || (tCls p.target == 14 && !s.trainOk (tInst p.target) (envLanes p 1) (envLanes p 2) true)

/-- UNIT_RESTORE's effect. A failure's
report has no code of its own in R498: code and DETAIL are free values. -/
def effUnitRestore (p : Packet) (s : State) : State × Rep :=
  let t := p.target
  if !onlyBits p 0 0 then (s, badPar 0)
  else if s.ust t ≠ uGRAFT then (s, deny eSTATE)
  else if s.restoreFails p then
    (s.drawn.raise (s.free % 2 ^ 16) kDEGRADED t (withWait (s.free / 2 ^ 16) 0), { status := eHW, results := [wd uGRAFT], anyDetail := true })
  else s.bringBack p t

/-- UNIT_RESTORE. -/
def execUnitRestore (p : Packet) (s : State) : Host.Outcome State Fault Refusal := .next (s.command 0x0C02 effUnitRestore p)

end Sys2Proof.Machine
end

