-- ==== Sys2Proof/Machine/Power.lean ====
section
/-! DEFINITION. Power, droop and thermal control: the input and its thresholds (R465, R467, R485), the cap loop (R468, R474, R475),
operating points and their steps (R472, R473, R476), droop (R477, R478), estimate and measurement (R479, R480), temperature
(R484), ALERT_N (R486) and the power commands (R469, R481 to R483, R488). -/
namespace Sys2Proof.Machine

/-! ## ALERT_N (R486) -/

/-- The conditions of R486 that hold, in the order of the mask's bits. -/
def State.alertBits (s : State) : List Bool :=
  [s.pwr.vinOut, s.flag PWR_STAT.CAP_UNMET, s.flag PWR_STAT.HW_ILIM, s.flag PWR_STAT.THROTTLE, s.pwr.sensors.any (fun e => decide (2 ≤ e.2.max))]

/-- An unmasked condition holds. -/
def State.alertOn (s : State) : Bool :=
  (List.range 5).any (fun i => s.alertBits.getD i false && !nbit (s.fld PWR_ALERT_MASK.MASK) i)

/-- Drive ALERT_N low while an unmasked condition holds, release it while none does. -/
def State.showAlert (s : State) : State :=
  if s.alertOn = s.pwr.alert then s
  else { s with pwr.alert := s.alertOn }.emit (.pin "ALERT_N" (if s.alertOn then 0 else 1))

/-! ## The input (R465, R467) -/

/-- VIN_RANGE_EVENT: VIN outside 9 V to 60 V for 100 µs. -/
def execVinRangeEvent (s : State) : Host.Outcome State Fault Refusal :=
  .next ({ s with pwr.vinOut := true }.ev PWR_EVENT.VIN_RANGE).showAlert

/-- VIN_BACK_IN_RANGE. -/
def execVinBackInRange (s : State) : Host.Outcome State Fault Refusal := .next { s with pwr.vinOut := false }.showAlert

/-- VIN_UNDERVOLTAGE: every domain except the always-on one goes off without ordering, and the reset lasts until VIN recovers. -/
def execVinUndervoltage (s : State) : Host.Outcome State Fault Refusal :=
  .next { s.resetCold GLB_RESET_CAUSE.VIN_LOW with life.boot := 2, life.low := s.life.low.filter (· != 2) ++ [2] }

/-- VIN_POWER_LOSS: below 7.0 V the always-on domain goes off too; the next rise is a power-on reset (R91). -/
def execVinPowerLoss (s : State) : Host.Outcome State Fault Refusal := 
  .next { s.resetPor with life.boot := 2, life.low := s.life.low.filter (· != 2) ++ [2] }

/-- A reset input is high again: the reset ends once all are, the straps latch and the ROM loader is to run (R423, R536, R537). -/
def State.release (s : State) (input : Nat) : State :=
  let s := { s with life.low := s.life.low.filter (· != input) }
  if s.life.low = [] then { s.latchStraps with life.boot := 1 } else s

/-- VIN_RECOVER: VIN rises above 8.8 V. -/
def execVinRecover (s : State) : Host.Outcome State Fault Refusal := .next (if s.life.low.contains 2 then s.release 2 else s)

/-- HW_ILIM: the hardware input limit starts or stops acting. -/
def execHwIlim (acts : Bool) (s : State) : Host.Outcome State Fault Refusal :=
  .next ((if acts then s.ev PWR_EVENT.HW_ILIM else s).setFld PWR_STAT.HW_ILIM 0 (b2n acts)).showAlert

/-- THERMAL_SHUTDOWN: a sensor at 115 °C (a regulator's at 125 °C) on two samples powers the domains down (R485). -/
def execThermalShutdown (s : State) : Host.Outcome State Fault Refusal := 
  .next { s.resetCold GLB_RESET_CAUSE.THERM with life.boot := if s.life.low = [] then 1 else 2 }

/-! ## Operating points (R472, R473) -/

/-- The frequency of an OPP, MHz. -/
def oppFreq (o : Nat) : Nat := [800, 1000, 1200, 1400, 1500, 1600, 1700, 1800].getD o 1800

/-- The nominal voltage of an OPP, mV. -/
def oppNominal (o : Nat) : Nat := [620, 660, 700, 740, 770, 800, 840, 880].getD o 880

/-- The voltage of an OPP on this part: nominal plus the offset its power index chooses, −40 mV to +40 mV. -/
def State.oppMv (s : State) (o : Nat) : Nat := oppNominal o + Config.oppOffset (s.fld PWR_INDEX.PIDX) o % 81 - 40

/-- A temperature sensor. -/
def State.sensor (s : State) (n r : Nat) : Sensor := tabGet s.pwr.sensors (n, r) {}
/-- Write it. -/
def State.setSensor (s : State) (n r : Nat) (v : Sensor) : State := { s with pwr.sensors := tabSet s.pwr.sensors (n, r) v {} }

/-- The thermal steps in force on quadrant `q`: of its own sensors and its Grist group's (R484, R466). -/
def State.quadSteps (s : State) (q : Nat) : Nat :=
  (s.sensor (domQuad q) 0).steps + (s.sensor (domQuad q) 1).steps + (s.sensor (domGrist q) 0).steps + (s.sensor (domGrist q) 1).steps

/-- The CEIL of thermal control. -/
def State.thermCeil (s : State) (q : Nat) : Nat := 7 - s.quadSteps q

/-- CEIL: the least of the cap loop's and of thermal control's. -/
def State.quadCeil (s : State) (q : Nat) : Nat := Nat.min (s.pwr.capCeil.getD q 7) (s.thermCeil q)

/-- FLOOR: OPP1 while a cluster that lands in the quadrant is ACTIVE in SERVICE or DRAIN. -/
def State.quadFloor (s : State) (q : Nat) : Nat :=
  if (s.mode == mSERVICE || s.mode == mDRAIN) && (List.range 32).any (fun k => s.ust (tgt cROOT (32 * q + k)) == uACTIVE) then 1 else 0

/-- A hint's HINT value for quadrant `q`, where it gives one (R482, R483). -/
def State.hintOpp (s : State) (h : Hint) (q : Nat) : Option Nat :=
  if h.active && nbit h.qmask q then
    let pref := tabGet s.pwr.prefs (h.ctx * 4 + h.cls, q) 0
    if s.privileged h.ctx ∧ pref ≠ 0 then some (pref - 1) else if h.cls = 0 then none else some 7
  else none

/-- The highest OPP that active hints request of quadrant `q`. -/
def State.quadHint (s : State) (q : Nat) : Option Nat :=
  match s.pwr.hints.filterMap (fun h => s.hintOpp h q) with
  | [] => none
  | l => some (l.foldl Nat.max 0)

/-- A sensor of the quadrant or of its Grist group stands at 105 °C or more (R466, R484). -/
def State.quadHot (s : State) (q : Nat) : Bool :=
  [domQuad q, domGrist q].any (fun n => [0, 1].any (fun r => decide (2 ≤ (s.sensor n r).max)))

/-- TARGET (R473). -/
def State.quadTarget (s : State) (q : Nat) : Nat :=
  let want := Nat.min (s.quadCeil q) ((s.quadHint q).getD (s.pwr.defOpp.getD q 5))
  if s.quadHot q then Nat.min want (s.thermCeil q) else Nat.max (s.quadFloor q) want

/-- Until when a quadrant's last step runs. -/
def State.stepEnd (s : State) (q : Nat) : Nat := s.pwr.stepAt.getD q 0
/-- Set it. -/
def State.setStepEnd (s : State) (q t : Nat) : State := { s with pwr.stepAt := s.pwr.stepAt.set q t }

/-- A quadrant is at TARGET: frequency, rail, and no step still runs. -/
def State.atTarget (s : State) (q : Nat) : Bool :=
  let o := s.fld PWR_QUAD.TARGET q
  s.fld PWR_QUAD.FREQ q == oppFreq o && s.pwr.vset.getD q 0 == s.oppMv o && decide (s.stepEnd q ≤ s.now)

/-- A move begins where TARGET asks for one, with the PLL LOCKED and stepping not frozen (R476, R478). -/
def State.startMove (s : State) (q : Nat) : State :=
  if s.atTarget q = true ∨ s.flag PWR_QUAD.STEPPING q = true ∨ s.flag PWR_QUAD.FROZEN q = true ∨ s.pllState (0x10 + q) ≠ 2 then s
  else (s.setFld PWR_QUAD.STEPPING q 1).setStepEnd q (Nat.max (s.stepEnd q) s.now)

/-- Resolve the bounds of a powered quadrant. -/
def State.retarget (s : State) (q : Nat) : State :=
  if s.domOn (domQuad q) then
    (((s.setFld PWR_QUAD.CEIL q (s.quadCeil q)).setFld PWR_QUAD.FLOOR q (s.quadFloor q)).setFld PWR_QUAD.TARGET q (s.quadTarget q)).startMove q
  else s

/-- Resolve every quadrant's. -/
def State.retargetAll (s : State) : State := eachIn (List.range 4) s State.retarget

/-- The issue limit of each Grist group: the least of its cap, droop and thermal limits (R474). -/
def State.showLim (s : State) : State :=
  eachIn (List.range 4) s (fun s g =>
    if s.domOn (domGrist g) then
      s.setFld GRIST_G_LIMIT.LIM g (Nat.min (s.pwr.limCap.getD g 16) (Nat.min (s.pwr.limDrp.getD g 16) (Nat.max 1 (16 - 2 * s.quadSteps g))))
    else s)

/-! ## Steps (R476) -/

/-- The OPP of a quadrant: the highest whose frequency and voltage are both in force. -/
def State.oppInForce (s : State) (q : Nat) : Nat :=
  ((List.range 8).filter (fun o => decide (oppFreq o ≤ s.fld PWR_QUAD.FREQ q) && decide (s.oppMv o ≤ s.pwr.vset.getD q 0))).foldl Nat.max 0

/-- A quadrant and its Grist group follow the rail of its operating point. -/
def State.setRail (s : State) (q mv : Nat) : State :=
  let s := { s with pwr.vset := s.pwr.vset.set q mv }.setFld PWR_DOM_V.MV (domQuad q) mv
  if s.domOn (domGrist q) then s.setFld PWR_DOM_V.MV (domGrist q) mv else s

/-- A 10 mV step of a quadrant's rail ends: 1 µs after the step before it. -/
def State.railStep (s : State) (q mv : Nat) : State :=
  if s.now < s.stepEnd q + usNs then s else (s.setRail q mv).setStepEnd q s.now

/-- A frequency step of a quadrant is applied, and runs for 200 ns. -/
def State.freqStep (s : State) (q mhz : Nat) : State := (s.setFld PWR_QUAD.FREQ q mhz).setStepEnd q (s.now + 200)

/-- One step of a move toward TARGET, where the one before it has ended: up, the rail by 10 mV and then the frequency by 25 MHz; down,
the frequency and then the rail. While stepping is frozen only a rise in progress goes on (R478). -/
def State.stepQuad (s : State) (q : Nat) : State :=
  let f := s.fld PWR_QUAD.FREQ q
  let v := s.pwr.vset.getD q 0
  let tf := oppFreq (s.fld PWR_QUAD.TARGET q)
  let tv := s.oppMv (s.fld PWR_QUAD.TARGET q)
  if s.flag PWR_QUAD.STEPPING q = false ∨ s.now < s.stepEnd q then s
  else if f ≤ tf ∧ v < tv then s.railStep q (Nat.min tv (v + 10))
  else if s.flag PWR_QUAD.FROZEN q then s
  else if f < tf then s.freqStep q (Nat.min tf (f + 25))
  else if tf < f then s.freqStep q (Nat.max tf (f - 25))
  else if tv < v then s.railStep q (Nat.max tv (v - 10))
  else s

/-- Show whether the move has ended, and the OPP in force, once the last step has ended. -/
def State.showStep (s : State) (q : Nat) : State :=
  if s.now < s.stepEnd q then s
  else
    let s := if s.atTarget q then s.setFld PWR_QUAD.STEPPING q 0 else s
    let new := s.oppInForce q
    if new = s.fld PWR_QUAD.OPP q then s else (s.setFld PWR_QUAD.OPP q new).ev PWR_EVENT.OPP_CHANGE

/-- OPP_STEP: a quadrant whose PLL is LOCKED moves one step. -/
def execOppStep (q : Nat) (s : State) : Host.Outcome State Fault Refusal :=
  .next (if q < 4 ∧ s.domOn (domQuad q) = true ∧ s.pllState (0x10 + q) = 2 then
      (((s.retarget q).showStep q).stepQuad q).showStep q
    else s)

/-! ## The cap loop (R468, R474, R475) -/

/-- P_CAP in W at a VIN in 10 mV: min(P_SET, 1,250, floor(0.92 × VIN × I_LIMIT)). -/
def pCap (pSet iLim vin : Nat) : Nat := Nat.min pSet (Nat.min 1250 (92 * vin * iLim / 10000))

/-- VIN_MIN: the lowest sample of the last ms. -/
def State.vinMin (s : State) : Nat :=
  match s.pwr.vins with
  | [] => 0
  | v :: t => t.foldl Nat.min v

/-- The cap in force. -/
def State.capNow (s : State) : Nat := pCap (s.fld PWR_CAP_CUR.P_SET) (s.fld PWR_CAP_CUR.I_LIMIT) s.vinMin

/-- U in mW: Σ max(E, M) × (1 + GUARD) (R471). -/
def State.uPower (s : State) (doms : List (Nat × Nat)) : Nat :=
  sumN ((List.range 27).map (fun n =>
    let d := doms.getD n (0, 0)
    Nat.max d.1 d.2 * (if s.flag PWR_DOM_P.WIDE n || s.calValid n == false then 110 else 103)))

/-- Show the deepest actuator engaged. -/
def State.showLevel (s : State) : State :=
  s.setFld PWR_STAT.CAP_LEVEL 0 (if s.pwr.forced then 3 else if s.pwr.capCeil.any (fun c => decide (c < 7)) then 2
    else if s.pwr.limCap.any (fun l => decide (l < 16)) then 1 else 0)

/-- The quadrant whose CEIL the loop lowers, where the CEIL of some quadrant is above its FLOOR: the one at the highest OPP, the
lowest on a tie. -/
def State.capQuad (s : State) : Option Nat :=
  let qs := (List.range 4).filter (fun q => s.domOn (domQuad q))
  if qs.any (fun q => decide (s.quadFloor q < s.pwr.capCeil.getD q 7)) then
    let top := (qs.map (fun q => s.fld PWR_QUAD.OPP q)).foldl Nat.max 0
    qs.find? (fun q => s.fld PWR_QUAD.OPP q == top)
  else none

/-- Over the cap: one actuator step. -/
def State.capEngage (s : State) : State :=
  let s := { s with pwr.hold := 0 }
  if s.pwr.limCap.any (fun l => decide (1 < l)) then
    { s with pwr.limCap := s.pwr.limCap.map (fun l => Nat.max 1 (l - 2)) }.bump .PWR_CAP_STEPS
  else match (if (List.range 4).any (fun q => s.flag PWR_QUAD.STEPPING q) then none else s.capQuad) with
  | some q => { s with pwr.capCeil := s.pwr.capCeil.set q (s.pwr.capCeil.getD q 7 - 1) }.bump .PWR_CAP_STEPS
  | none =>
    if s.pwr.forced then { s with pwr.unmet := s.pwr.unmet + 1 }
    else { s with pwr.forced := true }.bump .PWR_CAP_STEPS

/-- Release one step: doze first, then the lowest CEIL, then the issue limit. -/
def State.capRelease (s : State) : State :=
  if s.pwr.forced then { s with pwr.forced := false }.bump .PWR_CAP_STEPS
  else
    let low := s.pwr.capCeil.foldl Nat.min 7
    if low < 7 then
      let q := s.pwr.capCeil.findIdx (· == low)
      { s with pwr.capCeil := s.pwr.capCeil.set q (low + 1) }.bump .PWR_CAP_STEPS
    else if s.pwr.limCap.any (fun l => decide (l < 16)) then
      { s with pwr.limCap := s.pwr.limCap.map (fun l => Nat.min 16 (l + 2)) }.bump .PWR_CAP_STEPS
    else s

/-- Below 95 % of the cap: after 100 µs one step is released. -/
def State.capBelow (s : State) : State :=
  let s := { s with pwr.unmet := 0, pwr.hold := s.pwr.hold + 1 }
  if 100 ≤ s.pwr.hold then { s.capRelease with pwr.hold := 0 } else s

/-- What a quadrant's droop has left, `e` ns after its recovery: the droop limit rises by 2 with every µs, stepping is free again after
2 µs (R477, R478). -/
def State.droopAfter (s : State) (q e : Nat) : State :=
  let s := if e % usNs = 0 ∧ usNs ≤ e then
      { s with pwr.limDrp := s.pwr.limDrp.set q (Nat.min 16 (s.pwr.limDrp.getD q 16 + 2)) }.showLim
    else s
  if e = 2 * usNs then (s.setFld PWR_QUAD.FROZEN q 0).startMove q else s

/-- A ns of the quadrants that a droop has left limited or frozen. -/
def State.droopTick (s : State) : State :=
  eachIn (List.range 4) s (fun s q =>
    match s.pwr.calmAt.getD q none with
    | none => s
    | some t =>
      let s := s.droopAfter q (s.now - t)
      if 16 ≤ s.pwr.limDrp.getD q 16 ∧ t + 2 * usNs ≤ s.now then { s with pwr.calmAt := s.pwr.calmAt.set q none } else s)

/-- What a tick measures: VIN and input current, each domain's E and M, the energy drawn. -/
def State.capMeasure (s : State) (vin iin mj : Nat) (doms : List (Nat × Nat)) : State :=
  let s := if s.pwr.ticks % 20 = 0 then { s with pwr.vins := (vin :: s.pwr.vins).take 50 } else s
  let s := ({ s with pwr.ticks := s.pwr.ticks + 1 }.setFld PWR_VIN.VIN 0 vin).setFld PWR_VIN.IIN 0 iin
  let s := eachIn (List.range 27) s (fun s n =>
    let d := doms.getD n (0, 0)
    ((s.setFld PWR_DOM_P.EST n d.1).setFld PWR_DOM_P.MEAS n d.2).showCal n (loadBand n d.2))
  let s := (s.setFld PWR_TOTAL.EST 0 (sumN (doms.map Prod.fst) / 10)).setFld PWR_TOTAL.MEAS 0 (sumN (doms.map Prod.snd) / 10)
  (s.bump .PWR_ENERGY 0 mj).setFld PWR_CAP_CUR.P_CAP 0 s.capNow

/-- The time below the cap, which ends CAP_UNMET (R475). -/
def State.capClear (s : State) (u : Nat) : State :=
  let s := { s with pwr.below := if u < s.capNow * 1000 then s.pwr.below + 1 else 0 }
  if 1000 ≤ s.pwr.below then s.setFld PWR_STAT.CAP_UNMET 0 0 else s

/-- CAP_TICK: the loop of R474, once a µs; a stretched window counts as over cap (R477). -/
def execCapTick (vin iin mj : Nat) (doms : List (Nat × Nat)) (above : Bool) (s : State) : Host.Outcome State Fault Refusal :=
  .next (if s.life.boot = 2 ∨ s.now < s.pwr.tickAt then s
    else
      let s := { s with pwr.tickAt := s.now + usNs }.capMeasure vin iin mj doms
      let u := s.uPower doms
      let cap := s.capNow
      let s := { s with pwr.lastU := u }.retargetAll
      let s := if cap * 1000 < u ∨ above = true then s.capEngage else if u < 950 * cap then s.capBelow else s
      (((s.capClear u).showLevel).retargetAll.showLim).showAlert)

/-- CAP_UNMET: over the cap for 1 ms with every actuator at its limit (R475). -/
def execCapUnmet (s : State) : Host.Outcome State Fault Refusal :=
  .next (if 1000 ≤ s.pwr.unmet ∧ s.flag PWR_STAT.CAP_UNMET = false then
      let s := (s.setFld PWR_STAT.CAP_UNMET 0 1).ev PWR_EVENT.CAP_UNMET
      ({ s with pwr.below := 0 }.raise 0x0303 kDEGRADED (tgt cPWR 0) (s.capNow % 2048 + s.pwr.lastU / 1000 % 2048 * 65536)).showAlert
    else s)

/-! ## Droop (R477, R478) -/

/-- The quadrant whose steps a domain's droop freezes. -/
def droopQuad (n : Nat) : Option Nat :=
  if 1 ≤ n ∧ n ≤ 4 then some (n - 1) else if 21 ≤ n ∧ n ≤ 24 then some (n - 21) else none

/-- A domain has a droop detector. -/
def hasDroop (n : Nat) : Bool := (decide (1 ≤ n) && decide (n ≤ 12)) || (decide (21 ≤ n) && decide (n ≤ 24))

/-- DTH of a domain in mV: of its set in use, 10 mV more while that set is not valid (R480). -/
def State.dth (s : State) (n : Nat) : Nat := (s.cal n).set.dth + (if s.calValid n then 0 else 10)

/-- V_SET of a domain in mV: the rail its quadrant's operating point has set, or 0.75 V (R466). -/
def State.vSet (s : State) (n : Nat) : Nat :=
  match droopQuad n with
  | some q => s.pwr.vset.getD q 0
  | none => 750

/-- DROOP_TRIP: the rail of a domain falls below V_SET − DTH (R477). -/
def execDroopTrip (e : RailFall) (s : State) : Host.Outcome State Fault Refusal :=
  let n := e.dom
  .next (if hasDroop n = true ∧ s.domOn n = true ∧ s.pwr.tripped.contains n = false ∧ e.mv + s.dth n < s.vSet n then
      let s := ({ s with pwr.tripped := n :: s.pwr.tripped }.bump .PWR_DROOP_CNT).ev PWR_EVENT.DROOP
      match droopQuad n with
      | some q =>
        let s := { s with pwr.limDrp := s.pwr.limDrp.set q 4, pwr.calmAt := s.pwr.calmAt.set q none }
        let s := if s.domOn (domQuad q) then (s.setFld PWR_QUAD.FROZEN q 1).ev PWR_EVENT.DROOP_FREEZE else s
        s.showLim
      | none => s
    else s)

/-- DROOP_RECOVER: 100 ns above the recovery threshold; the stretched clocks of a quadrant or group count under code 0x187. -/
def execDroopRecover (n clocks : Nat) (s : State) : Host.Outcome State Fault Refusal :=
  .next (if s.pwr.tripped.contains n then
      let s := { s with pwr.tripped := s.pwr.tripped.filter (· != n) }
      match droopQuad n with
      | some q =>
        let s := if s.pwr.tripped.contains (domQuad q) || s.pwr.tripped.contains (domGrist q) then s
          else { s with pwr.calmAt := s.pwr.calmAt.set q (some s.now) }
        s.perf (tunSet q) 0x187 clocks
      | none => s
    else s)

/-! ## Estimate against measurement (R479, R480) -/

/-- |a − b|. -/
def absDiff (a b : Nat) : Nat := (a - b) + (b - a)

/-- A compared window of a domain. -/
def State.estCompare (s : State) (n e m : Nat) : State :=
  let c := s.cal n
  if c.recal = 5 then
    if absDiff e m * 100 ≤ 5 * m then (s.setCal n { c with recal := 0, run := 0 }).ev PWR_EVENT.RECAL_DONE
    else s.setCal n { c with recal := 1, sumE := 0, sumM := 0 }
  else if c.recal ≠ 0 then
    let c := { c with sumE := c.sumE + e, sumM := c.sumM + m, recal := c.recal + 1 }
    s.setCal n (if c.recal = 5 then
        { c with sets := c.sets.set c.tag { c.set with scales := (c.sumM, c.sumE) :: c.set.scales } }
      else c)
  else if absDiff e m * 100 ≤ 12 * m then s.setCal n { c with run := 0 }
  else if c.run + 1 < 5 then s.setCal n { c with run := c.run + 1 }
  else
    let s := (s.setCal n { c with run := 0, recal := 1, sumE := 0, sumM := 0 }).ev PWR_EVENT.EST_MISMATCH
    (s.bump .PWR_EST_MISMATCH).raise 0x0302 kCORRECTED (tgt cPWR (pwrInst n)) (Nat.min 65535 (absDiff e m * 1000 / m))

/-- EST_WINDOW: a 1 ms window ends. A power safe point refreshes the set first (R480, R489). -/
def execEstWindow (n e m : Nat) (whole cut : Bool) (s : State) : Host.Outcome State Fault Refusal :=
  .next (if 26 < n ∨ s.domOn n = false ∨ s.now < tabGet s.pwr.estAt (n, 0) 0 then s
    else
      let s := { s with pwr.estAt := tabSet s.pwr.estAt (n, 0) (s.now + msNs) 0 }.showCal n (loadBand n m)
      let c := s.cal n
      let s := if whole && !cut && !s.calValid n then
          (s.retake n (loadBand n m) { c with recal := Nat.min 1 c.recal }).ev PWR_EVENT.BAND_REFRESH
        else if cut || decide (m < 10) then s
        else s.estCompare n e m
      s.showCal n (loadBand n m))

/-! ## Temperature (R484) -/

/-- The most thermal steps a sensor takes: quadrant and Grist sensors down to LIM 1 and OPP0, the others down to 12 of 16. -/
def stepsCap (n : Nat) : Nat := if (droopQuad n).isSome then 8 else 4

/-- A sensor's counts after a sample: at the throttle threshold, at 105 °C, below 97 °C. -/
def sampled (x : Sensor) (r t : Nat) : Sensor :=
  { x with
    temp := t, hot := if (if r = 1 then 115 else 100) ≤ t then x.hot + 1 else 0,
    max := if 105 ≤ t then Nat.min 2 (x.max + 1) else 0, cool := if t < 97 then x.cool + 1 else 0 }

/-- The thermal steps of a sensor after a sample: one more on the second hot sample and every ms from then on, one fewer
for every 10 ms below 97 °C. -/
def stepped (x : Sensor) (n : Nat) : Sensor :=
  if 2 ≤ x.hot ∧ (x.hot - 2) % 10 = 0 then { x with steps := Nat.min (stepsCap n) (x.steps + 1) }
  else if 0 < x.cool ∧ x.cool % 100 = 0 then { x with steps := x.steps - 1 }
  else x

/-- THERMAL_SAMPLE: a sensor reports, every 100 µs. -/
def execThermalSample (n : Nat) (regulator : Bool) (t : Nat) (s : State) : Host.Outcome State Fault Refusal :=
  .next (if 26 < n ∨ s.domOn n = false then s
    else
      let r := b2n regulator
      let old := s.sensor n r
      let new := stepped (sampled old r t) n
      let s := s.setSensor n r new
      let s := s.setFld PWR_DOM_V.TEMP n (Nat.min 255 (Nat.max (s.sensor n 0).temp (s.sensor n 1).temp))
      let s := s.showCal n (s.fld PWR_DOM_V.BAND n)
      let s := s.setFld PWR_STAT.THROTTLE 0 (b2n (s.pwr.sensors.any (fun e => decide (0 < e.2.steps))))
      let s := if s.flag PWR_STAT.THROTTLE then s.ev PWR_EVENT.THROTTLE else s
      let s := if new.max = 2 ∧ old.max < 2 then
          (s.ev PWR_EVENT.TEMP_MAX).raise 0x0304 kDEGRADED (tgt cPWR (pwrInst n)) (Nat.min 255 t + r * 256)
        else s
      (s.retargetAll.showLim).showAlert)

/-! ## PWR_CAP (R469) -/

/-- A lower cap ends an upward move at the next step boundary: what stands then is where the next move, if TARGET still asks for
one, begins (R489). -/
def State.endRises (s : State) : State :=
  eachIn (List.range 4) s (fun s q =>
    let o := s.fld PWR_QUAD.TARGET q
    if s.fld PWR_QUAD.FREQ q < oppFreq o ∨ s.pwr.vset.getD q 0 < s.oppMv o then s.setFld PWR_QUAD.STEPPING q 0 else s)

/-- PWR_CAP's effect; VIN at execution is `env` word 0, in 10 mV. -/
def effPwrCap (p : Packet) (s : State) : State × Rep :=
  let i := parF p 0 0 7
  let w := parF p 0 16 11
  let vin := envAt p 0
  let cap := pCap w i vin
  if onlyBits p 0 0x07FF007F = false ∨ i < 20 ∨ 120 < i ∨ w < 250 ∨ 1250 < w then (s, badPar 0)
  else if cap < 250 then (s, refuse ePARAM vin)
  else
    let s := if cap < s.fld PWR_CAP_CUR.P_CAP then s.endRises else s
    ((s.setFld PWR_CAP_CUR.I_LIMIT 0 i).setFld PWR_CAP_CUR.P_SET 0 w, ok [wd cap])

/-- PWR_CAP. -/
def execPwrCap (p : Packet) (s : State) : Host.Outcome State Fault Refusal := .next (s.command 0x0703 effPwrCap p)

/-! ## PWR_PRIV, PWR_HINT, PWR_OPP (R481 to R483) -/

/-- PWR_PRIV's effect. -/
def effPwrPriv (p : Packet) (s : State) : State × Rep :=
  let op := parF p 0 0 1
  let n := parF p 0 16 5
  let ctxs := (List.range n).map (fun k => parN p (1 + k))
  if onlyBits p 0 0x001F0001 = false ∨ 16 < n ∨ (op = 1 ∧ n ≠ 0) then (s, badPar 0)
  else if parCount p ≠ 1 + n then (s, refuse eLEN (lenDetail (1 + n) (1 + n)))
  else match ctxs.findIdx? (fun c => c == 0 || decide (0xFFFF ≤ c)) with
  | some k => (s, badPar (1 + k))
  | none =>
    if op = 0 ∧ n = 0 then (s, ok)
    else
      let s := { s with pwr.privs := ctxs, pwr.prefs := s.pwr.prefs.filter (fun e => e.1.1 / 4 == 0 || ctxs.contains (e.1.1 / 4)) }
      ((s.setFld PWR_STAT.PRIV_CNT 0 n).retargetAll, ok)

/-- PWR_PRIV. -/
def execPwrPriv (p : Packet) (s : State) : Host.Outcome State Fault Refusal := .next (s.command 0x0705 effPwrPriv p)

/-- Show the number of active hints and resolve the targets. -/
def State.hintsChanged (s : State) : State :=
  (s.setFld PWR_STAT.HINTS 0 (s.pwr.hints.filter (·.active)).length).retargetAll

/-- A hint becomes active: the engines of its context's groups wake (R415). -/
def State.activateHint (s : State) (id : Nat) : State :=
  let s := { s with pwr.hints := s.pwr.hints.map (fun (h : Hint) => if h.id = id then { h with active := true } else h) }
  let ctxs := (s.pwr.hints.filter (fun h => h.id == id)).map (fun h => h.ctx)
  let slots := s.grist.groups.flatMap (fun e => match e.2 with
    | some v => if ctxs.contains v.owner then v.slots else []
    | none => [])
  (eachIn slots s State.wakeEngine).hintsChanged

/-- PWR_HINT's effect: an announced hint takes one of the unused ids (which one the spec leaves open). -/
def effPwrHint (p : Packet) (s : State) : State × Rep :=
  let op := parF p 0 0 2
  let id := parF p 0 16 5
  if op = 1 then
    if onlyBits p 0 0x001F0F33 = false ∨ s.pwr.hints.all (fun h => h.id != id) = true then (s, badPar 0)
    else ({ s with pwr.hints := s.pwr.hints.filter (fun h => h.id != id) }.hintsChanged, ok [wd id])
  else if op ≠ 0 ∨ onlyBits p 0 0x001F0F33 = false ∨ parF p 0 8 4 = 0 then (s, badPar 0)
  else if 1000000 < parN p 1 then (s, badPar 1)
  else if parN p 2 = 0 ∨ 10000000 < parN p 2 then (s, badPar 2)
  else if 16 ≤ s.pwr.hints.length then (s, deny eRESOURCE)
  else
    let unused := (List.range 32).filter (fun k => s.pwr.hints.all (fun h => h.id != k))
    let k := unused.getD (s.free % unused.length) 0
    let h : Hint := { id := k, ctx := p.ctx, cls := parF p 0 4 2, qmask := parF p 0 8 4, start := parN p 1, dur := parN p 2, since := s.now }
    let s := { s.drawn with pwr.hints := s.pwr.hints ++ [h] }
    (if h.start ≤ 30 then s.activateHint k else s, ok [wd k])

/-- PWR_HINT. -/
def execPwrHint (p : Packet) (s : State) : Host.Outcome State Fault Refusal := .next (s.command 0x0701 effPwrHint p)

/-- HINT_ACTIVATE: 30 µs before its START. -/
def execHintActivate (id : Nat) (s : State) : Host.Outcome State Fault Refusal :=
  .next (if s.pwr.hints.any (fun h => h.id == id && !h.active && decide (h.since + (h.start - 30) * usNs ≤ s.now)) then s.activateHint id
    else s)

/-- HINT_EXPIRE: its duration has ended. -/
def execHintExpire (id : Nat) (s : State) : Host.Outcome State Fault Refusal :=
  .next (if s.pwr.hints.any (fun h => h.id == id && decide (h.since + (h.start + h.dur) * usNs ≤ s.now)) then { s with pwr.hints := s.pwr.hints.filter (fun h => h.id != id) }.hintsChanged else s)

/-- PWR_OPP's effect. -/
def effPwrOpp (p : Packet) (s : State) : State × Rep :=
  let sel := parF p 0 0 1
  let qs := (List.range 4).filter (fun q => nbit (parF p 0 8 4) q)
  let cls := parF p 0 16 2
  let o := parF p 0 20 4
  if onlyBits p 0 0x00F30F01 = false ∨ (8 ≤ o ∧ o ≤ 14) then (s, badPar 0)
  else if sel = 0 then
    let v := if o = 0xF then 5 else o
    ({ s with pwr.defOpp := qs.foldl (fun l q => l.set q v) s.pwr.defOpp }.retargetAll, ok)
  else
    let v := if o = 0xF then 0 else o + 1
    ({ s with pwr.prefs := qs.foldl (fun t q => tabSet t (p.ctx * 4 + cls, q) v 0) s.pwr.prefs }.retargetAll, ok)

/-- PWR_OPP. -/
def execPwrOpp (p : Packet) (s : State) : Host.Outcome State Fault Refusal := .next (s.command 0x0702 effPwrOpp p)

/-! ## PWR_STATUS (R488) -/

/-- The two words of a PWR instance. -/
def State.pwrWords (s : State) (i : Nat) : List Word :=
  if i = 0 then [s.reg .PWR_VIN, s.reg .PWR_CAP_CUR]
  else
    let n := findD (List.range 27) (fun n => pwrInst n == i) 0
    [s.reg .PWR_DOM_V n, s.reg .PWR_DOM_P n]

/-- PWR_STATUS's effect. -/
def effPwrStatus (p : Packet) (s : State) : State × Rep :=
  (s, ok ((if tInst p.target = 0xFFF then 0 :: (List.range 27).map pwrInst else [tInst p.target]).flatMap s.pwrWords))

/-- PWR_STATUS. -/
def execPwrStatus (p : Packet) (s : State) : Host.Outcome State Fault Refusal := .next (s.command 0x0704 effPwrStatus p)

end Sys2Proof.Machine
end

