-- ==== Sys2Proof/Machine/Faults.lean ====
section
/-! DEFINITION. Faults: the collector, its history and ERR_N (R491 to R497), FATAL (R502), the fault commands (R505 to R508), the
Malthouse's own faults (R90, R498). -/
namespace Sys2Proof.Machine

/-! ## ERR_N (R497) -/

/-- Drive ERR_N: low while FATAL holds, during a pulse, and while LEVEL is 1. -/
def State.showErrN (s : State) : State :=
  let high := !(s.flt.fatal || s.flt.pulse || s.flag FLT_PIN_CTL.LEVEL)
  if high = s.flt.errN then s else { s with flt.errN := high }.emit (.pin "ERR_N" (b2n high))

/-- ERR_PULSE_END: 86 SIRC cycles after the last entry that drives a pulse. -/
def execErrPulseEnd (s : State) : Host.Outcome State Fault Refusal :=
  .next (if sircCycles s.now < sircCycles s.flt.pulseAt + 86 then s else { s with flt.pulse := false }.showErrN)

/-! ## History (R494 to R496) -/

/-- TIME of an entry, and whether it is extrapolated: the last TOD received, advanced by 244.140625 ns for each SIRC cycle. -/
def State.histTime (s : State) : Nat × Bool :=
  if s.domOn (domQuad 0) then (s.tod % 2 ^ 48, false)
  else ((s.flt.lastTod + (sircCycles s.now - sircCycles s.flt.lastTodAt) * 244140625 / 1000000) % 2 ^ 48, true)

/-- `a` is not older than `b`, as sequence numbers. -/
def notOlder (a b : Nat) : Bool := decide ((a + 2 ^ 32 - b % 2 ^ 32) % 2 ^ 32 < 2 ^ 31)

/-- An event merges into an entry: made since handling began, of the same TARGET, CODE, CLASS and INJ. -/
def State.merges (s : State) (e : FltEv) (h : HistEnt) : Bool :=
  notOlder h.seq s.flt.handleFrom && h.target == e.target && h.code == e.code && h.cls == e.cls && h.inj == e.inj

/-- The newest entry that an event merges into, while the collector is handling. -/
def State.mergeAt (s : State) (e : FltEv) : Option Nat :=
  if s.flag FLT_STATUS.HANDLING then (s.flt.hist.reverse.find? (s.merges e)).map (·.seq) else none

/-- The class's PIN bit is set and the source is unmasked. -/
def State.pulses (s : State) (e : FltEv) : Bool :=
  nbit (s.fld FLT_CLASS_CTL.PIN) e.cls && decide (e.cls < 4) &&
  !(if e.src < 32 then nbit (s.reg .FLT_PIN_MASK_LO).toNat e.src else nbit (s.reg .FLT_PIN_MASK_HI).toNat (e.src - 32))

/-- A new entry; the oldest of 32 is overwritten. It opens handling, and drives a pulse where its class and source do. -/
def State.newEntry (s : State) (e : FltEv) : State :=
  let n := (s.reg .FLT_SEQ).toNat
  let t := s.histTime
  let ent : HistEnt := {
    seq := n, time := t.1, target := e.target, code := e.code, cls := e.cls, tsrc := t.2, inj := e.inj, merge := 0, detail := e.detail }
  let s := if s.flt.hist.length < 32 then s else s.satFld FLT_STATUS.HIST_LOST 0 1
  let s := { s with flt.hist := (if s.flt.hist.length < 32 then s.flt.hist else s.flt.hist.drop 1) ++ [ent] }
  let s := (s.setReg .FLT_SEQ 0 (wd (n + 1))).setFld FLT_STATUS.ENTRIES 0 s.flt.hist.length
  let s := if s.flag FLT_STATUS.HANDLING then s else { s.setFld FLT_STATUS.HANDLING 0 1 with flt.handleFrom := n }
  (if s.pulses e then { s with flt.pulse := true, flt.pulseAt := s.now } else s).showErrN

/-- An event enters the history (R496). -/
def State.enterHistory (s : State) (e : FltEv) : State :=
  match s.mergeAt e with
  | some n => { s with flt.hist := s.flt.hist.map (fun (h : HistEnt) => if h.seq = n then { h with merge := Nat.min 255 (h.merge + 1) } else h) }
  | none => s.newEntry e

/-! ## FATAL (R502) -/

/-- The response to a FATAL event: intakes stop, lane transmitters whose SerDes domain is on go into electrical idle, ERR_N stays
low. -/
def State.fatalNow (s : State) : State :=
  if s.flt.fatal then s
  else
    let s := { s with flt.fatal := true }.setFld FLT_STATUS.FATAL 0 1
    (eachIn ((List.range 512).filter (fun l => s.domOn (domSerdes (l / 64)))) s (fun s l => s.emit (.signal "ELECTRICAL_IDLE" l 1))).showErrN

/-! ## The collector (R491 to R493) -/

/-- The event taken next: the earliest SIRC cycle, then the lowest source, then FIFO order. -/
def nextEvent (l : List FltWait) : Option FltWait :=
  l.foldl (fun b w => match b with
    | none => some w
    | some x => if w.cycle < x.cycle ∨ (w.cycle = x.cycle ∧ w.ev.src < x.ev.src) then some w else b) none

/-- What every event leaves, recorded or not: `FLT_TOP`, the source's last event and counts. -/
def State.topEvent (s : State) (e : FltEv) : State :=
  let s := if e.src < 32 then s.setFld ⟨.FLT_TOP_LO, e.src, 1⟩ 0 1 else s.setFld ⟨.FLT_TOP_HI, e.src - 32, 1⟩ 0 1
  let s := (s.setFld FLT_SRC_LAST.CODE e.src e.code).setFld FLT_SRC_LAST.TARGET e.src e.target
  (s.satFld FLT_SRC_CNT.COUNT e.src 1).maxFld FLT_SRC_CNT.MAXCLASS e.src e.cls

/-- The collector takes an event (R495): it enters the history where its class's HIST bit is 1; FATAL always does. -/
def State.collect (s : State) (e : FltEv) : State :=
  let s := s.topEvent e
  let s := if e.cls = kFATAL ∨ nbit (s.fld FLT_CLASS_CTL.HIST) e.cls = true then s.enterHistory e else s
  if e.cls = kFATAL then s.fatalNow else s

/-- FAULT_EVENT_COLLECT: one SIRC cycle of the collector. -/
def execFaultEventCollect (s : State) : Host.Outcome State Fault Refusal :=
  .next (match nextEvent s.flt.waiting with
    | some w => { s with flt.waiting := s.flt.waiting.erase w }.collect w.ev
    | none => s)

/-! ## Reading the history (R494, R510) -/

/-- The four words of an entry. -/
def histWords (e : HistEnt) : List Word :=
  [lo32 e.time, wd (e.time / 2 ^ 32 % 2 ^ 16 + e.target % 2 ^ 16 * 2 ^ 16),
   wd (e.code % 2 ^ 16 + e.cls % 8 * 2 ^ 16 + b2n e.tsrc * 2 ^ 19 + b2n e.inj * 2 ^ 20 + e.merge % 256 * 2 ^ 24), wd e.detail]

/-- A write of `FLT_HIST_SEL` latches an entry, zero where none is held at INDEX. -/
def State.histLatch (s : State) (i : Nat) : State :=
  let s := s.setFld FLT_HIST_SEL.INDEX 0 i
  let e := s.flt.hist[s.fld FLT_HIST_SEL.INDEX]?
  let ws := (e.map histWords).getD [0, 0, 0, 0]
  let s := eachIn (List.range 4) s (fun s n => s.setReg .FLT_HIST_DATA n (ws.getD n 0))
  s.setReg .FLT_HIST_SEQ 0 (wd ((e.map (·.seq)).getD 0))

/-- FLT_HIST_SEL_WRITE. -/
def execFltHistSelWrite (i : Nat) (s : State) : Host.Outcome State Fault Refusal := .next (s.histLatch i)

/-! ## FLT_ACK, FLT_HISTORY, FLT_MASK (R505 to R507) -/

/-- The entries made after SEQ `q`: none where the newest entry is not newer. -/
def State.madeAfter (s : State) (q : Nat) : Nat :=
  let n := ((s.reg .FLT_SEQ).toNat + 2 ^ 32 - 1 + 2 ^ 32 - q) % 2 ^ 32
  if s.flt.hist = [] ∨ n = 0 ∨ 2 ^ 31 < n then 0 else n

/-- FLT_ACK's effect. -/
def effFltAck (p : Packet) (s : State) : State × Rep :=
  let n := if hasPar p 0 then s.madeAfter (parN p 0) else 0
  (if n = 0 then s.setFld FLT_STATUS.HANDLING 0 0 else s, ok [wd n])

/-- FLT_ACK. -/
def execFltAck (p : Packet) (s : State) : Host.Outcome State Fault Refusal := .next (s.command 0x0901 effFltAck p)

/-- FLT_HISTORY's effect. -/
def effFltHistory (p : Packet) (s : State) : State × Rep :=
  let es := s.flt.hist.filter (fun e => notOlder e.seq (parN p 0))
  (s, ok ([s.reg .FLT_SEQ, wd (es.length + s.fld FLT_STATUS.HIST_LOST * 256)] ++ es.flatMap (fun e => wd e.seq :: histWords e)))

/-- FLT_HISTORY. -/
def execFltHistory (p : Packet) (s : State) : Host.Outcome State Fault Refusal := .next (s.command 0x0902 effFltHistory p)

/-- FLT_MASK's effect. -/
def effFltMask (p : Packet) (s : State) : State × Rep :=
  let sel := parF p 0 0 1
  let n := if sel = 0 then 3 else 2
  if parCount p ≠ n then (s, refuse eLEN (lenDetail n n))
  else if onlyBits p 0 1 = false then (s, badPar 0)
  else if sel = 0 then
    if onlyBits p 2 0x3FF = false then (s, badPar 2)
    else ((s.setReg .FLT_PIN_MASK_LO 0 (par p 1)).setReg .FLT_PIN_MASK_HI 0 (par p 2), ok)
  else if onlyBits p 1 0xF0F = false then (s, badPar 1)
  else (s.setReg .FLT_CLASS_CTL 0 (par p 1), ok)

/-- FLT_MASK. -/
def execFltMask (p : Packet) (s : State) : Host.Outcome State Fault Refusal := .next (s.command 0x0903 effFltMask p)

/-! ## FLT_INJECT (R508) -/

/-- The codes of R498. -/
def fltCodes : List Nat := [
  0x0101, 0x0102, 0x0103, 0x0104, 0x0201, 0x0202, 0x0203, 0x0204, 0x0205, 0x0206, 0x0301, 0x0302, 0x0303, 0x0304, 0x0401, 0x0402,
  0x0501, 0x0502, 0x0503, 0x0601, 0x0602, 0x0603, 0x0604, 0x0701, 0x0702, 0x0703, 0x0704, 0x0705, 0x0706, 0x0707, 0x0708,
  0x0801, 0x0802, 0x0803, 0x0804, 0x0805, 0x0806, 0x0807, 0x0901, 0x0902, 0x0903, 0x0904, 0x0905, 0x0A01, 0x0A02, 0x0A03,
  0x0B01, 0x0B02, 0x0B03, 0x0B04, 0x0B05]

/-- The kinds of MODE 1 that a TARGET's class takes. -/
def injectKinds (t : Nat) : List Nat :=
  match tCls t with
  | 1 => [1, 2, 3]
  | 7 => [1, 2]
  | 8 => if tInst t < 68 then [1] else []
  | 9 => [1, 2]
  | 14 => [1]
  | _ => []

/-- The LOCATION of a kind is in range. -/
def State.injectLoc (s : State) (t kind loc : Nat) : Bool :=
  match tCls t, kind with
  | 1, 1 => decide (loc < 2 ^ 29) && decide (loc % 2 ^ 24 < s.tblCap (tInst t) (loc / 2 ^ 24))
  | 1, 2 => decide (loc < 65536)
  | 1, 3 => decide (loc < 2 ^ 15) && storeHas (tInst t) loc
  | 7, _ => decide (loc < 3072)
  | 9, 2 => decide (loc < 174762)
  | 14, _ => decide (loc < 256) && decide (loc % 128 < 66)
  | _, _ => loc == 0

/-- A unit can hold a planted error: it is not OFF or RETIRED, and its domain is on. -/
def State.canPlant (s : State) (t : Nat) : Bool :=
  if tCls t = cBOUGH then s.domOn (domBough (tInst t)) else s.ust t != uOFF && s.ust t != uRETIRED

/-- FLT_INJECT's effect. Which of an entry's two parities a planted TCAM error breaks is a free value (R265, R508 do not say). -/
def effFltInject (p : Packet) (s : State) : State × Rep :=
  let mode := parF p 0 0 2
  let code := parF p 0 16 16
  let x := parN p 1
  if 2 ≤ mode ∨ onlyBits p 0 (if mode = 0 then 0xFFFF0003 else 3) = false then (s, badPar 0)
  else if mode = 0 then
    if fltCodes.contains code = false then (s, badPar 0)
    else if kFATAL ≤ x then (s, badPar 1)
    else (s.raise code x p.target (parN p 2) true, ok)
  else if (injectKinds p.target).contains x = false then (s, badPar 1)
  else if s.injectLoc p.target x (parN p 2) = false then (s, badPar 2)
  else if s.canPlant p.target = false then (s, deny eSTATE)
  else
    let kind := if tCls p.target = cBOUGH ∧ x = 2 ∧ nbit s.free 0 = true then 18 else x
    let s : State := { s with flt.planted := s.flt.planted ++ [⟨p.target, kind, parN p 2⟩] }
    (s.drawn, ok)

/-- FLT_INJECT. -/
def execFltInject (p : Packet) (s : State) : Host.Outcome State Fault Refusal := .next (s.command 0x0904 effFltInject p)

/-! ## The Malthouse's own faults (R90, R498) -/

/-- LOCKSTEP_MISMATCH: Maltster restarts from its slot while forwarding continues; a second mismatch within 1 s is FATAL. -/
def execLockstepMismatch (pc : Nat) (s : State) : Host.Outcome State Fault Refusal :=
  .next (if s.life.boot ≠ 0 then s
    else
      let s := s.notePerm (tgt 0 0) 0x0102
      let twice := decide (2 ≤ s.permCount (tgt 0 0) 0x0102 (1000 * msNs))
      ({ s with life.boot := 3 }).raise 0x0102 (if twice then kFATAL else kRETRIED) (tgt 0 0) (pc % 2 ^ 32))

/-- MALTHOUSE_WATCHDOG: the event is recorded and a WARM reset follows. -/
def execMalthouseWatchdog (s : State) : Host.Outcome State Fault Refusal :=
  .next (if s.life.boot ≠ 0 then s else (s.raise 0x0103 kRETRIED (tgt 0 0) 0).resetWarm GLB_RESET_CAUSE.WDOG)

end Sys2Proof.Machine
end

