-- ==== Sys2Proof/Machine/Sign.lean ====
section
/-! DEFINITION. The digest and the signature of an image (R514, R515): SHA-384 of FIPS 180-4 and ECDSA P-384 of FIPS 186-5, which R4 takes up
and this spec does not define. PRESUMED: both are written from those standards. -/
namespace Sys2Proof.Machine

/-! ## SHA-384 (FIPS 180-4) -/

/-- The greatest x below 2^`bits` whose `k`-th power is at most `n`. -/
def rootOf (k n bits : Nat) : Nat :=
  (List.range bits).foldr (fun b x => if (x + 2 ^ b) ^ k ≤ n then x + 2 ^ b else x) 0

/-- The first 80 primes. -/
def primes80 : List Nat :=
  [2, 3, 5, 7, 11, 13, 17, 19, 23, 29, 31, 37, 41, 43, 47, 53, 59, 61, 67, 71, 73, 79, 83, 89, 97, 101, 103, 107, 109, 113,
   127, 131, 137, 139, 149, 151, 157, 163, 167, 173, 179, 181, 191, 193, 197, 199, 211, 223, 227, 229, 233, 239, 241, 251,
   257, 263, 269, 271, 277, 281, 283, 293, 307, 311, 313, 317, 331, 337, 347, 349, 353, 359, 367, 373, 379, 383, 389, 397,
   401, 409]

/-- The round constants: 64 bits of the fractions of the primes' cube roots. -/
def shaK : List Nat := primes80.map (fun p => rootOf 3 (p * 2 ^ 192) 70 % 2 ^ 64)
/-- The initial hash value: 64 bits of the fractions of the square roots of the 9th to 16th primes. -/
def shaInit : List Nat := ((primes80.drop 8).take 8).map (fun p => rootOf 2 (p * 2 ^ 128) 70 % 2 ^ 64)

/-- A 64-bit word turned right. -/
def rotr64 (x n : Nat) : Nat := x / 2 ^ n + x % 2 ^ n * 2 ^ (64 - n)
/-- The exclusive or of three words. -/
def xor3 (a b c : Nat) : Nat := Nat.xor a (Nat.xor b c)

/-- The message schedule, the newest word first: from 16 words to 80. -/
def shaSchedule : Nat → List Nat → List Nat
  | 0, w => w
  | n + 1, w =>
    let s0 := xor3 (rotr64 (w.getD 14 0) 1) (rotr64 (w.getD 14 0) 8) (w.getD 14 0 / 2 ^ 7)
    let s1 := xor3 (rotr64 (w.getD 1 0) 19) (rotr64 (w.getD 1 0) 61) (w.getD 1 0 / 2 ^ 6)
    shaSchedule n ((w.getD 15 0 + s0 + w.getD 6 0 + s1) % 2 ^ 64 :: w)

/-- One round on the eight working variables. -/
def shaRound (v : List Nat) (kw : Nat) : List Nat :=
  let a := v.getD 0 0
  let b := v.getD 1 0
  let c := v.getD 2 0
  let e := v.getD 4 0
  let f := v.getD 5 0
  let g := v.getD 6 0
  let t1 := v.getD 7 0 + xor3 (rotr64 e 14) (rotr64 e 18) (rotr64 e 41) +
    Nat.xor (Nat.land e f) (Nat.land (2 ^ 64 - 1 - e) g) + kw
  let t2 := xor3 (rotr64 a 28) (rotr64 a 34) (rotr64 a 39) + xor3 (Nat.land a b) (Nat.land a c) (Nat.land b c)
  [(t1 + t2) % 2 ^ 64, a, b, c, (v.getD 3 0 + t1) % 2 ^ 64, e, f, g]

/-- A block of 128 bytes enters the hash value. -/
def shaBlock (h : List Nat) (block : List Nat) : List Nat :=
  let w := (List.range 16).map (fun i => beNat ((block.drop (8 * i)).take 8))
  let w := (shaSchedule 64 w.reverse).reverse
  let v := (List.zipWith (fun k x => k + x) shaK w).foldl shaRound h
  List.zipWith (fun x y => (x + y) % 2 ^ 64) h v

/-- `n` blocks enter. -/
def shaBlocks : Nat → List Nat → List Nat → List Nat
  | 0, h, _ => h
  | n + 1, h, d => shaBlocks n (shaBlock h (d.take 128)) (d.drop 128)

/-- A message padded to whole blocks. -/
def shaPad (d : List Nat) : List Nat :=
  let n := d.length
  d ++ [0x80] ++ List.replicate ((239 - n % 128) % 128) 0 ++ (List.range 16).map (fun i => 8 * n / 2 ^ (8 * (15 - i)) % 256)

/-- The SHA-384 digest of bytes, as a number. -/
def sha384 (d : List Nat) : Nat :=
  let p := shaPad d
  ((shaBlocks (p.length / 128) shaInit p).take 6).foldl (fun r x => r * 2 ^ 64 + x) 0

/-! ## ECDSA on P-384 (FIPS 186-5) -/

/-- The field's prime. -/
def ecP : Nat := 2 ^ 384 - 2 ^ 128 - 2 ^ 96 + 2 ^ 32 - 1
/-- The order of the base point. -/
def ecN : Nat := 0xffffffffffffffffffffffffffffffffffffffffffffffffc7634d81f4372ddf581a0db248b0a77aecec196accc52973
/-- The curve's coefficient b; a is -3. -/
def ecB : Nat := 0xb3312fa7e23ee7e4988e056be3f82d19181d9c6efe8141120314088f5013875ac656398d8a2ed19d2a85c8edd3ec2aef
/-- The base point. -/
def ecG : Nat × Nat :=
  (0xaa87ca22be8b05378eb1c71ef320ad746e1d3b628ba79b9859f741e082542a385502f25dbf55296c3a545e3872760ab7,
   0x3617de4a96262c6f5d9e98bf9292dc29f8f41dbd289a147ce9da3113b5f0b8c00a60b1ce1d7e819d7a431d7c90ea0e5f)

/-- A power modulo `m`, with an exponent of 384 bits. -/
def powMod (m a e : Nat) : Nat := (List.range 384).foldr (fun b r => if nbit e b then r * r % m * a % m else r * r % m) 1
/-- The inverse modulo a prime. -/
def invMod (m a : Nat) : Nat := powMod m (a % m) (m - 2)

/-- A point of the curve, none at infinity. -/
abbrev EcPoint : Type := Option (Nat × Nat)

/-- The sum of two points. -/
def ecAdd (x y : EcPoint) : EcPoint :=
  match x, y with
  | none, y => y
  | x, none => x
  | some a, some b =>
    if a.1 = b.1 ∧ (a.2 + b.2) % ecP = 0 then none
    else
      let l := if a.1 = b.1 then (3 * a.1 * a.1 + ecP - 3) * invMod ecP (2 * a.2) % ecP
        else (b.2 + ecP - a.2) * invMod ecP (b.1 + ecP - a.1) % ecP
      let x3 := (l * l + 2 * ecP - a.1 - b.1) % ecP
      some (x3, (l * (a.1 + ecP - x3) + ecP - a.2) % ecP)

/-- A multiple of a point. -/
def ecMul (k : Nat) (x : EcPoint) : EcPoint :=
  (List.range 384).foldr (fun b r => if nbit k b then ecAdd (ecAdd r r) x else ecAdd r r) none

/-- A point lies on the curve. -/
def ecOn (a : Nat × Nat) : Bool :=
  decide (a.1 < ecP) && decide (a.2 < ecP) && a.2 * a.2 % ecP == (a.1 * a.1 * a.1 + (ecP - 3) * a.1 + ecB) % ecP

/-- The signature (r, s) is valid over a digest for a public key. -/
def ecdsaOk (key : Nat × Nat) (e r s : Nat) : Bool :=
  ecOn key && decide (0 < r) && decide (r < ecN) && decide (0 < s) && decide (s < ecN) &&
    (let w := invMod ecN s
     match ecAdd (ecMul (e * w % ecN) (some ecG)) (ecMul (r * w % ecN) (some key)) with
     | none => false
     | some x => x.1 % ecN == r)

/-- The signature of a trailer (R514) is valid over an image's bytes. -/
def trailerSigns (t image : List Nat) : Bool :=
  let f := fun i => beNat ((t.drop i).take 48)
  ecdsaOk (f 8, f 56) (sha384 image % 2 ^ 384) (f 104) (f 152)

end Sys2Proof.Machine
end

