-- ==== Sys2Proof/Machine/Firmware.lean ====
section
/-! DEFINITION. Firmware images and update: flash and boot record (R511, R512), the image checks (R513 to R515), start-up (R423,
R516), activation, check-in and revert (R517, R518), the firmware commands (R519 to R523) and DFU (R524, R525). -/
namespace Sys2Proof.Machine

/-! ## Flash (R511, R512) -/

/-- EMPTY. -/
abbrev fEMPTY : Nat := 0
/-- INCOMPLETE. -/
abbrev fINCOMPLETE : Nat := 1
/-- VALID. -/
abbrev fVALID : Nat := 2
/-- BAD. -/
abbrev fBAD : Nat := 3

/-- A slot. -/
def State.fwSlot (s : State) (n : Nat) : FwSlot := tabGet s.fw.slots (n, 0) {}

/-- Write a slot; STATE_A and STATE_B show the slots' states. -/
def State.setFwSlot (s : State) (n : Nat) (v : FwSlot) : State :=
  { s with fw.slots := tabSet s.fw.slots (n, 0) v {} }.setFld (if n = 0 then SVC_FW_STATUS.STATE_A else SVC_FW_STATUS.STATE_B) 0 v.state

/-- A boot-record copy as bytes: ACTIVE, TRIAL (0xFF none), two zeros, the sequence number (the layout is PRESUMED; R512 names the
fields alone). -/
def recBytes (c : BootCopy) : List Nat := [c.active % 256, c.trial.getD 0xFF % 256, 0, 0] ++ bytesOf 4 c.seq

/-- A copy's CRC is good (R512, R549). -/
def recGood (c : BootCopy) : Bool := crc32c (recBytes c) == c.crc

/-- The first of the two boot-record copies counts: its CRC is good, and the other's is not or has no higher sequence number. -/
def State.recFirst (s : State) : Bool := recGood s.fw.rec0 && (!recGood s.fw.rec1 || decide (s.fw.rec1.seq ≤ s.fw.rec0.seq))

/-- The boot-record copy that counts: the one with the higher sequence number and a good CRC (R512). -/
def State.bootRec (s : State) : BootCopy := if s.recFirst then s.fw.rec0 else s.fw.rec1

/-- Write the boot record: the copy that does not count is overwritten. -/
def State.writeRec (s : State) (active : Nat) (trial : Option Nat) : State :=
  let c : BootCopy := { active := active, trial := trial, seq := (s.bootRec.seq + 1) % 2 ^ 32 }
  let c := { c with crc := crc32c (recBytes c) }
  (if s.recFirst then { s with fw.rec1 := c } else { s with fw.rec0 := c }).setFld SVC_FW_STATUS.ACTIVE 0 active

/-- A flash erase or program fails `n` times in a sector; the second failure of one operation ends it (event 0x0B04). -/
def State.flashFails (s : State) (n sector : Nat) : State :=
  eachIn (List.range (Nat.min 2 n)) s (fun s _ => (s.ev SVC_FW_EVENT.FLASH_ERR).raise 0x0B04 kRETRIED (tgt cSVC 2) (sector % 256))

/-! ## Image checks (R513 to R515) -/

/-- A byte of a header or trailer. -/
def byteAt (l : List Nat) (i : Nat) : Nat := l.getD i 0

/-- A byte of the header meets R513. -/
def hdrByteOk (h : List Nat) (i : Nat) : Bool :=
  let b := byteAt h i
  match i with
  | 0 => b == 0x47
  | 1 => b == 0x54
  | 2 => b == 0x46
  | 3 => b == 0x57
  | 4 => b == 1
  | 5 => b == 0
  | 6 => b == 1
  | 7 => b == 0
  | 8 => decide (1 ≤ b) && decide (b ≤ 127)
  | 12 => decide (b ≤ 64)
  | 13 => decide (b ≤ 1)
  | 14 => decide (1 ≤ b) && decide (b ≤ 126)
  | 15 => b == 0
  | _ => decide (i < 24) || b == 0

/-- The first byte of a header that breaks R513. -/
def hdrBad (h : List Nat) : Option Nat := (List.range 256).find? (fun i => !hdrByteOk h i)

/-- NBLOCKS. -/
def hdrBlocks (h : List Nat) : Nat := byteAt h 14
/-- SVN. -/
def hdrSvn (h : List Nat) : Nat := byteAt h 12
/-- KEY_SLOT. -/
def hdrKey (h : List Nat) : Nat := byteAt h 13
/-- A 32-bit field, little-endian. -/
def hdrWord (h : List Nat) (i : Nat) : Nat := sumN ((List.range 4).map (fun k => byteAt h (i + k) * 2 ^ (8 * k)))
/-- The image's version in the layout of `GLB_FW_VER`, SLOT 0. -/
def hdrVer (h : List Nat) : Nat := byteAt h 10 + byteAt h 11 * 2 ^ 8 + byteAt h 9 * 2 ^ 16 + byteAt h 8 % 128 * 2 ^ 24

/-- A block's data matches its check value. -/
def blockOk (b : FwBlock) : Bool := crc32c (wordBytes b.data) == b.check.toNat

/-- A trailer meets R514. -/
def trailOk (t : List Nat) : Bool :=
  t.take 6 == [0x47, 0x54, 0x53, 0x47, 1, 0] && byteAt t 6 == 0 && byteAt t 7 == 0 && (List.range 56).all (fun i => byteAt t (200 + i) == 0)

/-- An image's bytes that its signature covers: the header and every block with its check value, in image order (R514). -/
def imageBytes (v : FwSlot) : List Nat := v.hdr ++ v.blocks.flatMap (fun e => wordBytes (e.2.data ++ [e.2.check]))

/-- Steps 3 to 7 of R515: the cause of the first failure. -/
def State.sigCause (s : State) (v : FwSlot) (t : List Nat) : Option Nat :=
  let k := hdrKey v.hdr
  if trailOk t = false then some 5
  else if sha384 ((t.drop 8).take 96) ≠ s.fw.keys.getD k 0 then some 1
  else if s.fw.rev.getD k false then some 2
  else if hdrSvn v.hdr < s.fw.minSvn then some 3
  else if trailerSigns t (imageBytes v) = false then some 4
  else none

/-- The first block of a slot's image that is not written. -/
def blockMissing (v : FwSlot) : Option Nat := (List.range (hdrBlocks v.hdr)).find? (fun i => (tabGet v.blocks (i, 0) {}) == {})

/-- The checks of R515 on a slot, as the ROM loader runs them: the cause of the first failure, 0 for a header or block error. -/
def State.slotFails (s : State) (n : Nat) : Option Nat :=
  let v := s.fwSlot n
  if (hdrBad v.hdr).isSome || (blockMissing v).isSome || v.blocks.any (fun e => !blockOk e.2) then some 0 else s.sigCause v v.trail

/-! ## Start-up (R423, R452, R516) -/

/-- At power-up of the always-on domain the sources start and SYSPLL runs on FIRC (R446, R452). -/
def State.startClocks (s : State) : State :=
  if s.pllState 4 ≠ 0 then s
  else
    let s := eachIn [2, 3, 4, 5] s (fun s n => if s.flag CLK_SRC.EN n && s.srcState n == kOFF then s.setSrc n kSTARTING else s)
    let s := ((s.setSrc 1 kREADY).setFld CLK_PLL.SRC 4 1).setFld CLK_PLL.STATE 4 2
    { s with clk.bootMove := true }

/-- The registers that show flash and OTP. -/
def State.showFlash (s : State) : State :=
  let s := (s.setFwSlot 0 (s.fwSlot 0)).setFwSlot 1 (s.fwSlot 1)
  let s := (s.setFld SVC_FW_STATUS.ACTIVE 0 s.bootRec.active).setFld SVC_OTP.MIN_SVN 0 s.fw.minSvn
  (s.setFld SVC_OTP.KEY0_REV 0 (b2n (s.fw.rev.getD 0 false))).setFld SVC_OTP.KEY1_REV 0 (b2n (s.fw.rev.getD 1 false))

/-- Maltster runs from a slot, on trial or not. -/
def State.runSlot (s : State) (n : Nat) (trial : Bool) : State :=
  let h := (s.fwSlot n).hdr
  let s := (s.setReg .GLB_FW_VER 0 (wd (hdrVer h + n % 2 * 2 ^ 31))).setFld SVC_FW_STATUS.RUN_SLOT 0 n
  let s := (s.setFld SVC_FW_STATUS.TRIAL 0 (b2n trial)).setFld SVC_FW_STATUS.CHECKIN_MS 0 (if trial then 200 else 0)
  let s := eachIn ((List.range 9).filter (fun st => s.domOn (if st < 8 then domBough st else domQuad 0))) s State.askVendor
  if trial then { s with fw.trialAt := s.now } else if s.modeUp then s else { s with fw.baseId := hdrWord h 16, fw.tunId := hdrWord h 20 }

/-- `SVC_FW_STATUS` as it reads: CHECKIN_MS counts the trial's 2 s down in units of 10 ms (R517). -/
def State.fwStatusWord (s : State) : Word :=
  if s.flag SVC_FW_STATUS.TRIAL then setBits (s.reg .SVC_FW_STATUS) 24 8 (200 - (s.now - s.fw.trialAt) / (10 * msNs))
  else s.reg .SVC_FW_STATUS

/-- A slot fails its boot check: it is BAD. -/
def State.slotBad (s : State) (n : Nat) : State := s.setFwSlot n { s.fwSlot n with state := fBAD }

/-- The ROM loader's choice (R516): the state with its marks and records, and the slot that runs, on trial or not; none for
RECOVERY. -/
def State.romLoader (s : State) : State × Option (Nat × Bool) :=
  if nbit (s.fld GLB_STRAP.STRAP) 3 then (s, none)
  else
    let r := s.bootRec
    let n := r.trial.getD r.active
    let s := if r.trial.isSome then s.writeRec r.active none else s
    match s.slotFails n with
    | none => (s, some (n, r.trial.isSome))
    | some cause =>
      let s := s.slotBad n
      if (s.slotFails (1 - n)).isSome then ((s.slotBad (1 - n)).raise 0x0B03 kDEGRADED (tgt cSVC 2) 0, none)
      else ((s.ev SVC_FW_EVENT.BOOT_FALLBACK).raise 0x0B01 kDEGRADED (tgt cSVC 2) (n % 2 + cause * 2 ^ 8), some (1 - n, false))

/-- RECOVERY is entered: the ROM loader runs, nothing else is powered (R424, R433). -/
def State.enterRecovery (s : State) : State :=
  let s := if s.modeUp then s.coreReset false 4 else s
  (((s.setMode mRECOVERY).setReg .GLB_FW_VER 0 0).setFld SVC_FW_STATUS.TRIAL 0 0).setFld SVC_FW_STATUS.CHECKIN_MS 0 0

/-- The mode that is entered after a reset, once a slot runs (R423). -/
def State.startMode (s : State) : State :=
  if s.flag GLB_RESET_CAUSE.THERM || s.flag GLB_RESET_CAUSE.VIN_LOW then s
  else if s.fld GLB_STRAP.STRAP % 4 = 1 then s.startSteep else s

/-- What the start of the Malthouse means for an activation under way (R518): a slot that did not start on trial ends it. -/
def State.actStarted (s : State) (run : Nat × Bool) (cause : Option Nat) : State :=
  match s.fw.act with
  | none => if run.2 then s else { s with cmd.pause := false }
  | some a =>
    if (run.2 ∧ run.1 = a.slot ∧ a.fate = 0) ∨ a.fate = 3 then s
    else
      let s := { s with fw.act := none, cmd.pause := false }
      let s := if a.dfu then (s.setFld SVC_USB.DFU_STATE 0 10).setFld SVC_USB.DFU_STATUS 0 0x0A else s
      s.finish 0x0A04 (fun _ => !a.dfu) (if a.fate = 2 then refuse eTIMEOUT 1 else refuse eSIGNATURE (cause.getD 0))

/-- A new start from reset: no session, no activation, DFU idle. -/
def State.freshStart (s : State) : State :=
  let s := { s with fw.act := none, fw.dfu := [], fw.parts := 0 }.timeLow
  let s := (s.setFld SVC_FW_STATUS.SESSION 0 0).setFld SVC_FW_STATUS.BLOCKS 0 0
  (s.setFld SVC_USB.DFU_STATE 0 2).setFld SVC_USB.DFU_STATUS 0 0

/-- BOOT_START: the Malthouse starts: after a reset (boot 1) the module enters the mode of R423; a restart of the Malthouse alone
(boot 3) leaves the mode (R457). -/
def execBootStart (s : State) : Host.Outcome State Fault Refusal :=
  .next (if s.life.boot ≠ 1 ∧ s.life.boot ≠ 3 then s
    else
      let fresh := s.life.boot == 1
      let s := s.startClocks.showFlash
      let s := if fresh then s.freshStart else s
      let cause := s.slotFails (s.bootRec.trial.getD s.bootRec.active)
      let r := s.romLoader
      let s := { r.1 with life.boot := 0 }
      match r.2 with
      | none => { s.enterRecovery with fw.act := none, cmd.pause := false }
      | some run =>
        let s := (s.runSlot run.1 run.2).actStarted run cause
        if fresh then s.startMode else s)

/-! ## Check-in and revert (R517, R518) -/

/-- The base programs of a store's banks keep the identifier they were loaded under (R513). -/
def State.pinBase (s : State) (st : Nat) : State :=
  let v := s.store st
  s.setStore st { v with base0 := some (s.baseIdOf st 0), base1 := some (s.baseIdOf st 1) }

/-- The active bank of a store, a base bank, takes the running image's base program, by the procedure of R222 (step 5 of R518): until
its turn comes a pipe runs the program `old` that the bank held, and so do the frames in it. -/
def State.newBase (s : State) (st old : Nat) : State :=
  let bank := s.actBank st
  if s.bankBase st bank = false then s
  else if st = 8 then (s.loadBase st bank).switchStart st bank true
  else
    let s := eachIn (s.switchPipes st) s (fun s p => { s with pipeBank := tabSet s.pipeBank (p, 0) (2 + old) 0 })
    let keep : PFrame → PFrame := fun f => if f.bank = bank then { f with bank := 2 + old } else f
    let s : State := { s with pframes := s.pframes.map (fun e => if e.1.1 / 8 = st then (e.1, e.2.map keep) else e) }
    (s.loadBase st bank).switchStart st bank true

/-- Step 5 of R518: base programs that the new image changes. -/
def State.changeBases (s : State) (h : List Nat) : State :=
  let b := s.fw.baseId
  let t := s.fw.tunId
  let s := eachIn (List.range 9) s State.pinBase
  let s := { s with fw.baseId := hdrWord h 16, fw.tunId := hdrWord h 20 }
  let s := if hdrWord h 16 = b then s
    else eachIn (List.range 8) s (fun s st => s.newBase st ((if s.actBank st = 0 then (s.store st).base0 else (s.store st).base1).getD b))
  if hdrWord h 20 = t then s else s.newBase 8 t

/-- Step 6: the OTP writes of an activation (R522). -/
def State.otpWrites (s : State) (a : FwAct) (h : List Nat) : State :=
  if a.raise || a.revoke then
    let s := if a.raise then { s with fw.minSvn := Nat.max s.fw.minSvn (hdrSvn h) } else s
    let s := if a.revoke then { s with fw.rev := s.fw.rev.set (1 - hdrKey h) true } else s
    let s := s.showFlash.ev SVC_FW_EVENT.OTP_WRITE
    s.raise 0x0B05 kCORRECTED (tgt cSVC 2) ((s.reg .SVC_OTP).toNat % 2 ^ 10)
  else s

/-- Step 6 of R518 once no base program is being changed: an activation whose image has checked in (fate 3) ends. -/
def State.actSettle (s : State) : State :=
  match s.fw.act with
  | none => s
  | some a =>
    if a.fate ≠ 3 ∨ (List.range 9).any (fun st => (s.store st).sw.isSome) = true then s
    else
      let h := (s.fwSlot (s.fld SVC_FW_STATUS.RUN_SLOT)).hdr
      let s := { s with fw.act := none }.otpWrites a h
      s.finish 0x0A04 (fun _ => !a.dfu) (ok [s.reg .GLB_FW_VER])

/-- FW_CHECKIN: the image on trial has taken over and resumed fetching: its slot is ACTIVE, and an activation ends. -/
def execFwCheckin (s : State) : Host.Outcome State Fault Refusal :=
  .next (if s.life.boot ≠ 0 ∨ s.flag SVC_FW_STATUS.TRIAL = false then s
    else
      let n := s.fld SVC_FW_STATUS.RUN_SLOT
      let h := (s.fwSlot n).hdr
      let s := (s.writeRec n none).setFld SVC_FW_STATUS.TRIAL 0 0
      let s := { s.setFld SVC_FW_STATUS.CHECKIN_MS 0 0 with cmd.pause := false }
      let s := if s.modeUp then s.changeBases h else { s with fw.baseId := hdrWord h 16, fw.tunId := hdrWord h 20 }
      let s : State := { s with fw.act := s.fw.act.map (fun (a : FwAct) => { a with fate := 3 }) }
      s.actSettle)

/-- FW_CHECKIN_TIMEOUT: 2 s without a check-in: the Malthouse restarts into the previous ACTIVE slot. -/
def execFwCheckinTimeout (s : State) : Host.Outcome State Fault Refusal :=
  .next (if s.life.boot ≠ 0 ∨ s.flag SVC_FW_STATUS.TRIAL = false ∨ s.now < s.fw.trialAt + 2000 * msNs then s
    else
      let n := s.fld SVC_FW_STATUS.RUN_SLOT
      let s := ((s.setFld SVC_FW_STATUS.TRIAL 0 0).setFld SVC_FW_STATUS.CHECKIN_MS 0 0).ev GLB_RESET_CAUSE.REVERT
      let s := (s.ev SVC_FW_EVENT.REVERTED).raise 0x0B02 kRETRIED (tgt cSVC 2) (n % 2)
      { s with life.boot := 3, cmd.pause := true, fw.act := s.fw.act.map (fun (a : FwAct) => { a with fate := 2 }) })

/-! ## FW_BEGIN, FW_BLOCK, FW_VERIFY (R519 to R521) -/

/-- The slot that is not running. -/
def State.idleSlot (s : State) : Nat := 1 - s.fld SVC_FW_STATUS.RUN_SLOT

/-- An image's header goes into a slot: INCOMPLETE, nothing else written. -/
def State.putHeader (s : State) (n : Nat) (h : List Nat) : State :=
  (s.setFwSlot n { state := fINCOMPLETE, hdr := h }).setFld SVC_FW_STATUS.BLOCKS 0 0

/-- A block goes into a slot. -/
def State.putBlock (s : State) (n i : Nat) (b : FwBlock) : State :=
  let v := s.fwSlot n
  let v := { v with blocks := tabSet v.blocks (i, 0) b {} }
  (s.setFwSlot n v).setFld SVC_FW_STATUS.BLOCKS 0 v.blocks.length

/-- FW_BEGIN's effect; `env` word 0 is how often the erase fails. -/
def effFwBegin (p : Packet) (s : State) : State × Rep :=
  let h := wordBytes (parWords p 0 64)
  let n := s.idleSlot
  match hdrBad h with
  | some i => (s, refuse ePARAM i)
  | none =>
    if s.fld SVC_FW_STATUS.SESSION = 2 then (s, deny eLOCKED)
    else if s.flag SVC_FW_STATUS.TRIAL then (s, deny eSTATE)
    else
      let s := s.flashFails (envAt p 0) (127 * n)
      if 2 ≤ envAt p 0 then (s, deny eHW)
      else ((s.putHeader n h).setFld SVC_FW_STATUS.SESSION 0 1, ok [wd n])

/-- FW_BEGIN. -/
def execFwBegin (p : Packet) (s : State) : Host.Outcome State Fault Refusal := .next (s.command 0x0A01 effFwBegin p)

/-- FW_BLOCK's effect; `env` word 0 is how often the erase or program fails. -/
def effFwBlock (p : Packet) (s : State) : State × Rep :=
  let i := parF p 0 0 7
  let n := s.idleSlot
  let b : FwBlock := { data := parWords p 1 16384, check := par p 16385 }
  if onlyBits p 0 0x7F = false then (s, badPar 0)
  else if s.fld SVC_FW_STATUS.SESSION ≠ 1 then (s, deny eSTATE)
  else if hdrBlocks (s.fwSlot n).hdr ≤ i then (s, badPar 0)
  else if blockOk b = false then (s, refuse eINTEGRITY i)
  else
    let s := s.flashFails (envAt p 0) (127 * n + 1 + i)
    if 2 ≤ envAt p 0 then (s, refuse eHW i) else (s.putBlock n i b, ok)

/-- FW_BLOCK. -/
def execFwBlock (p : Packet) (s : State) : Host.Outcome State Fault Refusal := .next (s.command 0x0A02 effFwBlock p)

/-- A slot's image is verified with its trailer: VALID, and the session ends. -/
def State.verified (s : State) (n : Nat) (t : List Nat) : State :=
  ((s.setFwSlot n { s.fwSlot n with state := fVALID, trail := t }).setFld SVC_FW_STATUS.SESSION 0 0).setFld SVC_FW_STATUS.BLOCKS 0 0

/-- FW_VERIFY's effect; `env` word 0 is 1 + the INDEX of a block whose read-back mismatches. -/
def effFwVerify (p : Packet) (s : State) : State × Rep :=
  let n := s.idleSlot
  let v := s.fwSlot n
  let t := wordBytes (parWords p 0 64)
  if s.fld SVC_FW_STATUS.SESSION ≠ 1 then (s, deny eSTATE)
  else match blockMissing v with
  | some i => (s, refuse eSTATE i)
  | none =>
    if envAt p 0 ≠ 0 then (s, refuse eINTEGRITY (envAt p 0 - 1))
    else match s.sigCause v t with
    | some c => (s, refuse eSIGNATURE c)
    | none => (s.verified n t, ok [wd n])

/-- FW_VERIFY. -/
def execFwVerify (p : Packet) (s : State) : Host.Outcome State Fault Refusal := .next (s.command 0x0A03 effFwVerify p)

/-! ## FW_ACTIVATE, FW_INFO (R518, R522, R523) -/

/-- An activation begins (step 2 of R518): the boot record names the slot on TRIAL, the Malthouse restarts, commands pause. -/
def State.activate (s : State) (a : FwAct) : State :=
  { s.writeRec s.bootRec.active (some a.slot) with fw.act := some a, life.boot := 3, cmd.pause := true }

/-- FW_ACTIVATE's effect. -/
def effFwActivate (p : Packet) (s : State) : State × Rep :=
  let n := parF p 0 0 1
  if onlyBits p 0 0x301 = false then (s, badPar 0)
  else if n = s.fld SVC_FW_STATUS.RUN_SLOT then (s, ok [s.reg .GLB_FW_VER])
  else if (s.fwSlot n).state ≠ fVALID ∨ s.flag SVC_FW_STATUS.SESSION = true ∨ s.flag SVC_FW_STATUS.TRIAL = true then (s, deny eSTATE)
  else (s.activate { slot := n, raise := parF p 0 8 1 == 1, revoke := parF p 0 9 1 == 1, dfu := false }, laterRep)

/-- FW_ACTIVATE. -/
def execFwActivate (p : Packet) (s : State) : Host.Outcome State Fault Refusal := .next (s.command 0x0A04 effFwActivate p)

/-- A slot's version words. -/
def slotInfo (v : FwSlot) : List Word :=
  if v.state = fEMPTY then [0, 0]
  else [wd (hdrVer v.hdr), wd (hdrSvn v.hdr + hdrKey v.hdr * 2 ^ 8 + hdrBlocks v.hdr * 2 ^ 16)]

/-- FW_INFO's effect. -/
def effFwInfo (_ : Packet) (s : State) : State × Rep :=
  (s, ok ([s.fwStatusWord, s.reg .SVC_OTP] ++ slotInfo (s.fwSlot 0) ++ slotInfo (s.fwSlot 1)))

/-- FW_INFO. -/
def execFwInfo (p : Packet) (s : State) : Host.Outcome State Fault Refusal := .next (s.command 0x0A05 effFwInfo p)

/-! ## DFU (R524, R525) -/

/-- The slot a download fills: the one that is not running; in RECOVERY the one that is not ACTIVE, or slot A when both are BAD. -/
def State.dfuSlot (s : State) : Nat :=
  if s.mode = mRECOVERY then
    if (s.fwSlot 0).state = fBAD ∧ (s.fwSlot 1).state = fBAD then 0 else 1 - s.bootRec.active
  else s.idleSlot

/-- A DFU error: state dfuERROR (PRESUMED: the codes of DFU 1.1). -/
def State.dfuError (s : State) (status : Nat) : State := (s.setFld SVC_USB.DFU_STATE 0 10).setFld SVC_USB.DFU_STATUS 0 status

/-- The next part of the image that the buffered bytes complete is written: the header, or a block. -/
def State.dfuPart (s : State) : State :=
  let n := s.dfuSlot
  let buf := s.fw.dfu
  if s.fld SVC_USB.DFU_STATE ≠ 5 then s
  else if s.fw.parts = 0 then
    if buf.length < 256 then s
    else if (hdrBad (buf.take 256)).isSome then s.dfuError 2
    else { s.putHeader n (buf.take 256) with fw.dfu := buf.drop 256, fw.parts := 1 }
  else if buf.length < 65540 ∨ hdrBlocks (s.fwSlot n).hdr < s.fw.parts then s
  else
    let word := fun k => wd (hdrWord buf (4 * k))
    let b : FwBlock := { data := (List.range 16384).map word, check := word 16384 }
    if blockOk b = false then s.dfuError 7
    else { s.putBlock n (s.fw.parts - 1) b with fw.dfu := buf.drop 65540, fw.parts := s.fw.parts + 1 }

/-- DFU_DOWNLOAD: a download block. The first opens the session. Two failures of a flash operation end in errPROG or errERASE,
by the operation that failed (a free value). -/
def execDfuDownload (bytes : List Nat) (fails : Nat) (s : State) : Host.Outcome State Fault Refusal :=
  .next (if s.life.boot ≠ 0 ∨ s.flag SVC_USB.CONFIGURED = false ∨ bytes = [] ∨ 4096 < bytes.length then s
    else
      let opening := s.fld SVC_USB.DFU_STATE != 5
      if opening ∧ s.fld SVC_FW_STATUS.SESSION = 1 then s.dfuError 3
      else
        let s := if opening then { s.setFld SVC_FW_STATUS.SESSION 0 2 with fw.dfu := [], fw.parts := 0 }.setFld SVC_FW_STATUS.BLOCKS 0 0 else s
        let s := (s.setFld SVC_USB.DFU_STATE 0 5).setFld SVC_USB.DFU_STATUS 0 0
        let s := s.flashFails fails (127 * s.dfuSlot + s.fw.parts)
        if 2 ≤ fails then s.drawn.dfuError (if s.free % 2 = 0 then 4 else 6)
        else { s with fw.dfu := s.fw.dfu ++ bytes.map (· % 256) }.dfuPart.dfuPart)

/-- A manifested image runs: through activation, or in RECOVERY through a COLD reset with its slot ACTIVE. -/
def State.dfuRun (s : State) (n : Nat) : State :=
  let s := s.setFld SVC_USB.DFU_STATE 0 8
  if s.mode = mRECOVERY then (s.writeRec n none).resetCold GLB_RESET_CAUSE.COLD
  else s.activate { slot := n, raise := false, revoke := false, dfu := true }

/-- DFU_MANIFEST: the image is checked and activated, once no earlier command is PENDING, no recovery runs and no image is on trial. -/
def execDfuManifest (s : State) : Host.Outcome State Fault Refusal :=
  .next (if s.life.boot ≠ 0 ∨ s.fld SVC_USB.DFU_STATE ≠ 5 ∨ s.cmd.jobs ≠ [] ∨ s.cmd.heldReps ≠ [] ∨ s.cmd.blocked.isSome = true
        ∨ s.units.any (fun e => e.2.held) = true ∨ s.flag SVC_FW_STATUS.TRIAL = true then s
    else
      let n := s.dfuSlot
      let v := s.fwSlot n
      let t := s.fw.dfu
      if t.length ≠ 256 ∨ s.fw.parts = 0 ∨ (blockMissing v).isSome = true then s.dfuError 2
      else match s.sigCause v t with
      | some 5 => s.dfuError 2
      | some _ => s.dfuError 0x0A
      | none => { s.verified n t with fw.dfu := [], fw.parts := 0 }.dfuRun n)

end Sys2Proof.Machine
end

