-- ==== Sys2Proof/Machine/Pins.lean ====
section
/-! DEFINITION. Pins: reset inputs and straps (R533 to R537), JTAG (R542), the SMBus target (R543), GPIO (R544), the service port's
connection (R528). -/
namespace Sys2Proof.Machine

/-! ## Reset inputs (R91, R534, R536) -/

/-- POR_ASSERT: POR_N (0) or RST_N (1) goes low: the reset holds until it is released. -/
def execPorAssert (pin : Nat) (s : State) : Host.Outcome State Fault Refusal :=
  .next (if 1 < pin then s
    else
      let s := if pin = 0 then s.resetPor else s.resetCold GLB_RESET_CAUSE.PIN
      { s with life.boot := 2, life.low := s.life.low.filter (· != pin) ++ [pin] })

/-- POR_RELEASE: the input is high again, with these levels at GPIO0 to 15. -/
def execPorRelease (pin levels : Nat) (s : State) : Host.Outcome State Fault Refusal :=
  .next (if pin ≤ 1 ∧ s.life.low.contains pin = true then (s.setFld GPIO_IN.LEVEL 0 levels).release pin else s)

/-! ## JTAG (R542) -/

/-- The instruction that an instruction code selects: BYPASS for a code of no instruction, and for every one but IDCODE outside TEST. -/
def State.jtagSelect (s : State) (code : Nat) : Nat :=
  if code = 1 then 1
  else if s.mode = mTEST ∧ [0x00, 0x02, 0x04, 0x05, 0x08, 0x09].contains code = true then code
  else 0xFF

/-- IDCODE: VERSION, PART, MANUFACTURER and the fixed 1. -/
def State.idCode (s : State) : Nat :=
  (s.fld GLB_ID.MAJOR * 4 + s.fld GLB_ID.MINOR) % 16 * 2 ^ 28 + 0x2048 * 2 ^ 12 + 0x4D7 * 2 + 1

/-- JTAG_INSTRUCTION. -/
def execJtagInstruction (code : Nat) (s : State) : Host.Outcome State Fault Refusal :=
  let s := s.jtagTo (s.jtagSelect code)
  .next (if s.jtagIr = 1 then s.emit (.serial "IDCODE" [s.idCode]) else s)

/-- TEST_LOGIC_RESET: IDCODE is selected. -/
def execTestLogicReset (s : State) : Host.Outcome State Fault Refusal := .next (s.jtagTo 1)

/-! ## GPIO (R544) -/

/-- The levels at the GPIO pins: driven where the output is enabled, else the board's. -/
def State.gpioIn (s : State) : Nat :=
  sumN ((List.range 16).map (fun n =>
    (if nbit (s.reg .GPIO_OE).toNat n then nbits (s.reg .GPIO_OUT).toNat n 1 else nbits (s.reg .GPIO_IN).toNat n 1) * 2 ^ n))

/-! ## SMBus target (R543) -/

/-- The hottest sensor of R484, °C. -/
def State.hottest (s : State) : Nat := ((List.range 27).map (fun n => s.fld PWR_DOM_V.TEMP n)).foldl Nat.max 0

/-- The value of a mirror entry; none for an undefined code. -/
def State.mirror (s : State) (code : Nat) : Option Word :=
  match code with
  | 0x00 => some (s.reg .GLB_ID)
  | 0x01 => some (s.reg .GLB_FW_VER)
  | 0x02 => some (s.reg .GLB_MODE)
  | 0x03 => some (s.reg .GLB_RESET_CAUSE)
  | 0x04 => some (s.reg .PWR_STAT)
  | 0x05 => some (s.reg .PWR_VIN)
  | 0x06 => some (s.reg .PWR_CAP_CUR)
  | 0x07 => some (s.reg .PWR_TOTAL)
  | 0x08 => some (s.reg .PWR_QUAD 0)
  | 0x09 => some (s.reg .PWR_QUAD 1)
  | 0x0A => some (s.reg .PWR_QUAD 2)
  | 0x0B => some (s.reg .PWR_QUAD 3)
  | 0x0C => some (wd s.hottest)
  | 0x0D => some (s.reg .FLT_STATUS)
  | 0x0E => some (s.reg .FLT_TOP_LO)
  | 0x0F => some (s.reg .FLT_TOP_HI)
  | 0x10 => some (s.reg .FLT_SEQ)
  | 0x11 => some (wd s.gpioIn)
  | 0x12 => some (s.reg .GLB_DEV_ID)
  | 0x13 => some (s.reg .GLB_STRAP)
  | _ => none

/-- SMB_BLOCK_READ: a byte count of 4 and the entry, lowest byte first; any other protocol or code is NACKed. -/
def execSmbBlockRead (block : Bool) (code : Nat) (pecNack : Bool) (s : State) : Host.Outcome State Fault Refusal :=
  .next (if s.life.boot = 2 then s
    else match (if block then s.mirror code else none) with
    | none => s.ev SMB_STATUS.NACKED
    | some w =>
      let s := s.emit (.serial "SMB" (4 :: bytesOf 4 w.toNat))
      if pecNack then s.ev SMB_STATUS.PEC_ERR else s)

/-- SMB_ALERT_RESPONSE: while ALERT_N is low the target answers with its own address. -/
def execSmbAlertResponse (s : State) : Host.Outcome State Fault Refusal :=
  .next (if s.pwr.alert then s.emit (.serial "ARA" [s.fld SMB_STATUS.ADDR]) else s)

/-! ## The service port (R528) -/

/-- USB_CONNECT: VBUS is present and the host has configured the port; DFU is idle. -/
def execUsbConnect (s : State) : Host.Outcome State Fault Refusal :=
  .next (((s.ev SVC_USB.CONN).ev SVC_USB.CONFIGURED).setFld SVC_USB.DFU_STATE 0 2 |>.setFld SVC_USB.DFU_STATUS 0 0)

end Sys2Proof.Machine
end

