-- ==== Sys2Proof/Machine/Bus.lean ====
section
/-! DEFINITION. The register interface: which register an offset names (R72, R73), bus errors (R74, R77), reads and writes by
access type (R78 to R81), and what a write of each register with behaviour of its own does. -/
namespace Sys2Proof.Machine

/-! ## Offsets (R72, R73) -/

/-- A register an offset names: its element, and whether the word is the HI half of a SNAP pair. -/
structure Hit where
  reg : Reg
  idx : Nat
  hi  : Bool
  deriving DecidableEq, Repr

/-- The flat element of an array at an offset from its base, and the bytes left over. -/
def spanIdx : List (Nat × Nat) → Nat → Nat → Option (Nat × Nat)
  | [], off, acc => some (acc, off)
  | (c, st) :: t, off, acc => if off / st < c then spanIdx t (off % st) (acc * c + off / st) else none

/-- The elements of one index of an array's outermost dimension. -/
def innerCount (n : RegInfo) : Nat := (n.dims.drop 1).foldl (fun a d => a * d.1) 1

/-- Whether a register is a pair of words read through snapshots. -/
def isWide (n : RegInfo) : Bool :=
  match n.kind with
  | .snap w => decide (32 < w)
  | .plain => false

/-- A word of an element: the first, or the HI half of a SNAP pair. -/
def wordOf (n : RegInfo) (x : Nat × Nat) : Option (Nat × Bool) :=
  if x.2 = 0 then some (x.1, false) else if isWide n && x.2 == 4 then some (x.1, true) else none

/-- The element of register `r` at an offset; the Tun store's copies follow the boughs' (R225). -/
def Reg.hit (r : Reg) (off : Nat) : Option (Nat × Bool) :=
  let n := r.info
  match if n.base ≤ off then (spanIdx n.dims (off - n.base) 0).bind (wordOf n) else none with
  | some x => some x
  | none =>
    match n.alt with
    | none => none
    | some (b, c) =>
      if b ≤ off then
        ((spanIdx (if c = 1 then [] else [(c, 4)]) (off - b) 0).bind (wordOf n)).map (fun x => (8 * innerCount n + x.1, x.2))
      else none

/-- The register at an offset of BAR0. -/
def regAt (off : Nat) : Option Hit :=
  if off % 4 ≠ 0 ∨ 2 ^ 26 ≤ off then none
  else Reg.all.findSome? (fun r => (r.hit off).bind (fun x =>
    if r = .CLK_PLL ∧ isPll x.1 = false then none else some ⟨r, x.1, x.2⟩))

/-- The offset of an array's element from its base. -/
def dimOffset : List (Nat × Nat) → Nat → Nat
  | [], _ => 0
  | (c, st) :: t, i =>
    let inner := t.foldl (fun a d => a * d.1) 1
    (i / inner) % c * st + dimOffset t (i % inner)

/-- The offset of element `i` of a register. -/
def regOffset (r : Reg) (i : Nat := 0) : Nat := r.info.base + dimOffset r.info.dims i

/-- The power domain instance that holds element `i` of a register (R73). -/
def regDomain (r : Reg) (i : Nat) : Nat :=
  let n := r.info
  match n.dom with
  | .fixed d => d
  | .boughDig => domBough (i / innerCount n)
  | .boughSerdes => domSerdes (i / innerCount n)
  | .bankQuad => domQuad (bankQuad i)
  | .gristGroup => domGrist (i / innerCount n)
  | .gristEngine => domGrist (engineQuad i)
  | .store => if i / innerCount n < 8 then domBough (i / innerCount n) else domQuad 0

/-! ## Bus errors (R74, R77) -/

/-- A bus error: recorded; a write is dropped and reported, a read aborted or stalled. -/
def State.busErr (s : State) (chan off : Nat) (write : Bool) (cause : Nat) : State :=
  let s := (s.setFld GLB_BUSERR_ADDR.OFFSET 0 off).satFld GLB_BUSERR_INFO.COUNT 0 1
  let s := (s.setFld GLB_BUSERR_INFO.WRITE 0 (b2n write)).setFld GLB_BUSERR_INFO.CAUSE 0 cause
  let s := s.setFld GLB_BUSERR_INFO.CHAN 0 (b2n (chan != 0))
  if write then
    let s := s.raise 0x0101 kCORRECTED (tgt cFLT 0) (off % 2 ^ 26 + 2 ^ 26 + cause * 2 ^ 27 + b2n (chan != 0) * 2 ^ 29)
    if chan = 0 then s else s.emit (.stall (off % 2 ^ 26))
  else s.emit (.readData (b2n (chan != 0)) (off % 2 ^ 26) none)

/-- Whether an access on a channel reaches the control bus: no reset holds the module, and for PCIe the endpoint is powered
(R33, R91, R433). -/
def State.busUp (s : State) (chan : Nat) : Bool :=
  s.life.low.isEmpty && s.life.boot != 2 && (chan != 0 || s.domOn (domQuad 0))

/-- Whether an access waits for the hold of Q0's clock to end (R457): one through the PCIe endpoint, or one to a block of Q0. The rule
names reads; a write of a stopped block waits with them (DEDUCED). -/
def State.busWaits (s : State) (chan off : Nat) : Bool :=
  s.domOn (domQuad 0) && (s.quadStopped 0 || !s.busHeld.isEmpty) &&
    (chan == 0 || (regAt off).any (fun h => regDomain h.reg h.idx == domQuad 0))

/-- Keep an access until the hold has ended. -/
def State.holdAccess (s : State) (a : BusAcc) : State := { s with busHeld := s.busHeld ++ [a] }

/-- An offset of the blocks that the ROM loader answers in RECOVERY: GLB and SVC (R77). -/
def romBlock (off : Nat) : Bool := decide (off < 0x100000) || (decide (0x500000 ≤ off) && decide (off < 0x600000))

/-- The cause of the bus error of an access of `count` words, or the register it reaches (R72, R74, R77). -/
def State.busCheck (s : State) (chan off count : Nat) (write full : Bool) : Hit ⊕ Nat :=
  match regAt off with
  | none => .inr 0
  | some h =>
    let telem := !write && decide (0x3000000 ≤ off) && decide (off % 128 + 4 * count ≤ 128)
    if chan = 0 ∧ (count = 0 ∨ (1 < count ∧ telem = false) ∨ (write = true ∧ full = false)) then .inr 1
    else if s.domOn (regDomain h.reg h.idx) = false ∨ (s.mode = mRECOVERY ∧ romBlock off = false) then .inr 2
    else .inl h

/-! ## Reads (R78, R79, R81) -/

/-- The word a register reads as: the visible copy of a counter, the state that a register shows, or the word it holds. -/
def State.viewWord (s : State) (h : Hit) : Word :=
  match h.reg.info.kind with
  | .snap _ => let v := tabGet s.snapVis (h.reg.ctorIdx, h.idx) 0; if h.hi then hi32 v else lo32 v
  | .plain =>
    match h.reg with
    | .TUN_INFLIGHT => wd s.inflightCells
    | .SCHED_Q_STATE => s.qStateWord h.idx
    | .ROOT_LANE_ERR => s.laneErrWord h.idx
    | .PS_GRP_MON => s.grpMonWord h.idx
    | .PS_SLOT_BYTES_LO => lo32 (s.slotView h.idx)
    | .PS_SLOT_BYTES_HI => hi32 (s.slotView h.idx)
    | .PS_WIN => s.winWord h.idx
    | .TELEM_TOD_LO => lo32 s.tod
    | .TELEM_TOD_HI => hi32 s.tod
    | .GPIO_IN => wd s.gpioIn
    | .SVC_FW_STATUS => s.fwStatusWord
    | .UC_WALKER => s.walkerWord h.idx
    | .UC_MATCH => s.matchReg (h.idx / 32) (h.idx % 32)
    | r => s.reg r h.idx

/-- The HI half of the 64-bit pair whose LO half a register is (R81). -/
def pairHi : Reg → Option Reg
  | .FLT_PIN_MASK_LO => some .FLT_PIN_MASK_HI
  | .CMD_SQ_BASE_LO => some .CMD_SQ_BASE_HI
  | .CMD_CQ_BASE_LO => some .CMD_CQ_BASE_HI
  | .PKT_TX_BASE_LO => some .PKT_TX_BASE_HI
  | .PKT_TX_WB_LO => some .PKT_TX_WB_HI
  | .PKT_RX_BASE_LO => some .PKT_RX_BASE_HI
  | .PORT_TS_LO => some .PORT_TS_HI
  | .TBL_LEARN_BASE_LO => some .TBL_LEARN_BASE_HI
  | .PS_IMB_TIME_LO => some .PS_IMB_TIME_HI
  | .PS_SLOT_BYTES_LO => some .PS_SLOT_BYTES_HI
  | .TELEM_TOD_LO => some .TELEM_TOD_HI
  | .TELEM_TOD_SET_LO => some .TELEM_TOD_SET_HI
  | .TELEM_PPS_IN_LO => some .TELEM_PPS_IN_HI
  | _ => none

/-- The key of a latched HI half: the channel, the register and its element. -/
def latchKey (chan : Nat) (r : Reg) (i : Nat) : Key := (chan, r.ctorIdx * 65536 + i)

/-- Set or clear a latched HI half. -/
def State.setLatch (s : State) (k : Key) (v : Option Word) : State := { s with hiLatch := tabSet s.hiLatch k v none }

/-- One word is read on a channel: a latched HI half is returned and used up; a LO half latches its HI half; RC bits that read
one are cleared. -/
def State.readHit (s : State) (chan : Nat) (h : Hit) : State × Word :=
  let k := latchKey chan h.reg h.idx
  let latched := tabGet s.hiLatch k none
  let w := latched.getD (s.viewWord h)
  let s' := match pairHi h.reg with
    | some r => s.setLatch (latchKey chan r h.idx) (some (s.viewWord ⟨r, h.idx, false⟩))
    | none => if latched.isSome then s.setLatch k none else s
  let rc := h.reg.info.rc
  let s' := if rc = 0 then s' else s'.setReg h.reg h.idx (s'.reg h.reg h.idx &&& ~~~(wd rc))
  (if h.reg = .PWR_EVENT then s'.showAlert else s', w)

/-- One word of a TELEM read at an offset: where the span holds no register, the word is a free value. -/
def State.readAt (s : State) (chan off : Nat) : State × Word :=
  match regAt off with
  | some h => s.readHit chan h
  | none => (s.drawn, wd s.free)

/-- `count` words from an offset on, in order. -/
def State.readSpan (s : State) (chan off : Nat) : Nat → State × List Word
  | 0 => (s, [])
  | n + 1 =>
    let a := s.readAt chan off
    let b := a.1.readSpan chan (off + 4) n
    (b.1, a.2 :: b.2)

/-- A register read on a channel (0 or 1), done. -/
def State.readNow (s : State) (chan off count : Nat) : State :=
  match s.busCheck chan off count false true with
  | .inr cause => s.busErr chan off false cause
  | .inl _ =>
    let r := s.readSpan chan off count
    r.1.emit (.readData chan off (some r.2))

/-- A register read; a service-port request reads one word. -/
def State.busRead (s : State) (chan off count : Nat) : State :=
  let c := b2n (chan != 0)
  let n := if c = 0 then count else 1
  if s.busUp c = false then s
  else if s.busWaits c off then s.holdAccess ⟨c, off, none, n⟩
  else s.readNow c off n

/-! ## The command rings' registers (R35 to R41) -/

/-- The submission entries that wait for fetch. -/
def State.sqHeld (s : State) : Nat := sumN (s.cmd.seqRuns.map (fun r => match r with
  | .sq n => n
  | .svc _ _ => 0))

/-- Add `n` submission entries at the end of the execution sequence. -/
def appendSq (n : Nat) : List SeqRun → List SeqRun
  | [] => if n = 0 then [] else [.sq n]
  | [.sq m] => [.sq (m + n)]
  | r :: t => r :: appendSq n t

/-- Withdraw `n` submission entries, the last ones first; runs newest first. -/
def withdrawSq : Nat → List SeqRun → List SeqRun
  | _, [] => []
  | 0, l => l
  | n + 1, .sq m :: t => if m ≤ n + 1 then withdrawSq (n + 1 - m) t else .sq (m - (n + 1)) :: t
  | n + 1, r :: t => r :: withdrawSq (n + 1) t

/-- The sequence without its submission entries. -/
def noSq (l : List SeqRun) : List SeqRun := l.filter (fun r => match r with
  | .sq _ => false
  | .svc _ _ => true)

/-- The number of entries a ring of `n` holds. -/
def ringHeld (tail head n : Nat) : Nat := (tail + n - head % n) % n

/-- A write of CMD_CTL (R39, R41). -/
def State.writeCmdCtl (s : State) (w : Word) : State :=
  let s := (s.setFld CMD_CTL.IRQ_EN 0 (bitsAt w 1 1)).cqIrq
  if bitsAt w 0 1 = 1 then
    if s.flag CMD_CTL.EN then s
    else if ringSizeOk s.sqSize 16 65536 && ringSizeOk s.cqSize 16 65536 then
      let s := (s.setReg .CMD_SQ_HEAD 0 0).setReg .CMD_SQ_TAIL 0 0
      let s := (s.setReg .CMD_CQ_TAIL 0 0).setReg .CMD_CQ_HEAD 0 0
      let s := (s.setFld CMD_CTL.EN 0 1).setFld CMD_STATUS.RUN 0 1
      { s with cmd.phase := true, cmd.irqCnt := 0 }.showFull
    else s.ev CMD_STATUS.CFG_ERR
  else { s.setFld CMD_CTL.EN 0 0 with cmd.seqRuns := noSq s.cmd.seqRuns }.settleRun

/-- A doorbell (R36, R39). While EN is 0 a write is ignored before its value is tested, and sets no DB_ERR (DESIGN CHOICE: R40's
line on DB_ERR does not say which goes first). -/
def State.writeSqTail (s : State) (w : Word) : State :=
  if s.flag CMD_CTL.EN = false then s
  else if s.sqSize ≤ bitsAt w 0 16 then s.ev CMD_STATUS.DB_ERR
  else
    let held := ringHeld (bitsAt w 0 16) (s.fld CMD_SQ_HEAD.HEAD) s.sqSize
    let was := s.sqHeld
    let runs := if was ≤ held then appendSq (held - was) s.cmd.seqRuns else (withdrawSq (was - held) s.cmd.seqRuns.reverse).reverse
    { s.setFld CMD_SQ_TAIL.TAIL 0 (bitsAt w 0 16) with cmd.seqRuns := runs }

/-- A write of CMD_CQ_HEAD (R37, R39). -/
def State.writeCqHead (s : State) (w : Word) : State :=
  if s.flag CMD_STATUS.RUN = false then s
  else if s.cqSize ≤ bitsAt w 0 16 then s.ev CMD_STATUS.DB_ERR
  else (s.setFld CMD_CQ_HEAD.HEAD 0 (bitsAt w 0 16)).showFull

/-! ## The packet rings' interrupts (R41, R68, R70) -/

/-- The coalescing field of a packet ring (0 to 3 transmit, 4 to 11 receive): `lo` from the word of PKT_TX_IRQ or PKT_RX_IRQ. -/
def State.pktIrqFld (s : State) (k lo n : Nat) : Nat :=
  if k < 4 then bitsAt (s.reg .PKT_TX_IRQ k) lo n else bitsAt (s.reg .PKT_RX_IRQ (k - 4)) lo n

/-- The MSI-X vector of a packet ring. -/
def pktVector (k : Nat) : Nat := if k < 4 then 28 + k else 20 + (k - 4)

/-- Set how many frames count toward a ring's interrupt. -/
def State.setPktIrq (s : State) (k n since : Nat) : State :=
  { s with pkt.irq := tabSet (tabSet s.pkt.irq (k, 0) n 0) (k, 1) since 0 }

/-- A ring's vector is due, as `CMD_IRQ_CTL` has it for entries (R41). -/
def State.pktIrqDue (s : State) (k : Nat) : Bool :=
  let n := tabGet s.pkt.irq (k, 0) 0
  s.pktIrqFld k 24 1 == 1 && decide (0 < n) &&
    (decide (s.pktIrqFld k 0 8 ≤ n) || decide (tabGet s.pkt.irq (k, 1) 0 + s.pktIrqFld k 8 16 * usNs ≤ s.now))

/-- Raise a ring's vector where it is due. -/
def State.pktIrq (s : State) (k : Nat) : State := if s.pktIrqDue k then (s.setPktIrq k 0 0).msix (pktVector k) else s

/-! ## The packet rings' registers (R67) -/

/-- A packet ring is unused, or of a size R67 allows. -/
def pktRingOk (n : Nat) : Bool := n == 0 || ringSizeOk n 64 65536

/-- Every packet ring passes the check of an enable (R67): the sizes, and BUF_LOG2 of every receive ring. -/
def State.pktRingsOk (s : State) : Bool :=
  (List.range 4).all (fun t => pktRingOk (s.fld PKT_TX_SIZE.ENTRIES t)) &&
  (List.range 8).all (fun r => pktRingOk (s.fld PKT_RX_SIZE.ENTRIES r) &&
    decide (11 ≤ s.fld PKT_RX_SIZE.BUF_LOG2 r) && decide (s.fld PKT_RX_SIZE.BUF_LOG2 r ≤ 14))

/-- RUN goes to 0 once EN is 0 and no picked frame is still to be delivered. -/
def State.pktSettle (s : State) : State :=
  if !s.flag PKT_CTL.EN && s.tun.hostOut.isEmpty then s.setFld PKT_STATUS.RUN 0 0 else s

/-- A write of PKT_CTL. -/
def State.writePktCtl (s : State) (w : Word) : State :=
  if bitsAt w 0 1 = 1 then
    if s.flag PKT_CTL.EN then s
    else if s.pktRingsOk then
      let s := eachIn (List.range 4) s (fun s t => (s.setReg .PKT_TX_TAIL t 0).setReg .PKT_TX_HEAD t 0)
      let s := eachIn (List.range 8) s (fun s r => (s.setReg .PKT_RX_TAIL r 0).setReg .PKT_RX_HEAD r 0)
      (s.setFld PKT_CTL.EN 0 1).setFld PKT_STATUS.RUN 0 1
    else s.ev PKT_STATUS.CFG_ERR
  else (s.setFld PKT_CTL.EN 0 0).pktSettle

/-- A write of a packet ring's tail. -/
def State.writePktTail (s : State) (tail size : Fld) (i : Nat) (w : Word) : State :=
  if s.flag PKT_CTL.EN = false then s
  else if s.fld size i ≤ bitsAt w 0 16 then s.ev PKT_STATUS.DB_ERR
  else s.setFld tail i (bitsAt w 0 16)

/-! ## Writes (R78, R80) -/

/-- A write by access type: RW bits take the value, MW bits the data where the mask selects them. -/
def State.writePlain (s : State) (r : Reg) (i : Nat) (w : Word) : State :=
  let n := r.info
  let m := if n.mw then wd (w.toNat / 65536) else wd n.rw
  s.setReg r i ((s.reg r i &&& ~~~m) ||| (w &&& m))

/-- A configuration register of a ring: ignored, with an error, while the ring runs (R39, R67). -/
def State.writeRing (s : State) (run cfgErr : Fld) (r : Reg) (i : Nat) (w : Word) : State :=
  if s.flag run then s.ev cfgErr else s.writePlain r i w

/-- A write of GPIO_OUT or GPIO_OE: the pins whose drive changes. -/
def State.writeGpio (s : State) (r : Reg) (w : Word) : State :=
  let t := s.writePlain r 0 w
  eachIn ((List.range 16).filter (fun n => s.gpioDriven n != t.gpioDriven n)) t (fun t n => t.emit (.signal "GPIO" n (t.gpioDriven n)))

/-- A write of a word of the MSI-X table: a vector unmasked with its pending bit set is sent. -/
def State.writeMsix (s : State) (i : Nat) (w : Word) : State :=
  let s := s.writePlain .MSIX_TABLE i w
  let v := i / 4
  if i % 4 = 3 ∧ bitsAt w 0 1 = 0 ∧ bitsAt (s.reg .MSIX_PBA) v 1 = 1 then
    (s.setReg .MSIX_PBA 0 (setBits (s.reg .MSIX_PBA) v 1 0)).emit (.msix v)
  else s

/-- A write of TELEM_TOD_CTL (R363): SET asks for the set, or with STEP the step, of TOD; PPS_OUT is low while PPS_OUT_EN is 0. -/
def State.writeTodCtl (s : State) (w : Word) : State :=
  let s := s.writePlain .TELEM_TOD_CTL 0 w
  let s := if bitsAt w 0 1 = 1 then { s with todPend := 1 + bitsAt w 1 1 } else s
  if s.ppsFall.isSome && !s.flag TELEM_TOD_CTL.PPS_OUT_EN then { s with ppsFall := none }.emit (.pin "PPS_OUT" 0) else s

/-- A write of a block's PAIR_COMMIT (R86): 0 to 7 the boughs, 8 the TUN block. -/
def State.writeCommit (s : State) (block : Nat) (w : Word) : State :=
  if bitsAt w 31 1 = 0 then s
  else if block < 8 then s.boughCommit block (bitsAt w 0 16) else s.tunCommit (bitsAt w 0 16)

/-- A write of GLB_RESET_CTL (R90, R91). -/
def State.writeResetCtl (s : State) (chan : Nat) (w : Word) : State :=
  if bitsAt w 16 16 ≠ 0xC1A5 then s.busErr chan 0x10 true 3
  else if bitsAt w 0 4 = 1 then s.resetWarm GLB_RESET_CAUSE.WARM
  else if bitsAt w 0 4 = 2 then s.resetCold GLB_RESET_CAUSE.COLD
  else s

/-- A write of TBL_LEARN_CTL (R243). -/
def State.writeLearnCtl (s : State) (b : Nat) (w : Word) : State :=
  if bitsAt w 0 1 = 1 then s.learnEnable b (bitsAt w 1 1 == 1) else s.writePlain .TBL_LEARN_CTL b w

/-- A write of TBL_LEARN_HEAD: a value not below the ring size is ignored (R254). -/
def State.writeLearnHead (s : State) (b : Nat) (w : Word) : State :=
  if s.learnSize b ≤ bitsAt w 0 16 then s else s.writePlain .TBL_LEARN_HEAD b w

/-- A write of CLK_SRC: EN and TRIM (R446, R462). -/
def State.writeClkSrc (s : State) (n : Nat) (w : Word) : State := (s.writeSrcEn n (bitsAt w 0 1)).writeTrim n (bitsAt w 8 8)

/-- A write of the registers of the CMD block's rings. -/
def State.pokeRing (s : State) (r : Reg) (i : Nat) (w : Word) : State :=
  match r with
  | .CMD_CTL => s.writeCmdCtl w
  | .CMD_SQ_TAIL => s.writeSqTail w
  | .CMD_CQ_HEAD => s.writeCqHead w
  | .CMD_IRQ_CTL => (s.writePlain r i w).cqIrq
  | .PKT_TX_IRQ => (s.writePlain r i w).pktIrq i
  | .PKT_RX_IRQ => (s.writePlain r i w).pktIrq (4 + i)
  | .PKT_CTL => s.writePktCtl w
  | .PKT_TX_TAIL => s.writePktTail PKT_TX_TAIL.TAIL PKT_TX_SIZE.ENTRIES i w
  | .PKT_RX_TAIL => s.writePktTail PKT_RX_TAIL.TAIL PKT_RX_SIZE.ENTRIES i w
  | .CMD_SQ_BASE_LO | .CMD_SQ_BASE_HI | .CMD_SQ_SIZE | .CMD_CQ_BASE_LO | .CMD_CQ_BASE_HI | .CMD_CQ_SIZE =>
    s.writeRing CMD_STATUS.RUN CMD_STATUS.CFG_ERR r i w
  | .PKT_TX_BASE_LO | .PKT_TX_BASE_HI | .PKT_TX_SIZE | .PKT_RX_BASE_LO | .PKT_RX_BASE_HI | .PKT_RX_SIZE =>
    s.writeRing PKT_STATUS.RUN PKT_STATUS.CFG_ERR r i w
  | .TBL_LEARN_BASE_LO | .TBL_LEARN_BASE_HI | .TBL_LEARN_SIZE =>
    if s.flag TBL_LEARN_CTL.EN i then s.ev TBL_EVENT.CFG_ERR i else s.writePlain r i w
  | .TBL_LEARN_HEAD => s.writeLearnHead i w
  | .MSIX_TABLE => s.writeMsix i w
  | _ => s.writePlain r i w

/-- A write of a register with behaviour of its own, or by access type. -/
def State.poke (s : State) (chan : Nat) (r : Reg) (i : Nat) (w : Word) : State :=
  match r with
  | .GLB_RESET_CTL => s.writeResetCtl chan w
  | .CLK_SRC => s.writeClkSrc i w
  | .CLK_PLL => s.writeChainEn i (bitsAt w 8 1)
  | .PWR_ALERT_MASK => (s.writePlain r i w).showAlert
  | .FLT_PIN_CTL => (s.writePlain r i w).showErrN
  | .FLT_HIST_SEL => (s.writePlain r i w).histLatch (bitsAt w 0 5)
  | .GPIO_OUT | .GPIO_OE => s.writeGpio r w
  | .PORT_TS_POP => if bitsAt w 0 1 = 1 then s.popTs i else s
  | .BOUGH_PAIR_COMMIT => s.writeCommit i w
  | .TUN_PAIR_COMMIT => s.writeCommit 8 w
  | .ROOT_LANE_SEL => if s.ust (tgt cROOT i) = uRETIRED then s else s.writePlain r i w
  | .TBL_LEARN_CTL => s.writeLearnCtl i w
  | .CELLAR_WIN_CTL => s.winStart w
  | .TELEM_TOD_CTL => s.writeTodCtl w
  | _ => s.pokeRing r i w

/-- A register write, done. -/
def State.writeNow (s : State) (chan off : Nat) (words : List Word) (full : Bool) : State :=
  match s.busCheck chan off words.length true full with
  | .inr cause => s.busErr chan off true cause
  | .inl h => s.poke chan h.reg h.idx (words.getD 0 0)

/-- A register write: the words of the request, and whether every byte enable is set. -/
def State.busWrite (s : State) (chan off : Nat) (words : List Word) (full : Bool) : State :=
  if s.busUp chan = false then s
  else if s.busWaits chan off then s.holdAccess ⟨chan, off, some (words, full), 0⟩
  else s.writeNow chan off words full

/-- The accesses that waited for Q0's clock are done, in order, once it runs (R457). -/
def State.busGoes (s : State) : State :=
  if s.quadStopped 0 then s
  else eachIn s.busHeld { s with busHeld := [] } (fun s a =>
    match a.write with
    | some w => s.writeNow a.chan a.off w.1 w.2
    | none => s.readNow a.chan a.off a.count)

/-! ## The rows -/

/-- REGISTER_WRITE. -/
def execRegisterWrite (chan offset : Nat) (words : List Word) (full : Bool) (s : State) : Host.Outcome State Fault Refusal :=
  .next (s.busWrite chan offset words full)

/-- RC_REGISTER_READ: a read of any register; RC bits that read one are cleared by it. -/
def execRcRegisterRead (chan offset count : Nat) (s : State) : Host.Outcome State Fault Refusal :=
  .next (s.busRead chan offset count)

/-- PAIR_LO_READ: a read of the LO half of a 64-bit pair. -/
def execPairLoRead (chan offset : Nat) (s : State) : Host.Outcome State Fault Refusal :=
  .next (match regAt offset with
    | some h => if (pairHi h.reg).isSome then s.busRead chan offset 1 else s
    | none => s)

/-- The offset that a vendor request names (R77). -/
def svcOffset (wValue wIndex : Nat) : Nat := wValue % 2 ^ 16 + wIndex % 2 ^ 10 * 2 ^ 16

/-- The form of a register request (R77): its bRequest, wLength 4, wIndex[15:10] zero. -/
def svcForm (req want wIndex wLength : Nat) : Bool := req == want && wLength == 4 && nbits wIndex 10 6 == 0

/-- SVC_REGISTER_READ: a vendor request that asks for data. Other bmRequestTypes are outside R77. -/
def execSvcRegisterRead (reqType req wValue wIndex wLength : Nat) (s : State) : Host.Outcome State Fault Refusal :=
  .next (if reqType ≠ 0xC0 ∨ s.busUp 1 = false then s
    else if svcForm req 0x10 wIndex wLength then s.busRead 1 (svcOffset wValue wIndex) 1
    else s.busErr 1 (svcOffset wValue wIndex) false 3)

/-- SVC_REGISTER_WRITE: a vendor request that carries data. -/
def execSvcRegisterWrite (reqType req wValue wIndex wLength : Nat) (data : Word) (s : State) : Host.Outcome State Fault Refusal :=
  .next (if reqType ≠ 0x40 ∨ s.busUp 1 = false then s
    else if svcForm req 0x11 wIndex wLength then s.busWrite 1 (svcOffset wValue wIndex) [data] true
    else s.busErr 1 (svcOffset wValue wIndex) true 3)

/-- PAIR_COMMIT: a write of a block's commit register that reaches it. -/
def execPairCommit (block : Nat) (value : Word) (s : State) : Host.Outcome State Fault Refusal :=
  .next (if 8 < block ∨ s.domOn (if block < 8 then domBough block else domQuad 0) = false then s else s.writeCommit block value)

/-- GLB_RESET_WARM: GLB_RESET_CTL is written with ACTION 1 and a KEY. -/
def execGlbResetWarm (chan key : Nat) (s : State) : Host.Outcome State Fault Refusal :=
  .next (s.busWrite chan (regOffset .GLB_RESET_CTL) [wd (key % 2 ^ 16 * 2 ^ 16 + 1)] true)

/-- GLB_RESET_COLD: ACTION 2. -/
def execGlbResetCold (chan key : Nat) (s : State) : Host.Outcome State Fault Refusal :=
  .next (s.busWrite chan (regOffset .GLB_RESET_CTL) [wd (key % 2 ^ 16 * 2 ^ 16 + 2)] true)

/-- TS_POP: a write of a port's PORT_TS_POP. -/
def execTsPop (chan port : Nat) (value : Word) (s : State) : Host.Outcome State Fault Refusal :=
  .next (if port < 512 then s.busWrite chan (regOffset .PORT_TS_POP port) [value] true else s)

/-- CELLAR_WIN_ACCESS: a write of CELLAR_WIN_CTL. -/
def execCellarWinAccess (chan : Nat) (value : Word) (s : State) : Host.Outcome State Fault Refusal :=
  .next (s.busWrite chan (regOffset .CELLAR_WIN_CTL) [value] true)

/-- CMD_SQ_DOORBELL: a write of CMD_SQ_TAIL. -/
def execCmdSqDoorbell (chan value : Nat) (s : State) : Host.Outcome State Fault Refusal :=
  .next (s.busWrite chan (regOffset .CMD_SQ_TAIL) [wd value] true)

/-- CMD_CQ_HEAD_WRITE: a write of CMD_CQ_HEAD. -/
def execCmdCqHeadWrite (chan value : Nat) (s : State) : Host.Outcome State Fault Refusal :=
  .next (s.busWrite chan (regOffset .CMD_CQ_HEAD) [wd value] true)

/-- CMD_RING_ENABLE: a write of CMD_CTL with EN 1. -/
def execCmdRingEnable (chan : Nat) (irqEn : Bool) (s : State) : Host.Outcome State Fault Refusal :=
  .next (s.busWrite chan (regOffset .CMD_CTL) [wd (1 + 2 * b2n irqEn)] true)

/-- CMD_RING_DISABLE: a write of CMD_CTL with EN 0. -/
def execCmdRingDisable (chan : Nat) (irqEn : Bool) (s : State) : Host.Outcome State Fault Refusal :=
  .next (s.busWrite chan (regOffset .CMD_CTL) [wd (2 * b2n irqEn)] true)

/-- CMD_FETCH_ERROR: the read of the next submission entry fails: EN is cleared as in R39. -/
def execCmdFetchError (s : State) : Host.Outcome State Fault Refusal :=
  .next (match s.cmd.seqRuns with
    | .sq _ :: _ =>
      if s.flag CMD_CTL.EN && s.cmd.blocked.isNone && !s.cmd.pause then
        { (s.setFld CMD_CTL.EN 0 0).ev CMD_STATUS.FETCH_ERR with cmd.seqRuns := noSq s.cmd.seqRuns }.settleRun
      else s
    | _ => s)

/-- Write held replies, oldest first, while the CQ has room (R38). -/
def State.releaseReps (s : State) : List HeldRep → State
  | [] => { s with cmd.heldReps := [] }
  | r :: t => if s.cqFull then { s with cmd.heldReps := r :: t } else (s.writeCq r.pkt r.rep).releaseReps t

/-- CQ_REPLY_RELEASE. -/
def execCqReplyRelease (s : State) : Host.Outcome State Fault Refusal :=
  .next (if s.flag CMD_STATUS.RUN then (s.releaseReps s.cmd.heldReps).settleRun else s)

/-- CMD_IRQ_COAL_TIMEOUT: COAL_TIME has passed since the first entry that no interrupt covers (R41). -/
def execCmdIrqCoalTimeout (s : State) : Host.Outcome State Fault Refusal := .next s.cqIrq

end Sys2Proof.Machine
end

