-- ==== Sys2Proof/Machine/PktDma.lean ====
section
/-! DEFINITION. The packet DMA of the host port (R67 to R70): transmit rings into pipe 0's injection FIFO, receive rings from the
Tun, their interrupts. -/
namespace Sys2Proof.Machine

/-! ## Interrupts (R41, R68, R70) -/

/-- A frame counts toward its ring's interrupt, as completion entries do (R41). -/
def State.pktCount (s : State) (k : Nat) : State :=
  let n := tabGet s.pkt.irq (k, 0) 0
  (s.setPktIrq k (n + 1) (if n = 0 then s.now else tabGet s.pkt.irq (k, 1) 0)).pktIrq k

/-- PKT_IRQ_COAL_TIMEOUT: COAL_TIME of a ring has passed since the first frame that no interrupt covers. -/
def execPktIrqCoalTimeout (ring : Nat) (s : State) : Host.Outcome State Fault Refusal :=
  .next (if ring < 12 then s.pktIrq ring else s)

/-! ## Enable, disable, doorbells (R67) -/

/-- PKT_DMA_ENABLE: a write of PKT_CTL with EN 1. -/
def execPktDmaEnable (chan : Nat) (s : State) : Host.Outcome State Fault Refusal :=
  .next (s.busWrite chan (regOffset .PKT_CTL) [1] true)

/-- PKT_DMA_DISABLE: a write of PKT_CTL with EN 0. -/
def execPktDmaDisable (chan : Nat) (s : State) : Host.Outcome State Fault Refusal :=
  .next (s.busWrite chan (regOffset .PKT_CTL) [0] true)

/-- PKT_TX_DOORBELL: a write of a transmit ring's tail. -/
def execPktTxDoorbell (chan ring value : Nat) (s : State) : Host.Outcome State Fault Refusal :=
  .next (if ring < 4 then s.busWrite chan (regOffset .PKT_TX_TAIL ring) [wd value] true else s)

/-- PKT_RX_DOORBELL: a write of a receive ring's tail. -/
def execPktRxDoorbell (chan ring value : Nat) (s : State) : Host.Outcome State Fault Refusal :=
  .next (if ring < 8 then s.busWrite chan (regOffset .PKT_RX_TAIL ring) [wd value] true else s)

/-! ## Transmit (R68) -/

/-- The entries a transmit ring holds. -/
def State.txHeld (s : State) (t : Nat) : Nat := ringHeld (s.fld PKT_TX_TAIL.TAIL t) (s.fld PKT_TX_HEAD.HEAD t) (s.fld PKT_TX_SIZE.ENTRIES t)

/-- The ring the DMA serves next: round-robin from the one after the last served. -/
def State.txNext (s : State) : Option Nat :=
  ((List.range 4).map (fun k => (s.pkt.lastTx + 1 + k) % 4)).find? (fun t => decide (0 < s.txHeld t))

/-- The reserved bits of a transmit entry are zero. -/
def txEntryOk (entry : List Word) : Bool :=
  bitsAt (entry.getD 2 0) 14 18 == 0 && (List.range 4).all (fun k => entry.getD (4 + k) 0 == 0)

/-- LEN of a transmit entry. -/
def txLen (entry : List Word) : Nat := bitsAt (entry.getD 2 0) 0 14

/-- The frame of a transmit entry: the buffer's bytes and four FCS bytes. -/
def txFrame (entry : List Word) (bytes : List Nat) (now ts : Nat) : InFrame :=
  let d := (List.range (txLen entry)).map (fun k => bytes.getD k 0 % 256)
  { port := 512, bytes := d ++ bytesOf 4 (fcsOf d), ts := ts, since := now, hmeta := (entry.getD 3 0).toNat }

/-- The head of a transmit ring advances; with writeback on, the new head is written to host memory. -/
def State.txAdvance (s : State) (t : Nat) : State :=
  let h := (s.fld PKT_TX_HEAD.HEAD t + 1) % s.fld PKT_TX_SIZE.ENTRIES t
  let s := s.setFld PKT_TX_HEAD.HEAD t h
  if s.flag PKT_TX_WB_LO.EN t then
    s.emit (.hostWrite (s.fld PKT_TX_WB_LO.ADDR t * 16 + s.fld PKT_TX_WB_HI.ADDR t * 2 ^ 32) [wd h])
  else s

/-- The DMA runs. -/
def State.pktRuns (s : State) : Bool := s.flag PKT_STATUS.RUN && s.modeUp && s.domOn (domQuad 0) && !s.quadStopped 0

/-- PKT_TX_FRAME: the DMA takes the next entry of a transmit ring, while the injection FIFO has room for its frame. -/
def execPktTxFrame (ring : Nat) (entry : List Word) (bytes : List Nat) (s : State) : Host.Outcome State Fault Refusal :=
  .next (if s.pktRuns = false ∨ s.flag PKT_CTL.EN = false ∨ s.txNext ≠ some ring then s
    else if txEntryOk entry then
      if 32768 < s.injectUsed 0 + txLen entry + 4 then s
      else
        let f := txFrame entry bytes s.now s.tod
        let s := { s.setInjQ 0 (s.injQ 0 ++ [f]) with pkt.lastTx := ring }
        ((s.bump .PKT_TX_FRAMES).txAdvance ring).pktCount ring
    else ({ s with pkt.lastTx := ring }.bump .PKT_TX_BAD).txAdvance ring)

/-! ## Receive (R70) -/

/-- Word 3 of a completion. -/
def rxWord3 (f : TFrame) : Word :=
  wd (f.inPort % 2 ^ 10 + f.qid % 16 * 2 ^ 10 + f.color % 4 * 2 ^ 14 + b2n (nbit f.fmeta 17) * 2 ^ 16 + b2n (nbit f.fmeta 25) * 2 ^ 17)

/-- Words 2 to 7 of entry `k` of the `n` that a frame of `len` bytes fills, in buffers of `buf` bytes. -/
def rxWords (f : TFrame) (inTs len buf k n : Nat) : List Word :=
  let eop := k + 1 == n
  [wd (Nat.min buf (len - k * buf) + b2n (k == 0) * 2 ^ 15 + b2n eop * 2 ^ 16 + 2 ^ 31), rxWord3 f, wd f.fmeta,
   wd (if eop then len else 0), lo32 inTs, hi32 inTs]

/-- Entry `k` of a frame's `n` is written: its buffer at `addr`, then words 2 to 7; the ring's head advances. -/
def State.rxEntry (s : State) (r : Nat) (f : TFrame) (inTs len n k addr : Nat) : State :=
  let buf := 2 ^ s.fld PKT_RX_SIZE.BUF_LOG2 r
  let h := s.fld PKT_RX_HEAD.HEAD r
  let base := s.fld PKT_RX_BASE_LO.ADDR r * 64 + s.fld PKT_RX_BASE_HI.ADDR r * 2 ^ 32
  let s := s.emit (.hostBytes addr (((f.bytes.take len).drop (k * buf)).take buf))
  let s := s.emit (.hostWrite (base + 32 * h + 8) (rxWords f inTs len buf k n))
  s.setFld PKT_RX_HEAD.HEAD r ((h + 1) % s.fld PKT_RX_SIZE.ENTRIES r)

/-- The oldest frame picked for the host leaves the Tun. -/
def State.rxDone (s : State) (i : Nat) : State :=
  let s := s.setAhead 512 ((s.sport 512).ahead - (s.tframe i).bytes.length)
  ({ s with tun.hostOut := s.tun.hostOut.drop 1 }.freeFrame i).pktSettle

/-- PKT_RX_DELIVER: the oldest picked frame, its cells read, is written to its ring. -/
def execPktRxDeliver (addrs : List Nat) (s : State) : Host.Outcome State Fault Refusal :=
  .next (match s.tun.hostOut with
    | [] => s
    | (i, r) :: _ =>
      if s.pktRuns = false ∨ s.unread i = true then s
      else
        let f := s.tframe i
        let len := hostLen f
        let n := s.rxNeed r f
        let ts := extTs s.tod f.inTs
        let s := eachIn (List.range n) s (fun s k => s.rxEntry r f ts len n k (addrs.getD k 0))
        (((s.bump .PKT_RX_FRAMES).pktCount (4 + r)).rxDone i))

/-! ## PCIe errors (R67) -/

/-- EN is cleared as by a write, and DMA_ERR sets. -/
def State.pktFail (s : State) : State := ((s.setFld PKT_CTL.EN 0 0).ev PKT_STATUS.DMA_ERR).pktSettle

/-- PKT_DMA_ERROR: 0 on a transmit entry or buffer read of a ring, 1 on its head writeback, 2 on a write of a frame for receive
ring `ring`. -/
def execPktDmaError (kind ring : Nat) (s : State) : Host.Outcome State Fault Refusal :=
  .next (if s.pktRuns = false then s
    else match kind with
    | 0 => if ring < 4 ∧ 0 < s.txHeld ring then (s.bump .PKT_TX_BAD).pktFail else s
    | 1 => if ring < 4 ∧ s.flag PKT_TX_WB_LO.EN ring = true then s.pktFail else s
    | 2 =>
      match s.tun.hostOut with
      | (i, r) :: _ => if r = ring then (((s.bump .PKT_RX_BAD).lostExport (s.tframe i)).rxDone i).pktFail else s
      | [] => s
    | _ => s)

end Sys2Proof.Machine
end

