-- ==== Sys2Proof/Machine/Sequence.lean ====
section
/-! DEFINITION. The commands of the module itself (R61 to R63, R82, R83), the rest of the execution sequence (R32, R43, R52, R53): the
effect of each opcode in one place, for a command that takes effect after it was fetched, and the service port's frames
(R64, R65). -/
namespace Sys2Proof.Machine

/-! ## NOP and FENCE (R55, R61) -/

/-- The effect of NOP and of FENCE: none. -/
def effNop (_ : Packet) (s : State) : State × Rep := (s, ok)

/-- NOP. -/
def execNop (p : Packet) (s : State) : Host.Outcome State Fault Refusal := .next (s.command 0x0000 effNop p)

/-- FENCE. -/
def execFenceCmd (p : Packet) (s : State) : Host.Outcome State Fault Refusal := .next (s.command 0x0004 effNop p)

/-! ## IDENTIFY (R62) -/

/-- IDENTIFY's effect. -/
def effIdentify (p : Packet) (s : State) : State × Rep :=
  (s, ok [s.reg .GLB_ID, s.reg .GLB_FW_VER, wd (Config.romVer.toNat + b2n (s.mode == mRECOVERY) * 2 ^ 16),
    wd (s.fld GLB_DEV_ID.DEV + s.fld GLB_STRAP.STRAP * 2 ^ 16),
    wd (s.fld PWR_INDEX.PIDX + s.fld SVC_OTP.MIN_SVN * 2 ^ 8 + s.fld SVC_OTP.KEY0_REV * 2 ^ 16 + s.fld SVC_OTP.KEY1_REV * 2 ^ 17 +
      s.fld UC_STATUS.SEAL_LOCK 0 * 2 ^ 18 + b2n (p.chan != 0) * 2 ^ 24),
    lo32 Config.serial.toNat, hi32 Config.serial.toNat, wd s.mode])

/-- IDENTIFY. -/
def execIdentify (p : Packet) (s : State) : Host.Outcome State Fault Refusal := .next (s.command 0x0001 effIdentify p)

/-! ## GET_STATUS (R63) -/

/-- The units in a unit state, over every class of R435. -/
def State.unitsIn (s : State) (u : Nat) : Nat :=
  (s.units.filter (fun e => e.1.1 != cCLK && e.2.ust == u)).length

/-- The bits of word 4. -/
def State.lossWord (s : State) : Nat :=
  b2n (decide (s.fld TUN_STATUS.LBANKS < 512)) +
  b2n ((List.range 64).any (fun i => !s.flag GRIST_SLOT_MAP.VALID i)) * 2 +
  b2n (s.units.any (fun e => e.1.1 == cROOT && e.2.ust == uRETIRED)) * 4 +
  b2n (s.units.any (fun e => e.1.1 == cCELLAR && e.2.ust == uRETIRED)) * 8 +
  b2n ((List.range 64).any (fun i => s.flag PIPE_STATUS.FOSTER_VALID i)) * 16 +
  b2n ((List.range 64).any (fun i => !s.flag PIPE_STATUS.SERVED_VALID i)) * 32 +
  b2n ((List.range 27).any (fun n => s.fld PWR_DOM_V.STATE n == 3)) * 64 +
  b2n s.flt.fatal * 128

/-- Word 5; zero while Q0's domain is off. -/
def State.spareWord (s : State) : Nat :=
  if s.domOn (domQuad 0) then
    s.fld TUN_STATUS.LBANKS + ((List.range 16).filter (fun k => s.ust (tgt cBANK (512 + k)) == uOFF)).length * 2 ^ 10 +
    s.fld CELLAR_STATUS.CHANS * 2 ^ 16 + ((List.range 4).filter (fun k => s.ust (tgt cGRIST (64 + k)) == uOFF)).length * 2 ^ 24
  else 0

/-- Two 16-bit values per word, the first in the low half. -/
def pairWords : List Nat → List Word
  | a :: b :: t => wd (a + b * 2 ^ 16) :: pairWords t
  | [a] => [wd a]
  | [] => []

/-- The words of the module's status. -/
def State.glbStatus (s : State) : List Word :=
  [s.reg .GLB_MODE, s.reg .FLT_STATUS, s.reg .PWR_STAT, wd (s.unitsIn uGRAFT % 2 ^ 16 + s.unitsIn uRETIRED * 2 ^ 16),
   wd s.lossWord, wd s.spareWord, wd (s.cmd.snapOff.length + s.fld GLB_SNAP_SEQ.SEQ % 2 ^ 16 * 2 ^ 16)] ++
  pairWords (s.cmd.snapOff.map (fun n => tgt cPWR (pwrInst n)))

/-- The newest history entry that names a TARGET. -/
def State.newestWord (s : State) (t : Nat) : Word :=
  match s.flt.hist.reverse.find? (fun h => h.target == t) with
  | some h => wd (h.code + h.cls * 2 ^ 16 + 2 ^ 19)
  | none => 0

/-- GET_STATUS's effect. -/
def effGetStatus (p : Packet) (s : State) : State × Rep :=
  (s, ok (if tCls p.target = 0 then s.glbStatus else [s.unitWord p.target, s.newestWord p.target]))

/-- GET_STATUS. -/
def execGetStatus (p : Packet) (s : State) : Host.Outcome State Fault Refusal := .next (s.command 0x0005 effGetStatus p)

/-! ## SNAPSHOT (R82, R83) -/

/-- The register at a position of the register list. -/
def regNo (k : Nat) : Reg := Reg.all.getD k .GLB_ID

/-- The power domain of a counter. -/
def ctrDomain (k : Key) : Nat := regDomain (regNo k.1) k.2

/-- The power domains that hold counters, by instance: quadrant 0, the boughs with their SerDes domains, the Grist groups, the
Cellar. -/
def snapDomains : List Nat := 1 :: (List.range 22).map (fun k => 5 + k)

/-- The holding copies after a copy: the live value where the counter's domain is on, else the earlier copy (R83). -/
def State.snapCopy (s : State) : Tab Nat :=
  s.ctr.foldl (fun (t : Tab Nat) e => if s.domOn (ctrDomain e.1) then tabSet t e.1 e.2 0 else t)
    (s.snapVis.filter (fun e => !s.domOn (ctrDomain e.1)))

/-- A meter's byte counters pass into the visible set. -/
def meterSnap (m : Meter) : Meter := { m with vis := m.cnt, hid := m.vis }

/-- SNAPSHOT's effect. -/
def effSnapshot (_ : Packet) (s : State) : State × Rep :=
  let off := snapDomains.filter (fun n => !s.domOn n)
  let n := (s.fld GLB_SNAP_SEQ.SEQ + 1) % 2 ^ 32
  let ms : Tab Meter := s.meters.map (fun e => (e.1, if s.domOn (domBough (e.1.1 / 8)) then meterSnap e.2 else e.2))
  let s := { s with snapVis := s.snapCopy, snapHid := s.snapVis, meters := ms, cmd.snapOff := off }
  let s := ((s.setFld GLB_SNAP_SEQ.SEQ 0 n).setReg .GLB_SNAP_TIME_LO 0 (lo32 s.tod)).setReg .GLB_SNAP_TIME_HI 0 (hi32 s.tod)
  (s, ok [wd n, lo32 s.tod, hi32 s.tod] off.length)

/-- SNAPSHOT. -/
def execSnapshot (p : Packet) (s : State) : Host.Outcome State Fault Refusal := .next (s.command 0x0003 effSnapshot p)

/-! ## Commands that take effect later (R32, R52, R53) -/

/-- The effect of each opcode of R60; none for another. -/
def effOf (code : Nat) : Eff :=
  match code with
  | 0x0000 => effNop
  | 0x0001 => effIdentify
  | 0x0002 => effSetMode
  | 0x0003 => effSnapshot
  | 0x0004 => effNop
  | 0x0005 => effGetStatus
  | 0x0101 => effPortCfg
  | 0x0102 => effPortEnable
  | 0x0103 => effPortStatus
  | 0x0104 => effLaneCfg
  | 0x0105 => effLaneTest
  | 0x0106 => effEyeScan
  | 0x0107 => effLaneFom
  | 0x0108 => effPfcCfg
  | 0x0109 => effPtpCfg
  | 0x0201 => effTblProfile
  | 0x0202 => effTblInsert
  | 0x0203 => effTblDelete
  | 0x0204 => effTblLookup
  | 0x0205 => effTblDma
  | 0x0206 => effTblAudit
  | 0x0207 => effTblLock
  | 0x0208 => effTblLearnCfg
  | 0x0209 => effEcmpGroupSet
  | 0x020A => effEcmpMemberSet
  | 0x020B => effHashCfg
  | 0x0301 => effClsWrite
  | 0x0302 => effClsRead
  | 0x0303 => effClsTreeLoad
  | 0x0304 => effMeterCfg
  | 0x0305 => effMeterRead
  | 0x0401 => effPoolCfg
  | 0x0402 => effQueueCfg
  | 0x0403 => effSchedCfg
  | 0x0404 => effShaperCfg
  | 0x0405 => effWredCfg
  | 0x0406 => effPfcWdCfg
  | 0x0407 => effQholdCfg
  | 0x0408 => effSpillCfg
  | 0x0409 => effHwmRead
  | 0x0501 => effTelemStreamCfg
  | 0x0502 => effSapFlag
  | 0x0503 => effTelemRead
  | 0x0504 => effTagCfg
  | 0x0505 => effIoamCfg
  | 0x0506 => effPerfCfg
  | 0x0507 => effPerfRead
  | 0x0601 => effGristGroupOpen
  | 0x0602 => effGristGroupClose
  | 0x0603 => effGristGroupStatus
  | 0x0701 => effPwrHint
  | 0x0702 => effPwrOpp
  | 0x0703 => effPwrCap
  | 0x0704 => effPwrStatus
  | 0x0705 => effPwrPriv
  | 0x0801 => effClkSwitch
  | 0x0802 => effClkTrim
  | 0x0803 => effClkStatus
  | 0x0901 => effFltAck
  | 0x0902 => effFltHistory
  | 0x0903 => effFltMask
  | 0x0904 => effFltInject
  | 0x0A01 => effFwBegin
  | 0x0A02 => effFwBlock
  | 0x0A03 => effFwVerify
  | 0x0A04 => effFwActivate
  | 0x0A05 => effFwInfo
  | 0x0B01 => effProgLoad
  | 0x0B02 => effProgPatch
  | 0x0B03 => effStoreModeSet
  | 0x0B04 => effProgActivate
  | 0x0B05 => effProgRead
  | 0x0C01 => effUnitGraft
  | 0x0C02 => effUnitRestore
  | 0x0C03 => effUnitRetire
  | 0x0C04 => effUnitState
  | 0x0C05 => effDozeCfg
  | _ => fun _ s => (s, refuse eOPCODE)

/-- A PENDING command takes effect: its final reply, or it goes on. -/
def State.runJob (s : State) (p : Packet) : State :=
  let q := runEff (effOf p.opcode) p s
  if q.2.later then q.1.setJobs (q.1.cmd.jobs ++ [⟨p, .running⟩]) else q.1.reply p q.2

/-- What ends a PENDING command that has begun in the background, for the opcodes that end by time alone. -/
def State.endJob (s : State) (p : Packet) : State :=
  match p.opcode with
  | 0x0106 => s.eyeScanEnd p
  | 0x0201 => s.tblProfileEnd p
  | 0x0205 => s.tblDmaEnd p
  | 0x0206 => s.tblAuditEnd p
  | 0x0303 => s.clsTreeEnd p
  | 0x0B04 => s.progActivateEnd p
  | _ => s

/-- The slow command that blocks the sequence completes (R51): its effect, or the end of what it began. -/
def State.blockEnd (s : State) (b : Blocked) (late : Bool) (env : List Nat) : State :=
  match b.why with
  | .work => ({ s with cmd.blocked := none }.start (effOf b.pkt.opcode) { b.pkt with late := late, env := env, slow := false }).goDown
  | .running => (s.endJob { b.pkt with late := late, env := env }).goDown
  | _ => s

/-- PENDING_COMPLETE: the PENDING command of an index ends in the background; the index after the last one names the slow command
that blocks the sequence. -/
def execPendingComplete (index : Nat) (late : Bool) (env : List Nat) (s : State) : Host.Outcome State Fault Refusal :=
  .next (if s.life.boot ≠ 0 then s
    else match s.cmd.jobs[index]? with
    | none =>
      match s.cmd.blocked with
      | some b => if index = s.cmd.jobs.length then s.blockEnd b late env else s
      | none => s
    | some j =>
      let p := { j.pkt with late := late, env := env, slow := false }
      match j.stage with
      | .work => ((s.setJobs (s.cmd.jobs.eraseIdx index)).runJob p).goDown
      | .running => (s.endJob { j.pkt with late := late, env := env }).goDown
      | .held => s)

/-- FENCE_WAIT_END: every earlier PENDING command has written its final reply; the command that waited is checked and
executed. -/
def execFenceWaitEnd (s : State) : Host.Outcome State Fault Refusal :=
  .next (match s.cmd.blocked with
    | some b =>
      if b.why = .fence ∧ s.cmd.jobs = [] ∧ s.cmd.heldReps = [] then
        ({ s with cmd.blocked := none }.letRun (effOf b.pkt.opcode) b.pkt).goDown
      else s
    | none => s)

/-- The first PENDING command that waits on a unit no recovery holds any more. -/
def State.freedJob (s : State) : Option Job := s.cmd.jobs.find? (fun j => j.stage == .held && !s.mustWait j.pkt)

/-- A command names a logical role: PIPE p in groups 0x03 and 0x05 is the partition that serves twig p (R189). -/
def namesRole (p : Packet) : Bool := tCls p.target == cPIPE && (p.opcode / 256 == 3 || p.opcode / 256 == 5)

/-- A recovery has let go of a command's unit: the command is answered E_HW where the unit is RETIRED now, unless it names the
logical role (R32). -/
def lostUnit (s : State) (p : Packet) : Bool := s.ust p.target == uRETIRED && !namesRole p

/-- A command that blocked the sequence while a recovery held its unit goes on (R32, R52). -/
def State.resumeHeld (s : State) (p : Packet) : State :=
  if lostUnit s p then s.reply p (deny eHW) else s.start (effOf p.opcode) p

/-- A PENDING command that waited for a unit goes on (R32, R52). -/
def State.resumeJob (s : State) (p : Packet) : State :=
  if lostUnit s p then s.reply p (deny eHW) else s.runJob { p with slow := false }

/-- HELD_COMMAND_RELEASE: the recovery that held its unit has ended; the command takes effect, or is answered E_HW. -/
def execHeldCommandRelease (s : State) : Host.Outcome State Fault Refusal :=
  .next (match s.cmd.blocked with
    | some b =>
      if b.why = .held ∧ s.mustWait b.pkt = false then ({ s with cmd.blocked := none }.resumeHeld b.pkt).goDown
      else match s.freedJob with
        | some j => ((s.setJobs (s.cmd.jobs.erase j)).resumeJob j.pkt).goDown
        | none => s
    | none =>
      match s.freedJob with
      | some j => ((s.setJobs (s.cmd.jobs.erase j)).resumeJob j.pkt).goDown
      | none => s)

/-! ## The service port (R64, R65) -/

/-- A frame's words are a command frame (R65). -/
def frameOk (words : List Word) (short : Bool) : Bool :=
  let h := words.getD 0 0
  let len := bitsAt h 0 16
  let plen := bitsAt (words.getD 2 0) 0 16
  !short && bitsAt h 24 8 == 0xA5 && bitsAt h 16 8 == 1 && len == 4 + plen && decide (plen ≤ 16640) && decide (len < words.length)

/-- SVC_COMMAND_FRAME: a USB bulk OUT transfer: a command joins the execution sequence, or is discarded. The port takes none
while the Malthouse starts and in an activation pause (R57). -/
def execSvcCommandFrame (words : List Word) (short : Bool) (s : State) : Host.Outcome State Fault Refusal :=
  .next (if s.life.boot ≠ 0 ∨ s.cmd.pause = true then s
    else
      let set := fun (s : State) (f : Fld) => if s.domOn (domQuad 0) then s.ev f else s
      if frameOk words short then
        { set s CMD_STATUS.SVC_SEEN with cmd.seqRuns := s.cmd.seqRuns ++ [.svc ((words.drop 1).take (bitsAt (words.getD 0 0) 0 16)) false] }
      else set s CMD_STATUS.SVC_ERR)

/-- A reply of a packet whose host has left is discarded. -/
def goneP (p : Packet) : Packet := if p.chan = 1 then { p with chan := 2 } else p

/-- SVC_PORT_DISCONNECT: the USB host disconnects or resets the port: accepted commands run on, their replies are discarded; DFU
is idle again, and no SOF marks arrive any more (R452). -/
def execSvcPortDisconnect (s : State) : Host.Outcome State Fault Refusal :=
  let runs := s.cmd.seqRuns.map (fun r => match r with
    | .svc w _ => .svc w true
    | .sq n => .sq n)
  let jobs : List Job := s.cmd.jobs.map (fun j => { j with pkt := goneP j.pkt })
  let bl : Option Blocked := s.cmd.blocked.map (fun b => { b with pkt := goneP b.pkt })
  let s := { s with cmd.seqRuns := runs, cmd.jobs := jobs, cmd.blocked := bl }
  .next ((((s.setFld SVC_USB.CONN 0 0).setFld SVC_USB.CONFIGURED 0 0).setFld SVC_USB.DFU_STATE 0 2).setFld CLK_TRIM_CTL.SOF_SEEN 0 0)

end Sys2Proof.Machine
end

