-- ==== Sys2Proof/Machine/Tick.lean ====
section
/-! DEFINITION. What a nanosecond does while no command waits: the module's clock, TOD with its rate (R362, R363), the end of the
PPS_OUT pulse, the SyncE outputs (R149), the cycle counters (R382), the FEC counters (R150). Every other time-driven effect is a row of the command table. -/
namespace Sys2Proof.Machine

/-- TOD advances by `n` 1/64 ns of its reference, each ns of it counting 1 + RATE · 2^-40 ns (R363). -/
def State.todBy (s : State) (n : Nat) : State :=
  let x : Int := (s.todFrac : Int) + ((2 : Int) ^ 40 + signedOf 32 (s.reg .TELEM_TOD_RATE).toNat) * n / 64
  { s with tod := (s.tod + (x / 2 ^ 40).toNat) % 2 ^ 64, todFrac := (x % 2 ^ 40).toNat }

/-- A ns of TOD while quadrant 0's domain is on: from the reference of its PLL, or, while that is HELD, a SIRC cycle of 15,625/64 ns at a
time (R449); a set or step that waits takes effect. -/
def State.todTick (s : State) : State :=
  if s.domOn (domQuad 0) = false then s
  else
    let a := s.todSirc + 64
    (if s.quadStopped 0 = false then { s with todSirc := 0 }.todBy 64
    else if a < 15625 then { s with todSirc := a }
    else { s with todSirc := a - 15625 }.todBy 15625).todApply

/-- PPS_OUT falls at the end of its pulse. -/
def State.ppsTick (s : State) : State :=
  match s.ppsFall with
  | some t => if t ≤ s.now then { s with ppsFall := none }.emit (.pin "PPS_OUT" 0) else s
  | none => s

/-- One ns of a cycle counter whose clock runs at `mhz`: the state, and the clocks counted. -/
def State.cycAdd (s : State) (r : Reg) (i mhz : Nat) : State × Nat :=
  let f := tabGet s.cycFrac (r.ctorIdx, i) 0 + mhz
  ({ s with cycFrac := tabSet s.cycFrac (r.ctorIdx, i) (f % 1000) 0 }.bump r i (f / 1000), f / 1000)

/-- The clock of a PLL runs: it is LOCKED. -/
def State.pllOn (s : State) (i : Nat) : Bool := s.fld CLK_PLL.STATE i == 2

/-- The clocks of a pipe in one ns: its cycle counter, its clocks with both parser slots empty, its clocks in DOZE. The counters of
a RETIRED pipe keep their last values (R84). -/
def State.pipeTick (s : State) (p : Nat) : State :=
  if s.ust (tgt cPIPE p) = uOFF ∨ s.ust (tgt cPIPE p) = uRETIRED then s
  else
    let r := s.cycAdd .PPERF_CYC p 1600
    let s := r.1.perf (pipeSet p) 0x003 r.2
    if s.ust (tgt cPIPE p) = uDOZE then s.perf (pipeSet p) 0x012 r.2 else s

/-- The cycle counters of a bough: its own and its pipes'. -/
def State.boughTick (s : State) (b : Nat) : State :=
  if s.domOn (domBough b) && s.pllOn (0x20 + b) then
    eachIn ((List.range 8).map (fun k => 8 * b + k)) (s.cycAdd .BPERF_CYC b 1600).1 State.pipeTick
  else s

/-- Of the first `c` clocks of a Grist group, those that a limit of `lim` sixteenths holds (R415): the last ones of every sixteen
(DESIGN CHOICE: which ones is not stated). -/
def heldClocks (lim c : Nat) : Nat := c / 16 * (16 - lim) + (c % 16 - lim)

/-- The clocks of Grist group `q` in one ns, and those its issue limit holds (R383, code 0x204). -/
def State.gristTick (s : State) (q mhz : Nat) : State :=
  let c := s.cnt .PERF_CYC (4 + q)
  let lim := s.fld GRIST_G_LIMIT.LIM q
  let r := s.cycAdd .PERF_CYC (4 + q) mhz
  r.1.perf (tunSet (4 + q)) 0x204 (heldClocks lim (c + r.2) - heldClocks lim c)

/-- The cycle counters of a quadrant and of its Grist group, at the quadrant's frequency. -/
def State.quadTick (s : State) (q : Nat) : State :=
  if s.domOn (domQuad q) && s.pllOn (0x10 + q) then
    let s := (s.cycAdd .PERF_CYC q (s.fld PWR_QUAD.FREQ q)).1
    if s.domOn (domGrist q) then s.gristTick q (s.fld PWR_QUAD.FREQ q) else s
  else s

/-- The Cellar's cycle counter. -/
def State.cellarTick (s : State) : State :=
  if s.domOn domCellar then (s.cycAdd .PERF_CYC 8 Config.cellarMhz.toNat).1 else s

/-- The FEC counters of a port that receives codewords (R150). What they have counted when time passes is nothing the model
can know: each grows by a free value. -/
def State.fecTick (s : State) (p : Nat) : State :=
  if s.fld PORT_STATUS.FEC_ACT p ≠ 0 ∧ pALIGNING ≤ s.pstate p then
    eachIn [Reg.FEC_CW, .FEC_CORR_CW, .FEC_UNCORR_CW, .FEC_SYM_CORR] s (fun s r => (s.bump r p s.free).drawn)
  else s

/-- One ns in which no command waits. -/
def State.tick (s : State) : State :=
  let s := ((({ s with now := s.now + 1 }.todTick).ppsTick).showSynce).busGoes
  let s := (eachIn ((List.range 9).filter (fun st => (s.store st).sw.isSome)) s State.switchStep).actSettle.droopTick
  let s := eachIn s.confPorts s State.fecTick
  (eachIn (List.range 4) (eachIn (List.range 8) s State.boughTick) State.quadTick).cellarTick

end Sys2Proof.Machine
end

