-- ==== Sys2Proof/Machine/Dispatch.lean ====
section
/-! DEFINITION. Which meaning each command of the table has: one arm per constructor. -/
namespace Sys2Proof.Machine

/-- A command's effect on everything but the queue. -/
def exec (i : Instr) (s : State) : Host.Outcome State Fault Refusal :=
  match i with
  | .nop p => Sys2Proof.Machine.execNop p s
  | .identify p => Sys2Proof.Machine.execIdentify p s
  | .fenceCmd p => Sys2Proof.Machine.execFenceCmd p s
  | .getStatus p => Sys2Proof.Machine.execGetStatus p s
  | .cmdSqDoorbell chan value => Sys2Proof.Machine.execCmdSqDoorbell chan value s
  | .cmdCqHeadWrite chan value => Sys2Proof.Machine.execCmdCqHeadWrite chan value s
  | .cmdRingEnable chan irqEn => Sys2Proof.Machine.execCmdRingEnable chan irqEn s
  | .cmdRingDisable chan irqEn => Sys2Proof.Machine.execCmdRingDisable chan irqEn s
  | .cmdFetchError => Sys2Proof.Machine.execCmdFetchError s
  | .pendingComplete index late env => Sys2Proof.Machine.execPendingComplete index late env s
  | .fenceWaitEnd => Sys2Proof.Machine.execFenceWaitEnd s
  | .cqReplyRelease => Sys2Proof.Machine.execCqReplyRelease s
  | .heldCommandRelease => Sys2Proof.Machine.execHeldCommandRelease s
  | .cmdIrqCoalTimeout => Sys2Proof.Machine.execCmdIrqCoalTimeout s
  | .svcCommandFrame words short => Sys2Proof.Machine.execSvcCommandFrame words short s
  | .svcPortDisconnect => Sys2Proof.Machine.execSvcPortDisconnect s
  | .pktDmaEnable chan => Sys2Proof.Machine.execPktDmaEnable chan s
  | .pktDmaDisable chan => Sys2Proof.Machine.execPktDmaDisable chan s
  | .pktTxDoorbell chan ring value => Sys2Proof.Machine.execPktTxDoorbell chan ring value s
  | .pktTxFrame ring entry bytes => Sys2Proof.Machine.execPktTxFrame ring entry bytes s
  | .pktRxDoorbell chan ring value => Sys2Proof.Machine.execPktRxDoorbell chan ring value s
  | .pktRxDeliver addrs => Sys2Proof.Machine.execPktRxDeliver addrs s
  | .pktDmaError kind ring => Sys2Proof.Machine.execPktDmaError kind ring s
  | .pktIrqCoalTimeout ring => Sys2Proof.Machine.execPktIrqCoalTimeout ring s
  | .snapshot p => Sys2Proof.Machine.execSnapshot p s
  | .registerWrite chan offset words full => Sys2Proof.Machine.execRegisterWrite chan offset words full s
  | .rcRegisterRead chan offset count => Sys2Proof.Machine.execRcRegisterRead chan offset count s
  | .pairLoRead chan offset => Sys2Proof.Machine.execPairLoRead chan offset s
  | .svcRegisterRead reqType req wValue wIndex wLength => Sys2Proof.Machine.execSvcRegisterRead reqType req wValue wIndex wLength s
  | .svcRegisterWrite reqType req wValue wIndex wLength data => Sys2Proof.Machine.execSvcRegisterWrite reqType req wValue wIndex wLength data s
  | .pairCommit block value => Sys2Proof.Machine.execPairCommit block value s
  | .pairApply block => Sys2Proof.Machine.execPairApply block s
  | .glbResetWarm chan key => Sys2Proof.Machine.execGlbResetWarm chan key s
  | .glbResetCold chan key => Sys2Proof.Machine.execGlbResetCold chan key s
  | .laneCfg p => Sys2Proof.Machine.execLaneCfg p s
  | .laneTest p => Sys2Proof.Machine.execLaneTest p s
  | .eyeScan p => Sys2Proof.Machine.execEyeScan p s
  | .laneFom p => Sys2Proof.Machine.execLaneFom p s
  | .laneCalDone lane pass => Sys2Proof.Machine.execLaneCalDone lane pass s
  | .laneSignalDetect lane => Sys2Proof.Machine.execLaneSignalDetect lane s
  | .laneSignalLoss lane => Sys2Proof.Machine.execLaneSignalLoss lane s
  | .laneTrainFrame lane info marker inverted => Sys2Proof.Machine.execLaneTrainFrame lane info marker inverted s
  | .laneTrainPhaseEnd e => Sys2Proof.Machine.execLaneTrainPhaseEnd e s
  | .laneTrainTimeout lane => Sys2Proof.Machine.execLaneTrainTimeout lane s
  | .laneLock lane m inverted => Sys2Proof.Machine.execLaneLock lane m inverted s
  | .laneHuntTimeout lane => Sys2Proof.Machine.execLaneHuntTimeout lane s
  | .laneLockLoss e => Sys2Proof.Machine.execLaneLockLoss e s
  | .laneRetryTimer lane => Sys2Proof.Machine.execLaneRetryTimer lane s
  | .fomWindowEnd lane a m => Sys2Proof.Machine.execFomWindowEnd lane a m s
  | .laneSafePoint lane which up => Sys2Proof.Machine.execLaneSafePoint lane which up s
  | .laneLpiEntry lane => Sys2Proof.Machine.execLaneLpiEntry lane s
  | .steepEntry port => Sys2Proof.Machine.execSteepEntry port s
  | .steepEidleRx port => Sys2Proof.Machine.execSteepEidleRx port s
  | .steepBurstRx port => Sys2Proof.Machine.execSteepBurstRx port s
  | .laneWakeRequest lane => Sys2Proof.Machine.execLaneWakeRequest lane s
  | .steepStaleTimer port => Sys2Proof.Machine.execSteepStaleTimer port s
  | .laneWakeLimit lane => Sys2Proof.Machine.execLaneWakeLimit lane s
  | .prbsCheckerLock e => Sys2Proof.Machine.execPrbsCheckerLock e s
  | .prbsCheckerLockLoss lane bits errs => Sys2Proof.Machine.execPrbsCheckerLockLoss lane bits errs s
  | .twigDeepDoze twig => Sys2Proof.Machine.execTwigDeepDoze twig s
  | .twigPllWake twig => Sys2Proof.Machine.execTwigPllWake twig s
  | .portCfg p => Sys2Proof.Machine.execPortCfg p s
  | .portEnable p => Sys2Proof.Machine.execPortEnable p s
  | .portStatus p => Sys2Proof.Machine.execPortStatus p s
  | .pfcCfg p => Sys2Proof.Machine.execPfcCfg p s
  | .ptpCfg p => Sys2Proof.Machine.execPtpCfg p s
  | .portAligned port => Sys2Proof.Machine.execPortAligned port s
  | .portAlignTimeout port => Sys2Proof.Machine.execPortAlignTimeout port s
  | .portAlignRetry port => Sys2Proof.Machine.execPortAlignRetry port s
  | .portFaultStart port remote => Sys2Proof.Machine.execPortFaultStart port remote s
  | .portHoldoffExpire port => Sys2Proof.Machine.execPortHoldoffExpire port s
  | .portFaultClear port => Sys2Proof.Machine.execPortFaultClear port s
  | .rxFrame port bytes errored => Sys2Proof.Machine.execRxFrame port bytes errored s
  | .pauseTimerExpire port prio => Sys2Proof.Machine.execPauseTimerExpire port prio s
  | .portLpiIdle port => Sys2Proof.Machine.execPortLpiIdle port s
  | .tsPop chan port value => Sys2Proof.Machine.execTsPop chan port value s
  | .flitRx cluster dn body crc => Sys2Proof.Machine.execFlitRx cluster dn body crc s
  | .nakRepeat cluster dn => Sys2Proof.Machine.execNakRepeat cluster dn s
  | .rootClkLoss cluster dn => Sys2Proof.Machine.execRootClkLoss cluster dn s
  | .rootLaneSwap cluster dn => Sys2Proof.Machine.execRootLaneSwap cluster dn s
  | .rootSwapPatternEnd cluster dn failed => Sys2Proof.Machine.execRootSwapPatternEnd cluster dn failed s
  | .rootSpareDeskew cluster dn spare pass => Sys2Proof.Machine.execRootSpareDeskew cluster dn spare pass s
  | .rootClusterTrain cluster failUp failDn clock => Sys2Proof.Machine.execRootClusterTrain cluster failUp failDn clock s
  | .pinMapChange bough => Sys2Proof.Machine.execPinMapChange bough s
  | .repinFenceRx cluster => Sys2Proof.Machine.execRepinFenceRx cluster s
  | .repinEndWaitExpire bough => Sys2Proof.Machine.execRepinEndWaitExpire bough s
  | .reseqGapSkip port => Sys2Proof.Machine.execReseqGapSkip port s
  | .pipeFrameEntry pipe slot tail => Sys2Proof.Machine.execPipeFrameEntry pipe slot tail s
  | .clsResultReturn pipe n mem => Sys2Proof.Machine.execClsResultReturn pipe n mem s
  | .pipeDispose pipe excess => Sys2Proof.Machine.execPipeDispose pipe excess s
  | .egressProcess port sent => Sys2Proof.Machine.execEgressProcess port sent s
  | .pipeDozeEntry pipe => Sys2Proof.Machine.execPipeDozeEntry pipe s
  | .pipeWake pipe => Sys2Proof.Machine.execPipeWake pipe s
  | .pipeFosterStart pipe => Sys2Proof.Machine.execPipeFosterStart pipe s
  | .pipeFosterHandback pipe => Sys2Proof.Machine.execPipeFosterHandback pipe s
  | .pipeNoProgress pipe => Sys2Proof.Machine.execPipeNoProgress pipe s
  | .progLoad p => Sys2Proof.Machine.execProgLoad p s
  | .progPatch p => Sys2Proof.Machine.execProgPatch p s
  | .storeModeSet p => Sys2Proof.Machine.execStoreModeSet p s
  | .progActivate p => Sys2Proof.Machine.execProgActivate p s
  | .progRead p => Sys2Proof.Machine.execProgRead p s
  | .walkerSafePoint store n => Sys2Proof.Machine.execWalkerSafePoint store n s
  | .safeWatchdog store ctx => Sys2Proof.Machine.execSafeWatchdog store ctx s
  | .storeScrub store addr corrected => Sys2Proof.Machine.execStoreScrub store addr corrected s
  | .patchSetCurrent store => Sys2Proof.Machine.execPatchSetCurrent store s
  | .tblProfile p => Sys2Proof.Machine.execTblProfile p s
  | .tblInsert p => Sys2Proof.Machine.execTblInsert p s
  | .tblDelete p => Sys2Proof.Machine.execTblDelete p s
  | .tblLookup p => Sys2Proof.Machine.execTblLookup p s
  | .tblDma p => Sys2Proof.Machine.execTblDma p s
  | .tblAudit p => Sys2Proof.Machine.execTblAudit p s
  | .tblLock p => Sys2Proof.Machine.execTblLock p s
  | .tblLearnCfg p => Sys2Proof.Machine.execTblLearnCfg p s
  | .learnExecute bough => Sys2Proof.Machine.execLearnExecute bough s
  | .ageTick bough table => Sys2Proof.Machine.execAgeTick bough table s
  | .learnRecordWrite bough => Sys2Proof.Machine.execLearnRecordWrite bough s
  | .learnRingEnable bough irqEn => Sys2Proof.Machine.execLearnRingEnable bough irqEn s
  | .clsWrite p => Sys2Proof.Machine.execClsWrite p s
  | .clsRead p => Sys2Proof.Machine.execClsRead p s
  | .clsTreeLoad p => Sys2Proof.Machine.execClsTreeLoad p s
  | .tcamScrub partition index => Sys2Proof.Machine.execTcamScrub partition index s
  | .ecmpGroupSet p => Sys2Proof.Machine.execEcmpGroupSet p s
  | .ecmpMemberSet p => Sys2Proof.Machine.execEcmpMemberSet p s
  | .hashCfg p => Sys2Proof.Machine.execHashCfg p s
  | .flowletSweep bough => Sys2Proof.Machine.execFlowletSweep bough s
  | .imbWindowEnd bough => Sys2Proof.Machine.execImbWindowEnd bough s
  | .poolCfg p => Sys2Proof.Machine.execPoolCfg p s
  | .queueCfg p => Sys2Proof.Machine.execQueueCfg p s
  | .qholdCfg p => Sys2Proof.Machine.execQholdCfg p s
  | .frameAdmit r internal => Sys2Proof.Machine.execFrameAdmit r internal s
  | .allocatorMatch flips => Sys2Proof.Machine.execAllocatorMatch flips s
  | .frameEofArrive r internal => Sys2Proof.Machine.execFrameEofArrive r internal s
  | .schedPick port broken readable => Sys2Proof.Machine.execSchedPick port broken readable s
  | .dnAck cluster => Sys2Proof.Machine.execDnAck cluster s
  | .portHoldEnter port => Sys2Proof.Machine.execPortHoldEnter port s
  | .qholdDeadline port => Sys2Proof.Machine.execQholdDeadline port s
  | .flushFree n => Sys2Proof.Machine.execFlushFree n s
  | .tallyPass => Sys2Proof.Machine.execTallyPass s
  | .bankReplace n flips => Sys2Proof.Machine.execBankReplace n flips s
  | .bankLeaveService lbank => Sys2Proof.Machine.execBankLeaveService lbank s
  | .spillCfg p => Sys2Proof.Machine.execSpillCfg p s
  | .rackBlock q => Sys2Proof.Machine.execRackBlock q s
  | .rackWriteDone q repeats => Sys2Proof.Machine.execRackWriteDone q repeats s
  | .drawIssue q => Sys2Proof.Machine.execDrawIssue q s
  | .drawComplete q bseq repeats corrected poison tagBad => Sys2Proof.Machine.execDrawComplete q bseq repeats corrected poison tagBad s
  | .cellarRetrain ch pass temp => Sys2Proof.Machine.execCellarRetrain ch pass temp s
  | .cellarChannelRetire ch => Sys2Proof.Machine.execCellarChannelRetire ch s
  | .cellarChannelDead ch => Sys2Proof.Machine.execCellarChannelDead ch s
  | .cellarWinAccess chan value => Sys2Proof.Machine.execCellarWinAccess chan value s
  | .cellarWinDone result => Sys2Proof.Machine.execCellarWinDone result s
  | .schedCfg p => Sys2Proof.Machine.execSchedCfg p s
  | .shaperCfg p => Sys2Proof.Machine.execShaperCfg p s
  | .wredCfg p => Sys2Proof.Machine.execWredCfg p s
  | .pfcWdCfg p => Sys2Proof.Machine.execPfcWdCfg p s
  | .hwmRead p => Sys2Proof.Machine.execHwmRead p s
  | .meterCfg p => Sys2Proof.Machine.execMeterCfg p s
  | .meterRead p => Sys2Proof.Machine.execMeterRead p s
  | .pfcXoffChange port => Sys2Proof.Machine.execPfcXoffChange port s
  | .pfcRefreshTimer port => Sys2Proof.Machine.execPfcRefreshTimer port s
  | .pfcWdCheck q => Sys2Proof.Machine.execPfcWdCheck q s
  | .telemStreamCfg p => Sys2Proof.Machine.execTelemStreamCfg p s
  | .sapFlag p => Sys2Proof.Machine.execSapFlag p s
  | .telemRead p => Sys2Proof.Machine.execTelemRead p s
  | .tagCfg p => Sys2Proof.Machine.execTagCfg p s
  | .ioamCfg p => Sys2Proof.Machine.execIoamCfg p s
  | .perfCfg p => Sys2Proof.Machine.execPerfCfg p s
  | .perfRead p => Sys2Proof.Machine.execPerfRead p s
  | .todSet => Sys2Proof.Machine.execTodSet s
  | .todStep => Sys2Proof.Machine.execTodStep s
  | .ppsOutEdge => Sys2Proof.Machine.execPpsOutEdge s
  | .ppsInEdge => Sys2Proof.Machine.execPpsInEdge s
  | .exportFrameBuild stream => Sys2Proof.Machine.execExportFrameBuild stream s
  | .exportFlushTimer stream => Sys2Proof.Machine.execExportFlushTimer stream s
  | .exportFrameLost => Sys2Proof.Machine.execExportFrameLost s
  | .perfIntervalEnd target => Sys2Proof.Machine.execPerfIntervalEnd target s
  | .gristGroupOpen p => Sys2Proof.Machine.execGristGroupOpen p s
  | .gristGroupClose p => Sys2Proof.Machine.execGristGroupClose p s
  | .gristGroupStatus p => Sys2Proof.Machine.execGristGroupStatus p s
  | .gristContrib cluster => Sys2Proof.Machine.execGristContrib cluster s
  | .gristChunkTimeout group chunk => Sys2Proof.Machine.execGristChunkTimeout group chunk s
  | .gristEmit group => Sys2Proof.Machine.execGristEmit group s
  | .gristResultRetry slot => Sys2Proof.Machine.execGristResultRetry slot s
  | .gristParentRx cluster => Sys2Proof.Machine.execGristParentRx cluster s
  | .gristCloseTimeout group => Sys2Proof.Machine.execGristCloseTimeout group s
  | .gristChunkReset engine cause group chunk => Sys2Proof.Machine.execGristChunkReset engine cause group chunk s
  | .gristEngineTakeover engine pass => Sys2Proof.Machine.execGristEngineTakeover engine pass s
  | .gristSlotLoss engine => Sys2Proof.Machine.execGristSlotLoss engine s
  | .gristEngineDoze engine => Sys2Proof.Machine.execGristEngineDoze engine s
  | .setMode p => Sys2Proof.Machine.execSetMode p s
  | .unitGraft p => Sys2Proof.Machine.execUnitGraft p s
  | .unitRestore p => Sys2Proof.Machine.execUnitRestore p s
  | .unitRetire p => Sys2Proof.Machine.execUnitRetire p s
  | .unitState p => Sys2Proof.Machine.execUnitState p s
  | .dozeCfg p => Sys2Proof.Machine.execDozeCfg p s
  | .bootStart => Sys2Proof.Machine.execBootStart s
  | .steepStepGrant pIn vinMin => Sys2Proof.Machine.execSteepStepGrant pIn vinMin s
  | .domainPowerGood dom mv => Sys2Proof.Machine.execDomainPowerGood dom mv s
  | .regulatorFail dom mv => Sys2Proof.Machine.execRegulatorFail dom mv s
  | .drainComplete => Sys2Proof.Machine.execDrainComplete s
  | .drainLimitExpire => Sys2Proof.Machine.execDrainLimitExpire s
  | .selfTestDone dom fails => Sys2Proof.Machine.execSelfTestDone dom fails s
  | .cellarTrainingDone chan result => Sys2Proof.Machine.execCellarTrainingDone chan result s
  | .clkSwitch p => Sys2Proof.Machine.execClkSwitch p s
  | .clkTrim p => Sys2Proof.Machine.execClkTrim p s
  | .clkStatus p => Sys2Proof.Machine.execClkStatus p s
  | .clkSrcEnWrite src en => Sys2Proof.Machine.execClkSrcEnWrite src en s
  | .clkTrimWrite src code => Sys2Proof.Machine.execClkTrimWrite src code s
  | .chainEnWrite pll en => Sys2Proof.Machine.execChainEnWrite pll en s
  | .clkMonitorWindow counts => Sys2Proof.Machine.execClkMonitorWindow counts s
  | .clkSourceReady src => Sys2Proof.Machine.execClkSourceReady src s
  | .clkStartTimeout src => Sys2Proof.Machine.execClkStartTimeout src s
  | .clkSourceRetry src => Sys2Proof.Machine.execClkSourceRetry src s
  | .muxForceSelect pll => Sys2Proof.Machine.execMuxForceSelect pll s
  | .pllLocked pll pass => Sys2Proof.Machine.execPllLocked pll pass s
  | .pllLockLoss pll => Sys2Proof.Machine.execPllLockLoss pll s
  | .trimMeasure osc ppm => Sys2Proof.Machine.execTrimMeasure osc ppm s
  | .sircFault cycles => Sys2Proof.Machine.execSircFault cycles s
  | .usbSofMark => Sys2Proof.Machine.execUsbSofMark s
  | .pwrHint p => Sys2Proof.Machine.execPwrHint p s
  | .pwrOpp p => Sys2Proof.Machine.execPwrOpp p s
  | .pwrCap p => Sys2Proof.Machine.execPwrCap p s
  | .pwrStatus p => Sys2Proof.Machine.execPwrStatus p s
  | .pwrPriv p => Sys2Proof.Machine.execPwrPriv p s
  | .vinRangeEvent => Sys2Proof.Machine.execVinRangeEvent s
  | .vinBackInRange => Sys2Proof.Machine.execVinBackInRange s
  | .vinUndervoltage => Sys2Proof.Machine.execVinUndervoltage s
  | .vinPowerLoss => Sys2Proof.Machine.execVinPowerLoss s
  | .vinRecover => Sys2Proof.Machine.execVinRecover s
  | .hwIlim acts => Sys2Proof.Machine.execHwIlim acts s
  | .capTick vin iin mj doms above => Sys2Proof.Machine.execCapTick vin iin mj doms above s
  | .capUnmet => Sys2Proof.Machine.execCapUnmet s
  | .oppStep quad => Sys2Proof.Machine.execOppStep quad s
  | .droopTrip e => Sys2Proof.Machine.execDroopTrip e s
  | .droopRecover dom clocks => Sys2Proof.Machine.execDroopRecover dom clocks s
  | .estWindow dom e m whole cut => Sys2Proof.Machine.execEstWindow dom e m whole cut s
  | .thermalSample dom regulator temp => Sys2Proof.Machine.execThermalSample dom regulator temp s
  | .thermalShutdown => Sys2Proof.Machine.execThermalShutdown s
  | .hintActivate id => Sys2Proof.Machine.execHintActivate id s
  | .hintExpire id => Sys2Proof.Machine.execHintExpire id s
  | .regulatorProtectionTrip dom mv => Sys2Proof.Machine.execRegulatorProtectionTrip dom mv s
  | .fltAck p => Sys2Proof.Machine.execFltAck p s
  | .fltHistory p => Sys2Proof.Machine.execFltHistory p s
  | .fltMask p => Sys2Proof.Machine.execFltMask p s
  | .fltInject p => Sys2Proof.Machine.execFltInject p s
  | .faultEventCollect => Sys2Proof.Machine.execFaultEventCollect s
  | .errPulseEnd => Sys2Proof.Machine.execErrPulseEnd s
  | .fltHistSelWrite index => Sys2Proof.Machine.execFltHistSelWrite index s
  | .lockstepMismatch pc => Sys2Proof.Machine.execLockstepMismatch pc s
  | .malthouseWatchdog => Sys2Proof.Machine.execMalthouseWatchdog s
  | .fwBegin p => Sys2Proof.Machine.execFwBegin p s
  | .fwBlock p => Sys2Proof.Machine.execFwBlock p s
  | .fwVerify p => Sys2Proof.Machine.execFwVerify p s
  | .fwActivate p => Sys2Proof.Machine.execFwActivate p s
  | .fwInfo p => Sys2Proof.Machine.execFwInfo p s
  | .fwCheckin => Sys2Proof.Machine.execFwCheckin s
  | .fwCheckinTimeout => Sys2Proof.Machine.execFwCheckinTimeout s
  | .dfuDownload bytes fails => Sys2Proof.Machine.execDfuDownload bytes fails s
  | .dfuManifest => Sys2Proof.Machine.execDfuManifest s
  | .porAssert pin => Sys2Proof.Machine.execPorAssert pin s
  | .porRelease pin levels => Sys2Proof.Machine.execPorRelease pin levels s
  | .jtagInstruction code => Sys2Proof.Machine.execJtagInstruction code s
  | .testLogicReset => Sys2Proof.Machine.execTestLogicReset s
  | .smbBlockRead block code pecNack => Sys2Proof.Machine.execSmbBlockRead block code pecNack s
  | .smbAlertResponse => Sys2Proof.Machine.execSmbAlertResponse s
  | .usbConnect => Sys2Proof.Machine.execUsbConnect s

end Sys2Proof.Machine
end

