-- ==== Sys2Proof/Safety.lean ====
section
/-! DEFINITION. Safe runs, and the conditions on state and operands under which statements say that a command takes effect. The
module never stops: bus errors, refused commands and FATAL events are all effects the spec describes (R49, R74, R502). -/
namespace Sys2Proof.Machine

/-- A step of this state answers a next state. -/
def State.goesOn (s : State) : Prop := ∃ t, step s = .next t

/-- A write of one word on a channel reaches the control bus, waits for no hold of Q0's clock (R457) and passes every check of R74 and R77: it lands in element `i` of
register `r`. -/
abbrev State.lands (s : State) (chan : Nat) (r : Reg) (i : Nat) : Prop :=
  s.busUp chan = true ∧ s.busWaits chan (regOffset r i) = false ∧ s.busCheck chan (regOffset r i) 1 true true = .inl ⟨r, i, false⟩

/-- The module takes a packet of opcode `code` now (R34), no FENCE makes it wait (R43, R55), it passes R49, steps 1 to 8, and
no recovery holds its unit (R32). -/
abbrev State.takes (s : State) (code : Nat) (p : Packet) : Prop :=
  p.opcode = code ∧ s.ready p = true ∧
  ((fenceFlag p || code == 0x0004 || code == 0x0A04) && !(s.take.cmd.jobs.isEmpty && s.take.cmd.heldReps.isEmpty)) = false ∧
  accept s.take p = none ∧ s.take.mustWait p = false ∧ p.slow = false

/-- The state after a command's effect and reply `q` (R46, R50, R53): the reply is written; or, where the command goes on, it is
PENDING or blocks the sequence. -/
def State.answered (s : State) (p : Packet) (q : State × Rep) : State :=
  if q.2.later then (if s.mayPend p then q.1.addJob p .running else q.1.block p .running) else q.1.reply p q.2

/-- Registers outside a list hold the same words in both states. -/
abbrev State.regsKept (s t : State) (l : List Reg) : Prop := ∀ (q : Reg) (i : Nat), q ∉ l → t.reg q i = s.reg q i

/-- The registers whose writes do more, or other, than their access types say (R39, R67, R71, R75, R86, R90 and the owning
chapters). -/
def Reg.ownWrite : Reg → Bool
  | .GLB_RESET_CTL | .CLK_SRC | .CLK_PLL | .PWR_ALERT_MASK | .FLT_PIN_CTL | .FLT_HIST_SEL | .GPIO_OUT | .GPIO_OE | .PORT_TS_POP => true
  | .BOUGH_PAIR_COMMIT | .TUN_PAIR_COMMIT | .ROOT_LANE_SEL | .TBL_LEARN_CTL | .CELLAR_WIN_CTL | .TELEM_TOD_CTL => true
  | .CMD_CTL | .CMD_SQ_TAIL | .CMD_CQ_HEAD | .CMD_SQ_BASE_LO | .CMD_SQ_BASE_HI | .CMD_SQ_SIZE | .CMD_CQ_BASE_LO => true
  | .CMD_CQ_BASE_HI | .CMD_CQ_SIZE | .PKT_CTL | .PKT_TX_TAIL | .PKT_RX_TAIL | .PKT_TX_BASE_LO | .PKT_TX_BASE_HI => true
  | .PKT_TX_SIZE | .PKT_RX_BASE_LO | .PKT_RX_BASE_HI | .PKT_RX_SIZE | .MSIX_TABLE => true
  | .CMD_IRQ_CTL | .PKT_TX_IRQ | .PKT_RX_IRQ | .TBL_LEARN_BASE_LO | .TBL_LEARN_BASE_HI | .TBL_LEARN_SIZE | .TBL_LEARN_HEAD => true
  | _ => false

/-- The elements of a register array. -/
def Reg.elems (r : Reg) : Nat := r.info.dims.foldl (fun a d => a * d.1) 1

/-- What the OTP holds has not gone back from `s` to `t`: the same key hashes, no lower minimum SVN, and every revocation that was
set (R522). -/
def State.otpKept (s t : State) : Prop :=
  t.fw.keys = s.fw.keys ∧ s.fw.minSvn ≤ t.fw.minSvn ∧ ∀ k, s.fw.rev.getD k false = true → t.fw.rev.getD k false = true

end Sys2Proof.Machine
end

