-- ==== Sys2Proof/Certificates/Slice0/Obligations.lean ====
section
/-! DEFINITION. The statements about the module that the provers settle. Each clause of an events statement names the
conditions on the state and the operands under which a command takes effect, and the next state it then answers. -/
open Sys2Proof
open Sys2Proof.Machine

/-- For every state and lane meeting the named conditions, each lane bring-up event (calibration end, signal detect and loss, training frame, phase end, training and hunt timeouts, lock, retry timer) answers a next state, which is the stated one. (R95, R96, R97, R99, R100, R101, R103, R105.) -/
def Obligations.LaneTrainingEvents : Prop :=
  (∀ (s : State) (l : Nat), s.ust (tgt cLANE l) = uWAKING → 
      exec (.laneCalDone l true) s = .next ((((s.setUst (tgt cLANE l) uREADY 0).setFld LANE_STATUS.LSTATE l lDOWN).showTx l .highZ).steepCheck))
  ∧ (∀ (s : State) (l : Nat), s.ust (tgt cLANE l) = uWAKING → 
      exec (.laneCalDone l false) s = .next ((s.retire (tgt cLANE l) 3).steepCheck))
  ∧ (∀ (s : State) (l : Nat), s.linkable l = true → s.lstate l = lDETECT → (s.setFld LANE_STATUS.SIG l 1).trains l = false → 
      exec (.laneSignalDetect l) s = .next ((s.setFld LANE_STATUS.SIG l 1).enterHunt l))
  ∧ (∀ (s : State) (l : Nat), s.linkable l = true → s.lstate l = lDETECT → (s.setFld LANE_STATUS.SIG l 1).trains l = true → 
      exec (.laneSignalDetect l) s = .next ((s.setFld LANE_STATUS.SIG l 1).enterTrain l))
  ∧ (∀ (s : State) (l : Nat), s.linkable l = true → s.lstate l = lHUNT → 
      exec (.laneSignalLoss l) s = .next ((s.setFld LANE_STATUS.SIG l 0).setLState l lDETECT 1))
  ∧ (∀ (s : State) (l : Nat), s.linkable l = true → s.lstate l = lUP → 
      exec (.laneSignalLoss l) s = .next ((((s.setFld LANE_STATUS.SIG l 0).lockLost l).setLState l lDETECT 1).laneFault l))
  ∧ (∀ (s : State) (l info : Nat), s.linkable l = true → s.lstate l = lTRAIN → s.trains l = true → s.rateOf l = 6 → frameCrcOk info = true → nbits info 24 4 = 1 → 
      exec (.laneTrainFrame l info true false) s = .next (s.goodFrame l info))
  ∧ (∀ (s : State) (l info : Nat), s.linkable l = true → s.lstate l = lTRAIN → s.trains l = true → s.rateOf l = 6 → 
      exec (.laneTrainFrame l info false false) s = .next ((s.setLane l { s.lane l with goodMk := 0, badMk := (s.lane l).badMk + 1, frameLock := (s.lane l).frameLock && decide ((s.lane l).badMk + 1 < 8), readyRx := 0 }).trainSend l))
  ∧ (∀ (s : State) (l : Nat) (eq : List Int), s.linkable l = true → s.lstate l = lTRAIN → s.rateOf l ≠ 6 → 
      exec (.laneTrainPhaseEnd ⟨l, eq⟩) s = .next ((s.trainAdapt l eq).enterHunt l))
  ∧ (∀ (s : State) (l : Nat) (eq : List Int), s.linkable l = true → s.lstate l = lTRAIN → s.rateOf l = 6 → s.fld LANE_STATUS.TRAIN_PHASE l = 1 → 8 ≤ (s.lane l).validT1 → 
      exec (.laneTrainPhaseEnd ⟨l, eq⟩) s = .next ((let t := s.setFld LANE_STATUS.TRAIN_PHASE l 2
      t.setLane l { t.lane l with trainer := (t.lane l).trainer.begin 2 t.now })))
  ∧ (∀ (s : State) (l : Nat) (eq : List Int), s.linkable l = true → s.lstate l = lTRAIN → s.rateOf l = 6 → s.fld LANE_STATUS.TRAIN_PHASE l = 6 → 
      exec (.laneTrainPhaseEnd ⟨l, eq⟩) s = .next ((s.countdown l).enterHunt l))
  ∧ (∀ (s : State) (l : Nat), s.linkable l = true → s.lstate l = lTRAIN → s.rateOf l ≠ 6 ∨ s.trainLate l = true → 
      exec (.laneTrainTimeout l) s = .next (s.attemptFailed l))
  ∧ (∀ (s : State) (l sub num : Nat) (seen : List Nat), s.linkable l = true → s.lstate l = lHUNT → s.lockSeen l seen = true → (s.subLock l sub num).allLocked l = true → 
      exec (.laneLock l ⟨sub, num, seen⟩ false) s = .next ((s.subLock l sub num).hunted l))
  ∧ (∀ (s : State) (l sub num : Nat) (seen : List Nat), s.linkable l = true → s.lstate l = lWAKE → s.lockSeen l seen = true → (s.subLock l sub num).allLocked l = true → 
      exec (.laneLock l ⟨sub, num, seen⟩ false) s = .next ((s.subLock l sub num).setLState l lUP 1))
  ∧ (∀ (s : State) (l : Nat), s.linkable l = true → s.lstate l = lHUNT → (s.lane l).since + 10 * msNs ≤ s.now → 
      exec (.laneHuntTimeout l) s = .next (s.attemptFailed l))
  ∧ (∀ (s : State) (l : Nat) (seen : List Nat), s.linkable l = true → s.lstate l = lUP → s.lossSeen l seen = true → 
      exec (.laneLockLoss ⟨l, seen⟩) s = .next (((s.lockLost l).setLState l lHUNT 1).laneFault l))
  ∧ (∀ (s : State) (l p : Nat), s.linkable l = true → s.lstate l = lDOWN → (s.lane l).retry = true → (s.lane l).since + 100 * msNs ≤ s.now → s.portOf l = some p → (s.port p).enabled = true → 
      exec (.laneRetryTimer l) s = .next ((s.setLane l { s.lane l with retry := false }).setLState l lDETECT 1))

/-- Each FOM window, safe point, low-power, wake, twig PLL and pattern checker event answers the stated next state under the stated conditions. (R106, R107, R109, R118, R119, R120, R121, R115.) -/
def Obligations.LaneUpkeepEvents : Prop :=
  (∀ (s : State) (l a mse : Nat) (moves : List Int), s.linkable l = true → s.lstate l = lUP → 
      exec (.fomWindowEnd l a ⟨mse, moves⟩) s = .next ((let v := s.lane l
      ((s.setLane l { v with act := { v.act with adaptBg := v.cfg.adaptBg, fomMin := v.cfg.fomMin, drift := v.cfg.drift }, winFrozen := s.flag LANE_STATUS.FROZEN l, safeDue := true }).tapsTrack l moves).fomUp l (fomOf a mse) v.winFrozen)))
  ∧ (∀ (s : State) (l a mse : Nat) (moves : List Int), s.linkable l = true → s.lstate l = lTRAIN → s.rateOf l = 6 → 
      exec (.fomWindowEnd l a ⟨mse, moves⟩) s = .next (s.setLane l { s.lane l with trainer := (s.lane l).trainer.window (s.fld LANE_STATUS.TRAIN_PHASE l) (fomOf a mse) }))
  ∧ (∀ (s : State) (l which : Nat) (up : Bool), s.linkable l = true → s.lstate l = lUP → (s.lane l).safeDue = true → s.flag LANE_STATUS.FROZEN l = false → (s.lane l).act.adaptBg = true → s.flag LANE_STATUS.READAPT l = false → 
      exec (.laneSafePoint l which up) s = .next ((s.setLane l { s.lane l with safeDue := false }).eqStep l which up))
  ∧ (∀ (s : State) (l which : Nat) (up : Bool), s.linkable l = true → s.lstate l = lUP → (s.lane l).safeDue = true → s.flag LANE_STATUS.FROZEN l = false → s.flag LANE_STATUS.READAPT l = true → 
      exec (.laneSafePoint l which up) s = .next ((s.setLane l { s.lane l with safeDue := false }).readaptPoint l which up))
  ∧ (∀ (s : State) (l : Nat), s.linkable l = true → s.lstate l = lUP → eeePhy (s.rateOf l) (s.lane l).train = true → 
      exec (.laneLpiEntry l) s = .next (match (s.setLState l lQUIET 1).portOf l with | some p => (s.setLState l lQUIET 1).setFld PORT_STATUS.LPI_RX p 1 | none => s.setLState l lQUIET 1))
  ∧ (∀ (s : State) (p : Nat), s.steepOk p = true → (s.lanesOf p).all (fun l => s.lstate l == lUP) = true → 
      exec (.steepEntry p) s = .next ((s.eachLaneIn p lUP State.steepQuiet).setFld PORT_STATUS.LPI_TX p 1))
  ∧ (∀ (s : State) (p : Nat), s.steepOk p = true → (s.lanesOf p).any (fun l => s.lstate l == lUP) = true → 
      exec (.steepEidleRx p) s = .next (((s.eachLaneIn p lUP State.steepQuiet).setFld PORT_STATUS.LPI_TX p 1).setFld PORT_STATUS.LPI_RX p 1))
  ∧ (∀ (s : State) (p : Nat), s.steepIdle p = true → 
      exec (.steepBurstRx p) s = .next ((eachIn (s.lanesOf p) s (fun s l => s.wakeLane l)).burst p))
  ∧ (∀ (s : State) (l : Nat), s.linkable l = true → s.lstate l = lQUIET → s.ust (tgt cLANE l) ≠ uDEEP → (s.lane l).steepIdle = false → 
      exec (.laneWakeRequest l) s = .next (s.wakeLane l))
  ∧ (∀ (s : State) (l p : Nat), s.linkable l = true → s.lstate l = lQUIET → s.ust (tgt cLANE l) ≠ uDEEP → s.portOf l = some p → (s.lane l).steepIdle = true → 
      exec (.laneWakeRequest l) s = .next ((eachIn (s.lanesOf p) s (fun s l => s.wakeLane l)).burst p))
  ∧ (∀ (s : State) (p : Nat), s.steepIdle p = true → (s.lanesOf p).any s.stale = true → 
      exec (.steepStaleTimer p) s = .next ((eachIn (s.lanesOf p) s (fun s l => s.wakeLane l)).burst p))
  ∧ (∀ (s : State) (l p : Nat), s.linkable l = true → s.lstate l = lWAKE → (s.lane l).steepIdle = false → ((s.setLane l { s.lane l with steepIdle := false }).setLState l lDETECT 1).portOf l = some p → 
      exec (.laneWakeLimit l) s = .next ((((s.setLane l { s.lane l with steepIdle := false }).setLState l lDETECT 1).localFaultStart p).portFault p))
  ∧ (∀ (s : State) (l : Nat), s.linkable l = true → s.lstate l = lWAKE → (s.lane l).steepIdle = true → (s.lane l).since + 2 * usNs ≤ s.now → (((s.ev LANE_EVENT.STEEP_FAIL l).setLane l { s.lane l with steepIdle := false }).setLState l lDETECT 1).portOf l = none → 
      exec (.laneWakeLimit l) s = .next (((s.ev LANE_EVENT.STEEP_FAIL l).setLane l { s.lane l with steepIdle := false }).setLState l lDETECT 1))
  ∧ (∀ (s : State) (w us : Nat), s.deepIdle w = some us → (s.twig w).idleAt + us * usNs ≤ s.now → s.lanesIdle w = true → s.fld CLK_PLL.STATE (0x40 + w) = 2 → s.ust (tgt cTWIG w) = uREADY → 
      exec (.twigDeepDoze w) s = .next ((eachIn (List.range 8) ((s.setFld CLK_PLL.STATE (0x40 + w) 0).setUst (tgt cTWIG w) uDEEP 1) (fun s k =>
        if s.ust (tgt cLANE (w * 8 + k)) = uDOZE then s.setUst (tgt cLANE (w * 8 + k)) uDEEP 1 else s))))
  ∧ (∀ (s : State) (w : Nat), s.ust (tgt cTWIG w) = uDEEP → s.pllState (0x40 + w) = 0 → s.srcState (s.fld CLK_PLL.SRC (0x40 + w)) = kREADY → 
      exec (.twigPllWake w) s = .next ((eachIn (List.range 8) ((s.setFld CLK_PLL.STATE (0x40 + w) 2).setUst (tgt cTWIG w) uDOZE 1) (fun s k =>
        if s.ust (tgt cLANE (w * 8 + k)) = uDEEP then s.setUst (tgt cLANE (w * 8 + k)) uDOZE 1 else s))))
  ∧ (∀ (s : State) (l : Nat) (rx : List Bool), s.lstate l = lTEST → (s.lane l).test.chk = true → (s.lane l).test.fed = true → checkerLocks (s.lane l).test rx = true → 
      exec (.prbsCheckerLock ⟨l, rx⟩) s = .next (s.setFld LANE_PRBS_STATUS.CHK_LOCK l 1))
  ∧ (∀ (s : State) (l bits : Nat) (errs : List Nat), s.flag LANE_PRBS_STATUS.CHK_LOCK l = true → checkerLoses bits errs = true → 
      exec (.prbsCheckerLockLoss l bits errs) s = .next (((s.setFld LANE_PRBS_STATUS.CHK_LOCK l 0).bump .LANE_PRBS_BITS l bits).bump .LANE_PRBS_ERR l errs.length))

/-- Alignment, fault, pause, LPI and timestamp events of a port, and a received frame, answer the stated next state under the stated conditions. (R136, R137, R139, R140, R145, R121, R147, R150.) -/
def Obligations.PortEvents : Prop :=
  (∀ (s : State) (p : Nat), s.pstate p = pALIGNING → (s.lanesOf p).all (fun l => s.lstate l == lUP) = true → s.flag PORT_STATUS.RF p = false → s.portHeld p = false → s.laneDup p = false → 
      exec (.portAligned p) s = .next ((s.setFld PORT_STATUS.LF p 0).setPState p pUP))
  ∧ (∀ (s : State) (p : Nat), s.pstate p = pALIGNING → (s.port p).retry = false → (s.port p).since + 10 * msNs ≤ s.now → 
      exec (.portAlignTimeout p) s = .next (((s.ev PORT_EVENT.ALIGN_FAIL p).lanesDown p 1).setPort p { ((s.ev PORT_EVENT.ALIGN_FAIL p).lanesDown p 1).port p with retry := true, since := ((s.ev PORT_EVENT.ALIGN_FAIL p).lanesDown p 1).now }))
  ∧ (∀ (s : State) (p : Nat), s.pstate p = pALIGNING → (s.port p).retry = true → (s.port p).since + 100 * msNs ≤ s.now → 
      exec (.portAlignRetry p) s = .next (eachIn (((s.setPort p { s.port p with retry := false })).lanesOf p) ((s.setPort p { s.port p with retry := false }).setPState p pTRAINING) (fun s l => s.laneEnable l)))
  ∧ (∀ (s : State) (p : Nat), pTRAINING ≤ s.pstate p → s.flag PORT_STATUS.RF p = false → (s.port p).holdoff ≠ 0 → 
      exec (.portFaultStart p true) s = .next ((((s.faultBegins p).setFld PORT_STATUS.RF p 1).ev PORT_EVENT.REMOTE_FAULT p).emit (.signal "idle" p 1)))
  ∧ (∀ (s : State) (p : Nat), pTRAINING ≤ s.pstate p → 
      exec (.portFaultStart p false) s = .next (s.localFaultStart p))
  ∧ (∀ (s : State) (p : Nat), s.flag PORT_STATUS.LF p = true → (s.port p).faultAt + (s.port p).holdoff * usNs ≤ s.now → 
      exec (.portHoldoffExpire p) s = .next (s.portFault p))
  ∧ (∀ (s : State) (p : Nat), s.pstate p = pFAULT → (s.setFld PORT_STATUS.RF p 0).pstate p = pFAULT → (s.setFld PORT_STATUS.RF p 0).lanesFine p = true → 
      exec (.portFaultClear p) s = .next (((s.setFld PORT_STATUS.RF p 0).setFld PORT_STATUS.LF p 0).setPState p pUP))
  ∧ (∀ (s : State) (p k : Nat), k < 8 → (s.port p).timers.getD k 0 ≤ s.now → 
      exec (.pauseTimerExpire p k) s = .next (s.setPort p { s.port p with timers := (s.port p).timers.set k 0 }))
  ∧ (∀ (s : State) (p : Nat), (s.port p).pauseEnd ≤ s.now → 
      exec (.pauseTimerExpire p 8) s = .next (s.setPort p { s.port p with pauseEnd := 0 }))
  ∧ (∀ (s : State) (p : Nat), s.pstate p = pUP → (s.port p).lpiIdle ≠ 0 → s.queuesEmpty p = true → eeePhy (s.portRate p) (s.port p).train = true → 
      exec (.portLpiIdle p) s = .next ((s.eachLaneIn p lUP (fun s l => s.setLState l lQUIET 1)).setFld PORT_STATUS.LPI_TX p 1))
  ∧ (∀ (s : State) (p : Nat) (bytes : List Nat), p < 512 → s.pstate p = pUP → s.boughStopped (p / 64) = false → 64 ≤ bytes.length → bytes.length ≤ (s.port p).maxFrame → fcsField bytes = fcsOf (bytes.take (bytes.length - 4)) → fcsField bytes ≠ 2 ^ 32 - 1 - fcsOf (bytes.take (bytes.length - 4)) → controlOp bytes = none → 
      exec (.rxFrame p bytes false) s = .next (((s.bump .RX_FRAMES p).bump .RX_BYTES p (bytes.take (s.port p).maxFrame).length).twigAdmit
        { port := p, bytes := bytes.take (s.port p).maxFrame, bad := false, ts := ((s.tod : Int) + signedOf 16 (s.port p).inAdj).toNat, since := s.now }))
  ∧ (∀ (s : State) (p : Nat) (bytes : List Nat) (e : Bool), p < 512 → s.pstate p = pUP → s.boughStopped (p / 64) = false → bytes.length < 64 → 
      exec (.rxFrame p bytes e) s = .next (s.bump .RX_RUNT p))
  ∧ (∀ (s : State) (p : Nat), p < 512 → s.busUp 1 = true → s.busWaits 1 (regOffset .PORT_TS_POP p) = false → s.busCheck 1 (regOffset .PORT_TS_POP p) 1 true true = .inl ⟨.PORT_TS_POP, p, false⟩ → 
      exec (.tsPop 1 p 1) s = .next (s.popTs p))

/-- Flits, replays, lane swaps, training and pinning map events of the root links answer the stated next state under the stated conditions. (R151, R152, R157, R158, R159, R160, R161, R162, R165.) -/
def Obligations.RootEvents : Prop :=
  (∀ (s : State) (c body crc : Nat), s.dirRuns c false = true → s.upFull c = false → 
      exec (.flitRx c false body crc) s = .next ((let n := s.nextFlit c false
      let x := n.1.flitErr c false (body % 2 ^ 480 + crc * 2 ^ 480)
      (x.1.flitIn c false n.2.1 (n.2.1.elim 0 (n.1.sentUnits c false)) (Nat.xor n.2.2 x.2.1) x.2.2).upCame c)))
  ∧ (∀ (s : State) (c body crc : Nat), s.dirRuns c true = true → 
      exec (.flitRx c true body crc) s = .next ((let n := s.nextFlit c true
      let x := n.1.flitErr c true (body % 2 ^ 480 + crc * 2 ^ 480)
      (x.1.flitIn c true n.2.1 (n.2.1.elim 0 (n.1.sentUnits c true)) (Nat.xor n.2.2 x.2.1) x.2.2).dnCame c)))
  ∧ (∀ (s : State) (c : Nat), s.carries c = true → (s.rdir c false).nak = true → (s.rdir c false).nakAt + 64 ≤ s.now → 
      exec (.nakRepeat c false) s = .next (s.setNak c false))
  ∧ (∀ (s : State) (c : Nat) (dn : Bool), s.carries c = true → 
      exec (.rootClkLoss c dn) s = .next ((s.ev ROOT_EVENT.CLK_LOSS c).clusterLeaves c 3 true))
  ∧ (∀ (s : State) (c : Nat) (dn : Bool), s.carries c = true → s.cstate c ≠ cSWAP → (s.rdir c dn).swapRx = true → (s.rdir c dn).swaps ≠ [] → 
      exec (.rootLaneSwap c dn) s = .next ((let t := s.setCluster c { s.cluster c with back := s.cstate c }
      let t := t.setRdir c dn { t.rdir c dn with swapRx := false, swapOn := true, swapAt := t.now }
      ((t.setFld ROOT_STATUS.CSTATE c cSWAP).setHeld (tgt cROOT c) true).emit (.signal "SWAP" c (b2n dn)))))
  ∧ (∀ (s : State) (c : Nat) (fl : List Nat), s.cstate c = cSWAP → (s.rdir c false).swapOn = true → (s.rdir c false).swapAt + 1500 ≤ s.now → ((((s.doSwaps c false).ev ROOT_EVENT.SWAP_UP c).replay c false).rdir c true).swapOn = false → 
      exec (.rootSwapPatternEnd c false fl) s = .next ((let t := ((s.doSwaps c false).ev ROOT_EVENT.SWAP_UP c).replay c false
      eachIn (fl.filter (fun l => l == 64 || l == 65)) ((t.setFld ROOT_STATUS.CSTATE c (t.cluster c).back).setHeld (tgt cROOT c) ((t.cluster c).back != cACTIVE))
        (fun s l => s.lanePermanent c false l))))
  ∧ (∀ (s : State) (c sp : Nat) (dn : Bool), 
      exec (.rootSpareDeskew c dn sp true) s = .next (s))
  ∧ (∀ (s : State) (c sp : Nat) (dn : Bool), s.carries c = true → sp = 64 ∨ sp = 65 → s.spareFree c dn sp = true → 
      exec (.rootSpareDeskew c dn sp false) s = .next (s.lanePermanent c dn sp))
  ∧ (∀ (s : State) (c : Nat) (fu fd : List Nat), s.ust (tgt cROOT c) = uWAKING → s.trainOk c fu fd true = true → 
      exec (.rootClusterTrain c fu fd true) s = .next ((((s.trained c fu fd).setFld ROOT_STATUS.CSTATE c cACTIVE).setUst (tgt cROOT c) uACTIVE 0).startSpread (c / 16)))
  ∧ (∀ (s : State) (b : Nat) (r : MapReq) (rest : List MapReq) (m : MapRun), (s.rootBough b).run = none → (s.rootBough b).asked = r :: rest → (((s.setRootBough b { s.rootBough b with asked := rest }).mapBegin b r).rootBough b).run = some m → m.waiting ≠ [] → 
      exec (.pinMapChange b) s = .next ((s.setRootBough b { s.rootBough b with asked := rest }).mapBegin b r))
  ∧ (∀ (s : State) (c e : Nat) (rest : List UpItem) (m : MapRun), (s.rdir c false).rxPos ≠ 0 → s.upList c = .fence e :: rest → (s.rootBough (c / 16)).run = some m → e % 65536 = s.fld ROOT_MAP_EPOCH.UP (c / 16) → 
      exec (.repinFenceRx c) s = .next ((s.popUp c).fenceCame c m))
  ∧ (∀ (s : State) (c : Nat) (rest : List UpItem) (m : MapRun), (s.rdir c false).rxPos ≠ 0 → s.upList c = .fin :: rest → (s.rootBough (c / 16)).run = some m → 
      exec (.repinFenceRx c) s = .next ((s.popUp c).fenceCame c m))
  ∧ (∀ (s : State) (b : Nat) (m : MapRun), (s.rootBough b).run = some m → m.start + 200 * usNs ≤ s.now → m.req.kind = 2 → 
      exec (.repinEndWaitExpire b) s = .next ((eachIn m.waiting s (fun s k => s.ev ROOT_EVENT.END_TIMEOUT k)).mapEnd b m))
  ∧ (∀ (s : State) (p n : Nat) (d : DnFrame), (s.rootBough (egBough p)).reseq = [d] → d.outPort = p → (d.pseq + 65536 - s.nextPseq p) % 65536 = n → n ≠ 0 → d.since + 250 * usNs ≤ s.now → 
      exec (.reseqGapSkip p) s = .next ((s.setRootBough (egBough p) { s.rootBough (egBough p) with nextSeq := tabSet (s.rootBough (egBough p)).nextSeq (p, 0) ((s.nextPseq p + n) % 65536) 0 }).bump .ROOT_RESEQ_SKIP (egBough p)))

/-- Frame entry, classifier result, disposal, egress, doze, wake, fostering and no-progress events of a pipe answer the stated next state under the stated conditions. (R169, R171, R180, R182, R141, R187, R188, R189, R190, R500.) -/
def Obligations.PipeEvents : Prop :=
  (∀ (s : State) (p slot tail : Nat) (x : Source) (t : State) (f : InFrame) (w : Nat), s.pipeRuns p = true → s.intakeOpen = true → s.pipeStalls p = false → s.switchHolds p = false → s.nextSource p slot = some x → s.takeFrom x = (t, some (f, w)) → badLength f = false → 
      exec (.pipeFrameEntry p slot tail) s = .next ((t.setPipe p { t.pipe p with fed := t.now, usNow := (t.pipe p).idle }).enterPipe p w tail f))
  ∧ (∀ (s : State) (p n : Nat) (f : PFrame), (s.pframesOf p).find? (fun g => g.n == n && g.cls.isNone) = some f → ((s.pframesOf p).find? (fun g => !g.ran)).any (fun g => g.n == n) = true → 
      exec (.clsResultReturn p n 0) s = .next ((let t := (s.perf (pipeSet p) 0x005).countStall p (s.stallClocks p f)
      let t := t.setPframes p ((t.pframesOf p).map (fun g => if g.n = n then { g with cls := some g.found, before := false } else g))
      let t := (t.clsSettle f.twig).showReorder p
      (t.releaseFrames p [] (t.pframesOf p)).showReorder p)))
  ∧ (∀ (s : State) (p : Nat) (f : PFrame) (rest : List PFrame) (excess : Bool), s.pframesOf p = f :: rest → f.ran = true → 
      exec (.pipeDispose p excess) s = .next ((((s.setPframes p rest).setPipe p { s.pipe p with held := s.now }).disposeFrame p f excess).showFifo f.twig))
  ∧ (∀ (s : State) (p sent pp : Nat) (t : State) (f : DnFrame), s.egressPipe p = some pp → s.macReady p = true → s.switchHolds pp = false → s.nextDn p ((s.rootBough (egBough p)).reseq.length + 1) = (t, some f) → 
      exec (.egressProcess p sent) s = .next (t.egressFrame pp (egTwig p) p f sent))
  ∧ (∀ (s : State) (p : Nat), s.ust (tgt cPIPE p) = uACTIVE → s.pipeIdleUs p ≠ 0 → s.pipeIdle p = true → s.switchHolds p = false → (s.pipe p).fed + s.pipeIdleUs p * usNs ≤ s.now → 
      exec (.pipeDozeEntry p) s = .next ((s.freezePerf p).setUst (tgt cPIPE p) uDOZE 1))
  ∧ (∀ (s : State) (p : Nat), s.pipeIdle p = false → s.ust (tgt cPIPE p) = uDOZE → 
      exec (.pipeWake p) s = .next (s.wakePipe p))
  ∧ (∀ (s : State) (p : Nat), (s.pipe p).leave = 1 → s.pframesOf p = [] → s.fosterQueue p = [] → ((s.pipe p).began - (s.pipe p).since) / usNs = 0 → 
      exec (.pipeFosterStart p) s = .next (((eachIn (List.range 64) ((s.passTwigs p).setPipe p { s.pipe p with leave := 0 }) (fun t q =>
        let w := t.pipe q
        if nearPipes p q = true ∧ w.leave ≠ 0 ∧ w.leave ≠ 4 ∧ (s.pipe p).since ≤ w.since then t.setPipe q { w with began := t.now } else t)).setUst (tgt cPIPE p) uGRAFT 2).finish 0x0C01
      (fun k => k.target == tgt cPIPE p) (ok [wd uGRAFT])))
  ∧ (∀ (s : State) (p f : Nat), (s.pipe p).leave = 4 → s.fld PIPE_STATUS.SERVED_BY p = f → s.flag PIPE_STATUS.SERVED_VALID p = true → (s.pframesOf f).any (fun g => g.twig == p) = false → 
      exec (.pipeFosterHandback p) s = .next ((let t := (s.setFld PIPE_STATUS.FOSTER_VALID f 0).ev PIPE_EVENT.FOSTER_END f
      let t := ((t.setFld PIPE_STATUS.OWN p 1).setFld PIPE_STATUS.SERVED_BY p p).setFld PIPE_STATUS.SERVED_VALID p 1
      ((t.setPipe p { t.pipe p with leave := 0 }).setUst (tgt cPIPE p) uACTIVE 2).finish 0x0C02 (fun k => k.target == tgt cPIPE p) (ok [wd uACTIVE]))))
  ∧ (∀ (s : State) (p : Nat), s.ust (tgt cPIPE p) = uACTIVE → s.pframesOf p ≠ [] → (s.pipe p).held + 10 * usNs ≤ s.now → 
      exec (.pipeNoProgress p) s = .next (s.pipeLeave p 3))

/-- Walker safe points, the SAFE watchdog, scrubs and a patch set becoming current answer the stated next state under the stated conditions. (R195, R205, R206, R210, R219, R220, R221, R222.) -/
def Obligations.StoreEvents : Prop :=
  (∀ (s : State) (st n a : Nat), st ≤ 8 → n < 4 → s.storeOn st = true → s.ctxState st n = 1 → (s.walkRun st n 512 0 (s.ctxPc st n)).2 = .safe a → 
      exec (.walkerSafePoint st n) s = .next ((((s.walkRun st n 512 0 (s.ctxPc st n)).1.setCtxPc st n a).takeSet st n).takeRequest st n))
  ∧ (∀ (s : State) (st n : Nat), st ≤ 8 → n < 4 → s.storeOn st = true → s.ctxState st n = 1 → (s.walkRun st n 512 0 (s.ctxPc st n)).2 = .done → 
      exec (.walkerSafePoint st n) s = .next ((s.walkRun st n 512 0 (s.ctxPc st n)).1.walkState st n 0))
  ∧ (∀ (s : State) (st n a : Nat), st ≤ 8 → 0 < n → n < 4 → s.ctxState st n = 1 → (s.walkRun st n 512 0 (s.ctxPc st n)).2 = .limit a → 
      exec (.safeWatchdog st n) s = .next ((((s.walkRun st n 512 0 (s.ctxPc st n)).1.ctxFault (s.walkCtx st n) a 4).ev UC_EVENT.SAFE_WDOG st).walkState st n 3))
  ∧ (∀ (s : State) (st a : Nat), storeHas st a = true → 0x4000 ≤ a → s.wordBad st a = false → 
      exec (.storeScrub st a true) s = .next ((s.bump .UC_ECC_CNT st).ev UC_EVENT.ECC_CORR st))
  ∧ (∀ (s : State) (st : Nat) (l : List Word), (s.store st).nextSet = some l → s.prevInUse st = false → 
      exec (.patchSetCurrent st) s = .next (((let v := s.store st
      let t := s.setStore st { v with prevSet := s.matchSet st, nextSet := none, prevVend := v.vend, vend := v.nextVend.getD v.vend, nextVend := none }
      let t := eachIn ((List.range (matchCount st)).drop 16) t (fun s n => s.setReg .UC_MATCH (st * 32 + n) (l.getD n 0))
      ((t.setFld UC_STATUS.PATCH_SET st (1 - t.fld UC_STATUS.PATCH_SET st)).ev UC_EVENT.PATCH_DONE st).resumeWalkers st).finish 0x0B02 (fun q => storeOf q.target == st) ok)))

/-- The learn engine, ageing, learn records, the TCAM scrub, the flowlet sweep and the imbalance window answer the stated next state under the stated conditions. (R239, R240, R242, R243, R244, R265, R283, R290, R291.) -/
def Obligations.LearnEvents : Prop :=
  (∀ (s : State) (b : Nat), (s.tables1 b).queue ≠ [] → 
      exec (.learnExecute b) s = .next (s.learnStep b))
  ∧ (∀ (s : State) (b id : Nat), s.ages b id = true → tabGet (s.tables1 b).ageNext (id, 0) 0 ≤ s.now → (s.setTables1 b { s.tables1 b with ageNext := tabSet (s.tables1 b).ageNext (id, 0) (s.now + nbits (s.learnCfg b id) 16 16 * (10 * msNs)) 0 }).ageing b id = false → 
      exec (.ageTick b id) s = .next ((s.setTables1 b { s.tables1 b with ageNext := tabSet (s.tables1 b).ageNext (id, 0) (s.now + nbits (s.learnCfg b id) 16 16 * (10 * msNs)) 0 }).ageStart b id))
  ∧ (∀ (s : State) (b id : Nat), s.ages b id = true → tabGet (s.tables1 b).ageNext (id, 0) 0 ≤ s.now → (s.setTables1 b { s.tables1 b with ageNext := tabSet (s.tables1 b).ageNext (id, 0) (s.now + nbits (s.learnCfg b id) 16 16 * (10 * msNs)) 0 }).ageing b id = true → 
      exec (.ageTick b id) s = .next ((let t := (s.setTables1 b { s.tables1 b with ageNext := tabSet (s.tables1 b).ageNext (id, 0) (s.now + nbits (s.learnCfg b id) 16 16 * (10 * msNs)) 0 })
      (t.setTables1 b { t.tables1 b with ageDue := (t.tables1 b).ageDue.filter (· != id) ++ [id] }).ev TBL_EVENT.AGE_SLOW b)))
  ∧ (∀ (s : State) (b : Nat) (r : LearnRec) (rest : List LearnRec), (s.tables1 b).recs = r :: rest → s.flag TBL_LEARN_CTL.EN b = true → (s.fld TBL_LEARN_TAIL.TAIL b + 1) % s.learnSize b ≠ s.fld TBL_LEARN_HEAD.HEAD b → s.flag TBL_LEARN_CTL.IRQ_EN b = false → 
      exec (.learnRecordWrite b) s = .next ((let v := s.tables1 b
      let n := s.fld TBL_LEARN_TAIL.TAIL b
      let t := s.emit (.hostWrite (s.fld TBL_LEARN_BASE_LO.ADDR b * 128 + s.fld TBL_LEARN_BASE_HI.ADDR b * 2 ^ 32 + 128 * n) (recWords r v.seq v.lost v.phase))
      let t := t.setTables1 b { v with recs := rest, lost := 0, seq := v.seq + 1, phase := if (n + 1) % s.learnSize b = 0 then !v.phase else v.phase }
      (t.setFld TBL_LEARN_TAIL.TAIL b ((n + 1) % s.learnSize b)).showRecs b)))
  ∧ (∀ (s : State) (b : Nat) (r : LearnRec) (rest : List LearnRec), (s.tables1 b).recs = r :: rest → s.flag TBL_LEARN_CTL.EN b = true → (s.fld TBL_LEARN_TAIL.TAIL b + 1) % s.learnSize b = s.fld TBL_LEARN_HEAD.HEAD b → 
      exec (.learnRecordWrite b) s = .next (s.ev TBL_EVENT.RING_FULL b))
  ∧ (∀ (s : State) (b : Nat), ringSizeOk ((s.setFld TBL_LEARN_CTL.IRQ_EN b 1).learnSize b) 64 65536 = true → (s.setFld TBL_LEARN_CTL.IRQ_EN b 1).flag TBL_LEARN_CTL.EN b = false → 
      exec (.learnRingEnable b true) s = .next (((let t := s.setFld TBL_LEARN_CTL.IRQ_EN b 1
      let t := t.setTables1 b { t.tables1 b with recs := [], seq := 0, lost := 0, phase := true, irqAt := none }
      ((t.setFld TBL_LEARN_HEAD.HEAD b 0).setFld TBL_LEARN_TAIL.TAIL b 0).setFld TBL_LEARN_CTL.EN b 1).showRecs b)))
  ∧ (∀ (s : State) (part i : Nat), s.tcamBad part i false = false → s.tcamBad part i true = false → 
      exec (.tcamScrub part i) s = .next (s))
  ∧ (∀ (s : State) (part i : Nat), (s.tcamBad part i false || s.tcamBad part i true) = true → 
      exec (.tcamScrub part i) s = .next (s.tcamParity part i))
  ∧ (∀ (s : State) (b : Nat), 
      exec (.flowletSweep b) s = .next ({ s with flowlets := s.flowlets.filter (fun e => !(e.1.1 == b && decide (16384 ≤ (s.flNow + 65536 - e.2.last % 65536) % 65536))) }))
  ∧ (∀ (s : State) (b : Nat), s.winEnd b ≤ s.tod → 
      exec (.imbWindowEnd b) s = .next (s.windowEnds b))

/-- Admission, the allocator, a frame end, port holds, flushes, the tally, bank replacement and a bank leaving service answer the stated next state under the stated conditions. (R299, R301, R302, R303, R310, R314, R317, R319, R321.) -/
def Obligations.BufferEvents : Prop :=
  (∀ (s : State) (r : Nat) (f : UpFrame) (rest : List UpFrame), s.mode = mSERVICE → s.offersAt r = f :: rest → s.asmAt r 1 = none → f.gtag = [] → 
      exec (.frameAdmit r true) s = .next (s.admitOwn r f rest))
  ∧ (∀ (s : State) (r i : Nat) (u : UpFrame) (rest : List UpItem), s.mode = mSERVICE → s.upList r = .frame u :: rest → diverted (upCarried u) = false → (upCarried u).head = false → (upCarried u).gone = false → firstCellAt (upCarried u) ≤ (s.rdir r false).rxPos → s.inBufAt r < 4 → (s.offer (upCarried u) r).2 = some i → 
      exec (.frameAdmit r false) s = .next ((((s.offer (upCarried u) r).1.setUpList r (.frame { u with head := true } :: rest)).setAsm r 0 (some i)).fillInBuf r))
  ∧ (∀ (s : State) (fl : List (Nat × Bool)), 
      exec (.allocatorMatch fl) s = .next ((let a := s.matchReads fl
      let b := a.1.matchWindows a.1.writeReqs a.2
      let c := b.1.matchRest b.2.2 b.2.1
      let t := eachIn c.2 c.1 (fun s w => s.perf (tunSet (w.1 / 32)) 0x182)
      let t := if t.tun.inBuf.any (fun e => decide (4 ≤ e.2)) then (t.bump .TUN_WRITE_STALL).ev TUN_EVENT.WRITE_STALL else t
      let t := eachIn ((t.tun.asm.filter (fun e => e.1.2 == 0)).map (fun e => e.1.1)) t State.fillInBuf
      { t with tun.clock := t.tun.clock + 1 })))
  ∧ (∀ (s : State) (r i : Nat), s.asmAt r 1 = some i → (s.tframe i).total ≤ (s.tframe i).cells.length → 
      exec (.frameEofArrive r true) s = .next ((s.setAsm r 1 none).frameDone i false))
  ∧ (∀ (s : State) (r i : Nat) (f : UpFrame) (rest : List UpItem), s.asmAt r 0 = some i → (s.tframe i).total ≤ (s.tframe i).cells.length → s.upList r = .frame f :: rest → frameUnits f.bytes ≤ (s.rdir r false).rxPos → 
      exec (.frameEofArrive r false) s = .next (((s.setAsm r 0 none).popUp r).frameDone i f.bad))
  ∧ (∀ (s : State) (p : Nat), p < 512 → (s.port p).wentDown = true → s.holdState p = 0 → s.fld TUN_PORT_HOLD.QHOLD p ≠ 0 → 
      exec (.portHoldEnter p) s = .next (({ (s.setPort p { s.port p with wentDown := false }) with tun.holdAt := tabSet s.tun.holdAt (p, 0) s.now 0 }).setFld TUN_PORT_HOLD.STATE p 1))
  ∧ (∀ (s : State) (p : Nat), s.holdState p = 1 → s.pstate p ≠ pUP → tabGet s.tun.holdAt (p, 0) 0 + s.fld TUN_PORT_HOLD.QHOLD p * usNs ≤ s.now → 
      exec (.qholdDeadline p) s = .next (s.portFlushed p))
  ∧ (∀ (s : State) (n : Nat), 
      exec (.flushFree n) s = .next ((s.flushCells (s.tun.flush.length + 1) (Nat.max 1 n)).showFlush))
  ∧ (∀ (s : State), s.flag TUN_TALLY_CTL.EN = true → s.tun.migs = [] → (s.tun.used.map (fun e => e.1.1 * 4096 + e.1.2)).filter (fun x => !s.listedCells.contains x) = [] → s.listedCells.filter (fun x => !s.cellUsed x) = [] → 
      exec (.tallyPass) s = .next ((let t := eachIn ((s.tun.queues.map (fun e => e.1.1)) ++ (tabRow s.regs Reg.TUN_Q_LEN.ctorIdx).map Prod.fst).eraseDups s State.tallyQueue
      let t := { t with tun.suspects := [] }.setFld TUN_TALLY_STATUS.SUSPECT 0 0
      t.setFld TUN_TALLY_STATUS.PASSES 0 (t.fld TUN_TALLY_STATUS.PASSES + 1))))
  ∧ (∀ (s : State) (n : Nat) (fl : List (Nat × Bool)), 
      exec (.bankReplace n fl) s = .next (eachIn s.tun.migs s (fun s m => s.migCopy n fl m)))
  ∧ (∀ (s : State) (l : Nat) (c : ClosedBank), s.tun.closed.find? (fun y => y.lbank == l) = some c → s.usedRows l = [] → c.graft = true → 
      exec (.bankLeaveService l) s = .next ((let n := s.physBank l
      let t := { s with tun.closed := s.tun.closed.filter (fun c => c.lbank != l) }
      let t := t.setFld TUN_STATUS.LBANKS 0 (t.fld TUN_STATUS.LBANKS - 1)
      let t := ((t.setFld TUN_BANK_STATUS.MAPPED n 0).ev TUN_EVENT.DEGRADED).planRetest
      let t := (t.setUnit (tgt cBANK n) { t.unit (tgt cBANK n) with role := 0xFFF }).setHeld (tgt cBANK n) false
      (t.setUst (tgt cBANK n) uGRAFT c.cause).finish 0x0C01 (fun q => q.target == tgt cBANK n) (ok [wd uGRAFT]))))

/-- Racking, drawing, retraining, channel loss and window accesses of the Cellar answer the stated next state under the stated conditions. (R325, R326, R329, R330, R333, R334, R335.) -/
def Obligations.CellarEvents : Prop :=
  (∀ (s : State) (q c : Nat), s.spilling q = true → s.mayRack q = true → (s.tqueue q).rack = none → (s.tqueue q).split = false → s.fld CELLAR_Q_CFG1.HEAD q + 16 ≤ (s.flatCells q).length → (s.tqueue q).blocks.length < s.fld CELLAR_Q_CFG2.MAXBLK q → s.rackChan (s.tqueue q) = some c → 
      exec (.rackBlock q) s = .next ((let slot := s.freeSlotOf c
      let start := s.fld CELLAR_Q_CFG1.HEAD q
      let t := { s with cellar.slots := tabSet s.cellar.slots (c, slot) (q + 1) 0 }
      let t := t.setFld CELLAR_CH_FREE.SLOTS c (t.fld CELLAR_CH_FREE.SLOTS c - 1)
      let t := t.setFld CELLAR_FREE.SLOTS 0 (t.fld CELLAR_FREE.SLOTS - 1)
      let t := t.setReads (8 * c + 4) (t.readsAt (8 * c + 4) 1 ++ (((t.flatCells q).drop start).take 16).map (fun x => (q * 2 + 1, x))) 1
      t.setTqueue q { s.tqueue q with split := true, head := start, rack := some { bseq := (s.tqueue q).bseq, chan := c, slot := slot }, lastCh := c })))
  ∧ (∀ (s : State) (q : Nat), s.spilling q = true → s.mayRack q = true → (s.tqueue q).rack = none → (s.tqueue q).split = false → s.fld CELLAR_Q_CFG1.HEAD q + 16 ≤ (s.flatCells q).length → s.fld CELLAR_Q_CFG2.MAXBLK q ≤ (s.tqueue q).blocks.length → 
      exec (.rackBlock q) s = .next (s.ev CELLAR_EVENT.SPILL_FULL))
  ∧ (∀ (s : State) (q : Nat) (b : Block), (s.tqueue q).rack = some b → s.rackReading q b.chan = false → s.mayServe b.chan 1 = true → s.flt.planted = [] → (s.tqueue q).split = true → (s.tqueue q).head + 16 * (s.tqueue q).blocks.length + 16 ≤ (s.flatCells q).length → 
      exec (.rackWriteDone q 0) s = .next ((let v := s.tqueue q
      let start := v.head + 16 * v.blocks.length
      let t := (eachIn (((s.flatCells q).drop start).take 16) s State.freeCell).mapCells q start 16 (fun _ _ => nullPtr)
      let t := t.setTqueue q { v with rack := none, blocks := v.blocks ++ [b], bseq := (v.bseq + 1) % 2 ^ 32 }
      let t := t.setFld CELLAR_Q_BLOCKS.BLOCKS q (v.blocks.length + 1)
      let t := t.setCharge q (t.fld TUN_Q_LEN.LEN q - 16) (t.fld TUN_Q_HR.CELLS q)
      ((t.bump .CELLAR_RACKED).perf (tunSet 8) 0x280).starveCheck q)))
  ∧ (∀ (s : State) (q : Nat) (b : Block), (s.tqueue q).rack = some b → s.rackReading q b.chan = false → s.mayServe b.chan 1 = true → s.flt.planted = [] → (s.tqueue q).split = false → 
      exec (.rackWriteDone q 0) s = .next (((s.freeSlot b.chan b.slot).setTqueue q { s.tqueue q with rack := none }).joinTail q))
  ∧ (∀ (s : State) (q k : Nat), (s.tqueue q).split = true → (s.tqueue q).head + 16 * ((s.tqueue q).blocks.filter (fun b => b.stage != 0)).length < s.fld CELLAR_Q_CFG1.HEAD q → ((s.tqueue q).blocks.filter (fun b => b.stage != 0)).length < 16 → nextDraw (s.tqueue q).blocks = some k → ((s.tqueue q).blocks[k]?).any (fun b => s.chanStopped b.chan) = false → 
      exec (.drawIssue q) s = .next (s.setTqueue q { s.tqueue q with blocks := (s.tqueue q).blocks.modify k (fun b => { b with stage := 1 }) }))
  ∧ (∀ (s : State) (q bseq : Nat) (b : Block), (s.tqueue q).blocks.find? (fun y => y.bseq == bseq && y.stage == 1) = some b → (List.range 512).any s.canWrite = true → 16 ≤ s.fld TUN_FREE.CELLS → s.clusterWrites (8 * b.chan) = false → s.mayServe b.chan 0 = true → s.flt.planted = [] → 
      exec (.drawComplete q bseq 0 0 [] false) s = .next (let r := (List.range 16).foldl (fun (a : State × List Nat) _ => ((a.1.drawCell (8 * b.chan)).1, a.2 ++ [(a.1.drawCell (8 * b.chan)).2])) (s, [])
      let t := r.1.setCharge q (r.1.fld TUN_Q_LEN.LEN q + 16) (r.1.fld TUN_Q_HR.CELLS q)
      let t := t.maxFld SCHED_Q_HWM_CELLS.CELLS q (t.depth q)
      let t := t.setTqueue q { t.tqueue q with
        blocks := (t.tqueue q).blocks.map (fun x => if x.bseq = bseq then { x with stage := 2, ptrs := r.2, poison := [], lost := false } else x) }
      ((t.bump .CELLAR_DRAWN).perf (tunSet 8) 0x281).settleQueue q))
  ∧ (∀ (s : State) (ch temp : Nat), s.ust (tgt cCELLAR ch) = uACTIVE → (List.range 16).any s.retraining = false → 
      exec (.cellarRetrain ch true temp) s = .next ({ s.setFld CELLAR_CH_STATUS.TEMP ch temp with cellar.retrain := tabSet s.cellar.retrain (ch, 0) (s.now + 2 * usNs) 0 }))
  ∧ (∀ (s : State) (ch : Nat) (x : ChanLeave), s.cellar.leaving.find? (fun y => y.chan == ch) = some x → tabRow s.cellar.slots ch = [] → 
      exec (.cellarChannelRetire ch) s = .next (s.chanGone x))
  ∧ (∀ (s : State) (ch : Nat) (x : ChanLeave), s.ust (tgt cCELLAR ch) = uACTIVE → s.cellar.leaving = [] → (s.chanLeave ch false 3).tun.queues = [] → (s.chanLeave ch false 3).cellar.leaving.find? (fun y => y.chan == ch) = some x → 
      exec (.cellarChannelDead ch) s = .next ((s.chanLeave ch false 3).chanGone { x with graft := false, cause := 3 }))
  ∧ (∀ (s : State) (v : Word), s.lands 1 .CELLAR_WIN_CTL 0 → bitsAt v 0 1 = 1 → s.flag CELLAR_WIN_CTL.BUSY = false → s.fld CELLAR_WIN_ADDR.LINE < s.partLines (s.fld CELLAR_WIN_ADDR.PART) → 
      exec (.cellarWinAccess 1 v) s = .next ({ s.setFld CELLAR_WIN_CTL.BUSY 0 1 with cellar.win := some (bitsAt v 1 1 == 1) }))
  ∧ (∀ (s : State) (t : State), s.cellar.win = some true → s.mayServe s.winChan 2 = true → t = ((({ s.extUsed s.winChan with cellar.win := none } : State).setFld CELLAR_WIN_CTL.BUSY 0 0).perf (tunSet 8) 0x284) → t.fld CELLAR_WIN_ADDR.LINE < t.partLines (t.fld CELLAR_WIN_ADDR.PART) → 
      exec (.cellarWinDone 0) s = .next (eachIn (List.range 16) t (fun u n => u.setExtWord (s.extLine (s.fld CELLAR_WIN_ADDR.PART) (s.fld CELLAR_WIN_ADDR.LINE)) n (u.reg .CELLAR_WIN_DATA n).toNat)))
  ∧ (∀ (s : State) (t : State), s.cellar.win = some false → s.mayServe s.winChan 2 = true → t = ((({ s.extUsed s.winChan with cellar.win := none } : State).setFld CELLAR_WIN_CTL.BUSY 0 0).perf (tunSet 8) 0x284) → t.fld CELLAR_WIN_ADDR.LINE < t.partLines (t.fld CELLAR_WIN_ADDR.PART) → 
      exec (.cellarWinDone 0) s = .next (eachIn (List.range 16) t (fun u n => u.setReg .CELLAR_WIN_DATA n (wd (u.extWord (s.extLine (s.fld CELLAR_WIN_ADDR.PART) (s.fld CELLAR_WIN_ADDR.LINE)) n)))))

/-- A scheduler decision, a DN acknowledgement and the PFC and watchdog events answer the stated next state under the stated conditions. (R164, R339, R340, R354, R355, R356, R357.) -/
def Obligations.SchedulerEvents : Prop :=
  (∀ (s : State) (p rd : Nat) (br : Bool), s.mode = mSERVICE → s.quadStopped 0 = false → s.quadStopped (egBough p / 2) = false → s.lpiHolds p = false → 
      exec (.schedPick p br rd) s = .next (s.decision p (if br then some rd else none) (s.tun.frames.length + 2)))
  ∧ (∀ (s : State) (c : Nat) (d : DnFrame) (rest : List DnFrame), s.dnList c = d :: rest → d.got = true → frameUnits d.bytes ≤ (s.rdir c true).ackPos → s.unread d.fid = false → 
      exec (.dnAck c) s = .next ((s.popDn c).freeFrame d.fid))
  ∧ (∀ (s : State) (p : Nat), p < 512 → 
      exec (.pfcXoffChange p) s = .next ((s.setFld SCHED_P_PFC.XOFF p (s.xoffMask p)).tellXoff p))
  ∧ (∀ (s : State) (p : Nat), p < 512 → s.pstate p = pUP → (s.sport p).sentAt + quantaNs (speedMbps (s.portSpeed p)) (s.port p).refresh ≤ s.now → (s.port p).pfcMode = 2 → Nat.land (s.fld SCHED_P_PFC.XOFF p) (s.port p).txEn ≠ 0 → 
      exec (.pfcRefreshTimer p) s = .next (((s.sendPfc p (Nat.land (s.fld SCHED_P_PFC.XOFF p) (s.port p).txEn) 0).setSport p { s.sport p with told := Nat.land (s.fld SCHED_P_PFC.XOFF p) (s.port p).txEn })))
  ∧ (∀ (s : State) (q x : Nat), s.flag SCHED_Q_CFG.WD_EN q = true → (s.squeue q).chk ≤ s.now → s.fld SCHED_Q_STATE.WD q = 0 → (s.tqueue q).frames ≠ [] → s.wdCauses q ≠ 0 → (s.squeue q).stuck = some x → Nat.land (s.squeue q).cause (s.wdCauses q) ≠ 0 → x + (s.squeue q).detect * msNs ≤ s.now → 
      exec (.pfcWdCheck q) s = .next ((s.setSqueue q { s.squeue q with chk := s.now + msNs }).wdTrip q (wdCause (Nat.land (s.squeue q).cause (s.wdCauses q)))))

/-- TOD set and step, PPS edges, export frames and an interval end answer the stated next state under the stated conditions. (R363, R376, R377, R384.) -/
def Obligations.TelemetryEvents : Prop :=
  (∀ (s : State), s.todPend = 1 → 
      exec (.todSet) s = .next ({ s with tod := (s.reg .TELEM_TOD_SET_LO).toNat + (s.reg .TELEM_TOD_SET_HI).toNat * 2 ^ 32, todPend := 0 }))
  ∧ (∀ (s : State), s.todPend = 2 → 
      exec (.todStep) s = .next ({ s with tod := (s.tod + ((s.reg .TELEM_TOD_SET_LO).toNat + (s.reg .TELEM_TOD_SET_HI).toNat * 2 ^ 32)) % 2 ^ 64, todPend := 0 }))
  ∧ (∀ (s : State), s.flag TELEM_TOD_CTL.PPS_OUT_EN = true → s.atSecond = true → s.ppsFall = none → 
      exec (.ppsOutEdge) s = .next ({ s.emit (.pin "PPS_OUT" 1) with ppsFall := some (s.now + Nat.max 1 (s.fld TELEM_TOD_CTL.PPS_WIDTH) * usNs) }))
  ∧ (∀ (s : State), s.flag TELEM_TOD_CTL.PPS_IN_EN = true → 
      exec (.ppsInEdge) s = .next (((s.setReg .TELEM_PPS_IN_LO 0 (lo32 s.tod)).setReg .TELEM_PPS_IN_HI 0 (hi32 s.tod)).ev TELEM_EVENT.PPS_IN))
  ∧ (∀ (s : State) (i : Nat), s.mayBuild i = true → (s.stream i).flushUs = 0 ∨ (s.stream i).maxB ≤ (s.waitingRecs i).flatten.length → 
      exec (.exportFrameBuild i) s = .next (s.buildExport i))
  ∧ (∀ (s : State) (i : Nat), s.mayBuild i = true → s.firstWait i + (s.stream i).flushUs * usNs ≤ s.now → 
      exec (.exportFlushTimer i) s = .next (s.buildExport i))
  ∧ (∀ (s : State) (i first n : Nat) (rest : List (Nat × Nat × Nat)), s.expLost = (i, first, n) :: rest → s.flag TELEM_STR_STATUS.EN i = true → 
      exec (.exportFrameLost) s = .next (({ s with expLost := rest } : State).gapAdd i ⟨1, n, s.tod, s.tod, first, (first + n + 2 ^ 32 - 1) % 2 ^ 32, false⟩))
  ∧ (∀ (s : State) (i first n : Nat) (rest : List (Nat × Nat × Nat)), s.expLost = (i, first, n) :: rest → s.flag TELEM_STR_STATUS.EN i = false → 
      exec (.exportFrameLost) s = .next ({ s with expLost := rest }))
  ∧ (∀ (s : State) (k : Nat), s.flag (setOfTarget k).1.run (setOfTarget k).1.idx = true → tabGet s.perfInt (tCls k, tInst k) 0 ≠ 0 → tabGet s.perfInt (tCls k, tInst k) 0 ≤ s.now → 
      exec (.perfIntervalEnd k) s = .next (({ s with perfInt := tabSet s.perfInt (tCls k, tInst k) 0 0 }.setFld (setOfTarget k).1.run (setOfTarget k).1.idx 0).ev (setOfTarget k).1.done (setOfTarget k).1.idx))

/-- Contributions, results, timeouts, resets, engine takeover and loss, close timeouts and doze of the Grist groups answer the stated next state under the stated conditions. (R394, R400, R402, R404, R405, R406, R408, R411, R412, R413, R414, R415.) -/
def Obligations.GristEvents : Prop :=
  (∀ (s : State) (c : Nat) (f : UpFrame) (rest : List UpFrame) (v : GGroup), s.staged c = f :: rest → s.gristKind (egOf f) (gristHdr f) = .contrib v → 
      exec (.gristContrib c) s = .next (s.contribute ((s.busyFor (gristHdr f)).setStaged c rest) v (gristHdr f)))
  ∧ (∀ (s : State) (g id x : Nat) (v : GGroup) (k : GChunk), s.group g = some v → chunkOf v id = some k → k.timer = some x → x + 1000 * v.timeout ≤ s.now → k.st ≠ 2 → k.nacks < v.retries → 
      exec (.gristChunkTimeout g id) s = .next ((let c : GChunk := { k with timer := some s.now, nacks := k.nacks + 1 }
      (s.setGroup g (some (putChunk v c))).sendNack g v c (k.nacks + 1))))
  ∧ (∀ (s : State) (g id x : Nat) (v : GGroup) (k : GChunk), s.group g = some v → chunkOf v id = some k → k.timer = some x → x + 1000 * v.timeout ≤ s.now → k.st ≠ 2 → v.retries ≤ k.nacks → 
      exec (.gristChunkTimeout g id) s = .next (s.failChunk g id 1))
  ∧ (∀ (s : State) (g : Nat) (v : GGroup) (k : GChunk) (rest : List GChunk), s.group g = some v → v.chunks = k :: rest → k.st = 3 → s.slotHeld k.slot = false → k.sent = false → 
      exec (.gristEmit g) s = .next (s.emitChunk g v k))
  ∧ (∀ (s : State) (slot x l i : Nat) (f : UpFrame), s.turned slot = some (f, x, l) → s.now < x + msNs → l + 2000 ≤ s.now → s.asmAt (2 * slot + 1) 1 = none → (s.offer f (2 * slot + 1)).2 = some i → 
      exec (.gristResultRetry slot) s = .next (((s.offer f (2 * slot + 1)).1.setTurned slot none).setAsm (2 * slot + 1) 1 (some i)))
  ∧ (∀ (s : State) (slot x l : Nat) (f : UpFrame), s.turned slot = some (f, x, l) → x + msNs ≤ s.now → 
      exec (.gristResultRetry slot) s = .next (((s.setTurned slot none).bump .GRIST_RES_DROP (slot / 16)).ev GRIST_G_EVENT.RES_DROP (slot / 16)))
  ∧ (∀ (s : State) (c : Nat) (f : UpFrame) (rest : List UpFrame) (v : GGroup), s.staged c = f :: rest → s.gristKind (egOf f) (gristHdr f) = .parent v → 
      exec (.gristParentRx c) s = .next ((s.setStaged c rest).fromParent v (gristHdr f)))
  ∧ (∀ (s : State) (g : Nat) (v : GGroup) (k : GClose), s.group g = some v → v.closing = some k → k.abort = false → k.since + 100 * msNs ≤ s.now → 
      exec (.gristCloseTimeout g) s = .next (s.abortGroup g))
  ∧ (∀ (s : State) (e g id : Nat) (k : GChunk), (s.group g).bind (fun v => chunkOf v id) = some k → s.slotOf e = some k.slot → k.st ≠ 0 → k.fail = 0 → 
      exec (.gristChunkReset e 2 g id) s = .next (s.engineError e 2 g id true false))
  ∧ (∀ (s : State) (e g id : Nat) (k : GChunk), (s.group g).bind (fun v => chunkOf v id) = some k → s.slotOf e = some k.slot → k.st ≠ 0 → k.fail = 0 → 
      exec (.gristChunkReset e 1 g id) s = .next ((s.seqFetchFault e).engineError e 1 g id false false))
  ∧ (∀ (s : State) (e slot n : Nat) (l : GLeave) (ns : List Nat), s.grist.leave.find? (fun l => l.engine == e) = some l → s.slotOf e = some slot → l.kind ≠ 4 → s.spareEngines e = n :: ns → 
      exec (.gristEngineTakeover e true) s = .next (((((s.moveSlot slot e n).ev GRIST_G_EVENT.TAKEOVER (slot / 16)).gristIrq).engineGone l)))
  ∧ (∀ (s : State) (e slot : Nat) (l : GLeave), s.grist.leave.find? (fun l => l.engine == e) = some l → s.slotOf e = some slot → l.kind ≠ 4 → l.kind ≠ 3 ∨ l.dest = 0 → s.spareEngines e = [] → 
      exec (.gristSlotLoss e) s = .next ((s.slotDrop e slot).engineGone l))
  ∧ (∀ (s : State) (e slot : Nat), s.slotOf e = some slot → s.ust (tgt cGRIST e) = uACTIVE → tabGet s.grist.busyAt (slot, 0) 0 + 20000 ≤ s.now → s.grist.groups = [] → s.stagedFor slot = false → s.hintAwake slot = false → 
      exec (.gristEngineDoze e) s = .next (s.setUst (tgt cGRIST e) uDOZE 1))

/-- The boot, steeping steps, regulator failures, self-tests, training and drain events answer the stated next state under the stated conditions. (R424, R425, R426, R428, R429, R430, R436, R466.) -/
def Obligations.LifecycleEvents : Prop :=
  (∀ (s : State), s.life.boot = 1 → ((s.startClocks.showFlash).freshStart.romLoader).2 = none → 
      exec (.bootStart) s = .next ({ ({ ((s.startClocks.showFlash).freshStart.romLoader).1 with life.boot := 0 }).enterRecovery with fw.act := none, cmd.pause := false }))
  ∧ (∀ (s : State) (u : State), s.life.boot = 3 → u = s.startClocks.showFlash → 
      exec (.bootStart) s = .next (match u.romLoader.2 with
      | none => { ({ u.romLoader.1 with life.boot := 0 } : State).enterRecovery with fw.act := none, cmd.pause := false }
      | some x => (({ u.romLoader.1 with life.boot := 0 } : State).runSlot x.1 x.2).actStarted x (u.slotFails (u.bootRec.trial.getD u.bootRec.active))))
  ∧ (∀ (s : State) (n pIn vin due : Nat) (rest : List Nat), s.life.steps = n :: rest → s.life.ramp = none → due = Nat.max s.life.good (s.life.t0 + s.life.slip + stepOff n * usNs) → due ≤ s.now → (pIn + 10 * stepPeak n) * 10000 ≤ 828 * vin * s.fld PWR_CAP_CUR.I_LIMIT → 
      exec (.steepStepGrant pIn vin) s = .next (eachIn (domPlls n) { s.setFld PWR_DOM_V.STATE n 1 with life.steps := rest, life.ramp := some n, life.slip := s.life.slip + (s.now - due), life.began := s.now } State.startPll))
  ∧ (∀ (s : State) (n mv : Nat), s.life.ramp = some n → (domPlls n).all s.pllPasses = true → 
      exec (.domainPowerGood n mv) s = .next (({ (s.setFld PWR_DOM_V.STATE n 2).setFld PWR_DOM_V.MV n mv with life.ramp := none, life.good := s.now }.domainUp n).steepCheck))
  ∧ (∀ (s : State) (n mv : Nat), s.life.ramp = some n → s.life.began + 2 * msNs ≤ s.now → n ≠ 1 → n ≠ 26 → 
      exec (.regulatorFail n mv) s = .next (({ (s.regulatorEvent n mv).setFld PWR_DOM_V.STATE n 3 with life.ramp := none, life.good := (s.regulatorEvent n mv).now }.domainLost n).steepCheck))
  ∧ (∀ (s : State) (n mv : Nat), 0 < n → n ≤ 26 → s.domOn n = true → 
      exec (.regulatorProtectionTrip n mv) s = .next (((s.regulatorEvent n mv).setFld PWR_DOM_V.STATE n 3).domainLost n))
  ∧ (∀ (s : State) (n : Nat), s.life.tests.contains n = true → 4 < n → 
      exec (.selfTestDone n []) s = .next ((eachIn ((groupEngines (n - 21)).map (tgt cGRIST)) { s with life.tests := s.life.tests.filter (· != n), life.fresh := s.life.fresh ++ [] }
      (fun s t => if s.ust t = uWAKING then s.setUst t uACTIVE 0 else s)).steepCheck))
  ∧ (∀ (s : State) (c : Nat), c < 16 → s.ust (tgt cCELLAR c) = uWAKING → 
      exec (.cellarTrainingDone c 0) s = .next (((s.setFld CELLAR_CH_STATUS.RATE c 1).setUst (tgt cCELLAR c) uACTIVE 0).steepCheck))
  ∧ (∀ (s : State), s.toDrain = true → s.emptied = true → 
      exec (.drainComplete) s = .next (s.drained.finish 0x0002 (fun _ => true) ok))
  ∧ (∀ (s : State), s.toDrain = true → s.life.since + s.life.limit * msNs ≤ s.now → s.emptied = false → 
      exec (.drainLimitExpire) s = .next (s.drainFlush.finish 0x0002 (fun _ => true) ok))

/-- Source, monitor, multiplexer, PLL and trim events, and writes of clock settings, answer the stated next state under the stated conditions. (R446, R447, R449, R450, R452, R455, R456, R461, R462, R463.) -/
def Obligations.ClockEvents : Prop :=
  (∀ (s : State) (n : Nat), 1 ≤ n → n ≤ 5 → (s.setFld CLK_SRC.EN n 1).srcState n = kOFF → 
      exec (.clkSrcEnWrite n 1) s = .next ((s.setFld CLK_SRC.EN n 1).setSrc n kSTARTING))
  ∧ (∀ (s : State) (n : Nat), 1 ≤ n → n ≤ 5 → s.srcUsed n = false → 
      exec (.clkSrcEnWrite n 0) s = .next ((s.setFld CLK_SRC.EN n 0).setSrc n kOFF))
  ∧ (∀ (s : State) (n code : Nat), n < 2 → 
      exec (.clkTrimWrite n code) s = .next (s.setFld CLK_SRC.TRIM n code))
  ∧ (∀ (s : State) (i en : Nat), isPll i = true → ((s.setFld CLK_PLL.CHAIN_EN i en).pll i).wait = none → ((s.setFld CLK_PLL.CHAIN_EN i en).pll i).want = none → 
      exec (.chainEnWrite i en) s = .next ((s.setFld CLK_PLL.CHAIN_EN i en).fallBack i))
  ∧ (∀ (s : State) (i en : Nat), isPll i = true → ((s.setFld CLK_PLL.CHAIN_EN i en).pll i).wait.isSome = true → 
      exec (.chainEnWrite i en) s = .next (s.setFld CLK_PLL.CHAIN_EN i en))
  ∧ (∀ (s : State) (n c : Nat), 1 ≤ n → n ≤ 5 → s.srcState n ≠ kOFF → (windowLimits n).1 ≤ c → c ≤ (windowLimits n).2 → 
      exec (.clkMonitorWindow [(n, c)]) s = .next (((s.setFld CLK_SRC.COUNT n (Nat.min 4095 c)).windowSeen n c).tripSources []))
  ∧ (∀ (s : State) (n c : Nat), 1 ≤ n → n ≤ 5 → s.srcState n = kREADY → c < (windowLimits n).1 ∨ (windowLimits n).2 < c → 
      exec (.clkMonitorWindow [(n, c)]) s = .next (((s.setFld CLK_SRC.COUNT n (Nat.min 4095 c)).windowSeen n c).tripSources [n]))
  ∧ (∀ (s : State) (n : Nat), 1 ≤ n → n ≤ 5 → s.srcState n = kSTARTING → s.winsNeeded n ≤ tabGet s.clk.goodWin (n, 0) 0 → 
      exec (.clkSourceReady n) s = .next (eachIn (pllList.filter (fun i => ((s.setSrc n kREADY).bootClock n).pllState i == 3 && ((((s.setSrc n kREADY).bootClock n).pll i).wait == some n || ((((s.setSrc n kREADY).bootClock n).pll i).noSrc && (chainOf i).contains n)))) ((s.setSrc n kREADY).bootClock n) State.fallBack))
  ∧ (∀ (s : State) (n : Nat), 1 ≤ n → n ≤ 5 → s.srcState n = kSTARTING → s.srcSince n + s.srcTimeout n ≤ s.now → pllList.filter (fun i => (((s.setSrc n kFAILED).ev CLK_EVENT.START_TIMEOUT).bootClock n).pllState i == 3 && ((((s.setSrc n kFAILED).ev CLK_EVENT.START_TIMEOUT).bootClock n).pll i).wait == some n) = [] → 
      exec (.clkStartTimeout n) s = .next (((s.setSrc n kFAILED).ev CLK_EVENT.START_TIMEOUT).bootClock n))
  ∧ (∀ (s : State) (n : Nat), 1 ≤ n → n ≤ 5 → s.srcState n = kFAILED → s.flag CLK_SRC.EN n = true → s.srcSince n + 1000 * msNs ≤ s.now → 
      exec (.clkSourceRetry n) s = .next (s.setSrc n kSTARTING))
  ∧ (∀ (s : State) (i n : Nat), (s.pll i).want = some n → s.pllState i ≠ 2 → 
      exec (.muxForceSelect i) s = .next (((s.setPll i { s.pll i with want := none }).selectSrc i n).showTwigTx s i))
  ∧ (∀ (s : State) (i n : Nat), (s.pll i).want = some n → s.pllState i = 2 → 
      exec (.muxForceSelect i) s = .next ((((s.closeGate i).setPll i { (s.closeGate i).pll i with want := none }).selectSrc i n).showTwigTx s i))
  ∧ (∀ (s : State) (i : Nat), isPll i = true → s.pllState i = 1 → (s.pll i).dead = false → 
      exec (.pllLocked i true) s = .next (s.pllLock i))
  ∧ (∀ (s : State) (i : Nat) (u t : State), isPll i = true → s.pllState i = 2 → u = ((s.satFld CLK_PLL.LOCK_LOSS i 1).ev CLK_EVENT.LOCK_LOSS).raise 0x0205 kRETRIED (tgt cCLK i) 0 → t = (((u.setFld CLK_PLL.STATE i 1).closeGate i).showTwigTx u i).notePerm (tgt cCLK i) 0x0205 → t.permCount (tgt cCLK i) 0x0205 (10 * msNs) < 4 → 
      exec (.pllLockLoss i) s = .next (t))
  ∧ (∀ (s : State) (osc : Nat) (ppm : Int), osc < 2 → s.flag (autoFld osc) = true → s.trimRef (s.fld CLK_TRIM_CTL.REF) = true → tabGet s.clk.trimAt (osc, 0) 0 ≤ s.now → 
      exec (.trimMeasure osc ppm) s = .next (({ s with clk.trimAt := tabSet s.clk.trimAt (osc, 0) (s.now + 100 * msNs) 0 }.setTrimErr osc ppm).trimStep osc ppm))
  ∧ (∀ (s : State) (n : Nat), n ≤ 800 → 
      exec (.sircFault n) s = .next ({ s with clk.sircBad := false }))
  ∧ (∀ (s : State) (n : Nat), 800 < n → s.clk.sircBad = false → 
      exec (.sircFault n) s = .next ({ s.ev CLK_EVENT.SIRC_FAULT with clk.sircBad := true }.raise 0x0206 kFATAL (tgt cCLK 0) 0))
  ∧ (∀ (s : State), s.flag SVC_USB.CONN = true → s.flag SVC_USB.CONFIGURED = true → 
      exec (.usbSofMark) s = .next (s.setFld CLK_TRIM_CTL.SOF_SEEN 0 1))

/-- Input, cap, operating point, droop, estimation, thermal and hint events answer the stated next state under the stated conditions. (R465, R467, R473, R474, R475, R477, R478, R479, R482, R484, R485.) -/
def Obligations.PowerEvents : Prop :=
  (∀ (s : State), 
      exec (.vinRangeEvent) s = .next (({ s with pwr.vinOut := true }.ev PWR_EVENT.VIN_RANGE).showAlert))
  ∧ (∀ (s : State), 
      exec (.vinBackInRange) s = .next ({ s with pwr.vinOut := false }.showAlert))
  ∧ (∀ (s : State), 
      exec (.vinUndervoltage) s = .next ({ s.resetCold GLB_RESET_CAUSE.VIN_LOW with life.boot := 2, life.low := s.life.low.filter (· != 2) ++ [2] }))
  ∧ (∀ (s : State), 
      exec (.vinPowerLoss) s = .next ({ s.resetPor with life.boot := 2, life.low := s.life.low.filter (· != 2) ++ [2] }))
  ∧ (∀ (s : State), s.life.low.contains 2 = true → 
      exec (.vinRecover) s = .next (s.release 2))
  ∧ (∀ (s : State) (a : Bool), 
      exec (.hwIlim a) s = .next (((if a then s.ev PWR_EVENT.HW_ILIM else s).setFld PWR_STAT.HW_ILIM 0 (b2n a)).showAlert))
  ∧ (∀ (s : State) (vin iin mj : Nat) (ds : List (Nat × Nat)), s.life.boot ≠ 2 → s.pwr.tickAt ≤ s.now → ((({ s with pwr.tickAt := s.now + usNs } : State).capMeasure vin iin mj ds)).uPower ds ≤ ((({ s with pwr.tickAt := s.now + usNs } : State).capMeasure vin iin mj ds)).capNow * 1000 → 
      exec (.capTick vin iin mj ds false) s = .next ((let m := (({ s with pwr.tickAt := s.now + usNs } : State).capMeasure vin iin mj ds)
      let t := { m with pwr.lastU := m.uPower ds }.retargetAll
      let t := if m.uPower ds < 950 * m.capNow then t.capBelow else t
      (((t.capClear (m.uPower ds)).showLevel).retargetAll.showLim).showAlert)))
  ∧ (∀ (s : State) (vin iin mj : Nat) (ds : List (Nat × Nat)) (above : Bool), s.life.boot ≠ 2 → s.pwr.tickAt ≤ s.now → ((({ s with pwr.tickAt := s.now + usNs } : State).capMeasure vin iin mj ds)).capNow * 1000 < ((({ s with pwr.tickAt := s.now + usNs } : State).capMeasure vin iin mj ds)).uPower ds → 
      exec (.capTick vin iin mj ds above) s = .next ((let m := (({ s with pwr.tickAt := s.now + usNs } : State).capMeasure vin iin mj ds)
      ((((({ m with pwr.lastU := m.uPower ds }.retargetAll.capEngage).capClear (m.uPower ds)).showLevel).retargetAll.showLim).showAlert))))
  ∧ (∀ (s : State), 1000 ≤ s.pwr.unmet → s.flag PWR_STAT.CAP_UNMET = false → 
      exec (.capUnmet) s = .next (({ (s.setFld PWR_STAT.CAP_UNMET 0 1).ev PWR_EVENT.CAP_UNMET with pwr.below := 0 }.raise 0x0303 kDEGRADED (tgt cPWR 0)
        (((s.setFld PWR_STAT.CAP_UNMET 0 1).ev PWR_EVENT.CAP_UNMET).capNow % 2048 + s.pwr.lastU / 1000 % 2048 * 65536)).showAlert))
  ∧ (∀ (s : State) (q : Nat), q < 4 → s.domOn (domQuad q) = true → s.pllState (0x10 + q) = 2 → 
      exec (.oppStep q) s = .next ((((s.retarget q).showStep q).stepQuad q).showStep q))
  ∧ (∀ (s : State) (n mv q : Nat), hasDroop n = true → s.domOn n = true → s.pwr.tripped.contains n = false → mv + s.dth n < s.vSet n → droopQuad n = some q → s.domOn (domQuad q) = true → 
      exec (.droopTrip ⟨n, mv⟩) s = .next ((let t := ({ s with pwr.tripped := n :: s.pwr.tripped }.bump .PWR_DROOP_CNT).ev PWR_EVENT.DROOP
      let t := { t with pwr.limDrp := t.pwr.limDrp.set q 4, pwr.calmAt := t.pwr.calmAt.set q none }
      ((t.setFld PWR_QUAD.FROZEN q 1).ev PWR_EVENT.DROOP_FREEZE).showLim)))
  ∧ (∀ (s : State) (n mv : Nat), hasDroop n = true → s.domOn n = true → s.pwr.tripped.contains n = false → mv + s.dth n < s.vSet n → droopQuad n = none → 
      exec (.droopTrip ⟨n, mv⟩) s = .next (({ s with pwr.tripped := n :: s.pwr.tripped }.bump .PWR_DROOP_CNT).ev PWR_EVENT.DROOP))
  ∧ (∀ (s : State) (n clocks q : Nat), s.pwr.tripped.contains n = true → droopQuad n = some q → (s.pwr.tripped.filter (· != n)).contains (domQuad q) = false → (s.pwr.tripped.filter (· != n)).contains (domGrist q) = false → 
      exec (.droopRecover n clocks) s = .next (({ s with pwr.tripped := s.pwr.tripped.filter (· != n), pwr.calmAt := s.pwr.calmAt.set q (some s.now) } : State).perf (tunSet q) 0x187 clocks))
  ∧ (∀ (s : State) (n clocks : Nat), s.pwr.tripped.contains n = true → droopQuad n = none → 
      exec (.droopRecover n clocks) s = .next ({ s with pwr.tripped := s.pwr.tripped.filter (· != n) }))
  ∧ (∀ (s : State) (n e m : Nat) (t : State), n ≤ 26 → s.domOn n = true → tabGet s.pwr.estAt (n, 0) 0 ≤ s.now → t = (({ s with pwr.estAt := tabSet s.pwr.estAt (n, 0) (s.now + msNs) 0 } : State).showCal n (loadBand n m)) → 10 ≤ m → 
      exec (.estWindow n e m false false) s = .next ((t.estCompare n e m).showCal n (loadBand n m)))
  ∧ (∀ (s : State) (n e m : Nat) (t : State), n ≤ 26 → s.domOn n = true → tabGet s.pwr.estAt (n, 0) 0 ≤ s.now → t = (({ s with pwr.estAt := tabSet s.pwr.estAt (n, 0) (s.now + msNs) 0 } : State).showCal n (loadBand n m)) → t.calValid n = false → 
      exec (.estWindow n e m true false) s = .next (((t.retake n (loadBand n m) { t.cal n with recal := Nat.min 1 (t.cal n).recal }).ev PWR_EVENT.BAND_REFRESH).showCal n (loadBand n m)))
  ∧ (∀ (s : State) (n x : Nat) (t : State), n ≤ 26 → s.domOn n = true → (stepped (sampled (s.sensor n 0) 0 x) n).max ≠ 2 → t = s.setSensor n 0 (stepped (sampled (s.sensor n 0) 0 x) n) → 
      exec (.thermalSample n false x) s = .next ((((let u := t.setFld PWR_DOM_V.TEMP n (Nat.min 255 (Nat.max (t.sensor n 0).temp (t.sensor n 1).temp))
      let u := u.showCal n (u.fld PWR_DOM_V.BAND n)
      let u := u.setFld PWR_STAT.THROTTLE 0 (b2n (u.pwr.sensors.any (fun e => decide (0 < e.2.steps))))
      if u.flag PWR_STAT.THROTTLE then u.ev PWR_EVENT.THROTTLE else u).retargetAll.showLim).showAlert)))
  ∧ (∀ (s : State), 
      exec (.thermalShutdown) s = .next ({ s.resetCold GLB_RESET_CAUSE.THERM with life.boot := if s.life.low = [] then 1 else 2 }))
  ∧ (∀ (s : State) (id : Nat), s.pwr.hints.any (fun h => h.id == id && !h.active && decide (h.since + (h.start - 30) * usNs ≤ s.now)) = true → 
      exec (.hintActivate id) s = .next (s.activateHint id))
  ∧ (∀ (s : State) (id : Nat), s.pwr.hints.any (fun h => h.id == id && decide (h.since + (h.start + h.dur) * usNs ≤ s.now)) = true → 
      exec (.hintExpire id) s = .next ({ s with pwr.hints := s.pwr.hints.filter (fun h => h.id != id) }.hintsChanged))

/-- Collection of an event, the end of a pulse, a write of FLT_HIST_SEL, and the Malthouse faults answer the stated next state under the stated conditions. (R492, R493, R494, R496, R497, R498, R502.) -/
def Obligations.FaultEvents : Prop :=
  (∀ (s : State) (w : FltWait), nextEvent s.flt.waiting = some w → 
      exec (.faultEventCollect) s = .next ({ s with flt.waiting := s.flt.waiting.erase w }.collect w.ev))
  ∧ (∀ (s : State), sircCycles s.flt.pulseAt + 86 ≤ sircCycles s.now → 
      exec (.errPulseEnd) s = .next ({ s with flt.pulse := false }.showErrN))
  ∧ (∀ (s : State) (i : Nat), i < 32 → 
      exec (.fltHistSelWrite i) s = .next (s.histLatch i))
  ∧ (∀ (s : State) (pc : Nat), s.life.boot = 0 → (s.notePerm (tgt 0 0) 0x0102).permCount (tgt 0 0) 0x0102 (1000 * msNs) < 2 → 
      exec (.lockstepMismatch pc) s = .next ({ s.notePerm (tgt 0 0) 0x0102 with life.boot := 3 }.raise 0x0102 kRETRIED (tgt 0 0) (pc % 2 ^ 32)))
  ∧ (∀ (s : State), s.life.boot = 0 → 
      exec (.malthouseWatchdog) s = .next ((s.raise 0x0103 kRETRIED (tgt 0 0) 0).resetWarm GLB_RESET_CAUSE.WDOG))

/-- Check-in, its timeout, DFU, reset pins, JTAG, SMBus and USB events answer the stated next state under the stated conditions. (R516, R517, R518, R524, R534, R537, R542, R543.) -/
def Obligations.FirmwareAndPinEvents : Prop :=
  (∀ (s : State) (n : Nat) (t : State), s.life.boot = 0 → s.flag SVC_FW_STATUS.TRIAL = true → s.fld SVC_FW_STATUS.RUN_SLOT = n → t = ({ ((s.writeRec n none).setFld SVC_FW_STATUS.TRIAL 0 0).setFld SVC_FW_STATUS.CHECKIN_MS 0 0 with cmd.pause := false } : State) → t.modeUp = true → 
      exec (.fwCheckin) s = .next (({ t.changeBases (s.fwSlot n).hdr with fw.act := (t.changeBases (s.fwSlot n).hdr).fw.act.map (fun (a : FwAct) => { a with fate := 3 }) } : State).actSettle))
  ∧ (∀ (s : State) (n : Nat) (t : State), s.life.boot = 0 → s.flag SVC_FW_STATUS.TRIAL = true → s.fld SVC_FW_STATUS.RUN_SLOT = n → t = ({ ((s.writeRec n none).setFld SVC_FW_STATUS.TRIAL 0 0).setFld SVC_FW_STATUS.CHECKIN_MS 0 0 with cmd.pause := false } : State) → t.modeUp = false → 
      exec (.fwCheckin) s = .next (({ t with fw.baseId := hdrWord (s.fwSlot n).hdr 16, fw.tunId := hdrWord (s.fwSlot n).hdr 20, fw.act := t.fw.act.map (fun (a : FwAct) => { a with fate := 3 }) } : State).actSettle))
  ∧ (∀ (s : State) (n : Nat), s.life.boot = 0 → s.flag SVC_FW_STATUS.TRIAL = true → s.fw.trialAt + 2000 * msNs ≤ s.now → s.fld SVC_FW_STATUS.RUN_SLOT = n → 
      exec (.fwCheckinTimeout) s = .next ((let t := ((s.setFld SVC_FW_STATUS.TRIAL 0 0).setFld SVC_FW_STATUS.CHECKIN_MS 0 0).ev GLB_RESET_CAUSE.REVERT
      let t := (t.ev SVC_FW_EVENT.REVERTED).raise 0x0B02 kRETRIED (tgt cSVC 2) (n % 2)
      { t with life.boot := 3, cmd.pause := true, fw.act := t.fw.act.map (fun (a : FwAct) => { a with fate := 2 }) })))
  ∧ (∀ (s : State) (bytes : List Nat), s.life.boot = 0 → s.flag SVC_USB.CONFIGURED = true → bytes ≠ [] → bytes.length ≤ 4096 → s.fld SVC_USB.DFU_STATE = 5 → 
      exec (.dfuDownload bytes 0) s = .next ((let t := (s.setFld SVC_USB.DFU_STATE 0 5).setFld SVC_USB.DFU_STATUS 0 0
      let t := t.flashFails 0 (127 * t.dfuSlot + t.fw.parts)
      ({ t with fw.dfu := t.fw.dfu ++ bytes.map (· % 256) } : State).dfuPart.dfuPart)))
  ∧ (∀ (s : State) (bytes : List Nat), s.life.boot = 0 → s.flag SVC_USB.CONFIGURED = true → bytes ≠ [] → bytes.length ≤ 4096 → s.fld SVC_USB.DFU_STATE ≠ 5 → s.fld SVC_FW_STATUS.SESSION = 1 → 
      exec (.dfuDownload bytes 0) s = .next (s.dfuError 3))
  ∧ (∀ (s : State), s.life.boot = 0 → s.fld SVC_USB.DFU_STATE = 5 → s.cmd.jobs = [] → s.cmd.heldReps = [] → s.cmd.blocked = none → s.units.any (fun e => e.2.held) = false → s.flag SVC_FW_STATUS.TRIAL = false → s.fw.dfu.length = 256 → s.fw.parts ≠ 0 → blockMissing (s.fwSlot s.dfuSlot) = none → 
      exec (.dfuManifest) s = .next (match s.sigCause (s.fwSlot s.dfuSlot) s.fw.dfu with
      | some 5 => s.dfuError 2
      | some _ => s.dfuError 0x0A
      | none => ({ s.verified s.dfuSlot s.fw.dfu with fw.dfu := [], fw.parts := 0 } : State).dfuRun s.dfuSlot))
  ∧ (∀ (s : State), s.life.boot = 0 → s.fld SVC_USB.DFU_STATE = 5 → s.cmd.jobs = [] → s.cmd.heldReps = [] → s.cmd.blocked = none → s.units.any (fun e => e.2.held) = false → s.flag SVC_FW_STATUS.TRIAL = false → s.fw.dfu.length ≠ 256 → 
      exec (.dfuManifest) s = .next (s.dfuError 2))
  ∧ (∀ (s : State), 
      exec (.porAssert 0) s = .next ({ s.resetPor with life.boot := 2, life.low := s.resetPor.life.low.filter (· != 0) ++ [0] }))
  ∧ (∀ (s : State) (pin lv : Nat), pin ≤ 1 → s.life.low.contains pin = true → 
      exec (.porRelease pin lv) s = .next ((s.setFld GPIO_IN.LEVEL 0 lv).release pin))
  ∧ (∀ (s : State) (code : Nat), s.mode = mTEST → [0x00, 0x02, 0x04, 0x05, 0x08, 0x09].contains code = true → (s.jtagTo code).jtagIr ≠ 1 → 
      exec (.jtagInstruction code) s = .next (s.jtagTo code))
  ∧ (∀ (s : State), (s.jtagTo 1).jtagIr = 1 → 
      exec (.jtagInstruction 1) s = .next ((s.jtagTo 1).emit (.serial "IDCODE" [(s.jtagTo 1).idCode])))
  ∧ (∀ (s : State), 
      exec (.testLogicReset) s = .next (s.jtagTo 1))
  ∧ (∀ (s : State) (code : Nat) (w : Word), s.life.boot ≠ 2 → s.mirror code = some w → 
      exec (.smbBlockRead true code false) s = .next (s.emit (.serial "SMB" (4 :: bytesOf 4 w.toNat))))
  ∧ (∀ (s : State), s.pwr.alert = true → 
      exec (.smbAlertResponse) s = .next (s.emit (.serial "ARA" [s.fld SMB_STATUS.ADDR])))
  ∧ (∀ (s : State), 
      exec (.usbConnect) s = .next (((((s.ev SVC_USB.CONN).ev SVC_USB.CONFIGURED).setFld SVC_USB.DFU_STATE 0 2).setFld SVC_USB.DFU_STATUS 0 0)))

/-- Doorbells, enable and disable of the command rings, a fetch error, the ends of waits and of PENDING commands, released replies, the coalescing timer, a service-port frame and a disconnect answer the stated next state under the stated conditions. (R34, R36, R37, R38, R39, R41, R53, R55, R52, R64, R65.) -/
def Obligations.RingEvents : Prop :=
  (∀ (s : State) (v : Nat), s.lands 1 .CMD_SQ_TAIL 0 → s.flag CMD_CTL.EN = true → bitsAt (wd v) 0 16 < s.sqSize → s.cmd.seqRuns = [] → 
      exec (.cmdSqDoorbell 1 v) s = .next ({ s.setFld CMD_SQ_TAIL.TAIL 0 (bitsAt (wd v) 0 16) with cmd.seqRuns := appendSq (ringHeld (bitsAt (wd v) 0 16) (s.fld CMD_SQ_HEAD.HEAD) s.sqSize) [] }))
  ∧ (∀ (s : State) (v : Nat), s.lands 1 .CMD_CQ_HEAD 0 → s.flag CMD_STATUS.RUN = true → bitsAt (wd v) 0 16 < s.cqSize → 
      exec (.cmdCqHeadWrite 1 v) s = .next ((s.setFld CMD_CQ_HEAD.HEAD 0 (bitsAt (wd v) 0 16)).showFull))
  ∧ (∀ (s : State), s.lands 1 .CMD_CTL 0 → (s.setFld CMD_CTL.IRQ_EN 0 0).flag CMD_CTL.EN = false → ringSizeOk (s.setFld CMD_CTL.IRQ_EN 0 0).sqSize 16 65536 = true → ringSizeOk (s.setFld CMD_CTL.IRQ_EN 0 0).cqSize 16 65536 = true → 
      exec (.cmdRingEnable 1 false) s = .next ({ ((((((s.setFld CMD_CTL.IRQ_EN 0 0).setReg .CMD_SQ_HEAD 0 0).setReg .CMD_SQ_TAIL 0 0).setReg .CMD_CQ_TAIL 0 0).setReg .CMD_CQ_HEAD 0 0).setFld CMD_CTL.EN 0 1).setFld CMD_STATUS.RUN 0 1
        with cmd.phase := true, cmd.irqCnt := 0 }.showFull))
  ∧ (∀ (s : State), s.lands 1 .CMD_CTL 0 → 
      exec (.cmdRingDisable 1 false) s = .next ({ (s.setFld CMD_CTL.IRQ_EN 0 0).setFld CMD_CTL.EN 0 0 with cmd.seqRuns := noSq s.cmd.seqRuns }.settleRun))
  ∧ (∀ (s : State) (n : Nat) (rest : List SeqRun), s.cmd.seqRuns = .sq n :: rest → s.flag CMD_CTL.EN = true → s.cmd.blocked = none → s.cmd.pause = false → 
      exec (.cmdFetchError) s = .next ({ (s.setFld CMD_CTL.EN 0 0).ev CMD_STATUS.FETCH_ERR with cmd.seqRuns := noSq (.sq n :: rest) }.settleRun))
  ∧ (∀ (s : State) (i : Nat) (env : List Nat) (j : Job), s.life.boot = 0 → s.cmd.jobs[i]? = some j → j.stage = .work → 
      exec (.pendingComplete i false env) s = .next (((s.setJobs (s.cmd.jobs.eraseIdx i)).runJob { j.pkt with late := false, env := env, slow := false }).goDown))
  ∧ (∀ (s : State) (b : Blocked), s.cmd.blocked = some b → b.why = .fence → s.cmd.jobs = [] → s.cmd.heldReps = [] → 
      exec (.fenceWaitEnd) s = .next (({ s with cmd.blocked := none }.letRun (effOf b.pkt.opcode) b.pkt).goDown))
  ∧ (∀ (s : State) (b : Blocked), s.cmd.blocked = some b → b.why = .held → s.mustWait b.pkt = false → lostUnit s b.pkt = false → 
      exec (.heldCommandRelease) s = .next (({ s with cmd.blocked := none }.start (effOf b.pkt.opcode) b.pkt).goDown))
  ∧ (∀ (s : State) (r : HeldRep), s.flag CMD_STATUS.RUN = true → s.cmd.heldReps = [r] → s.cqFull = false → 
      exec (.cqReplyRelease) s = .next ({ s.writeCq r.pkt r.rep with cmd.heldReps := [] }.settleRun))
  ∧ (∀ (s : State), s.flag CMD_CTL.IRQ_EN = true → 0 < s.cmd.irqCnt → s.cmd.irqFirst + s.fld CMD_IRQ_CTL.COAL_TIME * usNs ≤ s.now → 
      exec (.cmdIrqCoalTimeout) s = .next ({ s with cmd.irqCnt := 0 }.msix 0))
  ∧ (∀ (s : State) (ws : List Word), s.life.boot = 0 → s.cmd.pause = false → frameOk ws false = true → s.domOn (domQuad 0) = false → 
      exec (.svcCommandFrame ws false) s = .next ({ s with cmd.seqRuns := s.cmd.seqRuns ++ [.svc ((ws.drop 1).take (bitsAt (ws.getD 0 0) 0 16)) false] }))
  ∧ (∀ (s : State), s.cmd.seqRuns = [] → s.cmd.jobs = [] → s.cmd.blocked = none → 
      exec (.svcPortDisconnect) s = .next (((((s.setFld SVC_USB.CONN 0 0).setFld SVC_USB.CONFIGURED 0 0).setFld SVC_USB.DFU_STATE 0 2).setFld CLK_TRIM_CTL.SOF_SEEN 0 0)))

/-- Enable, disable, doorbells, a transmitted and a delivered frame, an error and the coalescing timer of the packet rings answer the stated next state under the stated conditions. (R67, R68, R70.) -/
def Obligations.PacketDmaEvents : Prop :=
  (∀ (s : State), s.lands 1 .PKT_CTL 0 → s.flag PKT_CTL.EN = false → s.pktRingsOk = true → 
      exec (.pktDmaEnable 1) s = .next (((eachIn (List.range 8) (eachIn (List.range 4) s (fun s t => (s.setReg .PKT_TX_TAIL t 0).setReg .PKT_TX_HEAD t 0))
        (fun s r => (s.setReg .PKT_RX_TAIL r 0).setReg .PKT_RX_HEAD r 0)).setFld PKT_CTL.EN 0 1).setFld PKT_STATUS.RUN 0 1))
  ∧ (∀ (s : State), s.lands 1 .PKT_CTL 0 → 
      exec (.pktDmaDisable 1) s = .next ((s.setFld PKT_CTL.EN 0 0).pktSettle))
  ∧ (∀ (s : State) (r v : Nat), r < 4 → s.lands 1 .PKT_TX_TAIL r → s.flag PKT_CTL.EN = true → bitsAt (wd v) 0 16 < s.fld PKT_TX_SIZE.ENTRIES r → 
      exec (.pktTxDoorbell 1 r v) s = .next (s.setFld PKT_TX_TAIL.TAIL r (bitsAt (wd v) 0 16)))
  ∧ (∀ (s : State) (r v : Nat), r < 8 → s.lands 1 .PKT_RX_TAIL r → s.flag PKT_CTL.EN = true → bitsAt (wd v) 0 16 < s.fld PKT_RX_SIZE.ENTRIES r → 
      exec (.pktRxDoorbell 1 r v) s = .next (s.setFld PKT_RX_TAIL.TAIL r (bitsAt (wd v) 0 16)))
  ∧ (∀ (s : State) (r : Nat) (entry : List Word) (bytes : List Nat), s.pktRuns = true → s.flag PKT_CTL.EN = true → s.txNext = some r → txEntryOk entry = true → s.injectUsed 0 + txLen entry + 4 ≤ 32768 → 
      exec (.pktTxFrame r entry bytes) s = .next (((({ s.setInjQ 0 (s.injQ 0 ++ [txFrame entry bytes s.now s.tod]) with pkt.lastTx := r }.bump .PKT_TX_FRAMES).txAdvance r).pktCount r)))
  ∧ (∀ (s : State) (i r : Nat) (addrs : List Nat) (rest : List (Nat × Nat)), s.tun.hostOut = (i, r) :: rest → s.pktRuns = true → s.unread i = false → 
      exec (.pktRxDeliver addrs) s = .next (((((eachIn (List.range (s.rxNeed r (s.tframe i))) s (fun t k =>
        t.rxEntry r (s.tframe i) (extTs s.tod (s.tframe i).inTs) (hostLen (s.tframe i)) (s.rxNeed r (s.tframe i)) k (addrs.getD k 0))).bump .PKT_RX_FRAMES).pktCount (4 + r)).rxDone i)))
  ∧ (∀ (s : State) (r : Nat), s.pktRuns = true → r < 4 → 0 < s.txHeld r → 
      exec (.pktDmaError 0 r) s = .next ((s.bump .PKT_TX_BAD).pktFail))
  ∧ (∀ (s : State) (r : Nat), r < 12 → s.pktIrqFld r 24 1 = 1 → 0 < tabGet s.pkt.irq (r, 0) 0 → tabGet s.pkt.irq (r, 1) 0 + s.pktIrqFld r 8 16 * usNs ≤ s.now → 
      exec (.pktIrqCoalTimeout r) s = .next ((s.setPktIrq r 0 0).msix (pktVector r)))

/-- A write and a read of a register on the service port, by their rows, the commit of a PAIRED group, its change point, and the two resets of GLB_RESET_CTL answer the stated next state under the stated conditions. (R74, R77, R78, R79, R81, R86, R87, R90.) -/
def Obligations.RegisterEvents : Prop :=
  (∀ (s : State) (w : Word), s.lands 1 .GLB_SCRATCH 0 → 
      exec (.registerWrite 1 (regOffset .GLB_SCRATCH) [w] true) s = .next (s.writePlain .GLB_SCRATCH 0 w))
  ∧ (∀ (s : State), s.busUp 1 = true → s.busWaits 1 (regOffset .TELEM_EVENT) = false → s.busCheck 1 (regOffset .TELEM_EVENT) 1 false true = .inl ⟨.TELEM_EVENT, 0, false⟩ → tabGet s.hiLatch (latchKey 1 .TELEM_EVENT 0) none = none → 
      exec (.rcRegisterRead 1 (regOffset .TELEM_EVENT) 1) s = .next ((s.setReg .TELEM_EVENT 0 (s.reg .TELEM_EVENT 0 &&& ~~~(wd (Reg.info .TELEM_EVENT).rc))).emit (.readData 1 (regOffset .TELEM_EVENT) (some [s.reg .TELEM_EVENT 0]))))
  ∧ (∀ (s : State), s.busUp 1 = true → s.busWaits 1 (regOffset .TELEM_PPS_IN_LO) = false → s.busCheck 1 (regOffset .TELEM_PPS_IN_LO) 1 false true = .inl ⟨.TELEM_PPS_IN_LO, 0, false⟩ → tabGet s.hiLatch (latchKey 1 .TELEM_PPS_IN_LO 0) none = none → 
      exec (.pairLoRead 1 (regOffset .TELEM_PPS_IN_LO)) s = .next ((s.setLatch (latchKey 1 .TELEM_PPS_IN_HI 0) (some (s.reg .TELEM_PPS_IN_HI 0))).emit (.readData 1 (regOffset .TELEM_PPS_IN_LO) (some [s.reg .TELEM_PPS_IN_LO 0]))))
  ∧ (∀ (s : State), s.busUp 1 = true → s.busWaits 1 0 = false → tabGet s.hiLatch (latchKey 1 .GLB_ID 0) none = none → 
      exec (.svcRegisterRead 0xC0 0x10 0 0 4) s = .next (s.emit (.readData 1 0 (some [s.reg .GLB_ID 0]))))
  ∧ (∀ (s : State) (w : Word), s.lands 1 .GLB_SCRATCH 0 → 
      exec (.svcRegisterWrite 0x40 0x11 0x18 0 4 w) s = .next (s.writePlain .GLB_SCRATCH 0 w))
  ∧ (∀ (s : State) (b : Nat) (v : Word), b < 8 → s.domOn (domBough b) = true → bitsAt v 31 1 = 1 → 
      exec (.pairCommit b v) s = .next (s.boughCommit b (bitsAt v 0 16)))
  ∧ (∀ (s : State) (c : PairCommit), s.pair 8 = some c → 
      exec (.pairApply 8) s = .next (((s.setPair 8 none).applyPlan c.sample).showTunPair 0 (some 1)))
  ∧ (∀ (s : State), s.lands 1 .GLB_RESET_CTL 0 → 
      exec (.glbResetWarm 1 0xC1A5) s = .next (s.resetWarm GLB_RESET_CAUSE.WARM))
  ∧ (∀ (s : State), s.lands 1 .GLB_RESET_CTL 0 → 
      exec (.glbResetCold 1 0xC1A5) s = .next (s.resetCold GLB_RESET_CAUSE.COLD))

/-- For every state and packet such that the module takes the packet now, it passes R49 steps 1 to 8, no FENCE and no recovery makes it wait, and its effect succeeds, each of the commands nop, identify, setMode, snapshot, fenceCmd, getStatus answers a next state: the effect its opcode gives on the state with the command taken, and its reply (or, where the command goes on, a PENDING reply or a blocked sequence). (R49, R50, R55, R61, R62, R63, R82, R428.) -/
def Obligations.ModuleCommands : Prop :=
  (∀ (s : State) (p : Packet), s.takes 0x0000 p → (runEff effNop p s.take).2.status = 0 → 
      exec (.nop p) s = .next (s.take.answered p (runEff effNop p s.take)))
  ∧ (∀ (s : State) (p : Packet), s.takes 0x0001 p → (runEff effIdentify p s.take).2.status = 0 → 
      exec (.identify p) s = .next (s.take.answered p (runEff effIdentify p s.take)))
  ∧ (∀ (s : State) (p : Packet), s.takes 0x0002 p → (runEff effSetMode p s.take).2.status = 0 → 
      exec (.setMode p) s = .next ((s.take.answered p (runEff effSetMode p s.take)).goDown))
  ∧ (∀ (s : State) (p : Packet), s.takes 0x0003 p → (runEff effSnapshot p s.take).2.status = 0 → 
      exec (.snapshot p) s = .next (s.take.answered p (runEff effSnapshot p s.take)))
  ∧ (∀ (s : State) (p : Packet), s.takes 0x0004 p → (runEff effNop p s.take).2.status = 0 → 
      exec (.fenceCmd p) s = .next (s.take.answered p (runEff effNop p s.take)))
  ∧ (∀ (s : State) (p : Packet), s.takes 0x0005 p → (runEff effGetStatus p s.take).2.status = 0 → 
      exec (.getStatus p) s = .next (s.take.answered p (runEff effGetStatus p s.take)))

/-- For every state and packet such that the module takes the packet now, it passes R49 steps 1 to 8, no FENCE and no recovery makes it wait, and its effect succeeds, each of the commands portCfg, portEnable, portStatus, laneCfg, laneTest, eyeScan, laneFom, pfcCfg, ptpCfg answers a next state: the effect its opcode gives on the state with the command taken, and its reply (or, where the command goes on, a PENDING reply or a blocked sequence). (R49, R50, R111, R112, R115, R123, R129, R138, R144, R148.) -/
def Obligations.PortCommands : Prop :=
  (∀ (s : State) (p : Packet), s.takes 0x0101 p → (runEff effPortCfg p s.take).2.status = 0 → 
      exec (.portCfg p) s = .next (s.take.answered p (runEff effPortCfg p s.take)))
  ∧ (∀ (s : State) (p : Packet), s.takes 0x0102 p → (runEff effPortEnable p s.take).2.status = 0 → 
      exec (.portEnable p) s = .next (s.take.answered p (runEff effPortEnable p s.take)))
  ∧ (∀ (s : State) (p : Packet), s.takes 0x0103 p → (runEff effPortStatus p s.take).2.status = 0 → 
      exec (.portStatus p) s = .next (s.take.answered p (runEff effPortStatus p s.take)))
  ∧ (∀ (s : State) (p : Packet), s.takes 0x0104 p → (runEff effLaneCfg p s.take).2.status = 0 → 
      exec (.laneCfg p) s = .next (s.take.answered p (runEff effLaneCfg p s.take)))
  ∧ (∀ (s : State) (p : Packet), s.takes 0x0105 p → (runEff effLaneTest p s.take).2.status = 0 → 
      exec (.laneTest p) s = .next (s.take.answered p (runEff effLaneTest p s.take)))
  ∧ (∀ (s : State) (p : Packet), s.takes 0x0106 p → (runEff effEyeScan p s.take).2.status = 0 → 
      exec (.eyeScan p) s = .next (s.take.answered p (runEff effEyeScan p s.take)))
  ∧ (∀ (s : State) (p : Packet), s.takes 0x0107 p → (runEff effLaneFom p s.take).2.status = 0 → 
      exec (.laneFom p) s = .next (s.take.answered p (runEff effLaneFom p s.take)))
  ∧ (∀ (s : State) (p : Packet), s.takes 0x0108 p → (runEff effPfcCfg p s.take).2.status = 0 → 
      exec (.pfcCfg p) s = .next (s.take.answered p (runEff effPfcCfg p s.take)))
  ∧ (∀ (s : State) (p : Packet), s.takes 0x0109 p → (runEff effPtpCfg p s.take).2.status = 0 → 
      exec (.ptpCfg p) s = .next (s.take.answered p (runEff effPtpCfg p s.take)))

/-- For every state and packet such that the module takes the packet now, it passes R49 steps 1 to 8, no FENCE and no recovery makes it wait, and its effect succeeds, each of the commands tblProfile, tblInsert, tblDelete, tblLookup, tblDma, tblAudit, tblLock, tblLearnCfg, ecmpGroupSet, ecmpMemberSet, hashCfg answers a next state: the effect its opcode gives on the state with the command taken, and its reply (or, where the command goes on, a PENDING reply or a blocked sequence). (R49, R50, R230, R233, R236, R241, R246, R251, R274.) -/
def Obligations.TableCommands : Prop :=
  (∀ (s : State) (p : Packet), s.takes 0x0201 p → (runEff effTblProfile p s.take).2.status = 0 → 
      exec (.tblProfile p) s = .next (s.take.answered p (runEff effTblProfile p s.take)))
  ∧ (∀ (s : State) (p : Packet), s.takes 0x0202 p → (runEff effTblInsert p s.take).2.status = 0 → 
      exec (.tblInsert p) s = .next (s.take.answered p (runEff effTblInsert p s.take)))
  ∧ (∀ (s : State) (p : Packet), s.takes 0x0203 p → (runEff effTblDelete p s.take).2.status = 0 → 
      exec (.tblDelete p) s = .next (s.take.answered p (runEff effTblDelete p s.take)))
  ∧ (∀ (s : State) (p : Packet), s.takes 0x0204 p → (runEff effTblLookup p s.take).2.status = 0 → 
      exec (.tblLookup p) s = .next (s.take.answered p (runEff effTblLookup p s.take)))
  ∧ (∀ (s : State) (p : Packet), s.takes 0x0205 p → (runEff effTblDma p s.take).2.status = 0 → 
      exec (.tblDma p) s = .next (s.take.answered p (runEff effTblDma p s.take)))
  ∧ (∀ (s : State) (p : Packet), s.takes 0x0206 p → (runEff effTblAudit p s.take).2.status = 0 → 
      exec (.tblAudit p) s = .next (s.take.answered p (runEff effTblAudit p s.take)))
  ∧ (∀ (s : State) (p : Packet), s.takes 0x0207 p → (runEff effTblLock p s.take).2.status = 0 → 
      exec (.tblLock p) s = .next (s.take.answered p (runEff effTblLock p s.take)))
  ∧ (∀ (s : State) (p : Packet), s.takes 0x0208 p → (runEff effTblLearnCfg p s.take).2.status = 0 → 
      exec (.tblLearnCfg p) s = .next (s.take.answered p (runEff effTblLearnCfg p s.take)))
  ∧ (∀ (s : State) (p : Packet), s.takes 0x0209 p → (runEff effEcmpGroupSet p s.take).2.status = 0 → 
      exec (.ecmpGroupSet p) s = .next (s.take.answered p (runEff effEcmpGroupSet p s.take)))
  ∧ (∀ (s : State) (p : Packet), s.takes 0x020A p → (runEff effEcmpMemberSet p s.take).2.status = 0 → 
      exec (.ecmpMemberSet p) s = .next (s.take.answered p (runEff effEcmpMemberSet p s.take)))
  ∧ (∀ (s : State) (p : Packet), s.takes 0x020B p → (runEff effHashCfg p s.take).2.status = 0 → 
      exec (.hashCfg p) s = .next (s.take.answered p (runEff effHashCfg p s.take)))

/-- For every state and packet such that the module takes the packet now, it passes R49 steps 1 to 8, no FENCE and no recovery makes it wait, and its effect succeeds, each of the commands clsWrite, clsRead, clsTreeLoad, meterCfg, meterRead answers a next state: the effect its opcode gives on the state with the command taken, and its reply (or, where the command goes on, a PENDING reply or a blocked sequence). (R49, R50, R267, R268, R269, R350, R351.) -/
def Obligations.ClassifierCommands : Prop :=
  (∀ (s : State) (p : Packet), s.takes 0x0301 p → (runEff effClsWrite p s.take).2.status = 0 → 
      exec (.clsWrite p) s = .next (s.take.answered p (runEff effClsWrite p s.take)))
  ∧ (∀ (s : State) (p : Packet), s.takes 0x0302 p → (runEff effClsRead p s.take).2.status = 0 → 
      exec (.clsRead p) s = .next (s.take.answered p (runEff effClsRead p s.take)))
  ∧ (∀ (s : State) (p : Packet), s.takes 0x0303 p → (runEff effClsTreeLoad p s.take).2.status = 0 → 
      exec (.clsTreeLoad p) s = .next (s.take.answered p (runEff effClsTreeLoad p s.take)))
  ∧ (∀ (s : State) (p : Packet), s.takes 0x0304 p → (runEff effMeterCfg p s.take).2.status = 0 → 
      exec (.meterCfg p) s = .next (s.take.answered p (runEff effMeterCfg p s.take)))
  ∧ (∀ (s : State) (p : Packet), s.takes 0x0305 p → (runEff effMeterRead p s.take).2.status = 0 → 
      exec (.meterRead p) s = .next (s.take.answered p (runEff effMeterRead p s.take)))

/-- For every state and packet such that the module takes the packet now, it passes R49 steps 1 to 8, no FENCE and no recovery makes it wait, and its effect succeeds, each of the commands poolCfg, queueCfg, schedCfg, shaperCfg, wredCfg, pfcWdCfg, qholdCfg, spillCfg, hwmRead answers a next state: the effect its opcode gives on the state with the command taken, and its reply (or, where the command goes on, a PENDING reply or a blocked sequence). (R49, R50, R304, R305, R315, R331, R338, R341, R344, R354, R355, R358.) -/
def Obligations.BufferCommands : Prop :=
  (∀ (s : State) (p : Packet), s.takes 0x0401 p → (runEff effPoolCfg p s.take).2.status = 0 → 
      exec (.poolCfg p) s = .next (s.take.answered p (runEff effPoolCfg p s.take)))
  ∧ (∀ (s : State) (p : Packet), s.takes 0x0402 p → (runEff effQueueCfg p s.take).2.status = 0 → 
      exec (.queueCfg p) s = .next (s.take.answered p (runEff effQueueCfg p s.take)))
  ∧ (∀ (s : State) (p : Packet), s.takes 0x0403 p → (runEff effSchedCfg p s.take).2.status = 0 → 
      exec (.schedCfg p) s = .next (s.take.answered p (runEff effSchedCfg p s.take)))
  ∧ (∀ (s : State) (p : Packet), s.takes 0x0404 p → (runEff effShaperCfg p s.take).2.status = 0 → 
      exec (.shaperCfg p) s = .next (s.take.answered p (runEff effShaperCfg p s.take)))
  ∧ (∀ (s : State) (p : Packet), s.takes 0x0405 p → (runEff effWredCfg p s.take).2.status = 0 → 
      exec (.wredCfg p) s = .next (s.take.answered p (runEff effWredCfg p s.take)))
  ∧ (∀ (s : State) (p : Packet), s.takes 0x0406 p → (runEff effPfcWdCfg p s.take).2.status = 0 → 
      exec (.pfcWdCfg p) s = .next (s.take.answered p (runEff effPfcWdCfg p s.take)))
  ∧ (∀ (s : State) (p : Packet), s.takes 0x0407 p → (runEff effQholdCfg p s.take).2.status = 0 → 
      exec (.qholdCfg p) s = .next (s.take.answered p (runEff effQholdCfg p s.take)))
  ∧ (∀ (s : State) (p : Packet), s.takes 0x0408 p → (runEff effSpillCfg p s.take).2.status = 0 → 
      exec (.spillCfg p) s = .next (s.take.answered p (runEff effSpillCfg p s.take)))
  ∧ (∀ (s : State) (p : Packet), s.takes 0x0409 p → (runEff effHwmRead p s.take).2.status = 0 → 
      exec (.hwmRead p) s = .next (s.take.answered p (runEff effHwmRead p s.take)))

/-- For every state and packet such that the module takes the packet now, it passes R49 steps 1 to 8, no FENCE and no recovery makes it wait, and its effect succeeds, each of the commands telemStreamCfg, sapFlag, telemRead, tagCfg, ioamCfg, perfCfg, perfRead answers a next state: the effect its opcode gives on the state with the command taken, and its reply (or, where the command goes on, a PENDING reply or a blocked sequence). (R49, R50, R367, R370, R374, R378, R381, R387, R388.) -/
def Obligations.TelemetryCommands : Prop :=
  (∀ (s : State) (p : Packet), s.takes 0x0501 p → (runEff effTelemStreamCfg p s.take).2.status = 0 → 
      exec (.telemStreamCfg p) s = .next (s.take.answered p (runEff effTelemStreamCfg p s.take)))
  ∧ (∀ (s : State) (p : Packet), s.takes 0x0502 p → (runEff effSapFlag p s.take).2.status = 0 → 
      exec (.sapFlag p) s = .next (s.take.answered p (runEff effSapFlag p s.take)))
  ∧ (∀ (s : State) (p : Packet), s.takes 0x0503 p → (runEff effTelemRead p s.take).2.status = 0 → 
      exec (.telemRead p) s = .next (s.take.answered p (runEff effTelemRead p s.take)))
  ∧ (∀ (s : State) (p : Packet), s.takes 0x0504 p → (runEff effTagCfg p s.take).2.status = 0 → 
      exec (.tagCfg p) s = .next (s.take.answered p (runEff effTagCfg p s.take)))
  ∧ (∀ (s : State) (p : Packet), s.takes 0x0505 p → (runEff effIoamCfg p s.take).2.status = 0 → 
      exec (.ioamCfg p) s = .next (s.take.answered p (runEff effIoamCfg p s.take)))
  ∧ (∀ (s : State) (p : Packet), s.takes 0x0506 p → (runEff effPerfCfg p s.take).2.status = 0 → 
      exec (.perfCfg p) s = .next (s.take.answered p (runEff effPerfCfg p s.take)))
  ∧ (∀ (s : State) (p : Packet), s.takes 0x0507 p → (runEff effPerfRead p s.take).2.status = 0 → 
      exec (.perfRead p) s = .next (s.take.answered p (runEff effPerfRead p s.take)))

/-- For every state and packet such that the module takes the packet now, it passes R49 steps 1 to 8, no FENCE and no recovery makes it wait, and its effect succeeds, each of the commands gristGroupOpen, gristGroupClose, gristGroupStatus answers a next state: the effect its opcode gives on the state with the command taken, and its reply (or, where the command goes on, a PENDING reply or a blocked sequence). (R49, R50, R396, R410, R411.) -/
def Obligations.GristCommands : Prop :=
  (∀ (s : State) (p : Packet), s.takes 0x0601 p → (runEff effGristGroupOpen p s.take).2.status = 0 → 
      exec (.gristGroupOpen p) s = .next (s.take.answered p (runEff effGristGroupOpen p s.take)))
  ∧ (∀ (s : State) (p : Packet), s.takes 0x0602 p → (runEff effGristGroupClose p s.take).2.status = 0 → 
      exec (.gristGroupClose p) s = .next (s.take.answered p (runEff effGristGroupClose p s.take)))
  ∧ (∀ (s : State) (p : Packet), s.takes 0x0603 p → (runEff effGristGroupStatus p s.take).2.status = 0 → 
      exec (.gristGroupStatus p) s = .next (s.take.answered p (runEff effGristGroupStatus p s.take)))

/-- For every state and packet such that the module takes the packet now, it passes R49 steps 1 to 8, no FENCE and no recovery makes it wait, and its effect succeeds, each of the commands pwrHint, pwrOpp, pwrCap, pwrStatus, pwrPriv answers a next state: the effect its opcode gives on the state with the command taken, and its reply (or, where the command goes on, a PENDING reply or a blocked sequence). (R49, R50, R469, R481, R482, R483, R488.) -/
def Obligations.PowerCommands : Prop :=
  (∀ (s : State) (p : Packet), s.takes 0x0701 p → (runEff effPwrHint p s.take).2.status = 0 → 
      exec (.pwrHint p) s = .next (s.take.answered p (runEff effPwrHint p s.take)))
  ∧ (∀ (s : State) (p : Packet), s.takes 0x0702 p → (runEff effPwrOpp p s.take).2.status = 0 → 
      exec (.pwrOpp p) s = .next (s.take.answered p (runEff effPwrOpp p s.take)))
  ∧ (∀ (s : State) (p : Packet), s.takes 0x0703 p → (runEff effPwrCap p s.take).2.status = 0 → 
      exec (.pwrCap p) s = .next (s.take.answered p (runEff effPwrCap p s.take)))
  ∧ (∀ (s : State) (p : Packet), s.takes 0x0704 p → (runEff effPwrStatus p s.take).2.status = 0 → 
      exec (.pwrStatus p) s = .next (s.take.answered p (runEff effPwrStatus p s.take)))
  ∧ (∀ (s : State) (p : Packet), s.takes 0x0705 p → (runEff effPwrPriv p s.take).2.status = 0 → 
      exec (.pwrPriv p) s = .next (s.take.answered p (runEff effPwrPriv p s.take)))

/-- For every state and packet such that the module takes the packet now, it passes R49 steps 1 to 8, no FENCE and no recovery makes it wait, and its effect succeeds, each of the commands clkSwitch, clkTrim, clkStatus answers a next state: the effect its opcode gives on the state with the command taken, and its reply (or, where the command goes on, a PENDING reply or a blocked sequence). (R49, R50, R455, R460, R461.) -/
def Obligations.ClockCommands : Prop :=
  (∀ (s : State) (p : Packet), s.takes 0x0801 p → (runEff effClkSwitch p s.take).2.status = 0 → 
      exec (.clkSwitch p) s = .next (s.take.answered p (runEff effClkSwitch p s.take)))
  ∧ (∀ (s : State) (p : Packet), s.takes 0x0802 p → (runEff effClkTrim p s.take).2.status = 0 → 
      exec (.clkTrim p) s = .next (s.take.answered p (runEff effClkTrim p s.take)))
  ∧ (∀ (s : State) (p : Packet), s.takes 0x0803 p → (runEff effClkStatus p s.take).2.status = 0 → 
      exec (.clkStatus p) s = .next (s.take.answered p (runEff effClkStatus p s.take)))

/-- For every state and packet such that the module takes the packet now, it passes R49 steps 1 to 8, no FENCE and no recovery makes it wait, and its effect succeeds, each of the commands fltAck, fltHistory, fltMask, fltInject answers a next state: the effect its opcode gives on the state with the command taken, and its reply (or, where the command goes on, a PENDING reply or a blocked sequence). (R49, R50, R496, R504, R505, R506, R507.) -/
def Obligations.FaultCommands : Prop :=
  (∀ (s : State) (p : Packet), s.takes 0x0901 p → (runEff effFltAck p s.take).2.status = 0 → 
      exec (.fltAck p) s = .next (s.take.answered p (runEff effFltAck p s.take)))
  ∧ (∀ (s : State) (p : Packet), s.takes 0x0902 p → (runEff effFltHistory p s.take).2.status = 0 → 
      exec (.fltHistory p) s = .next (s.take.answered p (runEff effFltHistory p s.take)))
  ∧ (∀ (s : State) (p : Packet), s.takes 0x0903 p → (runEff effFltMask p s.take).2.status = 0 → 
      exec (.fltMask p) s = .next (s.take.answered p (runEff effFltMask p s.take)))
  ∧ (∀ (s : State) (p : Packet), s.takes 0x0904 p → (runEff effFltInject p s.take).2.status = 0 → 
      exec (.fltInject p) s = .next (s.take.answered p (runEff effFltInject p s.take)))

/-- For every state and packet such that the module takes the packet now, it passes R49 steps 1 to 8, no FENCE and no recovery makes it wait, and its effect succeeds, each of the commands fwBegin, fwBlock, fwVerify, fwActivate, fwInfo answers a next state: the effect its opcode gives on the state with the command taken, and its reply (or, where the command goes on, a PENDING reply or a blocked sequence). (R49, R50, R519, R520, R521, R522, R523.) -/
def Obligations.FirmwareCommands : Prop :=
  (∀ (s : State) (p : Packet), s.takes 0x0A01 p → (runEff effFwBegin p s.take).2.status = 0 → 
      exec (.fwBegin p) s = .next (s.take.answered p (runEff effFwBegin p s.take)))
  ∧ (∀ (s : State) (p : Packet), s.takes 0x0A02 p → (runEff effFwBlock p s.take).2.status = 0 → 
      exec (.fwBlock p) s = .next (s.take.answered p (runEff effFwBlock p s.take)))
  ∧ (∀ (s : State) (p : Packet), s.takes 0x0A03 p → indirect p = false → p.late = false → s.take.fld SVC_FW_STATUS.SESSION = 1 → blockMissing (s.take.fwSlot s.take.idleSlot) = none → envAt p 0 = 0 → 
      exec (.fwVerify p) s = .next (match s.take.sigCause (s.take.fwSlot s.take.idleSlot) (wordBytes (parWords p 0 64)) with
        | some c => s.take.reply p (refuse eSIGNATURE c)
        | none => (s.take.verified s.take.idleSlot (wordBytes (parWords p 0 64))).reply p (ok [wd s.take.idleSlot])))
  ∧ (∀ (s : State) (p : Packet), s.takes 0x0A04 p → (runEff effFwActivate p s.take).2.status = 0 → 
      exec (.fwActivate p) s = .next (s.take.answered p (runEff effFwActivate p s.take)))
  ∧ (∀ (s : State) (p : Packet), s.takes 0x0A05 p → (runEff effFwInfo p s.take).2.status = 0 → 
      exec (.fwInfo p) s = .next (s.take.answered p (runEff effFwInfo p s.take)))

/-- For every state and packet such that the module takes the packet now, it passes R49 steps 1 to 8, no FENCE and no recovery makes it wait, and its effect succeeds, each of the commands progLoad, progPatch, storeModeSet, progActivate, progRead answers a next state: the effect its opcode gives on the state with the command taken, and its reply (or, where the command goes on, a PENDING reply or a blocked sequence). (R49, R50, R211, R216, R217, R221, R223.) -/
def Obligations.StoreCommands : Prop :=
  (∀ (s : State) (p : Packet), s.takes 0x0B01 p → (runEff effProgLoad p s.take).2.status = 0 → 
      exec (.progLoad p) s = .next (s.take.answered p (runEff effProgLoad p s.take)))
  ∧ (∀ (s : State) (p : Packet), s.takes 0x0B02 p → (runEff effProgPatch p s.take).2.status = 0 → 
      exec (.progPatch p) s = .next (s.take.answered p (runEff effProgPatch p s.take)))
  ∧ (∀ (s : State) (p : Packet), s.takes 0x0B03 p → (runEff effStoreModeSet p s.take).2.status = 0 → 
      exec (.storeModeSet p) s = .next (s.take.answered p (runEff effStoreModeSet p s.take)))
  ∧ (∀ (s : State) (p : Packet), s.takes 0x0B04 p → (runEff effProgActivate p s.take).2.status = 0 → 
      exec (.progActivate p) s = .next (s.take.answered p (runEff effProgActivate p s.take)))
  ∧ (∀ (s : State) (p : Packet), s.takes 0x0B05 p → (runEff effProgRead p s.take).2.status = 0 → 
      exec (.progRead p) s = .next (s.take.answered p (runEff effProgRead p s.take)))

/-- For every state and packet such that the module takes the packet now, it passes R49 steps 1 to 8, no FENCE and no recovery makes it wait, and its effect succeeds, each of the commands unitGraft, unitRestore, unitRetire, unitState, dozeCfg answers a next state: the effect its opcode gives on the state with the command taken, and its reply (or, where the command goes on, a PENDING reply or a blocked sequence). (R49, R50, R438, R439, R440, R441, R442, R443.) -/
def Obligations.UnitCommands : Prop :=
  (∀ (s : State) (p : Packet), s.takes 0x0C01 p → (runEff effUnitGraft p s.take).2.status = 0 → 
      exec (.unitGraft p) s = .next (s.take.answered p (runEff effUnitGraft p s.take)))
  ∧ (∀ (s : State) (p : Packet), s.takes 0x0C02 p → (runEff effUnitRestore p s.take).2.status = 0 → 
      exec (.unitRestore p) s = .next (s.take.answered p (runEff effUnitRestore p s.take)))
  ∧ (∀ (s : State) (p : Packet), s.takes 0x0C03 p → (runEff effUnitRetire p s.take).2.status = 0 → 
      exec (.unitRetire p) s = .next (s.take.answered p (runEff effUnitRetire p s.take)))
  ∧ (∀ (s : State) (p : Packet), s.takes 0x0C04 p → (runEff effUnitState p s.take).2.status = 0 → 
      exec (.unitState p) s = .next (s.take.answered p (runEff effUnitState p s.take)))
  ∧ (∀ (s : State) (p : Packet), s.takes 0x0C05 p → (runEff effDozeCfg p s.take).2.status = 0 → 
      exec (.dozeCfg p) s = .next (s.take.answered p (runEff effDozeCfg p s.take)))

/-- For every command c, queue rest and state s, a step of s with c at the front of its queue is exec of c on s with the rest of the queue; on an empty queue a step lets one ns pass (the model's choice, log entry 2), and the words of the table spell no command. (R34, R36.) -/
def Obligations.StepRunsFrontCommand : Prop :=
  (∀ (c : Instr) (rest : List Instr) (s : State), step { s with pending := c :: rest } = exec c { s with pending := rest })
  ∧ (∀ s : State, s.pending = [] → step s = .next s.tick)
  ∧ (∀ (s : State) (n w : Nat), s.withFetchWord n w = s)

/-- Every command answers a next state in every state: refused commands, bus errors and FATAL events are effects the spec describes, never a stop. (R49, R74, R502.) -/
def Obligations.EveryCommandAnswers : Prop :=
  ∀ (c : Instr) (s : State), ∃ t, exec c s = .next t

/-- After power-on every field listed holds the reset value its register table gives, the mode is DORMANT, no queue holds anything, and every unit below the spares is OFF in its own role. (R90, R91, R40, R71, R243.) -/
def Obligations.ResetValues : Prop :=
  (∀ e ∈ [(GLB_ID.PART, 0x2048), (GLB_ID.FAMILY, 0x6C), (GLB_MODE.MODE, 0), (GLB_MODE.GOAL, 0), (GLB_MODE.CHANGING, 0), (GLB_RESET_CAUSE.POR, 1),
      (GLB_RESET_CAUSE.PIN, 0), (GLB_SCRATCH.DATA, 0), (GLB_SNAP_SEQ.SEQ, 0), (GLB_BUSERR_INFO.COUNT, 0), (CMD_CTL.EN, 0), (CMD_STATUS.RUN, 0),
      (CMD_IRQ_CTL.COAL_CNT, 1), (CMD_IRQ_CTL.COAL_TIME, 0)], State.reset.fld e.1 0 = e.2)
  ∧ State.reset.mode = mDORMANT ∧ State.reset.pending = [] ∧ State.reset.out = [] ∧ State.reset.cmd.seqRuns = [] ∧ State.reset.cmd.jobs = []
  ∧ (∀ c i, c < 7 → State.reset.unit (tgt c i) = { ({} : UnitRec) with role := i % 4096 })

/-- For every register of the map and every element of it (of the PLL array the instances that R449 lists), the offset its table gives decodes to that register and element; a register read through snapshots whose value has more than 32 bits has its HI half at the next word; and no offset that is not a multiple of 4 or lies past 64 MiB decodes. (R72, R73, R90, R40.) -/
def Obligations.RegisterOffsetsDecode : Prop :=
  (∀ (r : Reg) (i : Nat), i < r.elems → (r = .CLK_PLL → isPll i = true) →
      regAt (regOffset r i) = some ⟨r, i, false⟩ ∧ (isWide r.info = true → regAt (regOffset r i + 4) = some ⟨r, i, true⟩))
  ∧ (∀ off, off % 4 ≠ 0 ∨ 2 ^ 26 ≤ off → regAt off = none)

/-- A write that reaches the control bus, no hold of Q0's clock making it wait (R457), is a bus error of CAUSE 0 at an offset that holds no register; of CAUSE 1 on PCIe with several words or a byte enable missing; else of CAUSE 2 in a domain that is off. The error records offset, direction, cause and channel and counts; an aborted read changes no register but these two; a dropped write reports event 0x0101 to the collector. (R72, R74, R77.) -/
def Obligations.BusErrors : Prop :=
  (∀ (s : State) (chan off : Nat) (ws : List Word) (full : Bool), s.busUp chan = true → s.busWaits chan off = false →
      (regAt off = none → exec (.registerWrite chan off ws full) s = .next (s.busErr chan off true 0)) ∧
      (∀ h, regAt off = some h →
        (chan = 0 → ws.length ≠ 1 ∨ full = false → exec (.registerWrite chan off ws full) s = .next (s.busErr chan off true 1)) ∧
        ((chan = 0 → ws.length = 1 ∧ full = true) → s.domOn (regDomain h.reg h.idx) = false →
          exec (.registerWrite chan off ws full) s = .next (s.busErr chan off true 2))))
  ∧ (∀ (s : State) (chan off cause : Nat) (w : Bool), (s.busErr chan off w cause).fld GLB_BUSERR_ADDR.OFFSET = off % 2 ^ 26 ∧
      (s.busErr chan off w cause).fld GLB_BUSERR_INFO.CAUSE = cause % 4 ∧ (s.busErr chan off w cause).fld GLB_BUSERR_INFO.WRITE = b2n w ∧
      (s.busErr chan off w cause).fld GLB_BUSERR_INFO.CHAN = b2n (chan != 0) ∧
      (s.busErr chan off w cause).fld GLB_BUSERR_INFO.COUNT = Nat.min 65535 (s.fld GLB_BUSERR_INFO.COUNT + 1))
  ∧ (∀ (s : State) (chan off cause : Nat), s.regsKept (s.busErr chan off false cause) [.GLB_BUSERR_ADDR, .GLB_BUSERR_INFO] ∧
      (s.busErr chan off false cause).flt = s.flt)
  ∧ (∀ (s : State) (chan off cause : Nat), s.regsKept (s.busErr chan off true cause) [.GLB_BUSERR_ADDR, .GLB_BUSERR_INFO, .FLT_SRC_CNT])

/-- A one-word write that lands in a register without behaviour of its own sets each RW bit to the data and leaves every other bit of the register, every other register and all other state as they were. (R75, R78.) -/
def Obligations.PlainWrites : Prop :=
  ∀ (s : State) (chan : Nat) (r : Reg) (i : Nat) (w : Word), s.lands chan r i → r.ownWrite = false → ∃ t,
    exec (.registerWrite chan (regOffset r i) [w] true) s = .next t ∧ t = { s with regs := t.regs } ∧
    (∀ b, (t.reg r i).getLsbD b = if (wd r.info.rw).getLsbD b then w.getLsbD b else (s.reg r i).getLsbD b) ∧
    (∀ (q : Reg) (j : Nat), q ≠ r ∨ j ≠ i → t.reg q j = s.reg q j)

/-- A write of a register of type MW sets, all at once, each of the bits 0 to 15 that its mask selects to the data and leaves the others; with a mask of zero every register keeps its word and nothing else changes, so it is no bus error; every MW register has its fields in bits 0 to 15. (R80.) -/
def Obligations.MaskedWrites : Prop :=
  (∀ (s : State) (chan : Nat) (r : Reg) (w : Word), r.info.mw = true → s.lands chan r 0 → ∃ t,
      exec (.registerWrite chan (regOffset r 0) [w] true) s = .next t ∧ s.regsKept t [r] ∧
      (∀ b, b < 16 → (t.reg r 0).getLsbD b = if w.getLsbD (b + 16) then w.getLsbD b else (s.reg r 0).getLsbD b) ∧
      (∀ b, 16 ≤ b → (t.reg r 0).getLsbD b = (s.reg r 0).getLsbD b) ∧
      (w.toNat / 65536 = 0 → t = { s with regs := t.regs } ∧ s.regsKept t []))
  ∧ (∀ (r : Reg) (i : Nat), r.info.mw = true → (resetWord r i).toNat < 65536)

/-- A one-word read that reaches a register with RC fields, with no latched half in the way, returns the register's word and clears its RC bits; the register's other bits and every other register keep their values. (R78, R79.) -/
def Obligations.ReadClears : Prop :=
  ∀ (s : State) (chan : Nat) (r : Reg) (i : Nat), chan = 0 ∨ chan = 1 → s.busUp chan = true → s.busWaits chan (regOffset r i) = false →
    s.busCheck chan (regOffset r i) 1 false true = .inl ⟨r, i, false⟩ → regAt (regOffset r i) = some ⟨r, i, false⟩ →
    r.info.rc ≠ 0 → r ≠ .PWR_EVENT → tabGet s.hiLatch (latchKey chan r i) none = none → ∃ t,
    exec (.rcRegisterRead chan (regOffset r i) 1) s = .next t ∧
    t.out = .readData chan (regOffset r i) (some [s.viewWord ⟨r, i, false⟩]) :: s.out ∧
    (∀ b, b < 32 → (t.reg r i).getLsbD b = ((s.reg r i).getLsbD b && !(wd r.info.rc).getLsbD b)) ∧
    (∀ (q : Reg) (j : Nat), q ≠ r ∨ j ≠ i → t.reg q j = s.reg q j)

/-- The two halves of a 64-bit pair stand at consecutive offsets, LO first. A read of LO latches HI; whatever happens after it but a read of that pair on that channel, the next read of HI on the same channel returns the latched half, so that both halves are of one moment; a HI read with no LO read before it returns the live half. (R81.) -/
def Obligations.PairedReads : Prop :=
  (∀ r h : Reg, pairHi r = some h → h.info.base = r.info.base + 4 ∧ h.info.dims = r.info.dims)
  ∧ (∀ (s t : State) (chan : Nat) (r h : Reg) (i : Nat), pairHi r = some h →
      tabGet t.hiLatch (latchKey chan h i) none = tabGet (s.readHit chan ⟨r, i, false⟩).1.hiLatch (latchKey chan h i) none →
      (t.readHit chan ⟨h, i, false⟩).2 = s.viewWord ⟨h, i, false⟩)
  ∧ (∀ (s : State) (chan : Nat) (r h : Reg) (i : Nat), pairHi r = some h → tabGet s.hiLatch (latchKey chan h i) none = none →
      (s.readHit chan ⟨h, i, false⟩).2 = s.viewWord ⟨h, i, false⟩)

/-- A write that lands in GLB_RESET_CTL without the key 0xC1A5 is a bus error of CAUSE 3 and nothing else; with it, ACTION 1 makes a WARM and ACTION 2 a COLD reset, and every other ACTION is ignored. (R74, R90, R91.) -/
def Obligations.ResetControl : Prop :=
  ∀ (s : State) (chan : Nat) (w : Word), s.lands chan .GLB_RESET_CTL 0 →
    (bitsAt w 16 16 ≠ 0xC1A5 → exec (.registerWrite chan (regOffset .GLB_RESET_CTL) [w] true) s = .next (s.busErr chan 0x10 true 3)) ∧
    (bitsAt w 16 16 = 0xC1A5 → exec (.registerWrite chan (regOffset .GLB_RESET_CTL) [w] true) s =
      .next (if bitsAt w 0 4 = 1 then s.resetWarm GLB_RESET_CAUSE.WARM else if bitsAt w 0 4 = 2 then s.resetCold GLB_RESET_CAUSE.COLD else s))

/-- A command that is taken and waits for nothing is refused by the first step of R49, 1 to 8, that fails, with that step's status and DETAIL, and only its reply follows; stated of NOP, whose row the checks read. (R42, R43, R47, R49.) -/
def Obligations.AcceptanceOrder : Prop :=
  ∀ (s : State) (p : Packet), p.opcode = 0 → s.ready p = true → (fenceFlag p && !(s.take.cmd.jobs.isEmpty && s.take.cmd.heldReps.isEmpty)) = false →
    (p.ver ≠ 1 → exec (.nop p) s = .next (s.take.reply p (refuse eOPCODE (p.ver % 256)))) ∧
    (p.ver = 1 → ¬ (p.rsvB = 0 ∧ p.rsvC = 0 ∧ p.flags / 16 % 16 = 0 ∧ ¬ (indirect p = true ∧ p.chan ≠ 0)) →
      exec (.nop p) s = .next (s.take.reply p (refuse ePARAM 0xFFFFFFFF))) ∧
    (p.ver = 1 → headerOk p = true → s.take.mode < 6 → indirect p = false → p.plen ≠ 0 →
      exec (.nop p) s = .next (s.take.reply p (refuse eLEN 0))) ∧
    (p.ver = 1 → headerOk p = true → s.take.mode < 6 → indirect p = false → p.plen = 0 → p.target < 65536 → p.target ≠ 0 →
      exec (.nop p) s = .next (s.take.reply p (refuse eTARGET p.target))) ∧
    (∀ j, p.ver = 1 → headerOk p = true → s.take.mode < 6 → indirect p = false → p.plen = 0 → p.target = 0 → s.take.cmd.jobs.head? = some j →
      exec (.nop p) s = .next (s.take.reply p (refuse eBUSY (j.pkt.tag % 65536 + (if j.pkt.chan = 0 then 0 else 1) * 65536))))

/-- NOP has TARGET GLB, all six modes and PLEN 0 in its row; a NOP that is taken and accepted answers OK with no results, and nothing but the taking and the reply changes the state. (R61.) -/
def Obligations.NopChangesNothing : Prop :=
  opInfo 0x0000 = some { code := 0x0000, tgts := [⟨0, 0, 0, false⟩], modes := [0, 1, 2, 3, 4, 5], async := false, lenMin := 0, lenMax := 0 }
  ∧ ∀ (s : State) (p : Packet), s.takes 0x0000 p → indirect p = false → p.late = false → exec (.nop p) s = .next (s.take.reply p ok)

/-- A command with FENCE, or the FENCE opcode, that is taken while a command is PENDING or a reply is held makes no check yet: it blocks the sequence, unrefused; while anything blocks the sequence no command is taken. (R43, R49, R55.) -/
def Obligations.FenceWaits : Prop :=
  (∀ (s : State) (p : Packet), s.ready p = true → s.take.cmd.jobs ≠ [] ∨ s.take.cmd.heldReps ≠ [] →
      (p.opcode = 0x0004 → exec (.fenceCmd p) s = .next (s.take.block p .fence)) ∧
      (p.opcode = 0x0000 → fenceFlag p = true → exec (.nop p) s = .next (s.take.block p .fence)))
  ∧ (∀ (s : State) (p : Packet), s.cmd.blocked ≠ none → exec (.nop p) s = .next s ∧ exec (.fenceCmd p) s = .next s)

/-- Writing a completion entry puts, at the host address CQ_BASE + 64 CQ_TAIL, one entry with the TAG, the status, the PHASE of this pass, the number of result words, DETAIL, the OPCODE, SQ_HEAD and the first twelve inline results; CQ_TAIL advances modulo the ring and PHASE inverts exactly where it wraps. (R37, R46.) -/
def Obligations.CompletionEntries : Prop :=
  ∀ (s : State) (p : Packet) (r : Rep), indirect p = false → 0 < s.cqSize → s.cqSize ≤ 65536 →
    (s.writeCq p r).fld CMD_CQ_TAIL.TAIL = (s.fld CMD_CQ_TAIL.TAIL + 1) % s.cqSize ∧
    (s.writeCq p r).cmd.phase = (if (s.fld CMD_CQ_TAIL.TAIL + 1) % s.cqSize = 0 then !s.cmd.phase else s.cmd.phase) ∧
    (∃ e, e.length = 16 ∧ .completion (s.fld CMD_CQ_BASE_LO.ADDR * 64 + s.fld CMD_CQ_BASE_HI.ADDR * 2 ^ 32 + 64 * s.fld CMD_CQ_TAIL.TAIL) e ∈ (s.writeCq p r).out ∧
      e.getD 0 0 = wd (p.tag % 65536 * 65536 + r.status % 65536) ∧ e.getD 1 0 = wd (b2n s.cmd.phase * 2 ^ 31 + r.results.length % 65536) ∧
      e.getD 2 0 = wd r.detail ∧ e.getD 3 0 = wd (p.opcode % 65536 * 65536 + s.fld CMD_SQ_HEAD.HEAD) ∧
      ∀ i, i < 12 → e.getD (4 + i) 0 = r.results.getD i 0) ∧
    s.regsKept (s.writeCq p r) [.CMD_CQ_TAIL, .CMD_STATUS, .MSIX_PBA]

/-- With NO_REPLY an OK or PENDING reply writes no completion entry, and sends nothing at all where no descriptor names a result buffer; any other status, with a DETAIL that the spec gives, is sent on the service port as the reply frame. (R43.) -/
def Obligations.NoReplyKeepsQuiet : Prop :=
  ∀ (s : State) (p : Packet) (r : Rep), noReply p = true →
    (r.status = 0 ∨ r.status = 0x8000 → p.chan ≠ 0 ∨ indirect p = false → (s.reply p r).out = s.out) ∧
    (r.status = 0 ∨ r.status = 0x8000 → (s.reply p r).fld CMD_CQ_TAIL.TAIL = s.fld CMD_CQ_TAIL.TAIL) ∧
    (r.status ≠ 0 → r.status ≠ 0x8000 → p.chan = 1 → r.anyDetail = false → (s.reply p r).out = .usbReply (svcReplyWords p r) :: s.out)

/-- Each of the commands nop, identify, getStatus, portStatus, laneFom, clsRead, meterRead, perfRead, gristGroupStatus, pwrStatus, clkStatus, fltHistory, fwInfo, progRead, unitState, taken and accepted, changes nothing but the sequence it is taken from: the next state is the state with the command taken, and its reply. (R61, R62, R63, R111, R269, R351, R388, R411, R463, R488, R505, R523.) -/
def Obligations.ReadingCommandsChangeNothing : Prop :=
  (∀ (s : State) (p : Packet), s.takes 0x0000 p → ∃ r, exec (.nop p) s = .next (s.take.reply p r))
  ∧ (∀ (s : State) (p : Packet), s.takes 0x0001 p → ∃ r, exec (.identify p) s = .next (s.take.reply p r))
  ∧ (∀ (s : State) (p : Packet), s.takes 0x0005 p → ∃ r, exec (.getStatus p) s = .next (s.take.reply p r))
  ∧ (∀ (s : State) (p : Packet), s.takes 0x0103 p → ∃ r, exec (.portStatus p) s = .next (s.take.reply p r))
  ∧ (∀ (s : State) (p : Packet), s.takes 0x0107 p → ∃ r, exec (.laneFom p) s = .next (s.take.reply p r))
  ∧ (∀ (s : State) (p : Packet), s.takes 0x0302 p → ∃ r, exec (.clsRead p) s = .next (s.take.reply p r))
  ∧ (∀ (s : State) (p : Packet), s.takes 0x0305 p → ∃ r, exec (.meterRead p) s = .next (s.take.reply p r))
  ∧ (∀ (s : State) (p : Packet), s.takes 0x0507 p → ∃ r, exec (.perfRead p) s = .next (s.take.reply p r))
  ∧ (∀ (s : State) (p : Packet), s.takes 0x0603 p → ∃ r, exec (.gristGroupStatus p) s = .next (s.take.reply p r))
  ∧ (∀ (s : State) (p : Packet), s.takes 0x0704 p → ∃ r, exec (.pwrStatus p) s = .next (s.take.reply p r))
  ∧ (∀ (s : State) (p : Packet), s.takes 0x0803 p → ∃ r, exec (.clkStatus p) s = .next (s.take.reply p r))
  ∧ (∀ (s : State) (p : Packet), s.takes 0x0902 p → ∃ r, exec (.fltHistory p) s = .next (s.take.reply p r))
  ∧ (∀ (s : State) (p : Packet), s.takes 0x0A05 p → ∃ r, exec (.fwInfo p) s = .next (s.take.reply p r))
  ∧ (∀ (s : State) (p : Packet), s.takes 0x0B05 p → ∃ r, exec (.progRead p) s = .next (s.take.reply p r))
  ∧ (∀ (s : State) (p : Packet), s.takes 0x0C04 p → ∃ r, exec (.unitState p) s = .next (s.take.reply p r))

/-- For each of the commands identify, snapshot, laneCfg, laneTest, pfcCfg, ptpCfg, tblProfile, tblLock, hashCfg, clsWrite, meterCfg, queueCfg, schedCfg, shaperCfg, wredCfg, hwmRead, sapFlag, tagCfg, ioamCfg, perfCfg, gristGroupClose, pwrOpp, pwrCap, pwrPriv, clkSwitch, fltMask, fltInject, fwVerify, fwActivate, progLoad, progPatch, storeModeSet, dozeCfg: a packet that is taken and passes steps 1 to 8 of R49 and is then refused by its own checks changes nothing: the next state is the state with the command taken, and the refusal. (R45, R47, R49.) -/
def Obligations.RefusedCommandsChangeNothing : Prop :=
  (∀ (s : State) (p : Packet), s.takes 0x0001 p → (runEff effIdentify p s.take).2.status ≠ 0 →
      exec (.identify p) s = .next (s.take.reply p (runEff effIdentify p s.take).2))
  ∧ (∀ (s : State) (p : Packet), s.takes 0x0003 p → (runEff effSnapshot p s.take).2.status ≠ 0 →
      exec (.snapshot p) s = .next (s.take.reply p (runEff effSnapshot p s.take).2))
  ∧ (∀ (s : State) (p : Packet), s.takes 0x0104 p → (runEff effLaneCfg p s.take).2.status ≠ 0 →
      exec (.laneCfg p) s = .next (s.take.reply p (runEff effLaneCfg p s.take).2))
  ∧ (∀ (s : State) (p : Packet), s.takes 0x0105 p → (runEff effLaneTest p s.take).2.status ≠ 0 →
      exec (.laneTest p) s = .next (s.take.reply p (runEff effLaneTest p s.take).2))
  ∧ (∀ (s : State) (p : Packet), s.takes 0x0108 p → (runEff effPfcCfg p s.take).2.status ≠ 0 →
      exec (.pfcCfg p) s = .next (s.take.reply p (runEff effPfcCfg p s.take).2))
  ∧ (∀ (s : State) (p : Packet), s.takes 0x0109 p → (runEff effPtpCfg p s.take).2.status ≠ 0 →
      exec (.ptpCfg p) s = .next (s.take.reply p (runEff effPtpCfg p s.take).2))
  ∧ (∀ (s : State) (p : Packet), s.takes 0x0201 p → (runEff effTblProfile p s.take).2.status ≠ 0 →
      exec (.tblProfile p) s = .next (s.take.reply p (runEff effTblProfile p s.take).2))
  ∧ (∀ (s : State) (p : Packet), s.takes 0x0207 p → (runEff effTblLock p s.take).2.status ≠ 0 →
      exec (.tblLock p) s = .next (s.take.reply p (runEff effTblLock p s.take).2))
  ∧ (∀ (s : State) (p : Packet), s.takes 0x020B p → (runEff effHashCfg p s.take).2.status ≠ 0 →
      exec (.hashCfg p) s = .next (s.take.reply p (runEff effHashCfg p s.take).2))
  ∧ (∀ (s : State) (p : Packet), s.takes 0x0301 p → (runEff effClsWrite p s.take).2.status ≠ 0 →
      exec (.clsWrite p) s = .next (s.take.reply p (runEff effClsWrite p s.take).2))
  ∧ (∀ (s : State) (p : Packet), s.takes 0x0304 p → (runEff effMeterCfg p s.take).2.status ≠ 0 →
      exec (.meterCfg p) s = .next (s.take.reply p (runEff effMeterCfg p s.take).2))
  ∧ (∀ (s : State) (p : Packet), s.takes 0x0402 p → (runEff effQueueCfg p s.take).2.status ≠ 0 →
      exec (.queueCfg p) s = .next (s.take.reply p (runEff effQueueCfg p s.take).2))
  ∧ (∀ (s : State) (p : Packet), s.takes 0x0403 p → (runEff effSchedCfg p s.take).2.status ≠ 0 →
      exec (.schedCfg p) s = .next (s.take.reply p (runEff effSchedCfg p s.take).2))
  ∧ (∀ (s : State) (p : Packet), s.takes 0x0404 p → (runEff effShaperCfg p s.take).2.status ≠ 0 →
      exec (.shaperCfg p) s = .next (s.take.reply p (runEff effShaperCfg p s.take).2))
  ∧ (∀ (s : State) (p : Packet), s.takes 0x0405 p → (runEff effWredCfg p s.take).2.status ≠ 0 →
      exec (.wredCfg p) s = .next (s.take.reply p (runEff effWredCfg p s.take).2))
  ∧ (∀ (s : State) (p : Packet), s.takes 0x0409 p → (runEff effHwmRead p s.take).2.status ≠ 0 →
      exec (.hwmRead p) s = .next (s.take.reply p (runEff effHwmRead p s.take).2))
  ∧ (∀ (s : State) (p : Packet), s.takes 0x0502 p → (runEff effSapFlag p s.take).2.status ≠ 0 →
      exec (.sapFlag p) s = .next (s.take.reply p (runEff effSapFlag p s.take).2))
  ∧ (∀ (s : State) (p : Packet), s.takes 0x0504 p → (runEff effTagCfg p s.take).2.status ≠ 0 →
      exec (.tagCfg p) s = .next (s.take.reply p (runEff effTagCfg p s.take).2))
  ∧ (∀ (s : State) (p : Packet), s.takes 0x0505 p → (runEff effIoamCfg p s.take).2.status ≠ 0 →
      exec (.ioamCfg p) s = .next (s.take.reply p (runEff effIoamCfg p s.take).2))
  ∧ (∀ (s : State) (p : Packet), s.takes 0x0506 p → (runEff effPerfCfg p s.take).2.status ≠ 0 →
      exec (.perfCfg p) s = .next (s.take.reply p (runEff effPerfCfg p s.take).2))
  ∧ (∀ (s : State) (p : Packet), s.takes 0x0602 p → (runEff effGristGroupClose p s.take).2.status ≠ 0 →
      exec (.gristGroupClose p) s = .next (s.take.reply p (runEff effGristGroupClose p s.take).2))
  ∧ (∀ (s : State) (p : Packet), s.takes 0x0702 p → (runEff effPwrOpp p s.take).2.status ≠ 0 →
      exec (.pwrOpp p) s = .next (s.take.reply p (runEff effPwrOpp p s.take).2))
  ∧ (∀ (s : State) (p : Packet), s.takes 0x0703 p → (runEff effPwrCap p s.take).2.status ≠ 0 →
      exec (.pwrCap p) s = .next (s.take.reply p (runEff effPwrCap p s.take).2))
  ∧ (∀ (s : State) (p : Packet), s.takes 0x0705 p → (runEff effPwrPriv p s.take).2.status ≠ 0 →
      exec (.pwrPriv p) s = .next (s.take.reply p (runEff effPwrPriv p s.take).2))
  ∧ (∀ (s : State) (p : Packet), s.takes 0x0801 p → (runEff effClkSwitch p s.take).2.status ≠ 0 →
      exec (.clkSwitch p) s = .next (s.take.reply p (runEff effClkSwitch p s.take).2))
  ∧ (∀ (s : State) (p : Packet), s.takes 0x0903 p → (runEff effFltMask p s.take).2.status ≠ 0 →
      exec (.fltMask p) s = .next (s.take.reply p (runEff effFltMask p s.take).2))
  ∧ (∀ (s : State) (p : Packet), s.takes 0x0904 p → (runEff effFltInject p s.take).2.status ≠ 0 →
      exec (.fltInject p) s = .next (s.take.reply p (runEff effFltInject p s.take).2))
  ∧ (∀ (s : State) (p : Packet), s.takes 0x0A03 p → (runEff effFwVerify p s.take).2.status ≠ 0 →
      exec (.fwVerify p) s = .next (s.take.reply p (runEff effFwVerify p s.take).2))
  ∧ (∀ (s : State) (p : Packet), s.takes 0x0A04 p → (runEff effFwActivate p s.take).2.status ≠ 0 →
      exec (.fwActivate p) s = .next (s.take.reply p (runEff effFwActivate p s.take).2))
  ∧ (∀ (s : State) (p : Packet), s.takes 0x0B01 p → (runEff effProgLoad p s.take).2.status ≠ 0 →
      exec (.progLoad p) s = .next (s.take.reply p (runEff effProgLoad p s.take).2))
  ∧ (∀ (s : State) (p : Packet), s.takes 0x0B02 p → (runEff effProgPatch p s.take).2.status ≠ 0 →
      exec (.progPatch p) s = .next (s.take.reply p (runEff effProgPatch p s.take).2))
  ∧ (∀ (s : State) (p : Packet), s.takes 0x0B03 p → (runEff effStoreModeSet p s.take).2.status ≠ 0 →
      exec (.storeModeSet p) s = .next (s.take.reply p (runEff effStoreModeSet p s.take).2))
  ∧ (∀ (s : State) (p : Packet), s.takes 0x0C05 p → (runEff effDozeCfg p s.take).2.status ≠ 0 →
      exec (.dozeCfg p) s = .next (s.take.reply p (runEff effDozeCfg p s.take).2))

/-- The effect of each of the commands named changes no component of the state but those listed with it, and no register but those listed: LaneCfg, EyeScan, DozeCfg, PfcCfg, PtpCfg, PortEnable, TblProfile, TblInsert, TblDelete, TblLookup, TblLearnCfg, TblLock, EcmpGroupSet, EcmpMemberSet, HashCfg, ClsWrite, ClsTreeLoad, MeterCfg. (R112, R115, R129, R138, R230, R233, R241, R251, R267, R274, R350, R443.) -/
def Obligations.PortAndTableCommandFrames : Prop :=
  (∀ (p : Packet) (s : State), let t := (effLaneCfg p s).1
      t = { s with lanes := t.lanes, regs := t.regs, twigs := t.twigs } ∧ s.regsKept t [.CLK_PLL])
  ∧ (∀ (p : Packet) (s : State), let t := (effEyeScan p s).1
      t = { s with lanes := t.lanes, regs := t.regs } ∧ s.regsKept t [.LANE_STATUS])
  ∧ (∀ (p : Packet) (s : State), let t := (effDozeCfg p s).1
      t = { s with lanes := t.lanes, pipes := t.pipes, twigs := t.twigs })
  ∧ (∀ (p : Packet) (s : State), let t := (effPfcCfg p s).1
      t = { s with ports := t.ports })
  ∧ (∀ (p : Packet) (s : State), let t := (effPtpCfg p s).1
      t = { s with out := t.out, ports := t.ports, synce := t.synce })
  ∧ (∀ (p : Packet) (s : State), let t := (effPortEnable p s).1
      t = { s with ctr := t.ctr, flt := t.flt, lanes := t.lanes, out := t.out, ports := t.ports, regs := t.regs, sports := t.sports, squeues := t.squeues, synce := t.synce, twigs := t.twigs, units := t.units } ∧ s.regsKept t [.BOUGH_LINK_CHG0, .BOUGH_LINK_CHG1, .BOUGH_PAIR_STATUS, .CELLAR_CH_STATUS, .CLK_PLL, .FLT_SRC_CNT, .GRIST_E_STATUS, .LANE_STATUS, .LANE_TRAIN_TIME, .MSIX_PBA, .PIPE_STATUS, .PORT_EVENT, .PORT_STATUS, .TUN_BANK_STATUS, .TUN_PORT_HOLD])
  ∧ (∀ (p : Packet) (s : State), let t := (effTblProfile p s).1
      t = { s with flowlets := t.flowlets, flt := t.flt, regs := t.regs, tables := t.tables, tbl := t.tbl, tblFilter := t.tblFilter, tblLens := t.tblLens, tblLocks := t.tblLocks } ∧ s.regsKept t [.TBL_OCC, .TBL_SEED, .TBL_STATUS])
  ∧ (∀ (p : Packet) (s : State), let t := (effTblInsert p s).1
      t = { s with ctr := t.ctr, flt := t.flt, freeCtr := t.freeCtr, grpNew := t.grpNew, regs := t.regs, tables := t.tables, tbl := t.tbl, tblFilter := t.tblFilter, tblLens := t.tblLens } ∧ s.regsKept t [.BPERF_STATUS, .FLT_SRC_CNT, .TBL_EVENT, .TBL_LEARN_FIFO, .TBL_OCC])
  ∧ (∀ (p : Packet) (s : State), let t := (effTblDelete p s).1
      t = { s with ctr := t.ctr, flt := t.flt, freeCtr := t.freeCtr, grpNew := t.grpNew, regs := t.regs, tables := t.tables, tbl := t.tbl, tblFilter := t.tblFilter, tblLens := t.tblLens } ∧ s.regsKept t [.BPERF_STATUS, .FLT_SRC_CNT, .TBL_EVENT, .TBL_LEARN_FIFO, .TBL_OCC])
  ∧ (∀ (p : Packet) (s : State), let t := (effTblLookup p s).1
      t = { s with ctr := t.ctr, flt := t.flt, freeCtr := t.freeCtr, grpNew := t.grpNew, regs := t.regs, tables := t.tables, tbl := t.tbl } ∧ s.regsKept t [.BPERF_STATUS, .FLT_SRC_CNT, .TBL_EVENT, .TBL_LEARN_FIFO, .TBL_OCC])
  ∧ (∀ (p : Packet) (s : State), let t := (effTblLearnCfg p s).1
      t = { s with tables := t.tables })
  ∧ (∀ (p : Packet) (s : State), let t := (effTblLock p s).1
      t = { s with tblLocks := t.tblLocks })
  ∧ (∀ (p : Packet) (s : State), let t := (effEcmpGroupSet p s).1
      t = { s with ctr := t.ctr, grpNew := t.grpNew, regs := t.regs, tbl := t.tbl } ∧ s.regsKept t [.BPERF_STATUS, .TBL_OCC])
  ∧ (∀ (p : Packet) (s : State), let t := (effEcmpMemberSet p s).1
      t = { s with ctr := t.ctr, grpNew := t.grpNew, regs := t.regs, tbl := t.tbl } ∧ s.regsKept t [.BPERF_STATUS, .TBL_OCC])
  ∧ (∀ (p : Packet) (s : State), let t := (effHashCfg p s).1
      t = { s with grpNew := t.grpNew, regs := t.regs, slotBytes := t.slotBytes, spreads := t.spreads } ∧ s.regsKept t [.PS_PIN_SEED, .PS_SEED])
  ∧ (∀ (p : Packet) (s : State), let t := (effClsWrite p s).1
      t = { s with flt := t.flt, regs := t.regs, tcam := t.tcam } ∧ s.regsKept t [.CLS_MISS, .CLS_STATUS])
  ∧ (∀ (p : Packet) (s : State), let t := (effClsTreeLoad p s).1
      t = { s with ctr := t.ctr, flt := t.flt, grpNew := t.grpNew, pframes := t.pframes, regs := t.regs, tbl := t.tbl } ∧ s.regsKept t [.BPERF_STATUS, .CLS_EVENT, .CLS_STATUS, .TBL_OCC])
  ∧ (∀ (p : Packet) (s : State), let t := (effMeterCfg p s).1
      t = { s with meters := t.meters })

/-- The effect of each of the commands named changes no component of the state but those listed with it, and no register but those listed: QueueCfg, SchedCfg, ShaperCfg, WredCfg, PfcWdCfg, QholdCfg, HwmRead, PoolCfg, SapFlag, TagCfg, IoamCfg, TelemRead, PerfCfg, Snapshot. (R82, R304, R305, R315, R338, R341, R344, R358, R370, R374, R381, R387.) -/
def Obligations.BufferAndTelemetryCommandFrames : Prop :=
  (∀ (p : Packet) (s : State), let t := (effQueueCfg p s).1
      t = { s with regs := t.regs } ∧ s.regsKept t [.TUN_ING_HR, .TUN_ING_USED, .TUN_POOL_USED, .TUN_Q_CFG0, .TUN_Q_CFG1])
  ∧ (∀ (p : Packet) (s : State), let t := (effSchedCfg p s).1
      t = { s with regs := t.regs } ∧ s.regsKept t [.SCHED_Q_CFG])
  ∧ (∀ (p : Packet) (s : State), let t := (effShaperCfg p s).1
      t = { s with regs := t.regs, sports := t.sports, squeues := t.squeues } ∧ s.regsKept t [.SCHED_P_CFG, .SCHED_P_MAX, .SCHED_Q_MAX, .SCHED_Q_MIN])
  ∧ (∀ (p : Packet) (s : State), let t := (effWredCfg p s).1
      t = { s with regs := t.regs, squeues := t.squeues } ∧ s.regsKept t [.SCHED_Q_CFG, .SCHED_Q_WRED_AVG])
  ∧ (∀ (p : Packet) (s : State), let t := (effPfcWdCfg p s).1
      t = { s with regs := t.regs, sports := t.sports, squeues := t.squeues } ∧ s.regsKept t [.SCHED_EVENT, .SCHED_P_TH, .SCHED_Q_CFG, .SCHED_Q_STATE])
  ∧ (∀ (p : Packet) (s : State), let t := (effQholdCfg p s).1
      t = { s with regs := t.regs } ∧ s.regsKept t [.TUN_PORT_HOLD])
  ∧ (∀ (p : Packet) (s : State), let t := (effHwmRead p s).1
      t = { s with regs := t.regs } ∧ s.regsKept t [.SCHED_Q_HWM_CELLS, .SCHED_Q_HWM_SOJ])
  ∧ (∀ (p : Packet) (s : State), let t := (effPoolCfg p s).1
      t = { s with flt := t.flt, regs := t.regs, tun := t.tun } ∧ s.regsKept t [.FLT_SRC_CNT, .TUN_HR_CFG, .TUN_HR_PG, .TUN_PAIR_STATUS, .TUN_POOL_CFG])
  ∧ (∀ (p : Packet) (s : State), let t := (effSapFlag p s).1
      t = { s with parts := t.parts })
  ∧ (∀ (p : Packet) (s : State), let t := (effTagCfg p s).1
      t = { s with parts := t.parts })
  ∧ (∀ (p : Packet) (s : State), let t := (effIoamCfg p s).1
      t = { s with parts := t.parts })
  ∧ (∀ (p : Packet) (s : State), let t := (effTelemRead p s).1
      t = { s with ctr := t.ctr, sketch := t.sketch })
  ∧ (∀ (p : Packet) (s : State), let t := (effPerfCfg p s).1
      t = { s with ctr := t.ctr, perfInt := t.perfInt, pipes := t.pipes, regs := t.regs } ∧ s.regsKept t [.BPERF_SEL, .BPERF_STATUS, .PERF_SEL, .PERF_STATUS, .PPERF_SEL, .PPERF_STATUS])
  ∧ (∀ (p : Packet) (s : State), let t := (effSnapshot p s).1
      t = { s with cmd := t.cmd, meters := t.meters, regs := t.regs, snapHid := t.snapHid, snapVis := t.snapVis } ∧ s.regsKept t [.GLB_SNAP_SEQ, .GLB_SNAP_TIME_HI, .GLB_SNAP_TIME_LO])

/-- The effect of each of the commands named changes no component of the state but those listed with it, and no register but those listed: GristGroupOpen, PwrOpp, PwrCap, PwrPriv, ClkSwitch, ClkTrim, FltAck, FltMask, FltInject, FwBegin, FwBlock, FwVerify, FwActivate, ProgLoad, ProgPatch, StoreModeSet. (R211, R216, R217, R396, R460, R469, R481, R504, R507, R519, R521, R522.) -/
def Obligations.SystemCommandFrames : Prop :=
  (∀ (p : Packet) (s : State), let t := (effGristGroupOpen p s).1
      t = { s with grist := t.grist, regs := t.regs } ∧ s.regsKept t [.GRIST_E_STATUS, .GRIST_G_STATUS, .GRIST_SCRATCH])
  ∧ (∀ (p : Packet) (s : State), let t := (effPwrOpp p s).1
      t = { s with pwr := t.pwr, regs := t.regs } ∧ s.regsKept t [.PWR_QUAD])
  ∧ (∀ (p : Packet) (s : State), let t := (effPwrCap p s).1
      t = { s with regs := t.regs } ∧ s.regsKept t [.PWR_CAP_CUR, .PWR_QUAD])
  ∧ (∀ (p : Packet) (s : State), let t := (effPwrPriv p s).1
      t = { s with pwr := t.pwr, regs := t.regs } ∧ s.regsKept t [.PWR_QUAD, .PWR_STAT])
  ∧ (∀ (p : Packet) (s : State), let t := (effClkSwitch p s).1
      t = { s with clk := t.clk, regs := t.regs } ∧ s.regsKept t [.CLK_PLL])
  ∧ (∀ (p : Packet) (s : State), let t := (effClkTrim p s).1
      t = { s with clk := t.clk, regs := t.regs } ∧ s.regsKept t [.CLK_EVENT, .CLK_SRC, .CLK_TRIM_CTL])
  ∧ (∀ (p : Packet) (s : State), let t := (effFltAck p s).1
      t = { s with regs := t.regs } ∧ s.regsKept t [.FLT_STATUS])
  ∧ (∀ (p : Packet) (s : State), let t := (effFltMask p s).1
      t = { s with regs := t.regs } ∧ s.regsKept t [.FLT_CLASS_CTL, .FLT_PIN_MASK_HI, .FLT_PIN_MASK_LO])
  ∧ (∀ (p : Packet) (s : State), let t := (effFltInject p s).1
      t = { s with flt := t.flt, freeCtr := t.freeCtr, regs := t.regs } ∧ s.regsKept t [.FLT_SRC_CNT])
  ∧ (∀ (p : Packet) (s : State), let t := (effFwBegin p s).1
      t = { s with flt := t.flt, fw := t.fw, regs := t.regs } ∧ s.regsKept t [.FLT_SRC_CNT, .SVC_FW_EVENT, .SVC_FW_STATUS])
  ∧ (∀ (p : Packet) (s : State), let t := (effFwBlock p s).1
      t = { s with flt := t.flt, fw := t.fw, regs := t.regs } ∧ s.regsKept t [.FLT_SRC_CNT, .SVC_FW_EVENT, .SVC_FW_STATUS])
  ∧ (∀ (p : Packet) (s : State), let t := (effFwVerify p s).1
      t = { s with fw := t.fw, regs := t.regs } ∧ s.regsKept t [.SVC_FW_STATUS])
  ∧ (∀ (p : Packet) (s : State), let t := (effFwActivate p s).1
      t = { s with cmd := t.cmd, fw := t.fw, life := t.life, regs := t.regs } ∧ s.regsKept t [.SVC_FW_STATUS])
  ∧ (∀ (p : Packet) (s : State), let t := (effProgLoad p s).1
      t = { s with flt := t.flt, prog := t.prog, regs := t.regs, ucode := t.ucode, ucodeBad := t.ucodeBad } ∧ s.regsKept t [.UC_STATUS])
  ∧ (∀ (p : Packet) (s : State), let t := (effProgPatch p s).1
      t = { s with flt := t.flt, stores := t.stores, ucode := t.ucode, ucodeBad := t.ucodeBad, walkers := t.walkers })
  ∧ (∀ (p : Packet) (s : State), let t := (effStoreModeSet p s).1
      t = { s with regs := t.regs, stores := t.stores, walkers := t.walkers } ∧ s.regsKept t [.UC_STATUS])

/-- A SET_MODE that is taken and accepted, with a mode code 0 to 5, no LIMIT and no FATAL event: for the current mode it answers OK with no effect; for a change the table lists it is not refused; for every other change it is refused with E_STATE, the current mode in DETAIL[7:0] and the requested one in [15:8], and changes nothing. (R420.) -/
def Obligations.ModeChanges : Prop :=
  ∀ (s : State) (p : Packet) (m : Nat), s.takes 0x0002 p → indirect p = false → p.late = false → par p 0 = wd m → m < 6 →
    s.take.flt.fatal = false → s.take.life.down = false →
    (m = s.take.mode → exec (.setMode p) s = .next (s.take.reply p ok)) ∧
    ((s.take.mode, m) ∈ [(0, 2), (0, 1), (2, 3), (2, 5), (2, 0), (3, 4), (4, 3), (4, 2), (4, 5), (4, 0), (5, 2), (5, 0)] →
      (runEff effSetMode p s.take).2.status = 0) ∧
    (m ≠ s.take.mode → (s.take.mode, m) ∉ [(0, 2), (0, 1), (2, 3), (2, 5), (2, 0), (3, 4), (4, 3), (4, 2), (4, 5), (4, 0), (5, 2), (5, 0)] →
      exec (.setMode p) s = .next (s.take.reply p (refuse eSTATE (s.take.mode + m * 256))))

/-- Taken and accepted with room for the results, CLK_STATUS returns the CLK_SRC word of a source, the CLK_PLL word of a PLL, and for 0xFFF the six CLK_SRC and every CLK_PLL; PWR_STATUS returns PWR_VIN and PWR_CAP_CUR for instance 0 and the two words of every other; FW_INFO returns SVC_FW_STATUS, SVC_OTP and two words of each slot. (R463, R488, R523.) -/
def Obligations.StatusReads : Prop :=
  (∀ (s : State) (p : Packet), s.takes 0x0803 p → indirect p = false → p.late = false →
      (∀ n, n < 4 → tInst p.target = n → exec (.clkStatus p) s = .next (s.take.reply p (ok [s.take.reg .CLK_SRC n]))) ∧
      (∀ n, 4 ≤ n → n < 6 → tInst p.target = n + 4 → exec (.clkStatus p) s = .next (s.take.reply p (ok [s.take.reg .CLK_SRC n]))) ∧
      (isPll (tInst p.target) = true → exec (.clkStatus p) s = .next (s.take.reply p (ok [s.take.reg .CLK_PLL (tInst p.target)]))))
  ∧ (∀ (s : State) (p : Packet), s.takes 0x0704 p → indirect p = false → p.late = false →
      (tInst p.target = 0 → exec (.pwrStatus p) s = .next (s.take.reply p (ok [s.take.reg .PWR_VIN, s.take.reg .PWR_CAP_CUR]))) ∧
      (∀ n, n < 27 → tInst p.target = pwrInst n → exec (.pwrStatus p) s = .next (s.take.reply p (ok [s.take.reg .PWR_DOM_V n, s.take.reg .PWR_DOM_P n]))))
  ∧ (∀ (s : State) (p : Packet), s.takes 0x0A05 p → indirect p = false → p.late = false →
      exec (.fwInfo p) s = .next (s.take.reply p (ok ([s.take.fwStatusWord, s.take.reg .SVC_OTP] ++ slotInfo (s.take.fwSlot 0) ++ slotInfo (s.take.fwSlot 1)))))

/-- A SNAPSHOT that is taken and accepted makes visible, for every counter of a domain that is on, its live value, and keeps the earlier copy of every other; the live counters run on unchanged, SEQ advances by one modulo 2^32, TIME is the strobe's time of day, and the reply returns SEQ, TIME and, as DETAIL, the number of domains left unrefreshed. (R82, R83.) -/
def Obligations.SnapshotCopies : Prop :=
  ∀ (s : State) (p : Packet), s.takes 0x0003 p → indirect p = false → p.late = false → tabWf (fun _ => 0) s.ctr = true → ∃ t : State,
    exec (.snapshot p) s = .next (t.reply p (ok [wd ((s.fld GLB_SNAP_SEQ.SEQ + 1) % 2 ^ 32), lo32 s.tod, hi32 s.tod]
      (snapDomains.filter (fun n => !s.domOn n)).length)) ∧
    (∀ k, tabGet t.snapVis k 0 = if s.domOn (ctrDomain k) = true then tabGet s.ctr k 0 else tabGet s.snapVis k 0) ∧
    t.ctr = s.ctr ∧ t.snapHid = s.snapVis ∧ t.fld GLB_SNAP_SEQ.SEQ = (s.fld GLB_SNAP_SEQ.SEQ + 1) % 2 ^ 32 ∧
    t.reg .GLB_SNAP_TIME_LO = lo32 s.tod ∧ t.reg .GLB_SNAP_TIME_HI = hi32 s.tod

/-- A block's event waits behind those of its source, or, where four of them wait, is dropped and counted in LOST of that source. A new history entry carries the current SEQ, TARGET, CODE, CLASS and DETAIL of its event, stands last, and SEQ advances by one modulo 2^32; only the oldest of 32 is overwritten, which HIST_LOST counts. (R492, R494, R495, R496.) -/
def Obligations.FaultEventsCollected : Prop :=
  (∀ (s : State) (e : FltEv),
      ((s.flt.waiting.filter (fun w => w.ev.src == e.src)).length < 4 →
        (s.deliver e).flt.waiting = s.flt.waiting ++ [{ cycle := sircCycles s.now, ev := e }] ∧ (s.deliver e).regs = s.regs) ∧
      (4 ≤ (s.flt.waiting.filter (fun w => w.ev.src == e.src)).length →
        (s.deliver e).flt = s.flt ∧ (s.deliver e).fld FLT_SRC_CNT.LOST e.src = Nat.min (2 ^ FLT_SRC_CNT.LOST.w - 1) (s.fld FLT_SRC_CNT.LOST e.src + 1) ∧
        s.regsKept (s.deliver e) [.FLT_SRC_CNT]))
  ∧ (∀ (s : State) (e : FltEv), ∃ x : HistEnt,
      (s.newEntry e).flt.hist = (if s.flt.hist.length < 32 then s.flt.hist else s.flt.hist.drop 1) ++ [x] ∧
      x.seq = (s.reg .FLT_SEQ).toNat ∧ x.target = e.target ∧ x.code = e.code ∧ x.cls = e.cls ∧ x.detail = e.detail ∧ x.inj = e.inj ∧ x.merge = 0 ∧
      (s.newEntry e).reg .FLT_SEQ = s.reg .FLT_SEQ + 1 ∧ (s.newEntry e).flt.waiting = s.flt.waiting ∧
      (s.flt.hist.length < 32 → (s.newEntry e).fld FLT_STATUS.HIST_LOST = s.fld FLT_STATUS.HIST_LOST))

/-- Retiring a unit makes its state RETIRED (7) with the cause given, puts its TARGET into the record of retired units and leaves every other unit and every earlier record as they were; a unit whose class shows its state in a register shows 7 there. (R434, R437.) -/
def Obligations.RetirementIsRecorded : Prop :=
  ∀ (s : State) (t cause : Nat),
    (s.retire t cause).ust t = 7 ∧ ((s.retire t cause).unit t).cause = cause ∧ t ∈ (s.retire t cause).retired ∧
    (∀ u, u ∈ s.retired → u ∈ (s.retire t cause).retired) ∧
    (∀ u, tCls u ≠ tCls t ∨ tInst u ≠ tInst t → (s.retire t cause).unit u = s.unit u) ∧
    (tCls t = cPIPE → (s.retire t cause).fld PIPE_STATUS.USTATE (tInst t) = 7) ∧ (tCls t = cBANK → (s.retire t cause).fld TUN_BANK_STATUS.USTATE (tInst t) = 7) ∧
    s.regsKept (s.retire t cause) [.PIPE_STATUS, .TUN_BANK_STATUS, .GRIST_E_STATUS, .CELLAR_CH_STATUS]

/-- The checks 3 to 7 of R515 give the cause of the first that fails; FW_VERIFY succeeds only for an image whose trailer is well formed, whose key's hash is the OTP's and not revoked, whose SVN is not below MIN_SVN and whose signature is valid, and then the slot is VALID. (R515, R521.) -/
def Obligations.ImagesPassTheirChecks : Prop :=
  (∀ (s : State) (v : FwSlot) (t : List Nat), s.sigCause v t = none →
      trailOk t = true ∧ sha384 ((t.drop 8).take 96) = s.fw.keys.getD (hdrKey v.hdr) 0 ∧ s.fw.rev.getD (hdrKey v.hdr) false = false ∧
      s.fw.minSvn ≤ hdrSvn v.hdr ∧ trailerSigns t (imageBytes v) = true)
  ∧ (∀ (s : State) (v : FwSlot) (t : List Nat), trailOk t = false → s.sigCause v t = some 5)
  ∧ (∀ (s : State) (v : FwSlot) (t : List Nat), trailOk t = true → sha384 ((t.drop 8).take 96) = s.fw.keys.getD (hdrKey v.hdr) 0 →
      (s.fw.rev.getD (hdrKey v.hdr) false = true → s.sigCause v t = some 2) ∧
      (s.fw.rev.getD (hdrKey v.hdr) false = false → hdrSvn v.hdr < s.fw.minSvn → s.sigCause v t = some 3))
  ∧ (∀ (s : State) (p : Packet), (effFwVerify p s).2.status = 0 →
      s.sigCause (s.fwSlot s.idleSlot) (wordBytes (parWords p 0 64)) = none ∧ s.fld SVC_FW_STATUS.SESSION = 1 ∧
      ((effFwVerify p s).1.fwSlot s.idleSlot).state = fVALID ∧ (effFwVerify p s).1.fld SVC_FW_STATUS.SESSION = 0)

/-- Whatever the state and whatever command stands in front, a step keeps the two key hashes, never lowers MIN_SVN and never clears a revocation bit; resets are among the commands. (R515, R522, R91.) -/
def Obligations.OtpNeverGoesBack : Prop :=
  ∀ s t : State, step s = .next t → s.otpKept t
end

