-- ==== Sys2Proof/Laws/State.lean ====
section
/-! SUPPORT. The frame of the shared updates, field by field: what each leaves unchanged, true by definition. -/
namespace Sys2Proof.Machine

/-! ## State.setReg -/

@[simp] theorem State.setReg_pending (s : State) (r : Reg) (i : Nat) (w : Word) : (s.setReg r i w).pending = s.pending := rfl
@[simp] theorem State.setReg_ctr (s : State) (r : Reg) (i : Nat) (w : Word) : (s.setReg r i w).ctr = s.ctr := rfl
@[simp] theorem State.setReg_snapVis (s : State) (r : Reg) (i : Nat) (w : Word) : (s.setReg r i w).snapVis = s.snapVis := rfl
@[simp] theorem State.setReg_snapHid (s : State) (r : Reg) (i : Nat) (w : Word) : (s.setReg r i w).snapHid = s.snapHid := rfl
@[simp] theorem State.setReg_hiLatch (s : State) (r : Reg) (i : Nat) (w : Word) : (s.setReg r i w).hiLatch = s.hiLatch := rfl
@[simp] theorem State.setReg_now (s : State) (r : Reg) (i : Nat) (w : Word) : (s.setReg r i w).now = s.now := rfl
@[simp] theorem State.setReg_freeCtr (s : State) (r : Reg) (i : Nat) (w : Word) : (s.setReg r i w).freeCtr = s.freeCtr := rfl
@[simp] theorem State.setReg_out (s : State) (r : Reg) (i : Nat) (w : Word) : (s.setReg r i w).out = s.out := rfl
@[simp] theorem State.setReg_cmd (s : State) (r : Reg) (i : Nat) (w : Word) : (s.setReg r i w).cmd = s.cmd := rfl
@[simp] theorem State.setReg_pkt (s : State) (r : Reg) (i : Nat) (w : Word) : (s.setReg r i w).pkt = s.pkt := rfl
@[simp] theorem State.setReg_flt (s : State) (r : Reg) (i : Nat) (w : Word) : (s.setReg r i w).flt = s.flt := rfl
@[simp] theorem State.setReg_units (s : State) (r : Reg) (i : Nat) (w : Word) : (s.setReg r i w).units = s.units := rfl
@[simp] theorem State.setReg_retired (s : State) (r : Reg) (i : Nat) (w : Word) : (s.setReg r i w).retired = s.retired := rfl
@[simp] theorem State.setReg_recov (s : State) (r : Reg) (i : Nat) (w : Word) : (s.setReg r i w).recov = s.recov := rfl
@[simp] theorem State.setReg_lanes (s : State) (r : Reg) (i : Nat) (w : Word) : (s.setReg r i w).lanes = s.lanes := rfl
@[simp] theorem State.setReg_twigs (s : State) (r : Reg) (i : Nat) (w : Word) : (s.setReg r i w).twigs = s.twigs := rfl
@[simp] theorem State.setReg_ports (s : State) (r : Reg) (i : Nat) (w : Word) : (s.setReg r i w).ports = s.ports := rfl
@[simp] theorem State.setReg_synce (s : State) (r : Reg) (i : Nat) (w : Word) : (s.setReg r i w).synce = s.synce := rfl
@[simp] theorem State.setReg_pairs (s : State) (r : Reg) (i : Nat) (w : Word) : (s.setReg r i w).pairs = s.pairs := rfl
@[simp] theorem State.setReg_clusters (s : State) (r : Reg) (i : Nat) (w : Word) : (s.setReg r i w).clusters = s.clusters := rfl
@[simp] theorem State.setReg_upLink (s : State) (r : Reg) (i : Nat) (w : Word) : (s.setReg r i w).upLink = s.upLink := rfl
@[simp] theorem State.setReg_dnLink (s : State) (r : Reg) (i : Nat) (w : Word) : (s.setReg r i w).dnLink = s.dnLink := rfl
@[simp] theorem State.setReg_rootB (s : State) (r : Reg) (i : Nat) (w : Word) : (s.setReg r i w).rootB = s.rootB := rfl
@[simp] theorem State.setReg_pframes (s : State) (r : Reg) (i : Nat) (w : Word) : (s.setReg r i w).pframes = s.pframes := rfl
@[simp] theorem State.setReg_pipes (s : State) (r : Reg) (i : Nat) (w : Word) : (s.setReg r i w).pipes = s.pipes := rfl
@[simp] theorem State.setReg_parts (s : State) (r : Reg) (i : Nat) (w : Word) : (s.setReg r i w).parts = s.parts := rfl
@[simp] theorem State.setReg_sketch (s : State) (r : Reg) (i : Nat) (w : Word) : (s.setReg r i w).sketch = s.sketch := rfl
@[simp] theorem State.setReg_twigFifo (s : State) (r : Reg) (i : Nat) (w : Word) : (s.setReg r i w).twigFifo = s.twigFifo := rfl
@[simp] theorem State.setReg_injectQ (s : State) (r : Reg) (i : Nat) (w : Word) : (s.setReg r i w).injectQ = s.injectQ := rfl
@[simp] theorem State.setReg_maltRx (s : State) (r : Reg) (i : Nat) (w : Word) : (s.setReg r i w).maltRx = s.maltRx := rfl
@[simp] theorem State.setReg_ucode (s : State) (r : Reg) (i : Nat) (w : Word) : (s.setReg r i w).ucode = s.ucode := rfl
@[simp] theorem State.setReg_ucodeBad (s : State) (r : Reg) (i : Nat) (w : Word) : (s.setReg r i w).ucodeBad = s.ucodeBad := rfl
@[simp] theorem State.setReg_prog (s : State) (r : Reg) (i : Nat) (w : Word) : (s.setReg r i w).prog = s.prog := rfl
@[simp] theorem State.setReg_stores (s : State) (r : Reg) (i : Nat) (w : Word) : (s.setReg r i w).stores = s.stores := rfl
@[simp] theorem State.setReg_walkers (s : State) (r : Reg) (i : Nat) (w : Word) : (s.setReg r i w).walkers = s.walkers := rfl
@[simp] theorem State.setReg_pipeBank (s : State) (r : Reg) (i : Nat) (w : Word) : (s.setReg r i w).pipeBank = s.pipeBank := rfl
@[simp] theorem State.setReg_tbl (s : State) (r : Reg) (i : Nat) (w : Word) : (s.setReg r i w).tbl = s.tbl := rfl
@[simp] theorem State.setReg_tblLocks (s : State) (r : Reg) (i : Nat) (w : Word) : (s.setReg r i w).tblLocks = s.tblLocks := rfl
@[simp] theorem State.setReg_tblFilter (s : State) (r : Reg) (i : Nat) (w : Word) : (s.setReg r i w).tblFilter = s.tblFilter := rfl
@[simp] theorem State.setReg_tblLens (s : State) (r : Reg) (i : Nat) (w : Word) : (s.setReg r i w).tblLens = s.tblLens := rfl
@[simp] theorem State.setReg_tables (s : State) (r : Reg) (i : Nat) (w : Word) : (s.setReg r i w).tables = s.tables := rfl
@[simp] theorem State.setReg_tcam (s : State) (r : Reg) (i : Nat) (w : Word) : (s.setReg r i w).tcam = s.tcam := rfl
@[simp] theorem State.setReg_tcamSpare (s : State) (r : Reg) (i : Nat) (w : Word) : (s.setReg r i w).tcamSpare = s.tcamSpare := rfl
@[simp] theorem State.setReg_spreads (s : State) (r : Reg) (i : Nat) (w : Word) : (s.setReg r i w).spreads = s.spreads := rfl
@[simp] theorem State.setReg_flowlets (s : State) (r : Reg) (i : Nat) (w : Word) : (s.setReg r i w).flowlets = s.flowlets := rfl
@[simp] theorem State.setReg_grpMon (s : State) (r : Reg) (i : Nat) (w : Word) : (s.setReg r i w).grpMon = s.grpMon := rfl
@[simp] theorem State.setReg_grpNew (s : State) (r : Reg) (i : Nat) (w : Word) : (s.setReg r i w).grpNew = s.grpNew := rfl
@[simp] theorem State.setReg_slotBytes (s : State) (r : Reg) (i : Nat) (w : Word) : (s.setReg r i w).slotBytes = s.slotBytes := rfl
@[simp] theorem State.setReg_slotLast (s : State) (r : Reg) (i : Nat) (w : Word) : (s.setReg r i w).slotLast = s.slotLast := rfl
@[simp] theorem State.setReg_tun (s : State) (r : Reg) (i : Nat) (w : Word) : (s.setReg r i w).tun = s.tun := rfl
@[simp] theorem State.setReg_cellar (s : State) (r : Reg) (i : Nat) (w : Word) : (s.setReg r i w).cellar = s.cellar := rfl
@[simp] theorem State.setReg_squeues (s : State) (r : Reg) (i : Nat) (w : Word) : (s.setReg r i w).squeues = s.squeues := rfl
@[simp] theorem State.setReg_sports (s : State) (r : Reg) (i : Nat) (w : Word) : (s.setReg r i w).sports = s.sports := rfl
@[simp] theorem State.setReg_meters (s : State) (r : Reg) (i : Nat) (w : Word) : (s.setReg r i w).meters = s.meters := rfl
@[simp] theorem State.setReg_streams (s : State) (r : Reg) (i : Nat) (w : Word) : (s.setReg r i w).streams = s.streams := rfl
@[simp] theorem State.setReg_expLost (s : State) (r : Reg) (i : Nat) (w : Word) : (s.setReg r i w).expLost = s.expLost := rfl
@[simp] theorem State.setReg_perfInt (s : State) (r : Reg) (i : Nat) (w : Word) : (s.setReg r i w).perfInt = s.perfInt := rfl
@[simp] theorem State.setReg_tod (s : State) (r : Reg) (i : Nat) (w : Word) : (s.setReg r i w).tod = s.tod := rfl
@[simp] theorem State.setReg_todFrac (s : State) (r : Reg) (i : Nat) (w : Word) : (s.setReg r i w).todFrac = s.todFrac := rfl
@[simp] theorem State.setReg_todSirc (s : State) (r : Reg) (i : Nat) (w : Word) : (s.setReg r i w).todSirc = s.todSirc := rfl
@[simp] theorem State.setReg_busHeld (s : State) (r : Reg) (i : Nat) (w : Word) : (s.setReg r i w).busHeld = s.busHeld := rfl
@[simp] theorem State.setReg_todPend (s : State) (r : Reg) (i : Nat) (w : Word) : (s.setReg r i w).todPend = s.todPend := rfl
@[simp] theorem State.setReg_ppsFall (s : State) (r : Reg) (i : Nat) (w : Word) : (s.setReg r i w).ppsFall = s.ppsFall := rfl
@[simp] theorem State.setReg_cycFrac (s : State) (r : Reg) (i : Nat) (w : Word) : (s.setReg r i w).cycFrac = s.cycFrac := rfl
@[simp] theorem State.setReg_grist (s : State) (r : Reg) (i : Nat) (w : Word) : (s.setReg r i w).grist = s.grist := rfl
@[simp] theorem State.setReg_draining (s : State) (r : Reg) (i : Nat) (w : Word) : (s.setReg r i w).draining = s.draining := rfl
@[simp] theorem State.setReg_life (s : State) (r : Reg) (i : Nat) (w : Word) : (s.setReg r i w).life = s.life := rfl
@[simp] theorem State.setReg_clk (s : State) (r : Reg) (i : Nat) (w : Word) : (s.setReg r i w).clk = s.clk := rfl
@[simp] theorem State.setReg_pwr (s : State) (r : Reg) (i : Nat) (w : Word) : (s.setReg r i w).pwr = s.pwr := rfl
@[simp] theorem State.setReg_fw (s : State) (r : Reg) (i : Nat) (w : Word) : (s.setReg r i w).fw = s.fw := rfl
@[simp] theorem State.setReg_jtagIr (s : State) (r : Reg) (i : Nat) (w : Word) : (s.setReg r i w).jtagIr = s.jtagIr := rfl

/-! ## State.setFld -/

@[simp] theorem State.setFld_pending (s : State) (f : Fld) (i v : Nat) : (s.setFld f i v).pending = s.pending := rfl
@[simp] theorem State.setFld_ctr (s : State) (f : Fld) (i v : Nat) : (s.setFld f i v).ctr = s.ctr := rfl
@[simp] theorem State.setFld_snapVis (s : State) (f : Fld) (i v : Nat) : (s.setFld f i v).snapVis = s.snapVis := rfl
@[simp] theorem State.setFld_snapHid (s : State) (f : Fld) (i v : Nat) : (s.setFld f i v).snapHid = s.snapHid := rfl
@[simp] theorem State.setFld_hiLatch (s : State) (f : Fld) (i v : Nat) : (s.setFld f i v).hiLatch = s.hiLatch := rfl
@[simp] theorem State.setFld_now (s : State) (f : Fld) (i v : Nat) : (s.setFld f i v).now = s.now := rfl
@[simp] theorem State.setFld_freeCtr (s : State) (f : Fld) (i v : Nat) : (s.setFld f i v).freeCtr = s.freeCtr := rfl
@[simp] theorem State.setFld_out (s : State) (f : Fld) (i v : Nat) : (s.setFld f i v).out = s.out := rfl
@[simp] theorem State.setFld_cmd (s : State) (f : Fld) (i v : Nat) : (s.setFld f i v).cmd = s.cmd := rfl
@[simp] theorem State.setFld_pkt (s : State) (f : Fld) (i v : Nat) : (s.setFld f i v).pkt = s.pkt := rfl
@[simp] theorem State.setFld_flt (s : State) (f : Fld) (i v : Nat) : (s.setFld f i v).flt = s.flt := rfl
@[simp] theorem State.setFld_units (s : State) (f : Fld) (i v : Nat) : (s.setFld f i v).units = s.units := rfl
@[simp] theorem State.setFld_retired (s : State) (f : Fld) (i v : Nat) : (s.setFld f i v).retired = s.retired := rfl
@[simp] theorem State.setFld_recov (s : State) (f : Fld) (i v : Nat) : (s.setFld f i v).recov = s.recov := rfl
@[simp] theorem State.setFld_lanes (s : State) (f : Fld) (i v : Nat) : (s.setFld f i v).lanes = s.lanes := rfl
@[simp] theorem State.setFld_twigs (s : State) (f : Fld) (i v : Nat) : (s.setFld f i v).twigs = s.twigs := rfl
@[simp] theorem State.setFld_ports (s : State) (f : Fld) (i v : Nat) : (s.setFld f i v).ports = s.ports := rfl
@[simp] theorem State.setFld_synce (s : State) (f : Fld) (i v : Nat) : (s.setFld f i v).synce = s.synce := rfl
@[simp] theorem State.setFld_pairs (s : State) (f : Fld) (i v : Nat) : (s.setFld f i v).pairs = s.pairs := rfl
@[simp] theorem State.setFld_clusters (s : State) (f : Fld) (i v : Nat) : (s.setFld f i v).clusters = s.clusters := rfl
@[simp] theorem State.setFld_upLink (s : State) (f : Fld) (i v : Nat) : (s.setFld f i v).upLink = s.upLink := rfl
@[simp] theorem State.setFld_dnLink (s : State) (f : Fld) (i v : Nat) : (s.setFld f i v).dnLink = s.dnLink := rfl
@[simp] theorem State.setFld_rootB (s : State) (f : Fld) (i v : Nat) : (s.setFld f i v).rootB = s.rootB := rfl
@[simp] theorem State.setFld_pframes (s : State) (f : Fld) (i v : Nat) : (s.setFld f i v).pframes = s.pframes := rfl
@[simp] theorem State.setFld_pipes (s : State) (f : Fld) (i v : Nat) : (s.setFld f i v).pipes = s.pipes := rfl
@[simp] theorem State.setFld_parts (s : State) (f : Fld) (i v : Nat) : (s.setFld f i v).parts = s.parts := rfl
@[simp] theorem State.setFld_sketch (s : State) (f : Fld) (i v : Nat) : (s.setFld f i v).sketch = s.sketch := rfl
@[simp] theorem State.setFld_twigFifo (s : State) (f : Fld) (i v : Nat) : (s.setFld f i v).twigFifo = s.twigFifo := rfl
@[simp] theorem State.setFld_injectQ (s : State) (f : Fld) (i v : Nat) : (s.setFld f i v).injectQ = s.injectQ := rfl
@[simp] theorem State.setFld_maltRx (s : State) (f : Fld) (i v : Nat) : (s.setFld f i v).maltRx = s.maltRx := rfl
@[simp] theorem State.setFld_ucode (s : State) (f : Fld) (i v : Nat) : (s.setFld f i v).ucode = s.ucode := rfl
@[simp] theorem State.setFld_ucodeBad (s : State) (f : Fld) (i v : Nat) : (s.setFld f i v).ucodeBad = s.ucodeBad := rfl
@[simp] theorem State.setFld_prog (s : State) (f : Fld) (i v : Nat) : (s.setFld f i v).prog = s.prog := rfl
@[simp] theorem State.setFld_stores (s : State) (f : Fld) (i v : Nat) : (s.setFld f i v).stores = s.stores := rfl
@[simp] theorem State.setFld_walkers (s : State) (f : Fld) (i v : Nat) : (s.setFld f i v).walkers = s.walkers := rfl
@[simp] theorem State.setFld_pipeBank (s : State) (f : Fld) (i v : Nat) : (s.setFld f i v).pipeBank = s.pipeBank := rfl
@[simp] theorem State.setFld_tbl (s : State) (f : Fld) (i v : Nat) : (s.setFld f i v).tbl = s.tbl := rfl
@[simp] theorem State.setFld_tblLocks (s : State) (f : Fld) (i v : Nat) : (s.setFld f i v).tblLocks = s.tblLocks := rfl
@[simp] theorem State.setFld_tblFilter (s : State) (f : Fld) (i v : Nat) : (s.setFld f i v).tblFilter = s.tblFilter := rfl
@[simp] theorem State.setFld_tblLens (s : State) (f : Fld) (i v : Nat) : (s.setFld f i v).tblLens = s.tblLens := rfl
@[simp] theorem State.setFld_tables (s : State) (f : Fld) (i v : Nat) : (s.setFld f i v).tables = s.tables := rfl
@[simp] theorem State.setFld_tcam (s : State) (f : Fld) (i v : Nat) : (s.setFld f i v).tcam = s.tcam := rfl
@[simp] theorem State.setFld_tcamSpare (s : State) (f : Fld) (i v : Nat) : (s.setFld f i v).tcamSpare = s.tcamSpare := rfl
@[simp] theorem State.setFld_spreads (s : State) (f : Fld) (i v : Nat) : (s.setFld f i v).spreads = s.spreads := rfl
@[simp] theorem State.setFld_flowlets (s : State) (f : Fld) (i v : Nat) : (s.setFld f i v).flowlets = s.flowlets := rfl
@[simp] theorem State.setFld_grpMon (s : State) (f : Fld) (i v : Nat) : (s.setFld f i v).grpMon = s.grpMon := rfl
@[simp] theorem State.setFld_grpNew (s : State) (f : Fld) (i v : Nat) : (s.setFld f i v).grpNew = s.grpNew := rfl
@[simp] theorem State.setFld_slotBytes (s : State) (f : Fld) (i v : Nat) : (s.setFld f i v).slotBytes = s.slotBytes := rfl
@[simp] theorem State.setFld_slotLast (s : State) (f : Fld) (i v : Nat) : (s.setFld f i v).slotLast = s.slotLast := rfl
@[simp] theorem State.setFld_tun (s : State) (f : Fld) (i v : Nat) : (s.setFld f i v).tun = s.tun := rfl
@[simp] theorem State.setFld_cellar (s : State) (f : Fld) (i v : Nat) : (s.setFld f i v).cellar = s.cellar := rfl
@[simp] theorem State.setFld_squeues (s : State) (f : Fld) (i v : Nat) : (s.setFld f i v).squeues = s.squeues := rfl
@[simp] theorem State.setFld_sports (s : State) (f : Fld) (i v : Nat) : (s.setFld f i v).sports = s.sports := rfl
@[simp] theorem State.setFld_meters (s : State) (f : Fld) (i v : Nat) : (s.setFld f i v).meters = s.meters := rfl
@[simp] theorem State.setFld_streams (s : State) (f : Fld) (i v : Nat) : (s.setFld f i v).streams = s.streams := rfl
@[simp] theorem State.setFld_expLost (s : State) (f : Fld) (i v : Nat) : (s.setFld f i v).expLost = s.expLost := rfl
@[simp] theorem State.setFld_perfInt (s : State) (f : Fld) (i v : Nat) : (s.setFld f i v).perfInt = s.perfInt := rfl
@[simp] theorem State.setFld_tod (s : State) (f : Fld) (i v : Nat) : (s.setFld f i v).tod = s.tod := rfl
@[simp] theorem State.setFld_todFrac (s : State) (f : Fld) (i v : Nat) : (s.setFld f i v).todFrac = s.todFrac := rfl
@[simp] theorem State.setFld_todSirc (s : State) (f : Fld) (i v : Nat) : (s.setFld f i v).todSirc = s.todSirc := rfl
@[simp] theorem State.setFld_busHeld (s : State) (f : Fld) (i v : Nat) : (s.setFld f i v).busHeld = s.busHeld := rfl
@[simp] theorem State.setFld_todPend (s : State) (f : Fld) (i v : Nat) : (s.setFld f i v).todPend = s.todPend := rfl
@[simp] theorem State.setFld_ppsFall (s : State) (f : Fld) (i v : Nat) : (s.setFld f i v).ppsFall = s.ppsFall := rfl
@[simp] theorem State.setFld_cycFrac (s : State) (f : Fld) (i v : Nat) : (s.setFld f i v).cycFrac = s.cycFrac := rfl
@[simp] theorem State.setFld_grist (s : State) (f : Fld) (i v : Nat) : (s.setFld f i v).grist = s.grist := rfl
@[simp] theorem State.setFld_draining (s : State) (f : Fld) (i v : Nat) : (s.setFld f i v).draining = s.draining := rfl
@[simp] theorem State.setFld_life (s : State) (f : Fld) (i v : Nat) : (s.setFld f i v).life = s.life := rfl
@[simp] theorem State.setFld_clk (s : State) (f : Fld) (i v : Nat) : (s.setFld f i v).clk = s.clk := rfl
@[simp] theorem State.setFld_pwr (s : State) (f : Fld) (i v : Nat) : (s.setFld f i v).pwr = s.pwr := rfl
@[simp] theorem State.setFld_fw (s : State) (f : Fld) (i v : Nat) : (s.setFld f i v).fw = s.fw := rfl
@[simp] theorem State.setFld_jtagIr (s : State) (f : Fld) (i v : Nat) : (s.setFld f i v).jtagIr = s.jtagIr := rfl

/-! ## State.ev -/

@[simp] theorem State.ev_pending (s : State) (f : Fld) (i : Nat) : (s.ev f i).pending = s.pending := rfl
@[simp] theorem State.ev_ctr (s : State) (f : Fld) (i : Nat) : (s.ev f i).ctr = s.ctr := rfl
@[simp] theorem State.ev_snapVis (s : State) (f : Fld) (i : Nat) : (s.ev f i).snapVis = s.snapVis := rfl
@[simp] theorem State.ev_snapHid (s : State) (f : Fld) (i : Nat) : (s.ev f i).snapHid = s.snapHid := rfl
@[simp] theorem State.ev_hiLatch (s : State) (f : Fld) (i : Nat) : (s.ev f i).hiLatch = s.hiLatch := rfl
@[simp] theorem State.ev_now (s : State) (f : Fld) (i : Nat) : (s.ev f i).now = s.now := rfl
@[simp] theorem State.ev_freeCtr (s : State) (f : Fld) (i : Nat) : (s.ev f i).freeCtr = s.freeCtr := rfl
@[simp] theorem State.ev_out (s : State) (f : Fld) (i : Nat) : (s.ev f i).out = s.out := rfl
@[simp] theorem State.ev_cmd (s : State) (f : Fld) (i : Nat) : (s.ev f i).cmd = s.cmd := rfl
@[simp] theorem State.ev_pkt (s : State) (f : Fld) (i : Nat) : (s.ev f i).pkt = s.pkt := rfl
@[simp] theorem State.ev_flt (s : State) (f : Fld) (i : Nat) : (s.ev f i).flt = s.flt := rfl
@[simp] theorem State.ev_units (s : State) (f : Fld) (i : Nat) : (s.ev f i).units = s.units := rfl
@[simp] theorem State.ev_retired (s : State) (f : Fld) (i : Nat) : (s.ev f i).retired = s.retired := rfl
@[simp] theorem State.ev_recov (s : State) (f : Fld) (i : Nat) : (s.ev f i).recov = s.recov := rfl
@[simp] theorem State.ev_lanes (s : State) (f : Fld) (i : Nat) : (s.ev f i).lanes = s.lanes := rfl
@[simp] theorem State.ev_twigs (s : State) (f : Fld) (i : Nat) : (s.ev f i).twigs = s.twigs := rfl
@[simp] theorem State.ev_ports (s : State) (f : Fld) (i : Nat) : (s.ev f i).ports = s.ports := rfl
@[simp] theorem State.ev_synce (s : State) (f : Fld) (i : Nat) : (s.ev f i).synce = s.synce := rfl
@[simp] theorem State.ev_pairs (s : State) (f : Fld) (i : Nat) : (s.ev f i).pairs = s.pairs := rfl
@[simp] theorem State.ev_clusters (s : State) (f : Fld) (i : Nat) : (s.ev f i).clusters = s.clusters := rfl
@[simp] theorem State.ev_upLink (s : State) (f : Fld) (i : Nat) : (s.ev f i).upLink = s.upLink := rfl
@[simp] theorem State.ev_dnLink (s : State) (f : Fld) (i : Nat) : (s.ev f i).dnLink = s.dnLink := rfl
@[simp] theorem State.ev_rootB (s : State) (f : Fld) (i : Nat) : (s.ev f i).rootB = s.rootB := rfl
@[simp] theorem State.ev_pframes (s : State) (f : Fld) (i : Nat) : (s.ev f i).pframes = s.pframes := rfl
@[simp] theorem State.ev_pipes (s : State) (f : Fld) (i : Nat) : (s.ev f i).pipes = s.pipes := rfl
@[simp] theorem State.ev_parts (s : State) (f : Fld) (i : Nat) : (s.ev f i).parts = s.parts := rfl
@[simp] theorem State.ev_sketch (s : State) (f : Fld) (i : Nat) : (s.ev f i).sketch = s.sketch := rfl
@[simp] theorem State.ev_twigFifo (s : State) (f : Fld) (i : Nat) : (s.ev f i).twigFifo = s.twigFifo := rfl
@[simp] theorem State.ev_injectQ (s : State) (f : Fld) (i : Nat) : (s.ev f i).injectQ = s.injectQ := rfl
@[simp] theorem State.ev_maltRx (s : State) (f : Fld) (i : Nat) : (s.ev f i).maltRx = s.maltRx := rfl
@[simp] theorem State.ev_ucode (s : State) (f : Fld) (i : Nat) : (s.ev f i).ucode = s.ucode := rfl
@[simp] theorem State.ev_ucodeBad (s : State) (f : Fld) (i : Nat) : (s.ev f i).ucodeBad = s.ucodeBad := rfl
@[simp] theorem State.ev_prog (s : State) (f : Fld) (i : Nat) : (s.ev f i).prog = s.prog := rfl
@[simp] theorem State.ev_stores (s : State) (f : Fld) (i : Nat) : (s.ev f i).stores = s.stores := rfl
@[simp] theorem State.ev_walkers (s : State) (f : Fld) (i : Nat) : (s.ev f i).walkers = s.walkers := rfl
@[simp] theorem State.ev_pipeBank (s : State) (f : Fld) (i : Nat) : (s.ev f i).pipeBank = s.pipeBank := rfl
@[simp] theorem State.ev_tbl (s : State) (f : Fld) (i : Nat) : (s.ev f i).tbl = s.tbl := rfl
@[simp] theorem State.ev_tblLocks (s : State) (f : Fld) (i : Nat) : (s.ev f i).tblLocks = s.tblLocks := rfl
@[simp] theorem State.ev_tblFilter (s : State) (f : Fld) (i : Nat) : (s.ev f i).tblFilter = s.tblFilter := rfl
@[simp] theorem State.ev_tblLens (s : State) (f : Fld) (i : Nat) : (s.ev f i).tblLens = s.tblLens := rfl
@[simp] theorem State.ev_tables (s : State) (f : Fld) (i : Nat) : (s.ev f i).tables = s.tables := rfl
@[simp] theorem State.ev_tcam (s : State) (f : Fld) (i : Nat) : (s.ev f i).tcam = s.tcam := rfl
@[simp] theorem State.ev_tcamSpare (s : State) (f : Fld) (i : Nat) : (s.ev f i).tcamSpare = s.tcamSpare := rfl
@[simp] theorem State.ev_spreads (s : State) (f : Fld) (i : Nat) : (s.ev f i).spreads = s.spreads := rfl
@[simp] theorem State.ev_flowlets (s : State) (f : Fld) (i : Nat) : (s.ev f i).flowlets = s.flowlets := rfl
@[simp] theorem State.ev_grpMon (s : State) (f : Fld) (i : Nat) : (s.ev f i).grpMon = s.grpMon := rfl
@[simp] theorem State.ev_grpNew (s : State) (f : Fld) (i : Nat) : (s.ev f i).grpNew = s.grpNew := rfl
@[simp] theorem State.ev_slotBytes (s : State) (f : Fld) (i : Nat) : (s.ev f i).slotBytes = s.slotBytes := rfl
@[simp] theorem State.ev_slotLast (s : State) (f : Fld) (i : Nat) : (s.ev f i).slotLast = s.slotLast := rfl
@[simp] theorem State.ev_tun (s : State) (f : Fld) (i : Nat) : (s.ev f i).tun = s.tun := rfl
@[simp] theorem State.ev_cellar (s : State) (f : Fld) (i : Nat) : (s.ev f i).cellar = s.cellar := rfl
@[simp] theorem State.ev_squeues (s : State) (f : Fld) (i : Nat) : (s.ev f i).squeues = s.squeues := rfl
@[simp] theorem State.ev_sports (s : State) (f : Fld) (i : Nat) : (s.ev f i).sports = s.sports := rfl
@[simp] theorem State.ev_meters (s : State) (f : Fld) (i : Nat) : (s.ev f i).meters = s.meters := rfl
@[simp] theorem State.ev_streams (s : State) (f : Fld) (i : Nat) : (s.ev f i).streams = s.streams := rfl
@[simp] theorem State.ev_expLost (s : State) (f : Fld) (i : Nat) : (s.ev f i).expLost = s.expLost := rfl
@[simp] theorem State.ev_perfInt (s : State) (f : Fld) (i : Nat) : (s.ev f i).perfInt = s.perfInt := rfl
@[simp] theorem State.ev_tod (s : State) (f : Fld) (i : Nat) : (s.ev f i).tod = s.tod := rfl
@[simp] theorem State.ev_todFrac (s : State) (f : Fld) (i : Nat) : (s.ev f i).todFrac = s.todFrac := rfl
@[simp] theorem State.ev_todSirc (s : State) (f : Fld) (i : Nat) : (s.ev f i).todSirc = s.todSirc := rfl
@[simp] theorem State.ev_busHeld (s : State) (f : Fld) (i : Nat) : (s.ev f i).busHeld = s.busHeld := rfl
@[simp] theorem State.ev_todPend (s : State) (f : Fld) (i : Nat) : (s.ev f i).todPend = s.todPend := rfl
@[simp] theorem State.ev_ppsFall (s : State) (f : Fld) (i : Nat) : (s.ev f i).ppsFall = s.ppsFall := rfl
@[simp] theorem State.ev_cycFrac (s : State) (f : Fld) (i : Nat) : (s.ev f i).cycFrac = s.cycFrac := rfl
@[simp] theorem State.ev_grist (s : State) (f : Fld) (i : Nat) : (s.ev f i).grist = s.grist := rfl
@[simp] theorem State.ev_draining (s : State) (f : Fld) (i : Nat) : (s.ev f i).draining = s.draining := rfl
@[simp] theorem State.ev_life (s : State) (f : Fld) (i : Nat) : (s.ev f i).life = s.life := rfl
@[simp] theorem State.ev_clk (s : State) (f : Fld) (i : Nat) : (s.ev f i).clk = s.clk := rfl
@[simp] theorem State.ev_pwr (s : State) (f : Fld) (i : Nat) : (s.ev f i).pwr = s.pwr := rfl
@[simp] theorem State.ev_fw (s : State) (f : Fld) (i : Nat) : (s.ev f i).fw = s.fw := rfl
@[simp] theorem State.ev_jtagIr (s : State) (f : Fld) (i : Nat) : (s.ev f i).jtagIr = s.jtagIr := rfl

/-! ## State.satFld -/

@[simp] theorem State.satFld_pending (s : State) (f : Fld) (i n : Nat) : (s.satFld f i n).pending = s.pending := rfl
@[simp] theorem State.satFld_ctr (s : State) (f : Fld) (i n : Nat) : (s.satFld f i n).ctr = s.ctr := rfl
@[simp] theorem State.satFld_snapVis (s : State) (f : Fld) (i n : Nat) : (s.satFld f i n).snapVis = s.snapVis := rfl
@[simp] theorem State.satFld_snapHid (s : State) (f : Fld) (i n : Nat) : (s.satFld f i n).snapHid = s.snapHid := rfl
@[simp] theorem State.satFld_hiLatch (s : State) (f : Fld) (i n : Nat) : (s.satFld f i n).hiLatch = s.hiLatch := rfl
@[simp] theorem State.satFld_now (s : State) (f : Fld) (i n : Nat) : (s.satFld f i n).now = s.now := rfl
@[simp] theorem State.satFld_freeCtr (s : State) (f : Fld) (i n : Nat) : (s.satFld f i n).freeCtr = s.freeCtr := rfl
@[simp] theorem State.satFld_out (s : State) (f : Fld) (i n : Nat) : (s.satFld f i n).out = s.out := rfl
@[simp] theorem State.satFld_cmd (s : State) (f : Fld) (i n : Nat) : (s.satFld f i n).cmd = s.cmd := rfl
@[simp] theorem State.satFld_pkt (s : State) (f : Fld) (i n : Nat) : (s.satFld f i n).pkt = s.pkt := rfl
@[simp] theorem State.satFld_flt (s : State) (f : Fld) (i n : Nat) : (s.satFld f i n).flt = s.flt := rfl
@[simp] theorem State.satFld_units (s : State) (f : Fld) (i n : Nat) : (s.satFld f i n).units = s.units := rfl
@[simp] theorem State.satFld_retired (s : State) (f : Fld) (i n : Nat) : (s.satFld f i n).retired = s.retired := rfl
@[simp] theorem State.satFld_recov (s : State) (f : Fld) (i n : Nat) : (s.satFld f i n).recov = s.recov := rfl
@[simp] theorem State.satFld_lanes (s : State) (f : Fld) (i n : Nat) : (s.satFld f i n).lanes = s.lanes := rfl
@[simp] theorem State.satFld_twigs (s : State) (f : Fld) (i n : Nat) : (s.satFld f i n).twigs = s.twigs := rfl
@[simp] theorem State.satFld_ports (s : State) (f : Fld) (i n : Nat) : (s.satFld f i n).ports = s.ports := rfl
@[simp] theorem State.satFld_synce (s : State) (f : Fld) (i n : Nat) : (s.satFld f i n).synce = s.synce := rfl
@[simp] theorem State.satFld_pairs (s : State) (f : Fld) (i n : Nat) : (s.satFld f i n).pairs = s.pairs := rfl
@[simp] theorem State.satFld_clusters (s : State) (f : Fld) (i n : Nat) : (s.satFld f i n).clusters = s.clusters := rfl
@[simp] theorem State.satFld_upLink (s : State) (f : Fld) (i n : Nat) : (s.satFld f i n).upLink = s.upLink := rfl
@[simp] theorem State.satFld_dnLink (s : State) (f : Fld) (i n : Nat) : (s.satFld f i n).dnLink = s.dnLink := rfl
@[simp] theorem State.satFld_rootB (s : State) (f : Fld) (i n : Nat) : (s.satFld f i n).rootB = s.rootB := rfl
@[simp] theorem State.satFld_pframes (s : State) (f : Fld) (i n : Nat) : (s.satFld f i n).pframes = s.pframes := rfl
@[simp] theorem State.satFld_pipes (s : State) (f : Fld) (i n : Nat) : (s.satFld f i n).pipes = s.pipes := rfl
@[simp] theorem State.satFld_parts (s : State) (f : Fld) (i n : Nat) : (s.satFld f i n).parts = s.parts := rfl
@[simp] theorem State.satFld_sketch (s : State) (f : Fld) (i n : Nat) : (s.satFld f i n).sketch = s.sketch := rfl
@[simp] theorem State.satFld_twigFifo (s : State) (f : Fld) (i n : Nat) : (s.satFld f i n).twigFifo = s.twigFifo := rfl
@[simp] theorem State.satFld_injectQ (s : State) (f : Fld) (i n : Nat) : (s.satFld f i n).injectQ = s.injectQ := rfl
@[simp] theorem State.satFld_maltRx (s : State) (f : Fld) (i n : Nat) : (s.satFld f i n).maltRx = s.maltRx := rfl
@[simp] theorem State.satFld_ucode (s : State) (f : Fld) (i n : Nat) : (s.satFld f i n).ucode = s.ucode := rfl
@[simp] theorem State.satFld_ucodeBad (s : State) (f : Fld) (i n : Nat) : (s.satFld f i n).ucodeBad = s.ucodeBad := rfl
@[simp] theorem State.satFld_prog (s : State) (f : Fld) (i n : Nat) : (s.satFld f i n).prog = s.prog := rfl
@[simp] theorem State.satFld_stores (s : State) (f : Fld) (i n : Nat) : (s.satFld f i n).stores = s.stores := rfl
@[simp] theorem State.satFld_walkers (s : State) (f : Fld) (i n : Nat) : (s.satFld f i n).walkers = s.walkers := rfl
@[simp] theorem State.satFld_pipeBank (s : State) (f : Fld) (i n : Nat) : (s.satFld f i n).pipeBank = s.pipeBank := rfl
@[simp] theorem State.satFld_tbl (s : State) (f : Fld) (i n : Nat) : (s.satFld f i n).tbl = s.tbl := rfl
@[simp] theorem State.satFld_tblLocks (s : State) (f : Fld) (i n : Nat) : (s.satFld f i n).tblLocks = s.tblLocks := rfl
@[simp] theorem State.satFld_tblFilter (s : State) (f : Fld) (i n : Nat) : (s.satFld f i n).tblFilter = s.tblFilter := rfl
@[simp] theorem State.satFld_tblLens (s : State) (f : Fld) (i n : Nat) : (s.satFld f i n).tblLens = s.tblLens := rfl
@[simp] theorem State.satFld_tables (s : State) (f : Fld) (i n : Nat) : (s.satFld f i n).tables = s.tables := rfl
@[simp] theorem State.satFld_tcam (s : State) (f : Fld) (i n : Nat) : (s.satFld f i n).tcam = s.tcam := rfl
@[simp] theorem State.satFld_tcamSpare (s : State) (f : Fld) (i n : Nat) : (s.satFld f i n).tcamSpare = s.tcamSpare := rfl
@[simp] theorem State.satFld_spreads (s : State) (f : Fld) (i n : Nat) : (s.satFld f i n).spreads = s.spreads := rfl
@[simp] theorem State.satFld_flowlets (s : State) (f : Fld) (i n : Nat) : (s.satFld f i n).flowlets = s.flowlets := rfl
@[simp] theorem State.satFld_grpMon (s : State) (f : Fld) (i n : Nat) : (s.satFld f i n).grpMon = s.grpMon := rfl
@[simp] theorem State.satFld_grpNew (s : State) (f : Fld) (i n : Nat) : (s.satFld f i n).grpNew = s.grpNew := rfl
@[simp] theorem State.satFld_slotBytes (s : State) (f : Fld) (i n : Nat) : (s.satFld f i n).slotBytes = s.slotBytes := rfl
@[simp] theorem State.satFld_slotLast (s : State) (f : Fld) (i n : Nat) : (s.satFld f i n).slotLast = s.slotLast := rfl
@[simp] theorem State.satFld_tun (s : State) (f : Fld) (i n : Nat) : (s.satFld f i n).tun = s.tun := rfl
@[simp] theorem State.satFld_cellar (s : State) (f : Fld) (i n : Nat) : (s.satFld f i n).cellar = s.cellar := rfl
@[simp] theorem State.satFld_squeues (s : State) (f : Fld) (i n : Nat) : (s.satFld f i n).squeues = s.squeues := rfl
@[simp] theorem State.satFld_sports (s : State) (f : Fld) (i n : Nat) : (s.satFld f i n).sports = s.sports := rfl
@[simp] theorem State.satFld_meters (s : State) (f : Fld) (i n : Nat) : (s.satFld f i n).meters = s.meters := rfl
@[simp] theorem State.satFld_streams (s : State) (f : Fld) (i n : Nat) : (s.satFld f i n).streams = s.streams := rfl
@[simp] theorem State.satFld_expLost (s : State) (f : Fld) (i n : Nat) : (s.satFld f i n).expLost = s.expLost := rfl
@[simp] theorem State.satFld_perfInt (s : State) (f : Fld) (i n : Nat) : (s.satFld f i n).perfInt = s.perfInt := rfl
@[simp] theorem State.satFld_tod (s : State) (f : Fld) (i n : Nat) : (s.satFld f i n).tod = s.tod := rfl
@[simp] theorem State.satFld_todFrac (s : State) (f : Fld) (i n : Nat) : (s.satFld f i n).todFrac = s.todFrac := rfl
@[simp] theorem State.satFld_todSirc (s : State) (f : Fld) (i n : Nat) : (s.satFld f i n).todSirc = s.todSirc := rfl
@[simp] theorem State.satFld_busHeld (s : State) (f : Fld) (i n : Nat) : (s.satFld f i n).busHeld = s.busHeld := rfl
@[simp] theorem State.satFld_todPend (s : State) (f : Fld) (i n : Nat) : (s.satFld f i n).todPend = s.todPend := rfl
@[simp] theorem State.satFld_ppsFall (s : State) (f : Fld) (i n : Nat) : (s.satFld f i n).ppsFall = s.ppsFall := rfl
@[simp] theorem State.satFld_cycFrac (s : State) (f : Fld) (i n : Nat) : (s.satFld f i n).cycFrac = s.cycFrac := rfl
@[simp] theorem State.satFld_grist (s : State) (f : Fld) (i n : Nat) : (s.satFld f i n).grist = s.grist := rfl
@[simp] theorem State.satFld_draining (s : State) (f : Fld) (i n : Nat) : (s.satFld f i n).draining = s.draining := rfl
@[simp] theorem State.satFld_life (s : State) (f : Fld) (i n : Nat) : (s.satFld f i n).life = s.life := rfl
@[simp] theorem State.satFld_clk (s : State) (f : Fld) (i n : Nat) : (s.satFld f i n).clk = s.clk := rfl
@[simp] theorem State.satFld_pwr (s : State) (f : Fld) (i n : Nat) : (s.satFld f i n).pwr = s.pwr := rfl
@[simp] theorem State.satFld_fw (s : State) (f : Fld) (i n : Nat) : (s.satFld f i n).fw = s.fw := rfl
@[simp] theorem State.satFld_jtagIr (s : State) (f : Fld) (i n : Nat) : (s.satFld f i n).jtagIr = s.jtagIr := rfl

/-! ## State.maxFld -/

@[simp] theorem State.maxFld_pending (s : State) (f : Fld) (i v : Nat) : (s.maxFld f i v).pending = s.pending := rfl
@[simp] theorem State.maxFld_ctr (s : State) (f : Fld) (i v : Nat) : (s.maxFld f i v).ctr = s.ctr := rfl
@[simp] theorem State.maxFld_snapVis (s : State) (f : Fld) (i v : Nat) : (s.maxFld f i v).snapVis = s.snapVis := rfl
@[simp] theorem State.maxFld_snapHid (s : State) (f : Fld) (i v : Nat) : (s.maxFld f i v).snapHid = s.snapHid := rfl
@[simp] theorem State.maxFld_hiLatch (s : State) (f : Fld) (i v : Nat) : (s.maxFld f i v).hiLatch = s.hiLatch := rfl
@[simp] theorem State.maxFld_now (s : State) (f : Fld) (i v : Nat) : (s.maxFld f i v).now = s.now := rfl
@[simp] theorem State.maxFld_freeCtr (s : State) (f : Fld) (i v : Nat) : (s.maxFld f i v).freeCtr = s.freeCtr := rfl
@[simp] theorem State.maxFld_out (s : State) (f : Fld) (i v : Nat) : (s.maxFld f i v).out = s.out := rfl
@[simp] theorem State.maxFld_cmd (s : State) (f : Fld) (i v : Nat) : (s.maxFld f i v).cmd = s.cmd := rfl
@[simp] theorem State.maxFld_pkt (s : State) (f : Fld) (i v : Nat) : (s.maxFld f i v).pkt = s.pkt := rfl
@[simp] theorem State.maxFld_flt (s : State) (f : Fld) (i v : Nat) : (s.maxFld f i v).flt = s.flt := rfl
@[simp] theorem State.maxFld_units (s : State) (f : Fld) (i v : Nat) : (s.maxFld f i v).units = s.units := rfl
@[simp] theorem State.maxFld_retired (s : State) (f : Fld) (i v : Nat) : (s.maxFld f i v).retired = s.retired := rfl
@[simp] theorem State.maxFld_recov (s : State) (f : Fld) (i v : Nat) : (s.maxFld f i v).recov = s.recov := rfl
@[simp] theorem State.maxFld_lanes (s : State) (f : Fld) (i v : Nat) : (s.maxFld f i v).lanes = s.lanes := rfl
@[simp] theorem State.maxFld_twigs (s : State) (f : Fld) (i v : Nat) : (s.maxFld f i v).twigs = s.twigs := rfl
@[simp] theorem State.maxFld_ports (s : State) (f : Fld) (i v : Nat) : (s.maxFld f i v).ports = s.ports := rfl
@[simp] theorem State.maxFld_synce (s : State) (f : Fld) (i v : Nat) : (s.maxFld f i v).synce = s.synce := rfl
@[simp] theorem State.maxFld_pairs (s : State) (f : Fld) (i v : Nat) : (s.maxFld f i v).pairs = s.pairs := rfl
@[simp] theorem State.maxFld_clusters (s : State) (f : Fld) (i v : Nat) : (s.maxFld f i v).clusters = s.clusters := rfl
@[simp] theorem State.maxFld_upLink (s : State) (f : Fld) (i v : Nat) : (s.maxFld f i v).upLink = s.upLink := rfl
@[simp] theorem State.maxFld_dnLink (s : State) (f : Fld) (i v : Nat) : (s.maxFld f i v).dnLink = s.dnLink := rfl
@[simp] theorem State.maxFld_rootB (s : State) (f : Fld) (i v : Nat) : (s.maxFld f i v).rootB = s.rootB := rfl
@[simp] theorem State.maxFld_pframes (s : State) (f : Fld) (i v : Nat) : (s.maxFld f i v).pframes = s.pframes := rfl
@[simp] theorem State.maxFld_pipes (s : State) (f : Fld) (i v : Nat) : (s.maxFld f i v).pipes = s.pipes := rfl
@[simp] theorem State.maxFld_parts (s : State) (f : Fld) (i v : Nat) : (s.maxFld f i v).parts = s.parts := rfl
@[simp] theorem State.maxFld_sketch (s : State) (f : Fld) (i v : Nat) : (s.maxFld f i v).sketch = s.sketch := rfl
@[simp] theorem State.maxFld_twigFifo (s : State) (f : Fld) (i v : Nat) : (s.maxFld f i v).twigFifo = s.twigFifo := rfl
@[simp] theorem State.maxFld_injectQ (s : State) (f : Fld) (i v : Nat) : (s.maxFld f i v).injectQ = s.injectQ := rfl
@[simp] theorem State.maxFld_maltRx (s : State) (f : Fld) (i v : Nat) : (s.maxFld f i v).maltRx = s.maltRx := rfl
@[simp] theorem State.maxFld_ucode (s : State) (f : Fld) (i v : Nat) : (s.maxFld f i v).ucode = s.ucode := rfl
@[simp] theorem State.maxFld_ucodeBad (s : State) (f : Fld) (i v : Nat) : (s.maxFld f i v).ucodeBad = s.ucodeBad := rfl
@[simp] theorem State.maxFld_prog (s : State) (f : Fld) (i v : Nat) : (s.maxFld f i v).prog = s.prog := rfl
@[simp] theorem State.maxFld_stores (s : State) (f : Fld) (i v : Nat) : (s.maxFld f i v).stores = s.stores := rfl
@[simp] theorem State.maxFld_walkers (s : State) (f : Fld) (i v : Nat) : (s.maxFld f i v).walkers = s.walkers := rfl
@[simp] theorem State.maxFld_pipeBank (s : State) (f : Fld) (i v : Nat) : (s.maxFld f i v).pipeBank = s.pipeBank := rfl
@[simp] theorem State.maxFld_tbl (s : State) (f : Fld) (i v : Nat) : (s.maxFld f i v).tbl = s.tbl := rfl
@[simp] theorem State.maxFld_tblLocks (s : State) (f : Fld) (i v : Nat) : (s.maxFld f i v).tblLocks = s.tblLocks := rfl
@[simp] theorem State.maxFld_tblFilter (s : State) (f : Fld) (i v : Nat) : (s.maxFld f i v).tblFilter = s.tblFilter := rfl
@[simp] theorem State.maxFld_tblLens (s : State) (f : Fld) (i v : Nat) : (s.maxFld f i v).tblLens = s.tblLens := rfl
@[simp] theorem State.maxFld_tables (s : State) (f : Fld) (i v : Nat) : (s.maxFld f i v).tables = s.tables := rfl
@[simp] theorem State.maxFld_tcam (s : State) (f : Fld) (i v : Nat) : (s.maxFld f i v).tcam = s.tcam := rfl
@[simp] theorem State.maxFld_tcamSpare (s : State) (f : Fld) (i v : Nat) : (s.maxFld f i v).tcamSpare = s.tcamSpare := rfl
@[simp] theorem State.maxFld_spreads (s : State) (f : Fld) (i v : Nat) : (s.maxFld f i v).spreads = s.spreads := rfl
@[simp] theorem State.maxFld_flowlets (s : State) (f : Fld) (i v : Nat) : (s.maxFld f i v).flowlets = s.flowlets := rfl
@[simp] theorem State.maxFld_grpMon (s : State) (f : Fld) (i v : Nat) : (s.maxFld f i v).grpMon = s.grpMon := rfl
@[simp] theorem State.maxFld_grpNew (s : State) (f : Fld) (i v : Nat) : (s.maxFld f i v).grpNew = s.grpNew := rfl
@[simp] theorem State.maxFld_slotBytes (s : State) (f : Fld) (i v : Nat) : (s.maxFld f i v).slotBytes = s.slotBytes := rfl
@[simp] theorem State.maxFld_slotLast (s : State) (f : Fld) (i v : Nat) : (s.maxFld f i v).slotLast = s.slotLast := rfl
@[simp] theorem State.maxFld_tun (s : State) (f : Fld) (i v : Nat) : (s.maxFld f i v).tun = s.tun := rfl
@[simp] theorem State.maxFld_cellar (s : State) (f : Fld) (i v : Nat) : (s.maxFld f i v).cellar = s.cellar := rfl
@[simp] theorem State.maxFld_squeues (s : State) (f : Fld) (i v : Nat) : (s.maxFld f i v).squeues = s.squeues := rfl
@[simp] theorem State.maxFld_sports (s : State) (f : Fld) (i v : Nat) : (s.maxFld f i v).sports = s.sports := rfl
@[simp] theorem State.maxFld_meters (s : State) (f : Fld) (i v : Nat) : (s.maxFld f i v).meters = s.meters := rfl
@[simp] theorem State.maxFld_streams (s : State) (f : Fld) (i v : Nat) : (s.maxFld f i v).streams = s.streams := rfl
@[simp] theorem State.maxFld_expLost (s : State) (f : Fld) (i v : Nat) : (s.maxFld f i v).expLost = s.expLost := rfl
@[simp] theorem State.maxFld_perfInt (s : State) (f : Fld) (i v : Nat) : (s.maxFld f i v).perfInt = s.perfInt := rfl
@[simp] theorem State.maxFld_tod (s : State) (f : Fld) (i v : Nat) : (s.maxFld f i v).tod = s.tod := rfl
@[simp] theorem State.maxFld_todFrac (s : State) (f : Fld) (i v : Nat) : (s.maxFld f i v).todFrac = s.todFrac := rfl
@[simp] theorem State.maxFld_todSirc (s : State) (f : Fld) (i v : Nat) : (s.maxFld f i v).todSirc = s.todSirc := rfl
@[simp] theorem State.maxFld_busHeld (s : State) (f : Fld) (i v : Nat) : (s.maxFld f i v).busHeld = s.busHeld := rfl
@[simp] theorem State.maxFld_todPend (s : State) (f : Fld) (i v : Nat) : (s.maxFld f i v).todPend = s.todPend := rfl
@[simp] theorem State.maxFld_ppsFall (s : State) (f : Fld) (i v : Nat) : (s.maxFld f i v).ppsFall = s.ppsFall := rfl
@[simp] theorem State.maxFld_cycFrac (s : State) (f : Fld) (i v : Nat) : (s.maxFld f i v).cycFrac = s.cycFrac := rfl
@[simp] theorem State.maxFld_grist (s : State) (f : Fld) (i v : Nat) : (s.maxFld f i v).grist = s.grist := rfl
@[simp] theorem State.maxFld_draining (s : State) (f : Fld) (i v : Nat) : (s.maxFld f i v).draining = s.draining := rfl
@[simp] theorem State.maxFld_life (s : State) (f : Fld) (i v : Nat) : (s.maxFld f i v).life = s.life := rfl
@[simp] theorem State.maxFld_clk (s : State) (f : Fld) (i v : Nat) : (s.maxFld f i v).clk = s.clk := rfl
@[simp] theorem State.maxFld_pwr (s : State) (f : Fld) (i v : Nat) : (s.maxFld f i v).pwr = s.pwr := rfl
@[simp] theorem State.maxFld_fw (s : State) (f : Fld) (i v : Nat) : (s.maxFld f i v).fw = s.fw := rfl
@[simp] theorem State.maxFld_jtagIr (s : State) (f : Fld) (i v : Nat) : (s.maxFld f i v).jtagIr = s.jtagIr := rfl

/-! ## State.setCnt -/

@[simp] theorem State.setCnt_pending (s : State) (r : Reg) (i v : Nat) : (s.setCnt r i v).pending = s.pending := rfl
@[simp] theorem State.setCnt_regs (s : State) (r : Reg) (i v : Nat) : (s.setCnt r i v).regs = s.regs := rfl
@[simp] theorem State.setCnt_snapVis (s : State) (r : Reg) (i v : Nat) : (s.setCnt r i v).snapVis = s.snapVis := rfl
@[simp] theorem State.setCnt_snapHid (s : State) (r : Reg) (i v : Nat) : (s.setCnt r i v).snapHid = s.snapHid := rfl
@[simp] theorem State.setCnt_hiLatch (s : State) (r : Reg) (i v : Nat) : (s.setCnt r i v).hiLatch = s.hiLatch := rfl
@[simp] theorem State.setCnt_now (s : State) (r : Reg) (i v : Nat) : (s.setCnt r i v).now = s.now := rfl
@[simp] theorem State.setCnt_freeCtr (s : State) (r : Reg) (i v : Nat) : (s.setCnt r i v).freeCtr = s.freeCtr := rfl
@[simp] theorem State.setCnt_out (s : State) (r : Reg) (i v : Nat) : (s.setCnt r i v).out = s.out := rfl
@[simp] theorem State.setCnt_cmd (s : State) (r : Reg) (i v : Nat) : (s.setCnt r i v).cmd = s.cmd := rfl
@[simp] theorem State.setCnt_pkt (s : State) (r : Reg) (i v : Nat) : (s.setCnt r i v).pkt = s.pkt := rfl
@[simp] theorem State.setCnt_flt (s : State) (r : Reg) (i v : Nat) : (s.setCnt r i v).flt = s.flt := rfl
@[simp] theorem State.setCnt_units (s : State) (r : Reg) (i v : Nat) : (s.setCnt r i v).units = s.units := rfl
@[simp] theorem State.setCnt_retired (s : State) (r : Reg) (i v : Nat) : (s.setCnt r i v).retired = s.retired := rfl
@[simp] theorem State.setCnt_recov (s : State) (r : Reg) (i v : Nat) : (s.setCnt r i v).recov = s.recov := rfl
@[simp] theorem State.setCnt_lanes (s : State) (r : Reg) (i v : Nat) : (s.setCnt r i v).lanes = s.lanes := rfl
@[simp] theorem State.setCnt_twigs (s : State) (r : Reg) (i v : Nat) : (s.setCnt r i v).twigs = s.twigs := rfl
@[simp] theorem State.setCnt_ports (s : State) (r : Reg) (i v : Nat) : (s.setCnt r i v).ports = s.ports := rfl
@[simp] theorem State.setCnt_synce (s : State) (r : Reg) (i v : Nat) : (s.setCnt r i v).synce = s.synce := rfl
@[simp] theorem State.setCnt_pairs (s : State) (r : Reg) (i v : Nat) : (s.setCnt r i v).pairs = s.pairs := rfl
@[simp] theorem State.setCnt_clusters (s : State) (r : Reg) (i v : Nat) : (s.setCnt r i v).clusters = s.clusters := rfl
@[simp] theorem State.setCnt_upLink (s : State) (r : Reg) (i v : Nat) : (s.setCnt r i v).upLink = s.upLink := rfl
@[simp] theorem State.setCnt_dnLink (s : State) (r : Reg) (i v : Nat) : (s.setCnt r i v).dnLink = s.dnLink := rfl
@[simp] theorem State.setCnt_rootB (s : State) (r : Reg) (i v : Nat) : (s.setCnt r i v).rootB = s.rootB := rfl
@[simp] theorem State.setCnt_pframes (s : State) (r : Reg) (i v : Nat) : (s.setCnt r i v).pframes = s.pframes := rfl
@[simp] theorem State.setCnt_pipes (s : State) (r : Reg) (i v : Nat) : (s.setCnt r i v).pipes = s.pipes := rfl
@[simp] theorem State.setCnt_parts (s : State) (r : Reg) (i v : Nat) : (s.setCnt r i v).parts = s.parts := rfl
@[simp] theorem State.setCnt_sketch (s : State) (r : Reg) (i v : Nat) : (s.setCnt r i v).sketch = s.sketch := rfl
@[simp] theorem State.setCnt_twigFifo (s : State) (r : Reg) (i v : Nat) : (s.setCnt r i v).twigFifo = s.twigFifo := rfl
@[simp] theorem State.setCnt_injectQ (s : State) (r : Reg) (i v : Nat) : (s.setCnt r i v).injectQ = s.injectQ := rfl
@[simp] theorem State.setCnt_maltRx (s : State) (r : Reg) (i v : Nat) : (s.setCnt r i v).maltRx = s.maltRx := rfl
@[simp] theorem State.setCnt_ucode (s : State) (r : Reg) (i v : Nat) : (s.setCnt r i v).ucode = s.ucode := rfl
@[simp] theorem State.setCnt_ucodeBad (s : State) (r : Reg) (i v : Nat) : (s.setCnt r i v).ucodeBad = s.ucodeBad := rfl
@[simp] theorem State.setCnt_prog (s : State) (r : Reg) (i v : Nat) : (s.setCnt r i v).prog = s.prog := rfl
@[simp] theorem State.setCnt_stores (s : State) (r : Reg) (i v : Nat) : (s.setCnt r i v).stores = s.stores := rfl
@[simp] theorem State.setCnt_walkers (s : State) (r : Reg) (i v : Nat) : (s.setCnt r i v).walkers = s.walkers := rfl
@[simp] theorem State.setCnt_pipeBank (s : State) (r : Reg) (i v : Nat) : (s.setCnt r i v).pipeBank = s.pipeBank := rfl
@[simp] theorem State.setCnt_tbl (s : State) (r : Reg) (i v : Nat) : (s.setCnt r i v).tbl = s.tbl := rfl
@[simp] theorem State.setCnt_tblLocks (s : State) (r : Reg) (i v : Nat) : (s.setCnt r i v).tblLocks = s.tblLocks := rfl
@[simp] theorem State.setCnt_tblFilter (s : State) (r : Reg) (i v : Nat) : (s.setCnt r i v).tblFilter = s.tblFilter := rfl
@[simp] theorem State.setCnt_tblLens (s : State) (r : Reg) (i v : Nat) : (s.setCnt r i v).tblLens = s.tblLens := rfl
@[simp] theorem State.setCnt_tables (s : State) (r : Reg) (i v : Nat) : (s.setCnt r i v).tables = s.tables := rfl
@[simp] theorem State.setCnt_tcam (s : State) (r : Reg) (i v : Nat) : (s.setCnt r i v).tcam = s.tcam := rfl
@[simp] theorem State.setCnt_tcamSpare (s : State) (r : Reg) (i v : Nat) : (s.setCnt r i v).tcamSpare = s.tcamSpare := rfl
@[simp] theorem State.setCnt_spreads (s : State) (r : Reg) (i v : Nat) : (s.setCnt r i v).spreads = s.spreads := rfl
@[simp] theorem State.setCnt_flowlets (s : State) (r : Reg) (i v : Nat) : (s.setCnt r i v).flowlets = s.flowlets := rfl
@[simp] theorem State.setCnt_grpMon (s : State) (r : Reg) (i v : Nat) : (s.setCnt r i v).grpMon = s.grpMon := rfl
@[simp] theorem State.setCnt_grpNew (s : State) (r : Reg) (i v : Nat) : (s.setCnt r i v).grpNew = s.grpNew := rfl
@[simp] theorem State.setCnt_slotBytes (s : State) (r : Reg) (i v : Nat) : (s.setCnt r i v).slotBytes = s.slotBytes := rfl
@[simp] theorem State.setCnt_slotLast (s : State) (r : Reg) (i v : Nat) : (s.setCnt r i v).slotLast = s.slotLast := rfl
@[simp] theorem State.setCnt_tun (s : State) (r : Reg) (i v : Nat) : (s.setCnt r i v).tun = s.tun := rfl
@[simp] theorem State.setCnt_cellar (s : State) (r : Reg) (i v : Nat) : (s.setCnt r i v).cellar = s.cellar := rfl
@[simp] theorem State.setCnt_squeues (s : State) (r : Reg) (i v : Nat) : (s.setCnt r i v).squeues = s.squeues := rfl
@[simp] theorem State.setCnt_sports (s : State) (r : Reg) (i v : Nat) : (s.setCnt r i v).sports = s.sports := rfl
@[simp] theorem State.setCnt_meters (s : State) (r : Reg) (i v : Nat) : (s.setCnt r i v).meters = s.meters := rfl
@[simp] theorem State.setCnt_streams (s : State) (r : Reg) (i v : Nat) : (s.setCnt r i v).streams = s.streams := rfl
@[simp] theorem State.setCnt_expLost (s : State) (r : Reg) (i v : Nat) : (s.setCnt r i v).expLost = s.expLost := rfl
@[simp] theorem State.setCnt_perfInt (s : State) (r : Reg) (i v : Nat) : (s.setCnt r i v).perfInt = s.perfInt := rfl
@[simp] theorem State.setCnt_tod (s : State) (r : Reg) (i v : Nat) : (s.setCnt r i v).tod = s.tod := rfl
@[simp] theorem State.setCnt_todFrac (s : State) (r : Reg) (i v : Nat) : (s.setCnt r i v).todFrac = s.todFrac := rfl
@[simp] theorem State.setCnt_todSirc (s : State) (r : Reg) (i v : Nat) : (s.setCnt r i v).todSirc = s.todSirc := rfl
@[simp] theorem State.setCnt_busHeld (s : State) (r : Reg) (i v : Nat) : (s.setCnt r i v).busHeld = s.busHeld := rfl
@[simp] theorem State.setCnt_todPend (s : State) (r : Reg) (i v : Nat) : (s.setCnt r i v).todPend = s.todPend := rfl
@[simp] theorem State.setCnt_ppsFall (s : State) (r : Reg) (i v : Nat) : (s.setCnt r i v).ppsFall = s.ppsFall := rfl
@[simp] theorem State.setCnt_cycFrac (s : State) (r : Reg) (i v : Nat) : (s.setCnt r i v).cycFrac = s.cycFrac := rfl
@[simp] theorem State.setCnt_grist (s : State) (r : Reg) (i v : Nat) : (s.setCnt r i v).grist = s.grist := rfl
@[simp] theorem State.setCnt_draining (s : State) (r : Reg) (i v : Nat) : (s.setCnt r i v).draining = s.draining := rfl
@[simp] theorem State.setCnt_life (s : State) (r : Reg) (i v : Nat) : (s.setCnt r i v).life = s.life := rfl
@[simp] theorem State.setCnt_clk (s : State) (r : Reg) (i v : Nat) : (s.setCnt r i v).clk = s.clk := rfl
@[simp] theorem State.setCnt_pwr (s : State) (r : Reg) (i v : Nat) : (s.setCnt r i v).pwr = s.pwr := rfl
@[simp] theorem State.setCnt_fw (s : State) (r : Reg) (i v : Nat) : (s.setCnt r i v).fw = s.fw := rfl
@[simp] theorem State.setCnt_jtagIr (s : State) (r : Reg) (i v : Nat) : (s.setCnt r i v).jtagIr = s.jtagIr := rfl

/-! ## State.bump -/

@[simp] theorem State.bump_pending (s : State) (r : Reg) (i n : Nat) : (s.bump r i n).pending = s.pending := rfl
@[simp] theorem State.bump_regs (s : State) (r : Reg) (i n : Nat) : (s.bump r i n).regs = s.regs := rfl
@[simp] theorem State.bump_snapVis (s : State) (r : Reg) (i n : Nat) : (s.bump r i n).snapVis = s.snapVis := rfl
@[simp] theorem State.bump_snapHid (s : State) (r : Reg) (i n : Nat) : (s.bump r i n).snapHid = s.snapHid := rfl
@[simp] theorem State.bump_hiLatch (s : State) (r : Reg) (i n : Nat) : (s.bump r i n).hiLatch = s.hiLatch := rfl
@[simp] theorem State.bump_now (s : State) (r : Reg) (i n : Nat) : (s.bump r i n).now = s.now := rfl
@[simp] theorem State.bump_freeCtr (s : State) (r : Reg) (i n : Nat) : (s.bump r i n).freeCtr = s.freeCtr := rfl
@[simp] theorem State.bump_out (s : State) (r : Reg) (i n : Nat) : (s.bump r i n).out = s.out := rfl
@[simp] theorem State.bump_cmd (s : State) (r : Reg) (i n : Nat) : (s.bump r i n).cmd = s.cmd := rfl
@[simp] theorem State.bump_pkt (s : State) (r : Reg) (i n : Nat) : (s.bump r i n).pkt = s.pkt := rfl
@[simp] theorem State.bump_flt (s : State) (r : Reg) (i n : Nat) : (s.bump r i n).flt = s.flt := rfl
@[simp] theorem State.bump_units (s : State) (r : Reg) (i n : Nat) : (s.bump r i n).units = s.units := rfl
@[simp] theorem State.bump_retired (s : State) (r : Reg) (i n : Nat) : (s.bump r i n).retired = s.retired := rfl
@[simp] theorem State.bump_recov (s : State) (r : Reg) (i n : Nat) : (s.bump r i n).recov = s.recov := rfl
@[simp] theorem State.bump_lanes (s : State) (r : Reg) (i n : Nat) : (s.bump r i n).lanes = s.lanes := rfl
@[simp] theorem State.bump_twigs (s : State) (r : Reg) (i n : Nat) : (s.bump r i n).twigs = s.twigs := rfl
@[simp] theorem State.bump_ports (s : State) (r : Reg) (i n : Nat) : (s.bump r i n).ports = s.ports := rfl
@[simp] theorem State.bump_synce (s : State) (r : Reg) (i n : Nat) : (s.bump r i n).synce = s.synce := rfl
@[simp] theorem State.bump_pairs (s : State) (r : Reg) (i n : Nat) : (s.bump r i n).pairs = s.pairs := rfl
@[simp] theorem State.bump_clusters (s : State) (r : Reg) (i n : Nat) : (s.bump r i n).clusters = s.clusters := rfl
@[simp] theorem State.bump_upLink (s : State) (r : Reg) (i n : Nat) : (s.bump r i n).upLink = s.upLink := rfl
@[simp] theorem State.bump_dnLink (s : State) (r : Reg) (i n : Nat) : (s.bump r i n).dnLink = s.dnLink := rfl
@[simp] theorem State.bump_rootB (s : State) (r : Reg) (i n : Nat) : (s.bump r i n).rootB = s.rootB := rfl
@[simp] theorem State.bump_pframes (s : State) (r : Reg) (i n : Nat) : (s.bump r i n).pframes = s.pframes := rfl
@[simp] theorem State.bump_pipes (s : State) (r : Reg) (i n : Nat) : (s.bump r i n).pipes = s.pipes := rfl
@[simp] theorem State.bump_parts (s : State) (r : Reg) (i n : Nat) : (s.bump r i n).parts = s.parts := rfl
@[simp] theorem State.bump_sketch (s : State) (r : Reg) (i n : Nat) : (s.bump r i n).sketch = s.sketch := rfl
@[simp] theorem State.bump_twigFifo (s : State) (r : Reg) (i n : Nat) : (s.bump r i n).twigFifo = s.twigFifo := rfl
@[simp] theorem State.bump_injectQ (s : State) (r : Reg) (i n : Nat) : (s.bump r i n).injectQ = s.injectQ := rfl
@[simp] theorem State.bump_maltRx (s : State) (r : Reg) (i n : Nat) : (s.bump r i n).maltRx = s.maltRx := rfl
@[simp] theorem State.bump_ucode (s : State) (r : Reg) (i n : Nat) : (s.bump r i n).ucode = s.ucode := rfl
@[simp] theorem State.bump_ucodeBad (s : State) (r : Reg) (i n : Nat) : (s.bump r i n).ucodeBad = s.ucodeBad := rfl
@[simp] theorem State.bump_prog (s : State) (r : Reg) (i n : Nat) : (s.bump r i n).prog = s.prog := rfl
@[simp] theorem State.bump_stores (s : State) (r : Reg) (i n : Nat) : (s.bump r i n).stores = s.stores := rfl
@[simp] theorem State.bump_walkers (s : State) (r : Reg) (i n : Nat) : (s.bump r i n).walkers = s.walkers := rfl
@[simp] theorem State.bump_pipeBank (s : State) (r : Reg) (i n : Nat) : (s.bump r i n).pipeBank = s.pipeBank := rfl
@[simp] theorem State.bump_tbl (s : State) (r : Reg) (i n : Nat) : (s.bump r i n).tbl = s.tbl := rfl
@[simp] theorem State.bump_tblLocks (s : State) (r : Reg) (i n : Nat) : (s.bump r i n).tblLocks = s.tblLocks := rfl
@[simp] theorem State.bump_tblFilter (s : State) (r : Reg) (i n : Nat) : (s.bump r i n).tblFilter = s.tblFilter := rfl
@[simp] theorem State.bump_tblLens (s : State) (r : Reg) (i n : Nat) : (s.bump r i n).tblLens = s.tblLens := rfl
@[simp] theorem State.bump_tables (s : State) (r : Reg) (i n : Nat) : (s.bump r i n).tables = s.tables := rfl
@[simp] theorem State.bump_tcam (s : State) (r : Reg) (i n : Nat) : (s.bump r i n).tcam = s.tcam := rfl
@[simp] theorem State.bump_tcamSpare (s : State) (r : Reg) (i n : Nat) : (s.bump r i n).tcamSpare = s.tcamSpare := rfl
@[simp] theorem State.bump_spreads (s : State) (r : Reg) (i n : Nat) : (s.bump r i n).spreads = s.spreads := rfl
@[simp] theorem State.bump_flowlets (s : State) (r : Reg) (i n : Nat) : (s.bump r i n).flowlets = s.flowlets := rfl
@[simp] theorem State.bump_grpMon (s : State) (r : Reg) (i n : Nat) : (s.bump r i n).grpMon = s.grpMon := rfl
@[simp] theorem State.bump_grpNew (s : State) (r : Reg) (i n : Nat) : (s.bump r i n).grpNew = s.grpNew := rfl
@[simp] theorem State.bump_slotBytes (s : State) (r : Reg) (i n : Nat) : (s.bump r i n).slotBytes = s.slotBytes := rfl
@[simp] theorem State.bump_slotLast (s : State) (r : Reg) (i n : Nat) : (s.bump r i n).slotLast = s.slotLast := rfl
@[simp] theorem State.bump_tun (s : State) (r : Reg) (i n : Nat) : (s.bump r i n).tun = s.tun := rfl
@[simp] theorem State.bump_cellar (s : State) (r : Reg) (i n : Nat) : (s.bump r i n).cellar = s.cellar := rfl
@[simp] theorem State.bump_squeues (s : State) (r : Reg) (i n : Nat) : (s.bump r i n).squeues = s.squeues := rfl
@[simp] theorem State.bump_sports (s : State) (r : Reg) (i n : Nat) : (s.bump r i n).sports = s.sports := rfl
@[simp] theorem State.bump_meters (s : State) (r : Reg) (i n : Nat) : (s.bump r i n).meters = s.meters := rfl
@[simp] theorem State.bump_streams (s : State) (r : Reg) (i n : Nat) : (s.bump r i n).streams = s.streams := rfl
@[simp] theorem State.bump_expLost (s : State) (r : Reg) (i n : Nat) : (s.bump r i n).expLost = s.expLost := rfl
@[simp] theorem State.bump_perfInt (s : State) (r : Reg) (i n : Nat) : (s.bump r i n).perfInt = s.perfInt := rfl
@[simp] theorem State.bump_tod (s : State) (r : Reg) (i n : Nat) : (s.bump r i n).tod = s.tod := rfl
@[simp] theorem State.bump_todFrac (s : State) (r : Reg) (i n : Nat) : (s.bump r i n).todFrac = s.todFrac := rfl
@[simp] theorem State.bump_todSirc (s : State) (r : Reg) (i n : Nat) : (s.bump r i n).todSirc = s.todSirc := rfl
@[simp] theorem State.bump_busHeld (s : State) (r : Reg) (i n : Nat) : (s.bump r i n).busHeld = s.busHeld := rfl
@[simp] theorem State.bump_todPend (s : State) (r : Reg) (i n : Nat) : (s.bump r i n).todPend = s.todPend := rfl
@[simp] theorem State.bump_ppsFall (s : State) (r : Reg) (i n : Nat) : (s.bump r i n).ppsFall = s.ppsFall := rfl
@[simp] theorem State.bump_cycFrac (s : State) (r : Reg) (i n : Nat) : (s.bump r i n).cycFrac = s.cycFrac := rfl
@[simp] theorem State.bump_grist (s : State) (r : Reg) (i n : Nat) : (s.bump r i n).grist = s.grist := rfl
@[simp] theorem State.bump_draining (s : State) (r : Reg) (i n : Nat) : (s.bump r i n).draining = s.draining := rfl
@[simp] theorem State.bump_life (s : State) (r : Reg) (i n : Nat) : (s.bump r i n).life = s.life := rfl
@[simp] theorem State.bump_clk (s : State) (r : Reg) (i n : Nat) : (s.bump r i n).clk = s.clk := rfl
@[simp] theorem State.bump_pwr (s : State) (r : Reg) (i n : Nat) : (s.bump r i n).pwr = s.pwr := rfl
@[simp] theorem State.bump_fw (s : State) (r : Reg) (i n : Nat) : (s.bump r i n).fw = s.fw := rfl
@[simp] theorem State.bump_jtagIr (s : State) (r : Reg) (i n : Nat) : (s.bump r i n).jtagIr = s.jtagIr := rfl

/-! ## State.emit -/

@[simp] theorem State.emit_pending (s : State) (o : Out) : (s.emit o).pending = s.pending := rfl
@[simp] theorem State.emit_regs (s : State) (o : Out) : (s.emit o).regs = s.regs := rfl
@[simp] theorem State.emit_ctr (s : State) (o : Out) : (s.emit o).ctr = s.ctr := rfl
@[simp] theorem State.emit_snapVis (s : State) (o : Out) : (s.emit o).snapVis = s.snapVis := rfl
@[simp] theorem State.emit_snapHid (s : State) (o : Out) : (s.emit o).snapHid = s.snapHid := rfl
@[simp] theorem State.emit_hiLatch (s : State) (o : Out) : (s.emit o).hiLatch = s.hiLatch := rfl
@[simp] theorem State.emit_now (s : State) (o : Out) : (s.emit o).now = s.now := rfl
@[simp] theorem State.emit_freeCtr (s : State) (o : Out) : (s.emit o).freeCtr = s.freeCtr := rfl
@[simp] theorem State.emit_cmd (s : State) (o : Out) : (s.emit o).cmd = s.cmd := rfl
@[simp] theorem State.emit_pkt (s : State) (o : Out) : (s.emit o).pkt = s.pkt := rfl
@[simp] theorem State.emit_flt (s : State) (o : Out) : (s.emit o).flt = s.flt := rfl
@[simp] theorem State.emit_units (s : State) (o : Out) : (s.emit o).units = s.units := rfl
@[simp] theorem State.emit_retired (s : State) (o : Out) : (s.emit o).retired = s.retired := rfl
@[simp] theorem State.emit_recov (s : State) (o : Out) : (s.emit o).recov = s.recov := rfl
@[simp] theorem State.emit_lanes (s : State) (o : Out) : (s.emit o).lanes = s.lanes := rfl
@[simp] theorem State.emit_twigs (s : State) (o : Out) : (s.emit o).twigs = s.twigs := rfl
@[simp] theorem State.emit_ports (s : State) (o : Out) : (s.emit o).ports = s.ports := rfl
@[simp] theorem State.emit_synce (s : State) (o : Out) : (s.emit o).synce = s.synce := rfl
@[simp] theorem State.emit_pairs (s : State) (o : Out) : (s.emit o).pairs = s.pairs := rfl
@[simp] theorem State.emit_clusters (s : State) (o : Out) : (s.emit o).clusters = s.clusters := rfl
@[simp] theorem State.emit_upLink (s : State) (o : Out) : (s.emit o).upLink = s.upLink := rfl
@[simp] theorem State.emit_dnLink (s : State) (o : Out) : (s.emit o).dnLink = s.dnLink := rfl
@[simp] theorem State.emit_rootB (s : State) (o : Out) : (s.emit o).rootB = s.rootB := rfl
@[simp] theorem State.emit_pframes (s : State) (o : Out) : (s.emit o).pframes = s.pframes := rfl
@[simp] theorem State.emit_pipes (s : State) (o : Out) : (s.emit o).pipes = s.pipes := rfl
@[simp] theorem State.emit_parts (s : State) (o : Out) : (s.emit o).parts = s.parts := rfl
@[simp] theorem State.emit_sketch (s : State) (o : Out) : (s.emit o).sketch = s.sketch := rfl
@[simp] theorem State.emit_twigFifo (s : State) (o : Out) : (s.emit o).twigFifo = s.twigFifo := rfl
@[simp] theorem State.emit_injectQ (s : State) (o : Out) : (s.emit o).injectQ = s.injectQ := rfl
@[simp] theorem State.emit_maltRx (s : State) (o : Out) : (s.emit o).maltRx = s.maltRx := rfl
@[simp] theorem State.emit_ucode (s : State) (o : Out) : (s.emit o).ucode = s.ucode := rfl
@[simp] theorem State.emit_ucodeBad (s : State) (o : Out) : (s.emit o).ucodeBad = s.ucodeBad := rfl
@[simp] theorem State.emit_prog (s : State) (o : Out) : (s.emit o).prog = s.prog := rfl
@[simp] theorem State.emit_stores (s : State) (o : Out) : (s.emit o).stores = s.stores := rfl
@[simp] theorem State.emit_walkers (s : State) (o : Out) : (s.emit o).walkers = s.walkers := rfl
@[simp] theorem State.emit_pipeBank (s : State) (o : Out) : (s.emit o).pipeBank = s.pipeBank := rfl
@[simp] theorem State.emit_tbl (s : State) (o : Out) : (s.emit o).tbl = s.tbl := rfl
@[simp] theorem State.emit_tblLocks (s : State) (o : Out) : (s.emit o).tblLocks = s.tblLocks := rfl
@[simp] theorem State.emit_tblFilter (s : State) (o : Out) : (s.emit o).tblFilter = s.tblFilter := rfl
@[simp] theorem State.emit_tblLens (s : State) (o : Out) : (s.emit o).tblLens = s.tblLens := rfl
@[simp] theorem State.emit_tables (s : State) (o : Out) : (s.emit o).tables = s.tables := rfl
@[simp] theorem State.emit_tcam (s : State) (o : Out) : (s.emit o).tcam = s.tcam := rfl
@[simp] theorem State.emit_tcamSpare (s : State) (o : Out) : (s.emit o).tcamSpare = s.tcamSpare := rfl
@[simp] theorem State.emit_spreads (s : State) (o : Out) : (s.emit o).spreads = s.spreads := rfl
@[simp] theorem State.emit_flowlets (s : State) (o : Out) : (s.emit o).flowlets = s.flowlets := rfl
@[simp] theorem State.emit_grpMon (s : State) (o : Out) : (s.emit o).grpMon = s.grpMon := rfl
@[simp] theorem State.emit_grpNew (s : State) (o : Out) : (s.emit o).grpNew = s.grpNew := rfl
@[simp] theorem State.emit_slotBytes (s : State) (o : Out) : (s.emit o).slotBytes = s.slotBytes := rfl
@[simp] theorem State.emit_slotLast (s : State) (o : Out) : (s.emit o).slotLast = s.slotLast := rfl
@[simp] theorem State.emit_tun (s : State) (o : Out) : (s.emit o).tun = s.tun := rfl
@[simp] theorem State.emit_cellar (s : State) (o : Out) : (s.emit o).cellar = s.cellar := rfl
@[simp] theorem State.emit_squeues (s : State) (o : Out) : (s.emit o).squeues = s.squeues := rfl
@[simp] theorem State.emit_sports (s : State) (o : Out) : (s.emit o).sports = s.sports := rfl
@[simp] theorem State.emit_meters (s : State) (o : Out) : (s.emit o).meters = s.meters := rfl
@[simp] theorem State.emit_streams (s : State) (o : Out) : (s.emit o).streams = s.streams := rfl
@[simp] theorem State.emit_expLost (s : State) (o : Out) : (s.emit o).expLost = s.expLost := rfl
@[simp] theorem State.emit_perfInt (s : State) (o : Out) : (s.emit o).perfInt = s.perfInt := rfl
@[simp] theorem State.emit_tod (s : State) (o : Out) : (s.emit o).tod = s.tod := rfl
@[simp] theorem State.emit_todFrac (s : State) (o : Out) : (s.emit o).todFrac = s.todFrac := rfl
@[simp] theorem State.emit_todSirc (s : State) (o : Out) : (s.emit o).todSirc = s.todSirc := rfl
@[simp] theorem State.emit_busHeld (s : State) (o : Out) : (s.emit o).busHeld = s.busHeld := rfl
@[simp] theorem State.emit_todPend (s : State) (o : Out) : (s.emit o).todPend = s.todPend := rfl
@[simp] theorem State.emit_ppsFall (s : State) (o : Out) : (s.emit o).ppsFall = s.ppsFall := rfl
@[simp] theorem State.emit_cycFrac (s : State) (o : Out) : (s.emit o).cycFrac = s.cycFrac := rfl
@[simp] theorem State.emit_grist (s : State) (o : Out) : (s.emit o).grist = s.grist := rfl
@[simp] theorem State.emit_draining (s : State) (o : Out) : (s.emit o).draining = s.draining := rfl
@[simp] theorem State.emit_life (s : State) (o : Out) : (s.emit o).life = s.life := rfl
@[simp] theorem State.emit_clk (s : State) (o : Out) : (s.emit o).clk = s.clk := rfl
@[simp] theorem State.emit_pwr (s : State) (o : Out) : (s.emit o).pwr = s.pwr := rfl
@[simp] theorem State.emit_fw (s : State) (o : Out) : (s.emit o).fw = s.fw := rfl
@[simp] theorem State.emit_jtagIr (s : State) (o : Out) : (s.emit o).jtagIr = s.jtagIr := rfl

/-! ## State.drawn -/

@[simp] theorem State.drawn_pending (s : State) : (s.drawn).pending = s.pending := rfl
@[simp] theorem State.drawn_regs (s : State) : (s.drawn).regs = s.regs := rfl
@[simp] theorem State.drawn_ctr (s : State) : (s.drawn).ctr = s.ctr := rfl
@[simp] theorem State.drawn_snapVis (s : State) : (s.drawn).snapVis = s.snapVis := rfl
@[simp] theorem State.drawn_snapHid (s : State) : (s.drawn).snapHid = s.snapHid := rfl
@[simp] theorem State.drawn_hiLatch (s : State) : (s.drawn).hiLatch = s.hiLatch := rfl
@[simp] theorem State.drawn_now (s : State) : (s.drawn).now = s.now := rfl
@[simp] theorem State.drawn_out (s : State) : (s.drawn).out = s.out := rfl
@[simp] theorem State.drawn_cmd (s : State) : (s.drawn).cmd = s.cmd := rfl
@[simp] theorem State.drawn_pkt (s : State) : (s.drawn).pkt = s.pkt := rfl
@[simp] theorem State.drawn_flt (s : State) : (s.drawn).flt = s.flt := rfl
@[simp] theorem State.drawn_units (s : State) : (s.drawn).units = s.units := rfl
@[simp] theorem State.drawn_retired (s : State) : (s.drawn).retired = s.retired := rfl
@[simp] theorem State.drawn_recov (s : State) : (s.drawn).recov = s.recov := rfl
@[simp] theorem State.drawn_lanes (s : State) : (s.drawn).lanes = s.lanes := rfl
@[simp] theorem State.drawn_twigs (s : State) : (s.drawn).twigs = s.twigs := rfl
@[simp] theorem State.drawn_ports (s : State) : (s.drawn).ports = s.ports := rfl
@[simp] theorem State.drawn_synce (s : State) : (s.drawn).synce = s.synce := rfl
@[simp] theorem State.drawn_pairs (s : State) : (s.drawn).pairs = s.pairs := rfl
@[simp] theorem State.drawn_clusters (s : State) : (s.drawn).clusters = s.clusters := rfl
@[simp] theorem State.drawn_upLink (s : State) : (s.drawn).upLink = s.upLink := rfl
@[simp] theorem State.drawn_dnLink (s : State) : (s.drawn).dnLink = s.dnLink := rfl
@[simp] theorem State.drawn_rootB (s : State) : (s.drawn).rootB = s.rootB := rfl
@[simp] theorem State.drawn_pframes (s : State) : (s.drawn).pframes = s.pframes := rfl
@[simp] theorem State.drawn_pipes (s : State) : (s.drawn).pipes = s.pipes := rfl
@[simp] theorem State.drawn_parts (s : State) : (s.drawn).parts = s.parts := rfl
@[simp] theorem State.drawn_sketch (s : State) : (s.drawn).sketch = s.sketch := rfl
@[simp] theorem State.drawn_twigFifo (s : State) : (s.drawn).twigFifo = s.twigFifo := rfl
@[simp] theorem State.drawn_injectQ (s : State) : (s.drawn).injectQ = s.injectQ := rfl
@[simp] theorem State.drawn_maltRx (s : State) : (s.drawn).maltRx = s.maltRx := rfl
@[simp] theorem State.drawn_ucode (s : State) : (s.drawn).ucode = s.ucode := rfl
@[simp] theorem State.drawn_ucodeBad (s : State) : (s.drawn).ucodeBad = s.ucodeBad := rfl
@[simp] theorem State.drawn_prog (s : State) : (s.drawn).prog = s.prog := rfl
@[simp] theorem State.drawn_stores (s : State) : (s.drawn).stores = s.stores := rfl
@[simp] theorem State.drawn_walkers (s : State) : (s.drawn).walkers = s.walkers := rfl
@[simp] theorem State.drawn_pipeBank (s : State) : (s.drawn).pipeBank = s.pipeBank := rfl
@[simp] theorem State.drawn_tbl (s : State) : (s.drawn).tbl = s.tbl := rfl
@[simp] theorem State.drawn_tblLocks (s : State) : (s.drawn).tblLocks = s.tblLocks := rfl
@[simp] theorem State.drawn_tblFilter (s : State) : (s.drawn).tblFilter = s.tblFilter := rfl
@[simp] theorem State.drawn_tblLens (s : State) : (s.drawn).tblLens = s.tblLens := rfl
@[simp] theorem State.drawn_tables (s : State) : (s.drawn).tables = s.tables := rfl
@[simp] theorem State.drawn_tcam (s : State) : (s.drawn).tcam = s.tcam := rfl
@[simp] theorem State.drawn_tcamSpare (s : State) : (s.drawn).tcamSpare = s.tcamSpare := rfl
@[simp] theorem State.drawn_spreads (s : State) : (s.drawn).spreads = s.spreads := rfl
@[simp] theorem State.drawn_flowlets (s : State) : (s.drawn).flowlets = s.flowlets := rfl
@[simp] theorem State.drawn_grpMon (s : State) : (s.drawn).grpMon = s.grpMon := rfl
@[simp] theorem State.drawn_grpNew (s : State) : (s.drawn).grpNew = s.grpNew := rfl
@[simp] theorem State.drawn_slotBytes (s : State) : (s.drawn).slotBytes = s.slotBytes := rfl
@[simp] theorem State.drawn_slotLast (s : State) : (s.drawn).slotLast = s.slotLast := rfl
@[simp] theorem State.drawn_tun (s : State) : (s.drawn).tun = s.tun := rfl
@[simp] theorem State.drawn_cellar (s : State) : (s.drawn).cellar = s.cellar := rfl
@[simp] theorem State.drawn_squeues (s : State) : (s.drawn).squeues = s.squeues := rfl
@[simp] theorem State.drawn_sports (s : State) : (s.drawn).sports = s.sports := rfl
@[simp] theorem State.drawn_meters (s : State) : (s.drawn).meters = s.meters := rfl
@[simp] theorem State.drawn_streams (s : State) : (s.drawn).streams = s.streams := rfl
@[simp] theorem State.drawn_expLost (s : State) : (s.drawn).expLost = s.expLost := rfl
@[simp] theorem State.drawn_perfInt (s : State) : (s.drawn).perfInt = s.perfInt := rfl
@[simp] theorem State.drawn_tod (s : State) : (s.drawn).tod = s.tod := rfl
@[simp] theorem State.drawn_todFrac (s : State) : (s.drawn).todFrac = s.todFrac := rfl
@[simp] theorem State.drawn_todSirc (s : State) : (s.drawn).todSirc = s.todSirc := rfl
@[simp] theorem State.drawn_busHeld (s : State) : (s.drawn).busHeld = s.busHeld := rfl
@[simp] theorem State.drawn_todPend (s : State) : (s.drawn).todPend = s.todPend := rfl
@[simp] theorem State.drawn_ppsFall (s : State) : (s.drawn).ppsFall = s.ppsFall := rfl
@[simp] theorem State.drawn_cycFrac (s : State) : (s.drawn).cycFrac = s.cycFrac := rfl
@[simp] theorem State.drawn_grist (s : State) : (s.drawn).grist = s.grist := rfl
@[simp] theorem State.drawn_draining (s : State) : (s.drawn).draining = s.draining := rfl
@[simp] theorem State.drawn_life (s : State) : (s.drawn).life = s.life := rfl
@[simp] theorem State.drawn_clk (s : State) : (s.drawn).clk = s.clk := rfl
@[simp] theorem State.drawn_pwr (s : State) : (s.drawn).pwr = s.pwr := rfl
@[simp] theorem State.drawn_fw (s : State) : (s.drawn).fw = s.fw := rfl
@[simp] theorem State.drawn_jtagIr (s : State) : (s.drawn).jtagIr = s.jtagIr := rfl

/-! ## State.setUnit -/

@[simp] theorem State.setUnit_pending (s : State) (t : Nat) (u : UnitRec) : (s.setUnit t u).pending = s.pending := rfl
@[simp] theorem State.setUnit_regs (s : State) (t : Nat) (u : UnitRec) : (s.setUnit t u).regs = s.regs := rfl
@[simp] theorem State.setUnit_ctr (s : State) (t : Nat) (u : UnitRec) : (s.setUnit t u).ctr = s.ctr := rfl
@[simp] theorem State.setUnit_snapVis (s : State) (t : Nat) (u : UnitRec) : (s.setUnit t u).snapVis = s.snapVis := rfl
@[simp] theorem State.setUnit_snapHid (s : State) (t : Nat) (u : UnitRec) : (s.setUnit t u).snapHid = s.snapHid := rfl
@[simp] theorem State.setUnit_hiLatch (s : State) (t : Nat) (u : UnitRec) : (s.setUnit t u).hiLatch = s.hiLatch := rfl
@[simp] theorem State.setUnit_now (s : State) (t : Nat) (u : UnitRec) : (s.setUnit t u).now = s.now := rfl
@[simp] theorem State.setUnit_freeCtr (s : State) (t : Nat) (u : UnitRec) : (s.setUnit t u).freeCtr = s.freeCtr := rfl
@[simp] theorem State.setUnit_out (s : State) (t : Nat) (u : UnitRec) : (s.setUnit t u).out = s.out := rfl
@[simp] theorem State.setUnit_cmd (s : State) (t : Nat) (u : UnitRec) : (s.setUnit t u).cmd = s.cmd := rfl
@[simp] theorem State.setUnit_pkt (s : State) (t : Nat) (u : UnitRec) : (s.setUnit t u).pkt = s.pkt := rfl
@[simp] theorem State.setUnit_flt (s : State) (t : Nat) (u : UnitRec) : (s.setUnit t u).flt = s.flt := rfl
@[simp] theorem State.setUnit_retired (s : State) (t : Nat) (u : UnitRec) : (s.setUnit t u).retired = s.retired := rfl
@[simp] theorem State.setUnit_recov (s : State) (t : Nat) (u : UnitRec) : (s.setUnit t u).recov = s.recov := rfl
@[simp] theorem State.setUnit_lanes (s : State) (t : Nat) (u : UnitRec) : (s.setUnit t u).lanes = s.lanes := rfl
@[simp] theorem State.setUnit_twigs (s : State) (t : Nat) (u : UnitRec) : (s.setUnit t u).twigs = s.twigs := rfl
@[simp] theorem State.setUnit_ports (s : State) (t : Nat) (u : UnitRec) : (s.setUnit t u).ports = s.ports := rfl
@[simp] theorem State.setUnit_synce (s : State) (t : Nat) (u : UnitRec) : (s.setUnit t u).synce = s.synce := rfl
@[simp] theorem State.setUnit_pairs (s : State) (t : Nat) (u : UnitRec) : (s.setUnit t u).pairs = s.pairs := rfl
@[simp] theorem State.setUnit_clusters (s : State) (t : Nat) (u : UnitRec) : (s.setUnit t u).clusters = s.clusters := rfl
@[simp] theorem State.setUnit_upLink (s : State) (t : Nat) (u : UnitRec) : (s.setUnit t u).upLink = s.upLink := rfl
@[simp] theorem State.setUnit_dnLink (s : State) (t : Nat) (u : UnitRec) : (s.setUnit t u).dnLink = s.dnLink := rfl
@[simp] theorem State.setUnit_rootB (s : State) (t : Nat) (u : UnitRec) : (s.setUnit t u).rootB = s.rootB := rfl
@[simp] theorem State.setUnit_pframes (s : State) (t : Nat) (u : UnitRec) : (s.setUnit t u).pframes = s.pframes := rfl
@[simp] theorem State.setUnit_pipes (s : State) (t : Nat) (u : UnitRec) : (s.setUnit t u).pipes = s.pipes := rfl
@[simp] theorem State.setUnit_parts (s : State) (t : Nat) (u : UnitRec) : (s.setUnit t u).parts = s.parts := rfl
@[simp] theorem State.setUnit_sketch (s : State) (t : Nat) (u : UnitRec) : (s.setUnit t u).sketch = s.sketch := rfl
@[simp] theorem State.setUnit_twigFifo (s : State) (t : Nat) (u : UnitRec) : (s.setUnit t u).twigFifo = s.twigFifo := rfl
@[simp] theorem State.setUnit_injectQ (s : State) (t : Nat) (u : UnitRec) : (s.setUnit t u).injectQ = s.injectQ := rfl
@[simp] theorem State.setUnit_maltRx (s : State) (t : Nat) (u : UnitRec) : (s.setUnit t u).maltRx = s.maltRx := rfl
@[simp] theorem State.setUnit_ucode (s : State) (t : Nat) (u : UnitRec) : (s.setUnit t u).ucode = s.ucode := rfl
@[simp] theorem State.setUnit_ucodeBad (s : State) (t : Nat) (u : UnitRec) : (s.setUnit t u).ucodeBad = s.ucodeBad := rfl
@[simp] theorem State.setUnit_prog (s : State) (t : Nat) (u : UnitRec) : (s.setUnit t u).prog = s.prog := rfl
@[simp] theorem State.setUnit_stores (s : State) (t : Nat) (u : UnitRec) : (s.setUnit t u).stores = s.stores := rfl
@[simp] theorem State.setUnit_walkers (s : State) (t : Nat) (u : UnitRec) : (s.setUnit t u).walkers = s.walkers := rfl
@[simp] theorem State.setUnit_pipeBank (s : State) (t : Nat) (u : UnitRec) : (s.setUnit t u).pipeBank = s.pipeBank := rfl
@[simp] theorem State.setUnit_tbl (s : State) (t : Nat) (u : UnitRec) : (s.setUnit t u).tbl = s.tbl := rfl
@[simp] theorem State.setUnit_tblLocks (s : State) (t : Nat) (u : UnitRec) : (s.setUnit t u).tblLocks = s.tblLocks := rfl
@[simp] theorem State.setUnit_tblFilter (s : State) (t : Nat) (u : UnitRec) : (s.setUnit t u).tblFilter = s.tblFilter := rfl
@[simp] theorem State.setUnit_tblLens (s : State) (t : Nat) (u : UnitRec) : (s.setUnit t u).tblLens = s.tblLens := rfl
@[simp] theorem State.setUnit_tables (s : State) (t : Nat) (u : UnitRec) : (s.setUnit t u).tables = s.tables := rfl
@[simp] theorem State.setUnit_tcam (s : State) (t : Nat) (u : UnitRec) : (s.setUnit t u).tcam = s.tcam := rfl
@[simp] theorem State.setUnit_tcamSpare (s : State) (t : Nat) (u : UnitRec) : (s.setUnit t u).tcamSpare = s.tcamSpare := rfl
@[simp] theorem State.setUnit_spreads (s : State) (t : Nat) (u : UnitRec) : (s.setUnit t u).spreads = s.spreads := rfl
@[simp] theorem State.setUnit_flowlets (s : State) (t : Nat) (u : UnitRec) : (s.setUnit t u).flowlets = s.flowlets := rfl
@[simp] theorem State.setUnit_grpMon (s : State) (t : Nat) (u : UnitRec) : (s.setUnit t u).grpMon = s.grpMon := rfl
@[simp] theorem State.setUnit_grpNew (s : State) (t : Nat) (u : UnitRec) : (s.setUnit t u).grpNew = s.grpNew := rfl
@[simp] theorem State.setUnit_slotBytes (s : State) (t : Nat) (u : UnitRec) : (s.setUnit t u).slotBytes = s.slotBytes := rfl
@[simp] theorem State.setUnit_slotLast (s : State) (t : Nat) (u : UnitRec) : (s.setUnit t u).slotLast = s.slotLast := rfl
@[simp] theorem State.setUnit_tun (s : State) (t : Nat) (u : UnitRec) : (s.setUnit t u).tun = s.tun := rfl
@[simp] theorem State.setUnit_cellar (s : State) (t : Nat) (u : UnitRec) : (s.setUnit t u).cellar = s.cellar := rfl
@[simp] theorem State.setUnit_squeues (s : State) (t : Nat) (u : UnitRec) : (s.setUnit t u).squeues = s.squeues := rfl
@[simp] theorem State.setUnit_sports (s : State) (t : Nat) (u : UnitRec) : (s.setUnit t u).sports = s.sports := rfl
@[simp] theorem State.setUnit_meters (s : State) (t : Nat) (u : UnitRec) : (s.setUnit t u).meters = s.meters := rfl
@[simp] theorem State.setUnit_streams (s : State) (t : Nat) (u : UnitRec) : (s.setUnit t u).streams = s.streams := rfl
@[simp] theorem State.setUnit_expLost (s : State) (t : Nat) (u : UnitRec) : (s.setUnit t u).expLost = s.expLost := rfl
@[simp] theorem State.setUnit_perfInt (s : State) (t : Nat) (u : UnitRec) : (s.setUnit t u).perfInt = s.perfInt := rfl
@[simp] theorem State.setUnit_tod (s : State) (t : Nat) (u : UnitRec) : (s.setUnit t u).tod = s.tod := rfl
@[simp] theorem State.setUnit_todFrac (s : State) (t : Nat) (u : UnitRec) : (s.setUnit t u).todFrac = s.todFrac := rfl
@[simp] theorem State.setUnit_todSirc (s : State) (t : Nat) (u : UnitRec) : (s.setUnit t u).todSirc = s.todSirc := rfl
@[simp] theorem State.setUnit_busHeld (s : State) (t : Nat) (u : UnitRec) : (s.setUnit t u).busHeld = s.busHeld := rfl
@[simp] theorem State.setUnit_todPend (s : State) (t : Nat) (u : UnitRec) : (s.setUnit t u).todPend = s.todPend := rfl
@[simp] theorem State.setUnit_ppsFall (s : State) (t : Nat) (u : UnitRec) : (s.setUnit t u).ppsFall = s.ppsFall := rfl
@[simp] theorem State.setUnit_cycFrac (s : State) (t : Nat) (u : UnitRec) : (s.setUnit t u).cycFrac = s.cycFrac := rfl
@[simp] theorem State.setUnit_grist (s : State) (t : Nat) (u : UnitRec) : (s.setUnit t u).grist = s.grist := rfl
@[simp] theorem State.setUnit_draining (s : State) (t : Nat) (u : UnitRec) : (s.setUnit t u).draining = s.draining := rfl
@[simp] theorem State.setUnit_life (s : State) (t : Nat) (u : UnitRec) : (s.setUnit t u).life = s.life := rfl
@[simp] theorem State.setUnit_clk (s : State) (t : Nat) (u : UnitRec) : (s.setUnit t u).clk = s.clk := rfl
@[simp] theorem State.setUnit_pwr (s : State) (t : Nat) (u : UnitRec) : (s.setUnit t u).pwr = s.pwr := rfl
@[simp] theorem State.setUnit_fw (s : State) (t : Nat) (u : UnitRec) : (s.setUnit t u).fw = s.fw := rfl
@[simp] theorem State.setUnit_jtagIr (s : State) (t : Nat) (u : UnitRec) : (s.setUnit t u).jtagIr = s.jtagIr := rfl

/-! ## State.setHeld -/

@[simp] theorem State.setHeld_pending (s : State) (t : Nat) (h : Bool) : (s.setHeld t h).pending = s.pending := rfl
@[simp] theorem State.setHeld_regs (s : State) (t : Nat) (h : Bool) : (s.setHeld t h).regs = s.regs := rfl
@[simp] theorem State.setHeld_ctr (s : State) (t : Nat) (h : Bool) : (s.setHeld t h).ctr = s.ctr := rfl
@[simp] theorem State.setHeld_snapVis (s : State) (t : Nat) (h : Bool) : (s.setHeld t h).snapVis = s.snapVis := rfl
@[simp] theorem State.setHeld_snapHid (s : State) (t : Nat) (h : Bool) : (s.setHeld t h).snapHid = s.snapHid := rfl
@[simp] theorem State.setHeld_hiLatch (s : State) (t : Nat) (h : Bool) : (s.setHeld t h).hiLatch = s.hiLatch := rfl
@[simp] theorem State.setHeld_now (s : State) (t : Nat) (h : Bool) : (s.setHeld t h).now = s.now := rfl
@[simp] theorem State.setHeld_freeCtr (s : State) (t : Nat) (h : Bool) : (s.setHeld t h).freeCtr = s.freeCtr := rfl
@[simp] theorem State.setHeld_out (s : State) (t : Nat) (h : Bool) : (s.setHeld t h).out = s.out := rfl
@[simp] theorem State.setHeld_cmd (s : State) (t : Nat) (h : Bool) : (s.setHeld t h).cmd = s.cmd := rfl
@[simp] theorem State.setHeld_pkt (s : State) (t : Nat) (h : Bool) : (s.setHeld t h).pkt = s.pkt := rfl
@[simp] theorem State.setHeld_flt (s : State) (t : Nat) (h : Bool) : (s.setHeld t h).flt = s.flt := rfl
@[simp] theorem State.setHeld_retired (s : State) (t : Nat) (h : Bool) : (s.setHeld t h).retired = s.retired := rfl
@[simp] theorem State.setHeld_recov (s : State) (t : Nat) (h : Bool) : (s.setHeld t h).recov = s.recov := rfl
@[simp] theorem State.setHeld_lanes (s : State) (t : Nat) (h : Bool) : (s.setHeld t h).lanes = s.lanes := rfl
@[simp] theorem State.setHeld_twigs (s : State) (t : Nat) (h : Bool) : (s.setHeld t h).twigs = s.twigs := rfl
@[simp] theorem State.setHeld_ports (s : State) (t : Nat) (h : Bool) : (s.setHeld t h).ports = s.ports := rfl
@[simp] theorem State.setHeld_synce (s : State) (t : Nat) (h : Bool) : (s.setHeld t h).synce = s.synce := rfl
@[simp] theorem State.setHeld_pairs (s : State) (t : Nat) (h : Bool) : (s.setHeld t h).pairs = s.pairs := rfl
@[simp] theorem State.setHeld_clusters (s : State) (t : Nat) (h : Bool) : (s.setHeld t h).clusters = s.clusters := rfl
@[simp] theorem State.setHeld_upLink (s : State) (t : Nat) (h : Bool) : (s.setHeld t h).upLink = s.upLink := rfl
@[simp] theorem State.setHeld_dnLink (s : State) (t : Nat) (h : Bool) : (s.setHeld t h).dnLink = s.dnLink := rfl
@[simp] theorem State.setHeld_rootB (s : State) (t : Nat) (h : Bool) : (s.setHeld t h).rootB = s.rootB := rfl
@[simp] theorem State.setHeld_pframes (s : State) (t : Nat) (h : Bool) : (s.setHeld t h).pframes = s.pframes := rfl
@[simp] theorem State.setHeld_pipes (s : State) (t : Nat) (h : Bool) : (s.setHeld t h).pipes = s.pipes := rfl
@[simp] theorem State.setHeld_parts (s : State) (t : Nat) (h : Bool) : (s.setHeld t h).parts = s.parts := rfl
@[simp] theorem State.setHeld_sketch (s : State) (t : Nat) (h : Bool) : (s.setHeld t h).sketch = s.sketch := rfl
@[simp] theorem State.setHeld_twigFifo (s : State) (t : Nat) (h : Bool) : (s.setHeld t h).twigFifo = s.twigFifo := rfl
@[simp] theorem State.setHeld_injectQ (s : State) (t : Nat) (h : Bool) : (s.setHeld t h).injectQ = s.injectQ := rfl
@[simp] theorem State.setHeld_maltRx (s : State) (t : Nat) (h : Bool) : (s.setHeld t h).maltRx = s.maltRx := rfl
@[simp] theorem State.setHeld_ucode (s : State) (t : Nat) (h : Bool) : (s.setHeld t h).ucode = s.ucode := rfl
@[simp] theorem State.setHeld_ucodeBad (s : State) (t : Nat) (h : Bool) : (s.setHeld t h).ucodeBad = s.ucodeBad := rfl
@[simp] theorem State.setHeld_prog (s : State) (t : Nat) (h : Bool) : (s.setHeld t h).prog = s.prog := rfl
@[simp] theorem State.setHeld_stores (s : State) (t : Nat) (h : Bool) : (s.setHeld t h).stores = s.stores := rfl
@[simp] theorem State.setHeld_walkers (s : State) (t : Nat) (h : Bool) : (s.setHeld t h).walkers = s.walkers := rfl
@[simp] theorem State.setHeld_pipeBank (s : State) (t : Nat) (h : Bool) : (s.setHeld t h).pipeBank = s.pipeBank := rfl
@[simp] theorem State.setHeld_tbl (s : State) (t : Nat) (h : Bool) : (s.setHeld t h).tbl = s.tbl := rfl
@[simp] theorem State.setHeld_tblLocks (s : State) (t : Nat) (h : Bool) : (s.setHeld t h).tblLocks = s.tblLocks := rfl
@[simp] theorem State.setHeld_tblFilter (s : State) (t : Nat) (h : Bool) : (s.setHeld t h).tblFilter = s.tblFilter := rfl
@[simp] theorem State.setHeld_tblLens (s : State) (t : Nat) (h : Bool) : (s.setHeld t h).tblLens = s.tblLens := rfl
@[simp] theorem State.setHeld_tables (s : State) (t : Nat) (h : Bool) : (s.setHeld t h).tables = s.tables := rfl
@[simp] theorem State.setHeld_tcam (s : State) (t : Nat) (h : Bool) : (s.setHeld t h).tcam = s.tcam := rfl
@[simp] theorem State.setHeld_tcamSpare (s : State) (t : Nat) (h : Bool) : (s.setHeld t h).tcamSpare = s.tcamSpare := rfl
@[simp] theorem State.setHeld_spreads (s : State) (t : Nat) (h : Bool) : (s.setHeld t h).spreads = s.spreads := rfl
@[simp] theorem State.setHeld_flowlets (s : State) (t : Nat) (h : Bool) : (s.setHeld t h).flowlets = s.flowlets := rfl
@[simp] theorem State.setHeld_grpMon (s : State) (t : Nat) (h : Bool) : (s.setHeld t h).grpMon = s.grpMon := rfl
@[simp] theorem State.setHeld_grpNew (s : State) (t : Nat) (h : Bool) : (s.setHeld t h).grpNew = s.grpNew := rfl
@[simp] theorem State.setHeld_slotBytes (s : State) (t : Nat) (h : Bool) : (s.setHeld t h).slotBytes = s.slotBytes := rfl
@[simp] theorem State.setHeld_slotLast (s : State) (t : Nat) (h : Bool) : (s.setHeld t h).slotLast = s.slotLast := rfl
@[simp] theorem State.setHeld_tun (s : State) (t : Nat) (h : Bool) : (s.setHeld t h).tun = s.tun := rfl
@[simp] theorem State.setHeld_cellar (s : State) (t : Nat) (h : Bool) : (s.setHeld t h).cellar = s.cellar := rfl
@[simp] theorem State.setHeld_squeues (s : State) (t : Nat) (h : Bool) : (s.setHeld t h).squeues = s.squeues := rfl
@[simp] theorem State.setHeld_sports (s : State) (t : Nat) (h : Bool) : (s.setHeld t h).sports = s.sports := rfl
@[simp] theorem State.setHeld_meters (s : State) (t : Nat) (h : Bool) : (s.setHeld t h).meters = s.meters := rfl
@[simp] theorem State.setHeld_streams (s : State) (t : Nat) (h : Bool) : (s.setHeld t h).streams = s.streams := rfl
@[simp] theorem State.setHeld_expLost (s : State) (t : Nat) (h : Bool) : (s.setHeld t h).expLost = s.expLost := rfl
@[simp] theorem State.setHeld_perfInt (s : State) (t : Nat) (h : Bool) : (s.setHeld t h).perfInt = s.perfInt := rfl
@[simp] theorem State.setHeld_tod (s : State) (t : Nat) (h : Bool) : (s.setHeld t h).tod = s.tod := rfl
@[simp] theorem State.setHeld_todFrac (s : State) (t : Nat) (h : Bool) : (s.setHeld t h).todFrac = s.todFrac := rfl
@[simp] theorem State.setHeld_todSirc (s : State) (t : Nat) (h : Bool) : (s.setHeld t h).todSirc = s.todSirc := rfl
@[simp] theorem State.setHeld_busHeld (s : State) (t : Nat) (h : Bool) : (s.setHeld t h).busHeld = s.busHeld := rfl
@[simp] theorem State.setHeld_todPend (s : State) (t : Nat) (h : Bool) : (s.setHeld t h).todPend = s.todPend := rfl
@[simp] theorem State.setHeld_ppsFall (s : State) (t : Nat) (h : Bool) : (s.setHeld t h).ppsFall = s.ppsFall := rfl
@[simp] theorem State.setHeld_cycFrac (s : State) (t : Nat) (h : Bool) : (s.setHeld t h).cycFrac = s.cycFrac := rfl
@[simp] theorem State.setHeld_grist (s : State) (t : Nat) (h : Bool) : (s.setHeld t h).grist = s.grist := rfl
@[simp] theorem State.setHeld_draining (s : State) (t : Nat) (h : Bool) : (s.setHeld t h).draining = s.draining := rfl
@[simp] theorem State.setHeld_life (s : State) (t : Nat) (h : Bool) : (s.setHeld t h).life = s.life := rfl
@[simp] theorem State.setHeld_clk (s : State) (t : Nat) (h : Bool) : (s.setHeld t h).clk = s.clk := rfl
@[simp] theorem State.setHeld_pwr (s : State) (t : Nat) (h : Bool) : (s.setHeld t h).pwr = s.pwr := rfl
@[simp] theorem State.setHeld_fw (s : State) (t : Nat) (h : Bool) : (s.setHeld t h).fw = s.fw := rfl
@[simp] theorem State.setHeld_jtagIr (s : State) (t : Nat) (h : Bool) : (s.setHeld t h).jtagIr = s.jtagIr := rfl

/-! ## State.notePerm -/

@[simp] theorem State.notePerm_pending (s : State) (t m : Nat) (inj : Bool) : (s.notePerm t m inj).pending = s.pending := rfl
@[simp] theorem State.notePerm_regs (s : State) (t m : Nat) (inj : Bool) : (s.notePerm t m inj).regs = s.regs := rfl
@[simp] theorem State.notePerm_ctr (s : State) (t m : Nat) (inj : Bool) : (s.notePerm t m inj).ctr = s.ctr := rfl
@[simp] theorem State.notePerm_snapVis (s : State) (t m : Nat) (inj : Bool) : (s.notePerm t m inj).snapVis = s.snapVis := rfl
@[simp] theorem State.notePerm_snapHid (s : State) (t m : Nat) (inj : Bool) : (s.notePerm t m inj).snapHid = s.snapHid := rfl
@[simp] theorem State.notePerm_hiLatch (s : State) (t m : Nat) (inj : Bool) : (s.notePerm t m inj).hiLatch = s.hiLatch := rfl
@[simp] theorem State.notePerm_now (s : State) (t m : Nat) (inj : Bool) : (s.notePerm t m inj).now = s.now := rfl
@[simp] theorem State.notePerm_freeCtr (s : State) (t m : Nat) (inj : Bool) : (s.notePerm t m inj).freeCtr = s.freeCtr := rfl
@[simp] theorem State.notePerm_out (s : State) (t m : Nat) (inj : Bool) : (s.notePerm t m inj).out = s.out := rfl
@[simp] theorem State.notePerm_cmd (s : State) (t m : Nat) (inj : Bool) : (s.notePerm t m inj).cmd = s.cmd := rfl
@[simp] theorem State.notePerm_pkt (s : State) (t m : Nat) (inj : Bool) : (s.notePerm t m inj).pkt = s.pkt := rfl
@[simp] theorem State.notePerm_units (s : State) (t m : Nat) (inj : Bool) : (s.notePerm t m inj).units = s.units := rfl
@[simp] theorem State.notePerm_retired (s : State) (t m : Nat) (inj : Bool) : (s.notePerm t m inj).retired = s.retired := rfl
@[simp] theorem State.notePerm_recov (s : State) (t m : Nat) (inj : Bool) : (s.notePerm t m inj).recov = s.recov := rfl
@[simp] theorem State.notePerm_lanes (s : State) (t m : Nat) (inj : Bool) : (s.notePerm t m inj).lanes = s.lanes := rfl
@[simp] theorem State.notePerm_twigs (s : State) (t m : Nat) (inj : Bool) : (s.notePerm t m inj).twigs = s.twigs := rfl
@[simp] theorem State.notePerm_ports (s : State) (t m : Nat) (inj : Bool) : (s.notePerm t m inj).ports = s.ports := rfl
@[simp] theorem State.notePerm_synce (s : State) (t m : Nat) (inj : Bool) : (s.notePerm t m inj).synce = s.synce := rfl
@[simp] theorem State.notePerm_pairs (s : State) (t m : Nat) (inj : Bool) : (s.notePerm t m inj).pairs = s.pairs := rfl
@[simp] theorem State.notePerm_clusters (s : State) (t m : Nat) (inj : Bool) : (s.notePerm t m inj).clusters = s.clusters := rfl
@[simp] theorem State.notePerm_upLink (s : State) (t m : Nat) (inj : Bool) : (s.notePerm t m inj).upLink = s.upLink := rfl
@[simp] theorem State.notePerm_dnLink (s : State) (t m : Nat) (inj : Bool) : (s.notePerm t m inj).dnLink = s.dnLink := rfl
@[simp] theorem State.notePerm_rootB (s : State) (t m : Nat) (inj : Bool) : (s.notePerm t m inj).rootB = s.rootB := rfl
@[simp] theorem State.notePerm_pframes (s : State) (t m : Nat) (inj : Bool) : (s.notePerm t m inj).pframes = s.pframes := rfl
@[simp] theorem State.notePerm_pipes (s : State) (t m : Nat) (inj : Bool) : (s.notePerm t m inj).pipes = s.pipes := rfl
@[simp] theorem State.notePerm_parts (s : State) (t m : Nat) (inj : Bool) : (s.notePerm t m inj).parts = s.parts := rfl
@[simp] theorem State.notePerm_sketch (s : State) (t m : Nat) (inj : Bool) : (s.notePerm t m inj).sketch = s.sketch := rfl
@[simp] theorem State.notePerm_twigFifo (s : State) (t m : Nat) (inj : Bool) : (s.notePerm t m inj).twigFifo = s.twigFifo := rfl
@[simp] theorem State.notePerm_injectQ (s : State) (t m : Nat) (inj : Bool) : (s.notePerm t m inj).injectQ = s.injectQ := rfl
@[simp] theorem State.notePerm_maltRx (s : State) (t m : Nat) (inj : Bool) : (s.notePerm t m inj).maltRx = s.maltRx := rfl
@[simp] theorem State.notePerm_ucode (s : State) (t m : Nat) (inj : Bool) : (s.notePerm t m inj).ucode = s.ucode := rfl
@[simp] theorem State.notePerm_ucodeBad (s : State) (t m : Nat) (inj : Bool) : (s.notePerm t m inj).ucodeBad = s.ucodeBad := rfl
@[simp] theorem State.notePerm_prog (s : State) (t m : Nat) (inj : Bool) : (s.notePerm t m inj).prog = s.prog := rfl
@[simp] theorem State.notePerm_stores (s : State) (t m : Nat) (inj : Bool) : (s.notePerm t m inj).stores = s.stores := rfl
@[simp] theorem State.notePerm_walkers (s : State) (t m : Nat) (inj : Bool) : (s.notePerm t m inj).walkers = s.walkers := rfl
@[simp] theorem State.notePerm_pipeBank (s : State) (t m : Nat) (inj : Bool) : (s.notePerm t m inj).pipeBank = s.pipeBank := rfl
@[simp] theorem State.notePerm_tbl (s : State) (t m : Nat) (inj : Bool) : (s.notePerm t m inj).tbl = s.tbl := rfl
@[simp] theorem State.notePerm_tblLocks (s : State) (t m : Nat) (inj : Bool) : (s.notePerm t m inj).tblLocks = s.tblLocks := rfl
@[simp] theorem State.notePerm_tblFilter (s : State) (t m : Nat) (inj : Bool) : (s.notePerm t m inj).tblFilter = s.tblFilter := rfl
@[simp] theorem State.notePerm_tblLens (s : State) (t m : Nat) (inj : Bool) : (s.notePerm t m inj).tblLens = s.tblLens := rfl
@[simp] theorem State.notePerm_tables (s : State) (t m : Nat) (inj : Bool) : (s.notePerm t m inj).tables = s.tables := rfl
@[simp] theorem State.notePerm_tcam (s : State) (t m : Nat) (inj : Bool) : (s.notePerm t m inj).tcam = s.tcam := rfl
@[simp] theorem State.notePerm_tcamSpare (s : State) (t m : Nat) (inj : Bool) : (s.notePerm t m inj).tcamSpare = s.tcamSpare := rfl
@[simp] theorem State.notePerm_spreads (s : State) (t m : Nat) (inj : Bool) : (s.notePerm t m inj).spreads = s.spreads := rfl
@[simp] theorem State.notePerm_flowlets (s : State) (t m : Nat) (inj : Bool) : (s.notePerm t m inj).flowlets = s.flowlets := rfl
@[simp] theorem State.notePerm_grpMon (s : State) (t m : Nat) (inj : Bool) : (s.notePerm t m inj).grpMon = s.grpMon := rfl
@[simp] theorem State.notePerm_grpNew (s : State) (t m : Nat) (inj : Bool) : (s.notePerm t m inj).grpNew = s.grpNew := rfl
@[simp] theorem State.notePerm_slotBytes (s : State) (t m : Nat) (inj : Bool) : (s.notePerm t m inj).slotBytes = s.slotBytes := rfl
@[simp] theorem State.notePerm_slotLast (s : State) (t m : Nat) (inj : Bool) : (s.notePerm t m inj).slotLast = s.slotLast := rfl
@[simp] theorem State.notePerm_tun (s : State) (t m : Nat) (inj : Bool) : (s.notePerm t m inj).tun = s.tun := rfl
@[simp] theorem State.notePerm_cellar (s : State) (t m : Nat) (inj : Bool) : (s.notePerm t m inj).cellar = s.cellar := rfl
@[simp] theorem State.notePerm_squeues (s : State) (t m : Nat) (inj : Bool) : (s.notePerm t m inj).squeues = s.squeues := rfl
@[simp] theorem State.notePerm_sports (s : State) (t m : Nat) (inj : Bool) : (s.notePerm t m inj).sports = s.sports := rfl
@[simp] theorem State.notePerm_meters (s : State) (t m : Nat) (inj : Bool) : (s.notePerm t m inj).meters = s.meters := rfl
@[simp] theorem State.notePerm_streams (s : State) (t m : Nat) (inj : Bool) : (s.notePerm t m inj).streams = s.streams := rfl
@[simp] theorem State.notePerm_expLost (s : State) (t m : Nat) (inj : Bool) : (s.notePerm t m inj).expLost = s.expLost := rfl
@[simp] theorem State.notePerm_perfInt (s : State) (t m : Nat) (inj : Bool) : (s.notePerm t m inj).perfInt = s.perfInt := rfl
@[simp] theorem State.notePerm_tod (s : State) (t m : Nat) (inj : Bool) : (s.notePerm t m inj).tod = s.tod := rfl
@[simp] theorem State.notePerm_todFrac (s : State) (t m : Nat) (inj : Bool) : (s.notePerm t m inj).todFrac = s.todFrac := rfl
@[simp] theorem State.notePerm_todSirc (s : State) (t m : Nat) (inj : Bool) : (s.notePerm t m inj).todSirc = s.todSirc := rfl
@[simp] theorem State.notePerm_busHeld (s : State) (t m : Nat) (inj : Bool) : (s.notePerm t m inj).busHeld = s.busHeld := rfl
@[simp] theorem State.notePerm_todPend (s : State) (t m : Nat) (inj : Bool) : (s.notePerm t m inj).todPend = s.todPend := rfl
@[simp] theorem State.notePerm_ppsFall (s : State) (t m : Nat) (inj : Bool) : (s.notePerm t m inj).ppsFall = s.ppsFall := rfl
@[simp] theorem State.notePerm_cycFrac (s : State) (t m : Nat) (inj : Bool) : (s.notePerm t m inj).cycFrac = s.cycFrac := rfl
@[simp] theorem State.notePerm_grist (s : State) (t m : Nat) (inj : Bool) : (s.notePerm t m inj).grist = s.grist := rfl
@[simp] theorem State.notePerm_draining (s : State) (t m : Nat) (inj : Bool) : (s.notePerm t m inj).draining = s.draining := rfl
@[simp] theorem State.notePerm_life (s : State) (t m : Nat) (inj : Bool) : (s.notePerm t m inj).life = s.life := rfl
@[simp] theorem State.notePerm_clk (s : State) (t m : Nat) (inj : Bool) : (s.notePerm t m inj).clk = s.clk := rfl
@[simp] theorem State.notePerm_pwr (s : State) (t m : Nat) (inj : Bool) : (s.notePerm t m inj).pwr = s.pwr := rfl
@[simp] theorem State.notePerm_fw (s : State) (t m : Nat) (inj : Bool) : (s.notePerm t m inj).fw = s.fw := rfl
@[simp] theorem State.notePerm_jtagIr (s : State) (t m : Nat) (inj : Bool) : (s.notePerm t m inj).jtagIr = s.jtagIr := rfl

/-! ## State.unplant -/

@[simp] theorem State.unplant_pending (s : State) (e : Planted) : (s.unplant e).pending = s.pending := rfl
@[simp] theorem State.unplant_regs (s : State) (e : Planted) : (s.unplant e).regs = s.regs := rfl
@[simp] theorem State.unplant_ctr (s : State) (e : Planted) : (s.unplant e).ctr = s.ctr := rfl
@[simp] theorem State.unplant_snapVis (s : State) (e : Planted) : (s.unplant e).snapVis = s.snapVis := rfl
@[simp] theorem State.unplant_snapHid (s : State) (e : Planted) : (s.unplant e).snapHid = s.snapHid := rfl
@[simp] theorem State.unplant_hiLatch (s : State) (e : Planted) : (s.unplant e).hiLatch = s.hiLatch := rfl
@[simp] theorem State.unplant_now (s : State) (e : Planted) : (s.unplant e).now = s.now := rfl
@[simp] theorem State.unplant_freeCtr (s : State) (e : Planted) : (s.unplant e).freeCtr = s.freeCtr := rfl
@[simp] theorem State.unplant_out (s : State) (e : Planted) : (s.unplant e).out = s.out := rfl
@[simp] theorem State.unplant_cmd (s : State) (e : Planted) : (s.unplant e).cmd = s.cmd := rfl
@[simp] theorem State.unplant_pkt (s : State) (e : Planted) : (s.unplant e).pkt = s.pkt := rfl
@[simp] theorem State.unplant_units (s : State) (e : Planted) : (s.unplant e).units = s.units := rfl
@[simp] theorem State.unplant_retired (s : State) (e : Planted) : (s.unplant e).retired = s.retired := rfl
@[simp] theorem State.unplant_recov (s : State) (e : Planted) : (s.unplant e).recov = s.recov := rfl
@[simp] theorem State.unplant_lanes (s : State) (e : Planted) : (s.unplant e).lanes = s.lanes := rfl
@[simp] theorem State.unplant_twigs (s : State) (e : Planted) : (s.unplant e).twigs = s.twigs := rfl
@[simp] theorem State.unplant_ports (s : State) (e : Planted) : (s.unplant e).ports = s.ports := rfl
@[simp] theorem State.unplant_synce (s : State) (e : Planted) : (s.unplant e).synce = s.synce := rfl
@[simp] theorem State.unplant_pairs (s : State) (e : Planted) : (s.unplant e).pairs = s.pairs := rfl
@[simp] theorem State.unplant_clusters (s : State) (e : Planted) : (s.unplant e).clusters = s.clusters := rfl
@[simp] theorem State.unplant_upLink (s : State) (e : Planted) : (s.unplant e).upLink = s.upLink := rfl
@[simp] theorem State.unplant_dnLink (s : State) (e : Planted) : (s.unplant e).dnLink = s.dnLink := rfl
@[simp] theorem State.unplant_rootB (s : State) (e : Planted) : (s.unplant e).rootB = s.rootB := rfl
@[simp] theorem State.unplant_pframes (s : State) (e : Planted) : (s.unplant e).pframes = s.pframes := rfl
@[simp] theorem State.unplant_pipes (s : State) (e : Planted) : (s.unplant e).pipes = s.pipes := rfl
@[simp] theorem State.unplant_parts (s : State) (e : Planted) : (s.unplant e).parts = s.parts := rfl
@[simp] theorem State.unplant_sketch (s : State) (e : Planted) : (s.unplant e).sketch = s.sketch := rfl
@[simp] theorem State.unplant_twigFifo (s : State) (e : Planted) : (s.unplant e).twigFifo = s.twigFifo := rfl
@[simp] theorem State.unplant_injectQ (s : State) (e : Planted) : (s.unplant e).injectQ = s.injectQ := rfl
@[simp] theorem State.unplant_maltRx (s : State) (e : Planted) : (s.unplant e).maltRx = s.maltRx := rfl
@[simp] theorem State.unplant_ucode (s : State) (e : Planted) : (s.unplant e).ucode = s.ucode := rfl
@[simp] theorem State.unplant_ucodeBad (s : State) (e : Planted) : (s.unplant e).ucodeBad = s.ucodeBad := rfl
@[simp] theorem State.unplant_prog (s : State) (e : Planted) : (s.unplant e).prog = s.prog := rfl
@[simp] theorem State.unplant_stores (s : State) (e : Planted) : (s.unplant e).stores = s.stores := rfl
@[simp] theorem State.unplant_walkers (s : State) (e : Planted) : (s.unplant e).walkers = s.walkers := rfl
@[simp] theorem State.unplant_pipeBank (s : State) (e : Planted) : (s.unplant e).pipeBank = s.pipeBank := rfl
@[simp] theorem State.unplant_tbl (s : State) (e : Planted) : (s.unplant e).tbl = s.tbl := rfl
@[simp] theorem State.unplant_tblLocks (s : State) (e : Planted) : (s.unplant e).tblLocks = s.tblLocks := rfl
@[simp] theorem State.unplant_tblFilter (s : State) (e : Planted) : (s.unplant e).tblFilter = s.tblFilter := rfl
@[simp] theorem State.unplant_tblLens (s : State) (e : Planted) : (s.unplant e).tblLens = s.tblLens := rfl
@[simp] theorem State.unplant_tables (s : State) (e : Planted) : (s.unplant e).tables = s.tables := rfl
@[simp] theorem State.unplant_tcam (s : State) (e : Planted) : (s.unplant e).tcam = s.tcam := rfl
@[simp] theorem State.unplant_tcamSpare (s : State) (e : Planted) : (s.unplant e).tcamSpare = s.tcamSpare := rfl
@[simp] theorem State.unplant_spreads (s : State) (e : Planted) : (s.unplant e).spreads = s.spreads := rfl
@[simp] theorem State.unplant_flowlets (s : State) (e : Planted) : (s.unplant e).flowlets = s.flowlets := rfl
@[simp] theorem State.unplant_grpMon (s : State) (e : Planted) : (s.unplant e).grpMon = s.grpMon := rfl
@[simp] theorem State.unplant_grpNew (s : State) (e : Planted) : (s.unplant e).grpNew = s.grpNew := rfl
@[simp] theorem State.unplant_slotBytes (s : State) (e : Planted) : (s.unplant e).slotBytes = s.slotBytes := rfl
@[simp] theorem State.unplant_slotLast (s : State) (e : Planted) : (s.unplant e).slotLast = s.slotLast := rfl
@[simp] theorem State.unplant_tun (s : State) (e : Planted) : (s.unplant e).tun = s.tun := rfl
@[simp] theorem State.unplant_cellar (s : State) (e : Planted) : (s.unplant e).cellar = s.cellar := rfl
@[simp] theorem State.unplant_squeues (s : State) (e : Planted) : (s.unplant e).squeues = s.squeues := rfl
@[simp] theorem State.unplant_sports (s : State) (e : Planted) : (s.unplant e).sports = s.sports := rfl
@[simp] theorem State.unplant_meters (s : State) (e : Planted) : (s.unplant e).meters = s.meters := rfl
@[simp] theorem State.unplant_streams (s : State) (e : Planted) : (s.unplant e).streams = s.streams := rfl
@[simp] theorem State.unplant_expLost (s : State) (e : Planted) : (s.unplant e).expLost = s.expLost := rfl
@[simp] theorem State.unplant_perfInt (s : State) (e : Planted) : (s.unplant e).perfInt = s.perfInt := rfl
@[simp] theorem State.unplant_tod (s : State) (e : Planted) : (s.unplant e).tod = s.tod := rfl
@[simp] theorem State.unplant_todFrac (s : State) (e : Planted) : (s.unplant e).todFrac = s.todFrac := rfl
@[simp] theorem State.unplant_todSirc (s : State) (e : Planted) : (s.unplant e).todSirc = s.todSirc := rfl
@[simp] theorem State.unplant_busHeld (s : State) (e : Planted) : (s.unplant e).busHeld = s.busHeld := rfl
@[simp] theorem State.unplant_todPend (s : State) (e : Planted) : (s.unplant e).todPend = s.todPend := rfl
@[simp] theorem State.unplant_ppsFall (s : State) (e : Planted) : (s.unplant e).ppsFall = s.ppsFall := rfl
@[simp] theorem State.unplant_cycFrac (s : State) (e : Planted) : (s.unplant e).cycFrac = s.cycFrac := rfl
@[simp] theorem State.unplant_grist (s : State) (e : Planted) : (s.unplant e).grist = s.grist := rfl
@[simp] theorem State.unplant_draining (s : State) (e : Planted) : (s.unplant e).draining = s.draining := rfl
@[simp] theorem State.unplant_life (s : State) (e : Planted) : (s.unplant e).life = s.life := rfl
@[simp] theorem State.unplant_clk (s : State) (e : Planted) : (s.unplant e).clk = s.clk := rfl
@[simp] theorem State.unplant_pwr (s : State) (e : Planted) : (s.unplant e).pwr = s.pwr := rfl
@[simp] theorem State.unplant_fw (s : State) (e : Planted) : (s.unplant e).fw = s.fw := rfl
@[simp] theorem State.unplant_jtagIr (s : State) (e : Planted) : (s.unplant e).jtagIr = s.jtagIr := rfl

end Sys2Proof.Machine
end

