-- ==== Sys2Proof/Laws/Tab.lean ====
section
/-! SUPPORT. Reading and writing sparse tables: a read after a write at the same key gives the value written, a write leaves
every other key alone, and every write keeps the canonical form. -/
namespace Sys2Proof.Machine

theorem tabGet_tabDel_self {α : Type} (t : Tab α) (k : Key) (d : α) : tabGet (tabDel t k) k d = d := by
  induction t with
  | nil => rfl
  | cons e t ih => obtain ⟨k', v⟩ := e; by_cases h : k' = k <;> simp [tabDel, tabGet, h, ih]

theorem tabGet_tabDel_ne {α : Type} (t : Tab α) {k j : Key} (d : α) (h : j ≠ k) :
    tabGet (tabDel t k) j d = tabGet t j d := by
  induction t with
  | nil => rfl
  | cons e t ih =>
    obtain ⟨k', v⟩ := e
    by_cases h1 : k' = k
    · subst h1; simp [tabDel, tabGet, ih, h.symm]
    · simp only [tabDel, if_neg h1, tabGet, ih]

theorem tabGet_tabPut_self {α : Type} (t : Tab α) (k : Key) (v d : α) : tabGet (tabPut t k v) k d = v := by
  induction t with
  | nil => simp [tabPut, tabGet]
  | cons e t ih =>
    obtain ⟨k', v'⟩ := e
    simp only [tabPut]
    split
    · simp [tabGet]
    · split <;> simp [tabGet, *]

theorem tabGet_tabPut_ne {α : Type} (t : Tab α) {k j : Key} (v d : α) (h : j ≠ k) :
    tabGet (tabPut t k v) j d = tabGet t j d := by
  induction t with
  | nil => simp [tabPut, tabGet, h.symm]
  | cons e t ih =>
    obtain ⟨k', v'⟩ := e
    simp only [tabPut]
    split
    · next h1 => subst h1; simp [tabGet, h.symm]
    · split
      · simp [tabGet, h.symm]
      · by_cases h2 : k' = j <;> simp [tabGet, h2, ih]

/-- A read after a write at the same key gives the value written. -/
@[simp] theorem tabGet_tabSet_self {α : Type} [DecidableEq α] (t : Tab α) (k : Key) (v d : α) :
    tabGet (tabSet t k v d) k d = v := by
  unfold tabSet; split
  · next h => rw [tabGet_tabDel_self, h]
  · exact tabGet_tabPut_self t k v d

/-- A write leaves every other key alone. -/
theorem tabGet_tabSet_ne {α : Type} [DecidableEq α] (t : Tab α) {k j : Key} (v d d' : α) (h : j ≠ k) :
    tabGet (tabSet t k v d) j d' = tabGet t j d' := by
  unfold tabSet; split
  · exact tabGet_tabDel_ne t d' h
  · exact tabGet_tabPut_ne t v d' h

/-- A write of what a key already reads as is a read of the same values everywhere. -/
theorem tabGet_tabSet {α : Type} [DecidableEq α] (t : Tab α) (k j : Key) (v d : α) :
    tabGet (tabSet t k v d) j d = if j = k then v else tabGet t j d := by
  by_cases h : j = k
  · subst h; simp
  · simp [h, tabGet_tabSet_ne t v d d h]

theorem keyLt_trans {a b c : Key} (h : keyLt a b = true) (h' : keyLt b c = true) : keyLt a c = true := by
  simp only [keyLt, Bool.or_eq_true, Bool.and_eq_true, decide_eq_true_eq] at *; omega

theorem keyLt_of_not {a b : Key} (h : a ≠ b) (h' : ¬ keyLt b a = true) : keyLt a b = true := by
  have : a.1 ≠ b.1 ∨ a.2 ≠ b.2 := by
    by_contra hc; push Not at hc; exact h (Prod.ext hc.1 hc.2)
  simp only [keyLt, Bool.or_eq_true, Bool.and_eq_true, decide_eq_true_eq] at *; omega

theorem tabAbove_mono {α : Type} {a b : Key} (h : keyLt a b = true) (t : Tab α) (ht : tabAbove b t = true) :
    tabAbove a t = true := by
  induction t with
  | nil => rfl
  | cons e t ih =>
    simp only [tabAbove, Bool.and_eq_true] at *
    exact ⟨keyLt_trans h ht.1, ih ht.2⟩

theorem tabAbove_tabDel {α : Type} {a : Key} (t : Tab α) (k : Key) (h : tabAbove a t = true) :
    tabAbove a (tabDel t k) = true := by
  induction t with
  | nil => rfl
  | cons e t ih =>
    obtain ⟨k', v⟩ := e
    simp only [tabAbove, Bool.and_eq_true] at h
    by_cases hk : k' = k <;> simp [tabDel, tabAbove, hk, ih h.2, h.1]

theorem tabAbove_tabPut {α : Type} {a : Key} (t : Tab α) (k : Key) (v : α) (h : tabAbove a t = true)
    (hk : keyLt a k = true) : tabAbove a (tabPut t k v) = true := by
  induction t with
  | nil => simp [tabPut, tabAbove, hk]
  | cons e t ih =>
    obtain ⟨k', v'⟩ := e
    simp only [tabAbove, Bool.and_eq_true] at h
    simp only [tabPut]
    split
    · simp [tabAbove, hk, h.2]
    · split <;> simp [tabAbove, hk, h.1, h.2, ih h.2]

theorem tabWf_tabDel {α : Type} [DecidableEq α] (d : Key → α) (t : Tab α) (k : Key) (h : tabWf d t = true) :
    tabWf d (tabDel t k) = true := by
  induction t with
  | nil => rfl
  | cons e t ih =>
    obtain ⟨k', v⟩ := e
    simp only [tabWf, Bool.and_eq_true] at h
    by_cases hk : k' = k
    · simp [tabDel, hk, ih h.2]
    · simp [tabDel, hk, tabWf, ih h.2, tabAbove_tabDel t k h.1.1]
      simpa using h.1.2

theorem tabWf_tabPut {α : Type} [DecidableEq α] (d : Key → α) (t : Tab α) (k : Key) (v : α) (h : tabWf d t = true)
    (hv : v ≠ d k) : tabWf d (tabPut t k v) = true := by
  induction t with
  | nil => simp [tabPut, tabWf, tabAbove, hv]
  | cons e t ih =>
    obtain ⟨k', v'⟩ := e
    simp only [tabWf, Bool.and_eq_true] at h
    simp only [tabPut]
    split
    · next h1 => subst h1; simp [tabWf, hv, h.1.1, h.2]
    · next h1 =>
      split
      · next h2 =>
        have := tabAbove_mono h2 t h.1.1
        simp [tabWf, tabAbove, h.1.1, h.2, hv, h2, this]
        simpa using h.1.2
      · next h2 =>
        have := tabAbove_tabPut t k v h.1.1 (keyLt_of_not h1 h2)
        simp [tabWf, ih h.2, this]
        simpa using h.1.2

/-- Every write keeps the canonical form. -/
theorem tabWf_tabSet {α : Type} [DecidableEq α] (d : Key → α) (t : Tab α) (k : Key) (v : α) (h : tabWf d t = true) :
    tabWf d (tabSet t k v (d k)) = true := by
  unfold tabSet; split
  · exact tabWf_tabDel d t k h
  · next hv => exact tabWf_tabPut d t k v h hv

/-- A write at key `k` drops nothing that another key reads. -/
theorem tabGet_nil {α : Type} (k : Key) (d : α) : tabGet ([] : Tab α) k d = d := rfl

end Sys2Proof.Machine
end

