-- ==== Sys2Proof/Laws/Ops.lean ====
section
/-! SUPPORT. What a read of a register, a field, a counter or a unit gives after a write of one. -/
namespace Sys2Proof.Machine

/-! ## Bit fields -/

theorem bitsAt_lt (w : Word) (lo n : Nat) : bitsAt w lo n < 2 ^ n := Nat.mod_lt _ (Nat.two_pow_pos n)

/-- A word split at a field: below it, the field, above it. -/
theorem word_split (x lo n : Nat) : x = x % 2 ^ lo + (x / 2 ^ lo % 2 ^ n) * 2 ^ lo + (x / 2 ^ (lo + n)) * 2 ^ (lo + n) := by
  have h1 := Nat.mod_add_div x (2 ^ lo)
  have h2 := Nat.mod_add_div (x / 2 ^ lo) (2 ^ n)
  rw [Nat.div_div_eq_div_mul, ← Nat.pow_add] at h2
  calc x = x % 2 ^ lo + 2 ^ lo * (x / 2 ^ lo) := h1.symm
    _ = x % 2 ^ lo + 2 ^ lo * (x / 2 ^ lo % 2 ^ n + 2 ^ n * (x / 2 ^ (lo + n))) := by rw [h2]
    _ = _ := by rw [Nat.pow_add]; ring

/-- A digit below a place and a number of places below a bound make a number below their product. -/
theorem place_lt {a A b B : Nat} (ha : a < A) (hb : b < B) : a + b * A < B * A :=
  calc a + b * A < A + b * A := Nat.add_lt_add_right ha _
    _ = (b + 1) * A := by ring
    _ ≤ B * A := Nat.mul_le_mul_right A hb

/-- The number a field write stores, where the field lies within the word. -/
theorem setBits_toNat (w : Word) (lo n v : Nat) (h : lo + n ≤ 32) :
    (setBits w lo n v).toNat = w.toNat % 2 ^ lo + (v % 2 ^ n) * 2 ^ lo + (w.toNat / 2 ^ (lo + n)) * 2 ^ (lo + n) := by
  have hs := word_split w.toNat lo n
  have hsub : w.toNat - bitsAt w lo n * 2 ^ lo = w.toNat % 2 ^ lo + (w.toNat / 2 ^ (lo + n)) * 2 ^ (lo + n) := by
    unfold bitsAt; omega
  have hlt : w.toNat % 2 ^ lo + (v % 2 ^ n) * 2 ^ lo + (w.toNat / 2 ^ (lo + n)) * 2 ^ (lo + n) < 2 ^ 32 := by
    have ha := Nat.mod_lt w.toNat (Nat.two_pow_pos lo)
    have hb := Nat.mod_lt v (Nat.two_pow_pos n)
    have hc : w.toNat / 2 ^ (lo + n) < 2 ^ (32 - (lo + n)) := by
      rw [Nat.div_lt_iff_lt_mul (Nat.two_pow_pos _), ← Nat.pow_add, Nat.sub_add_cancel h]; exact w.isLt
    have e : (2 : Nat) ^ 32 = 2 ^ (32 - (lo + n)) * 2 ^ (lo + n) := by rw [← Nat.pow_add, Nat.sub_add_cancel h]
    have h3 : w.toNat % 2 ^ lo + (v % 2 ^ n) * 2 ^ lo < 2 ^ (lo + n) := by
      rw [Nat.pow_add, Nat.mul_comm (2 ^ lo)]; exact place_lt ha hb
    rw [e]; exact place_lt h3 hc
  unfold setBits
  rw [BitVec.toNat_ofNat, hsub, Nat.mod_eq_of_lt]
  · omega
  · omega

/-- A field reads as the value last written into it. -/
theorem bitsAt_setBits_self (w : Word) (lo n v : Nat) (h : lo + n ≤ 32) : bitsAt (setBits w lo n v) lo n = v % 2 ^ n := by
  unfold bitsAt
  rw [setBits_toNat w lo n v h]
  have h1 : (w.toNat % 2 ^ lo + v % 2 ^ n * 2 ^ lo + w.toNat / 2 ^ (lo + n) * 2 ^ (lo + n)) / 2 ^ lo
      = v % 2 ^ n + w.toNat / 2 ^ (lo + n) * 2 ^ n := by
    rw [Nat.pow_add, show w.toNat % 2 ^ lo + v % 2 ^ n * 2 ^ lo + w.toNat / (2 ^ lo * 2 ^ n) * (2 ^ lo * 2 ^ n)
      = w.toNat % 2 ^ lo + (v % 2 ^ n + w.toNat / (2 ^ lo * 2 ^ n) * 2 ^ n) * 2 ^ lo by ring,
      Nat.add_mul_div_right _ _ (Nat.two_pow_pos lo), Nat.div_eq_of_lt (Nat.mod_lt _ (Nat.two_pow_pos lo)), Nat.zero_add]
  rw [h1, Nat.add_mul_mod_self_right, Nat.mod_mod]

/-- A write of one field leaves a field wholly below it alone. -/
theorem bitsAt_setBits_below (w : Word) (lo n v lo' n' : Nat) (h : lo + n ≤ 32) (hd : lo' + n' ≤ lo) :
    bitsAt (setBits w lo n v) lo' n' = bitsAt w lo' n' := by
  unfold bitsAt
  have key : ∀ x : Nat, x / 2 ^ lo' % 2 ^ n' = (x % 2 ^ lo) / 2 ^ lo' % 2 ^ n' := by
    intro x
    rw [← Nat.mod_mul_right_div_self, ← Nat.mod_mul_right_div_self, ← Nat.pow_add]
    congr 1
    rw [Nat.mod_mod_of_dvd _ (Nat.pow_dvd_pow 2 hd)]
  rw [key, key w.toNat, setBits_toNat w lo n v h]
  congr 2
  have : w.toNat % 2 ^ lo + v % 2 ^ n * 2 ^ lo + w.toNat / 2 ^ (lo + n) * 2 ^ (lo + n)
      = w.toNat % 2 ^ lo + (v % 2 ^ n + w.toNat / 2 ^ (lo + n) * 2 ^ n) * 2 ^ lo := by rw [Nat.pow_add]; ring
  rw [this, Nat.add_mul_mod_self_right, Nat.mod_mod]

/-- A write of one field leaves a field wholly above it alone. -/
theorem bitsAt_setBits_above (w : Word) (lo n v lo' n' : Nat) (h : lo + n ≤ 32) (hd : lo + n ≤ lo') :
    bitsAt (setBits w lo n v) lo' n' = bitsAt w lo' n' := by
  unfold bitsAt
  have key : ∀ x : Nat, x / 2 ^ lo' = x / 2 ^ (lo + n) / 2 ^ (lo' - (lo + n)) := by
    intro x; rw [Nat.div_div_eq_div_mul, ← Nat.pow_add, Nat.add_sub_cancel' hd]
  rw [key, key w.toNat, setBits_toNat w lo n v h]
  congr 2
  have h3 : w.toNat % 2 ^ lo + v % 2 ^ n * 2 ^ lo < 2 ^ (lo + n) := by
    have ha := Nat.mod_lt w.toNat (Nat.two_pow_pos lo)
    have hb := Nat.mod_lt v (Nat.two_pow_pos n)
    rw [Nat.pow_add, Nat.mul_comm (2 ^ lo)]; exact place_lt ha hb
  rw [Nat.add_mul_div_right _ _ (Nat.two_pow_pos _), Nat.div_eq_of_lt h3, Nat.zero_add]

/-! ## Registers and fields -/

/-- Registers are told apart by their positions. -/
theorem Reg.ctorIdx_inj {q r : Reg} (h : q.ctorIdx = r.ctorIdx) : q = r := by
  rw [← Reg.ofNat_ctorIdx q, ← Reg.ofNat_ctorIdx r, h]

/-- A register word reads as last written. -/
@[simp] theorem State.reg_setReg_self (s : State) (r : Reg) (i : Nat) (w : Word) : (s.setReg r i w).reg r i = w := by
  simp [State.reg, State.setReg]

/-- A write of one register word leaves every other word alone. -/
theorem State.reg_setReg_ne (s : State) {r q : Reg} {i j : Nat} (w : Word) (h : q.ctorIdx ≠ r.ctorIdx ∨ j ≠ i) :
    (s.setReg r i w).reg q j = s.reg q j := by
  unfold State.reg State.setReg
  apply tabGet_tabSet_ne
  intro e
  injection e with e1 e2
  rcases h with h | h <;> contradiction

/-- A field reads as last written, modulo its width. -/
theorem State.fld_setFld_self (s : State) (f : Fld) (i v : Nat) (h : f.lo + f.w ≤ 32) :
    (s.setFld f i v).fld f i = v % 2 ^ f.w := by
  simp [State.fld, State.setFld, bitsAt_setBits_self _ _ _ _ h]

/-- A write of a field leaves the fields of every other register word alone. -/
theorem State.fld_setFld_ne (s : State) {f g : Fld} {i j : Nat} (v : Nat) (h : g.reg.ctorIdx ≠ f.reg.ctorIdx ∨ j ≠ i) :
    (s.setFld f i v).fld g j = s.fld g j := by
  simp [State.fld, State.setFld, State.reg_setReg_ne s _ h]

/-- A write of a field leaves the disjoint fields of its own word alone. -/
theorem State.fld_setFld_disj (s : State) {f g : Fld} {i : Nat} (v : Nat) (hr : g.reg = f.reg) (h : f.lo + f.w ≤ 32)
    (hd : g.lo + g.w ≤ f.lo ∨ f.lo + f.w ≤ g.lo) : (s.setFld f i v).fld g i = s.fld g i := by
  unfold State.fld State.setFld
  rw [hr, State.reg_setReg_self]
  rcases hd with hd | hd
  · exact bitsAt_setBits_below _ _ _ _ _ _ h hd
  · exact bitsAt_setBits_above _ _ _ _ _ _ h hd

/-- A write of a field leaves the words of every other register alone. -/
theorem State.reg_setFld_ne (s : State) {f : Fld} {q : Reg} {i j : Nat} (v : Nat) (h : q.ctorIdx ≠ f.reg.ctorIdx ∨ j ≠ i) :
    (s.setFld f i v).reg q j = s.reg q j := by
  simp [State.setFld, State.reg_setReg_ne s _ h]

/-- A register is kept by a write of another one. -/
theorem State.reg_setReg_other (s : State) {r q : Reg} (i j : Nat) (w : Word) (h : q ≠ r) : (s.setReg r i w).reg q j = s.reg q j :=
  s.reg_setReg_ne w (Or.inl (fun e => h (Reg.ctorIdx_inj e)))

/-- A register is kept by a write of a field of another one. -/
theorem State.reg_setFld_other (s : State) {f : Fld} {q : Reg} (i j v : Nat) (h : q ≠ f.reg) : (s.setFld f i v).reg q j = s.reg q j :=
  s.reg_setFld_ne v (Or.inl (fun e => h (Reg.ctorIdx_inj e)))

/-- Register words are untouched by what is sent. -/
@[simp] theorem State.reg_emit (s : State) (o : Out) (q : Reg) (j : Nat) : (s.emit o).reg q j = s.reg q j := rfl

/-! ## Counters -/

/-- A counter reads as last set, modulo its width. -/
@[simp] theorem State.cnt_setCnt_self (s : State) (r : Reg) (i v : Nat) : (s.setCnt r i v).cnt r i = v % 2 ^ ctrWidth r := by
  simp [State.cnt, State.setCnt]

/-- A counter counts on. -/
theorem State.cnt_bump_self (s : State) (r : Reg) (i n : Nat) : (s.bump r i n).cnt r i = (s.cnt r i + n) % 2 ^ ctrWidth r := by
  simp [State.bump]

/-- Setting one counter leaves every other counter alone. -/
theorem State.cnt_setCnt_ne (s : State) {r q : Reg} {i j : Nat} (v : Nat) (h : q.ctorIdx ≠ r.ctorIdx ∨ j ≠ i) :
    (s.setCnt r i v).cnt q j = s.cnt q j := by
  unfold State.cnt State.setCnt
  apply tabGet_tabSet_ne
  intro e
  injection e with e1 e2
  rcases h with h | h <;> contradiction

/-! ## Units -/

/-- A unit's record reads as last written. -/
@[simp] theorem State.unit_setUnit_self (s : State) (t : Nat) (u : UnitRec) : (s.setUnit t u).unit t = u := by
  simp [State.unit, State.setUnit]

/-- Writing one unit's record leaves every other unit's alone. -/
theorem State.unit_setUnit_ne (s : State) {t t' : Nat} (u : UnitRec) (h : tCls t' ≠ tCls t ∨ tInst t' ≠ tInst t) :
    (s.setUnit t u).unit t' = s.unit t' := by
  unfold State.unit State.setUnit
  apply tabGet_tabSet_ne
  intro e
  injection e with e1 e2
  rcases h with h | h <;> contradiction

/-- Units are untouched by a register write. -/
@[simp] theorem State.ust_setFld (s : State) (f : Fld) (i v t : Nat) : (s.setFld f i v).ust t = s.ust t := rfl

/-- Register words are untouched by a write of a unit's record. -/
@[simp] theorem State.fld_setUnit (s : State) (t : Nat) (u : UnitRec) (f : Fld) (i : Nat) : (s.setUnit t u).fld f i = s.fld f i := rfl

/-- Register words are untouched by counting. -/
@[simp] theorem State.fld_bump (s : State) (r : Reg) (k n : Nat) (f : Fld) (i : Nat) : (s.bump r k n).fld f i = s.fld f i := rfl

/-! ## Canonical form -/

/-- A register write keeps the register table canonical. -/
theorem State.regs_wf_setReg (s : State) (d : Key → Word) (r : Reg) (i : Nat) (w : Word) (hd : d (r.ctorIdx, i) = resetWord r i)
    (h : tabWf d s.regs = true) : tabWf d (s.setReg r i w).regs = true := by
  unfold State.setReg; rw [← hd]; exact tabWf_tabSet d s.regs _ w h

/-- Counting keeps the counter table canonical. -/
theorem State.ctr_wf_setCnt (s : State) (r : Reg) (i v : Nat) (h : tabWf (fun _ => 0) s.ctr = true) :
    tabWf (fun _ => 0) (s.setCnt r i v).ctr = true := tabWf_tabSet _ s.ctr _ _ h

/-! ## Events -/

/-- A report waits at the collector, or is counted as lost where its source has four waiting (R492): nothing else changes. -/
theorem State.deliver_cases (s : State) (e : FltEv) :
    s.deliver e = s.satFld FLT_SRC_CNT.LOST e.src 1 ∨
    s.deliver e = { s with flt.waiting := s.flt.waiting ++ [{ cycle := sircCycles s.now, ev := e }] } := by
  unfold State.deliver; split <;> simp

/-- An MSI-X message is sent, or its pending bit set: nothing else changes (R41, R71). -/
theorem State.msix_cases (s : State) (v : Nat) :
    s.msix v = s.setReg .MSIX_PBA 0 (setBits (s.reg .MSIX_PBA 0) v 1 1) ∨ s.msix v = s.emit (.msix v) := by
  unfold State.msix; split <;> simp

end Sys2Proof.Machine
end

