-- ==== Sys2Proof/Laws/Bus.lean ====
section
/-! SUPPORT. Register accesses: what a write that lands does, register by register; every write changes only what the bus check
lets it reach. -/
namespace Sys2Proof.Machine

/-- A write that lands is the register's own write. -/
theorem State.busWrite_lands {s : State} {chan : Nat} {r : Reg} {i : Nat} (w : Word) (h : s.lands chan r i) :
    s.busWrite chan (regOffset r i) [w] true = s.poke chan r i w := by
  unfold State.busWrite
  rw [if_neg (by rw [h.1]; decide)]
  have e : s.busCheck chan (regOffset r i) [w].length true true = .inl ⟨r, i, false⟩ := h.2.2
  rw [if_neg (by rw [h.2.1]; decide)]
  unfold State.writeNow
  rw [e]
  rfl

/-- A request does nothing while no access reaches the control bus (R33, R91, R433). -/
theorem State.busWrite_down {s : State} {chan : Nat} (off : Nat) (ws : List Word) (full : Bool) (h : s.busUp chan = false) :
    s.busWrite chan off ws full = s := by
  unfold State.busWrite; rw [if_pos h]

/-- A write that a check refuses is a bus error, and nothing else (R74). -/
theorem State.busWrite_err {s : State} {chan off : Nat} {ws : List Word} {full : Bool} {c : Nat} (h : s.busUp chan = true)
    (hw : s.busWaits chan off = false) (he : s.busCheck chan off ws.length true full = .inr c) :
    s.busWrite chan off ws full = s.busErr chan off true c := by
  unfold State.busWrite; rw [if_neg (by rw [h]; decide), if_neg (by rw [hw]; decide)]; unfold State.writeNow; rw [he]

/-- A one-word read that passes every check is the register's own read, and its data goes to the reader. -/
theorem State.busRead_hit {s : State} {chan off : Nat} {h : Hit} (hc : chan = 0 ∨ chan = 1) (h0 : s.busUp chan = true)
    (hw : s.busWaits chan off = false) (h1 : s.busCheck chan off 1 false true = .inl h) (e : regAt off = some h) :
    s.busRead chan off 1 = (s.readHit chan h).1.emit (.readData chan off (some [(s.readHit chan h).2])) := by
  have e1 : s.readSpan chan off 1 = ((s.readAt chan off).1, [(s.readAt chan off).2]) := rfl
  have e2 : s.readAt chan off = s.readHit chan h := by unfold State.readAt; rw [e]
  have en : b2n (chan != 0) = chan := by rcases hc with rfl | rfl <;> rfl
  unfold State.busRead
  simp only [en, ite_self]
  rw [if_neg (by rw [h0]; decide), if_neg (by rw [hw]; decide)]
  unfold State.readNow
  rw [h1]
  simp only []
  rw [e1, e2]

/-- A read does nothing while no access reaches the control bus (R33, R91, R433). -/
theorem State.busRead_down {s : State} {chan : Nat} (off n : Nat) (hc : chan = 0 ∨ chan = 1) (h : s.busUp chan = false) :
    s.busRead chan off n = s := by
  have en : b2n (chan != 0) = chan := by rcases hc with rfl | rfl <;> rfl
  unfold State.busRead
  simp only [en]
  rw [if_pos h]

/-- A one-word read that a check refuses is a bus error, and nothing else (R74). -/
theorem State.busRead_err {s : State} {chan off c : Nat} (hc : chan = 0 ∨ chan = 1) (h : s.busUp chan = true)
    (hw : s.busWaits chan off = false) (he : s.busCheck chan off 1 false true = .inr c) : s.busRead chan off 1 = s.busErr chan off false c := by
  have en : b2n (chan != 0) = chan := by rcases hc with rfl | rfl <;> rfl
  unfold State.busRead
  simp only [en, ite_self]
  rw [if_neg (by rw [h]; decide), if_neg (by rw [hw]; decide)]
  unfold State.readNow
  rw [he]

theorem State.poke_GLB_RESET_CTL (s : State) (c i : Nat) (w : Word) : s.poke c .GLB_RESET_CTL i w = s.writeResetCtl c w := rfl
theorem State.poke_GLB_SCRATCH (s : State) (c i : Nat) (w : Word) : s.poke c .GLB_SCRATCH i w = s.writePlain .GLB_SCRATCH i w := rfl
theorem State.poke_CMD_CTL (s : State) (c i : Nat) (w : Word) : s.poke c .CMD_CTL i w = s.writeCmdCtl w := rfl
theorem State.poke_CMD_SQ_TAIL (s : State) (c i : Nat) (w : Word) : s.poke c .CMD_SQ_TAIL i w = s.writeSqTail w := rfl
theorem State.poke_CMD_CQ_HEAD (s : State) (c i : Nat) (w : Word) : s.poke c .CMD_CQ_HEAD i w = s.writeCqHead w := rfl
theorem State.poke_PKT_CTL (s : State) (c i : Nat) (w : Word) : s.poke c .PKT_CTL i w = s.writePktCtl w := rfl
theorem State.poke_PKT_TX_TAIL (s : State) (c i : Nat) (w : Word) :
    s.poke c .PKT_TX_TAIL i w = s.writePktTail PKT_TX_TAIL.TAIL PKT_TX_SIZE.ENTRIES i w := rfl
theorem State.poke_PKT_RX_TAIL (s : State) (c i : Nat) (w : Word) :
    s.poke c .PKT_RX_TAIL i w = s.writePktTail PKT_RX_TAIL.TAIL PKT_RX_SIZE.ENTRIES i w := rfl
theorem State.poke_PORT_TS_POP (s : State) (c i : Nat) (w : Word) :
    s.poke c .PORT_TS_POP i w = if bitsAt w 0 1 = 1 then s.popTs i else s := rfl
theorem State.poke_CELLAR_WIN_CTL (s : State) (c i : Nat) (w : Word) : s.poke c .CELLAR_WIN_CTL i w = s.winStart w := rfl
theorem State.poke_CLK_SRC (s : State) (c i : Nat) (w : Word) : s.poke c .CLK_SRC i w = s.writeClkSrc i w := rfl
theorem State.poke_TELEM_TOD_CTL (s : State) (c i : Nat) (w : Word) : s.poke c .TELEM_TOD_CTL i w = s.writeTodCtl w := rfl

end Sys2Proof.Machine
end

