-- ==== Sys2Proof/Laws/Cmd.lean ====
section
/-! SUPPORT. The command engine: what a command that is taken and accepted does (R34, R49, R50). -/
namespace Sys2Proof.Machine

/-- An accepted packet has an opcode of the table. -/
theorem accept_known {s : State} {p : Packet} (h : accept s p = none) : (opInfo p.opcode).isSome = true := by
  unfold accept at h
  split at h
  · cases h
  · split at h
    · cases h
    · rename_i e; rw [e]; rfl

/-- A command that is taken, accepted and made to wait by nothing starts. -/
theorem State.command_takes {s : State} {code : Nat} {p : Packet} (eff : Eff) (h : s.takes code p) :
    s.command code eff p = s.take.start eff p := by
  obtain ⟨ho, hr, hf, ha, hw, _⟩ := h
  unfold State.command
  rw [if_neg (by rw [hr]; simp), if_neg (by rw [ho]; simp)]
  simp only []
  rw [ho, if_neg (by rw [hf]; simp)]
  unfold State.letRun
  rw [ha]; simp only [hw]; rfl

/-- A command that starts and is not slow has its effect and is answered. -/
theorem State.start_answered {s : State} {eff : Eff} {p : Packet} (hs : p.slow = false) :
    s.start eff p = s.answered p (runEff eff p s) := by
  unfold State.start State.answered
  simp only [hs, Bool.false_and]
  split
  · rfl
  · rfl

/-- A packet that the module does not take now changes nothing. -/
theorem State.command_idle {s : State} {code : Nat} {eff : Eff} {p : Packet} (h : s.ready p = false) : s.command code eff p = s := by
  unfold State.command; rw [if_pos h]

/-- A command that is taken and refused by R49 is answered, and nothing else happens. -/
theorem State.command_refused {s : State} {code : Nat} {eff : Eff} {p : Packet} {r : Rep} (ho : p.opcode = code ∨ opInfo p.opcode = none)
    (hr : s.ready p = true)
    (hf : ((fenceFlag p || p.opcode == 0x0004 || p.opcode == 0x0A04) && !(s.take.cmd.jobs.isEmpty && s.take.cmd.heldReps.isEmpty)) = false)
    (ha : accept s.take p = some r) : s.command code eff p = s.take.reply p r := by
  have h2 : ¬ (p.opcode ≠ code ∧ (opInfo p.opcode).isSome = true) := by
    rintro ⟨h1, h3⟩
    rcases ho with h | h
    · exact h1 h
    · rw [h] at h3; cases h3
  unfold State.command
  rw [if_neg (by rw [hr]; simp), if_neg h2]
  simp only []
  rw [if_neg (by rw [hf]; simp)]
  unfold State.letRun
  rw [ha]

end Sys2Proof.Machine
end

