-- ==== Sys2Proof/Laws/Frames.lean ====
section
/-! SUPPORT. What the shared operations leave unchanged: events and interrupts, unit states, replies, bus errors. -/
namespace Sys2Proof.Machine

/-! ## Loops -/

/-- A property that every turn of a loop keeps holds after the loop. -/
theorem eachIn_keeps {α σ : Type} (P : σ → Prop) (l : List α) (s : σ) (f : σ → α → σ) (h : ∀ s a, P s → P (f s a)) (h0 : P s) :
    P (eachIn l s f) := by
  unfold eachIn
  induction l generalizing s with
  | nil => exact h0
  | cons a t ih => exact ih _ (h _ _ h0)

/-- A component that every turn of a loop leaves alone is the same after the loop. -/
theorem eachIn_frame {α σ β : Type} (g : σ → β) (l : List α) (s : σ) (f : σ → α → σ) (h : ∀ s a, g (f s a) = g s) :
    g (eachIn l s f) = g s :=
  eachIn_keeps (fun t => g t = g s) l s f (fun t a ht => (h t a).trans ht) rfl

/-! ## Events and interrupts (R41, R491 to R496) -/

/-- Raising an event changes its source's FIFO or its LOST count, and nothing else. -/
theorem State.raise_frame (s : State) (code cls target detail : Nat) (inj : Bool) :
    s.raise code cls target detail inj = { s with regs := (s.raise code cls target detail inj).regs, flt := (s.raise code cls target detail inj).flt } ∧
    s.regsKept (s.raise code cls target detail inj) [.FLT_SRC_CNT] := by
  unfold State.raise State.deliver
  split
  · refine ⟨rfl, ?_⟩
    intro q i hq
    exact s.reg_setFld_other _ _ _ (by simpa [FLT_SRC_CNT.LOST] using hq)
  · exact ⟨rfl, fun _ _ _ => rfl⟩

/-- Raising a vector sends a message or sets its pending bit, and nothing else. -/
theorem State.msix_frame (s : State) (v : Nat) :
    s.msix v = { s with regs := (s.msix v).regs, out := (s.msix v).out } ∧ s.regsKept (s.msix v) [.MSIX_PBA] := by
  unfold State.msix
  split
  · refine ⟨rfl, ?_⟩
    intro q i hq
    exact s.reg_setReg_other _ _ _ (by simpa using hq)
  · exact ⟨rfl, fun _ _ _ => rfl⟩

/-! ## Unit states (R434 to R437) -/

/-- A change of unit state changes the unit's record and the register that shows it, and nothing else. -/
theorem State.setUst_frame (s : State) (t u cause : Nat) :
    s.setUst t u cause = { s with regs := (s.setUst t u cause).regs, units := (s.setUst t u cause).units } ∧
    s.regsKept (s.setUst t u cause) [.PIPE_STATUS, .TUN_BANK_STATUS, .GRIST_E_STATUS, .CELLAR_CH_STATUS] := by
  unfold State.setUst State.showUst
  repeat' split
  all_goals first
    | exact ⟨rfl, fun _ _ _ => rfl⟩
    | (refine ⟨rfl, ?_⟩
       intro q i hq
       exact (State.reg_setFld_other _ _ _ _ (by intro e; subst e; simp [PIPE_STATUS.USTATE, TUN_BANK_STATUS.USTATE, GRIST_E_STATUS.USTATE,
         CELLAR_CH_STATUS.USTATE] at hq)))

/-- The record of a unit whose state has changed. -/
@[simp] theorem State.unit_setUst_self (s : State) (t u cause : Nat) :
    (s.setUst t u cause).unit t = { s.unit t with ust := u, cause := cause } := by
  have h : ∀ (x : State), (x.showUst t u).unit t = x.unit t := by
    intro x; unfold State.showUst; repeat' split
    all_goals rfl
  unfold State.setUst
  rw [h, State.unit_setUnit_self]

/-! ## Replies (R37, R38, R41, R43) -/

/-- Showing whether the CQ is full changes CMD_STATUS only. -/
theorem State.showFull_frame (s : State) : s.showFull = { s with regs := s.showFull.regs } ∧ s.regsKept s.showFull [.CMD_STATUS] :=
  ⟨rfl, fun _ _ hq => s.reg_setFld_other _ _ _ (by simpa [CMD_STATUS.CQ_FULL] using hq)⟩

/-- Clearing RUN changes CMD_STATUS only. -/
theorem State.settleRun_frame (s : State) : s.settleRun = { s with regs := s.settleRun.regs } ∧ s.regsKept s.settleRun [.CMD_STATUS] := by
  unfold State.settleRun
  split
  · refine ⟨rfl, ?_⟩
    intro q i hq
    rw [(State.showFull_frame _).2 q i hq]
    exact s.reg_setFld_other _ _ _ (by simpa [CMD_STATUS.RUN] using hq)
  · exact ⟨rfl, fun _ _ _ => rfl⟩

/-- Clearing RUN sends nothing. -/
theorem State.settleRun_out (s : State) : s.settleRun.out = s.out := by unfold State.settleRun; split <;> rfl

/-! ## Bus errors (R74) -/

/-- A read that is a bus error changes no register but the two that record it. -/
theorem State.busErr_read_regs (s : State) (chan off cause : Nat) :
    s.regsKept (s.busErr chan off false cause) [.GLB_BUSERR_ADDR, .GLB_BUSERR_INFO] := by
  intro q i hq
  have h1 : q ≠ .GLB_BUSERR_ADDR := by intro e; subst e; simp at hq
  have h2 : q ≠ .GLB_BUSERR_INFO := by intro e; subst e; simp at hq
  unfold State.busErr
  simp only [Bool.false_eq_true, if_false]
  rw [State.reg_emit, State.reg_setFld_other _ _ _ _ h2, State.reg_setFld_other _ _ _ _ h2, State.reg_setFld_other _ _ _ _ h2]
  unfold State.satFld
  rw [State.reg_setFld_other _ _ _ _ h2, State.reg_setFld_other _ _ _ _ h1]

end Sys2Proof.Machine
end

