-- ==== Sys2Proof/Laws/Hash.lean ====
section
/-! SUPPORT. The CRC-32C register stays a 32-bit word. -/
namespace Sys2Proof.Machine

theorem crcBit_lt {r : Nat} (b : Nat) (h : r < 2 ^ 32) : crcBit r b < 2 ^ 32 := by
  unfold crcBit
  split
  · exact Nat.xor_lt_two_pow (by omega) (by decide)
  · omega

theorem crcByte_lt {r : Nat} (b : Nat) (h : r < 2 ^ 32) : crcByte r b < 2 ^ 32 := by
  unfold crcByte
  generalize List.range 8 = l
  induction l generalizing r with
  | nil => exact h
  | cons i l ih => exact ih (crcBit_lt _ h)

theorem crcBytes_lt {r : Nat} (l : List Nat) (h : r < 2 ^ 32) : crcBytes r l < 2 ^ 32 := by
  unfold crcBytes
  induction l generalizing r with
  | nil => exact h
  | cons b l ih => exact ih (crcByte_lt b h)

/-- A CRC-32C is a 32-bit number. -/
theorem crc32c_lt (l : List Nat) : crc32c l < 2 ^ 32 := Nat.xor_lt_two_pow (crcBytes_lt l (by decide)) (by decide)

end Sys2Proof.Machine
end

