-- ==== Sys2Proof/Machine/Lands.lean ====
section
/-! DEFINITION. The lands of the module: the regions of the grid (R529), the lane ring (R530), the low-speed block (R531). -/
namespace Sys2Proof.Machine

/-- What a land carries: a leg of a lane's transmitter or receiver (`neg` for the N leg), a low-speed signal by its name with its number
where the name has one, ground, supply, or nothing (the board leaves it open). -/
inductive Land where
  | laneTx (lane : Nat) (neg : Bool)
  | laneRx (lane : Nat) (neg : Bool)
  | low (name : String)
  | lowOf (name : String) (n : Nat)
  | pgnd
  | vin
  | reserved
  deriving DecidableEq, Repr

/-! ## The lane ring (R530) -/

/-- The bough block of a land of the ring: the bough, the depth d from the module's edge, the position j along it; none in a corner block. -/
def ringPlace (row col : Nat) : Option (Nat × Nat × Nat) :=
  if 13 ≤ col ∧ col ≤ 84 then
    if row ≤ 12 then some ((col - 13) / 36, row, (col - 13) % 36 + 1)
    else if 85 ≤ row then some (4 + (84 - col) / 36, 97 - row, (84 - col) % 36 + 1)
    else none
  else if 13 ≤ row ∧ row ≤ 84 then
    if 85 ≤ col then some (2 + (row - 13) / 36, 97 - col, (row - 13) % 36 + 1)
    else some (6 + (84 - row) / 36, col, (84 - row) % 36 + 1)
  else none

/-- The land (row, column) of depth `d`, position `j` in bough `b`'s block. -/
def ringLand (b d j : Nat) : Nat × Nat :=
  if b < 2 then (d, 12 + b * 36 + j)
  else if b < 4 then (12 + (b - 2) * 36 + j, 97 - d)
  else if b < 6 then (97 - d, 85 - ((b - 4) * 36 + j))
  else (85 - ((b - 6) * 36 + j), d)

/-- The depth of row `i` of a block's lanes: 1, 2, 4, 5 for transmitters, 7, 8, 10, 11 for receivers. -/
def laneDepth (i : Nat) (rx : Bool) : Nat := i + i / 2 + 1 + (if rx then 6 else 0)

/-- The position of a signal column. -/
def columnPos (s : Nat) : Nat := s + s / 8 + 1

/-- The land of a leg of a lane: `rx` the receiver's, `neg` the N leg. -/
def laneLand (lane : Nat) (rx neg : Bool) : Nat × Nat :=
  ringLand (lane / 64) (laneDepth (lane % 64 / 16) rx) (columnPos (2 * (lane % 16) + b2n neg))

/-- What a land of a bough block carries. -/
def blockLand (b d j : Nat) : Land :=
  if d % 3 = 0 ∨ j % 9 = 0 then .pgnd
  else
    let s := (j - 1) - (j - 1) / 9
    let k := if d < 7 then d else d - 6
    let lane := 64 * b + 16 * (k - k / 3 - 1) + s / 2
    if d < 7 then .laneTx lane (s % 2 == 1) else .laneRx lane (s % 2 == 1)

/-! ## The low-speed block (R531) -/

/-- A land of row 13 or 15 of the low-speed block: the legs of the PCIe lanes. -/
def pcieLand (p n : String) (col : Nat) : Land := .lowOf (if (col - 37) % 2 = 0 then p else n) ((col - 37) / 2)

/-- The signals of row 17, by column from 37 on; an empty name is ground. -/
def row17 : List String :=
  ["SREF0_P", "SREF0_N", "SREF1_P", "SREF1_N", "SYNCE0_P", "SYNCE0_N", "SYNCE1_P", "SYNCE1_N", "XA_IN", "XA_OUT", "", "XB_IN",
   "XB_OUT", "", "USB_DP", "USB_DN", "USB_VBUS"]

/-- The signals of row 20, by column from 37 on. -/
def row20 : List String :=
  ["TCK", "TMS", "TDI", "TDO", "TRST_N", "POR_N", "RST_N", "ERR_N", "ALERT_N", "SMB_SCL", "SMB_SDA", "PPS_IN", "PPS_OUT"]

/-- A named land, or ground. -/
def namedLand (l : List String) (col : Nat) : Land :=
  match l[col - 37]? with
  | some n => if n = "" then .pgnd else .low n
  | none => .pgnd

/-- What a land of the low-speed block carries. -/
def lowLand (row col : Nat) : Land :=
  match row with
  | 13 => if col ≤ 52 then pcieLand "PCIE_TX_P" "PCIE_TX_N" col else .pgnd
  | 15 => if col ≤ 52 then pcieLand "PCIE_RX_P" "PCIE_RX_N" col else .pgnd
  | 17 => namedLand row17 col
  | 19 => if col ≤ 52 then .lowOf "GPIO" (col - 37) else .reserved
  | 20 => if 53 ≤ col then .reserved else namedLand row20 col
  | _ => .pgnd

/-! ## The grid (R529) -/

/-- What land (row, column) carries, each from 1 to 96. -/
def landAt (row col : Nat) : Land :=
  if row ≤ 12 ∨ 85 ≤ row ∨ col ≤ 12 ∨ 85 ≤ col then
    match ringPlace row col with
    | some x => blockLand x.1 x.2.1 x.2.2
    | none => .pgnd
  else if row ≤ 20 ∧ 37 ≤ col ∧ col ≤ 60 then lowLand row col
  else if 45 ≤ row ∧ row ≤ 76 ∧ 25 ≤ col ∧ col ≤ 72 then .vin
  else .pgnd

end Sys2Proof.Machine
end

