-- ==== Sys2Proof/WellFormed.lean ====
section
/-! DEFINITION. Well-formed commands: every operand lies in the range the spec gives it. The meanings are total; what lies outside
these ranges no sender can send (a field wider than its place in a packet, a unit that does not exist). -/
namespace Sys2Proof

/-- A 16-bit value. -/
def half (n : Nat) : Bool := decide (n < 65536)
/-- A 32-bit value. -/
def word (n : Nat) : Bool := decide (n < 2 ^ 32)
/-- A channel of register accesses and commands (R33): 0 PCIe, 1 the service port. -/
def chanOk (c : Nat) : Bool := decide (c < 2)
/-- Bytes. -/
def bytesOk (l : List Nat) : Bool := l.all (fun b => decide (b < 256))

/-- A packet: fields within their widths (R42, R43); on the rings twelve words follow the header, on the service port the
parameter words alone, and no parameter buffer (R42, R64). -/
def packetOk (p : Packet) : Bool :=
  chanOk p.chan && decide (p.ver < 256) && decide (p.flags < 256) && half p.opcode && half p.tag && half p.plen && half p.target &&
  half p.rsvB && half p.ctx && half p.rsvC &&
  (if p.chan = 0 then p.inl.length == 12 else p.inl.length == p.plen && p.pbuf.isEmpty && !p.pbufErr)

/-- A well-formed command. -/
def Instr.wellFormed (i : Instr) : Bool :=
  match i with
  | .nop p => packetOk p
  | .identify p => packetOk p
  | .fenceCmd p => packetOk p
  | .getStatus p => packetOk p
  | .cmdSqDoorbell chan value => chanOk chan && word value
  | .cmdCqHeadWrite chan value => chanOk chan && word value
  | .cmdRingEnable chan _ => chanOk chan
  | .cmdRingDisable chan _ => chanOk chan
  | .cmdFetchError => true
  | .pendingComplete _ _ _ => true
  | .fenceWaitEnd => true
  | .cqReplyRelease => true
  | .heldCommandRelease => true
  | .cmdIrqCoalTimeout => true
  | .svcCommandFrame _ _ => true
  | .svcPortDisconnect => true
  | .pktDmaEnable chan => chanOk chan
  | .pktDmaDisable chan => chanOk chan
  | .pktTxDoorbell chan ring value => chanOk chan && decide (ring < 4) && word value
  | .pktTxFrame ring entry bytes => decide (ring < 4) && entry.length == 8 && bytesOk bytes
  | .pktRxDoorbell chan ring value => chanOk chan && decide (ring < 8) && word value
  | .pktRxDeliver _ => true
  | .pktDmaError kind ring => decide (kind < 3) && decide (ring < 8)
  | .pktIrqCoalTimeout ring => decide (ring < 12)
  | .snapshot p => packetOk p
  | .registerWrite chan offset words _ => chanOk chan && word offset && decide (0 < words.length)
  | .rcRegisterRead chan offset count => chanOk chan && word offset && decide (0 < count)
  | .pairLoRead chan offset => chanOk chan && word offset
  | .svcRegisterRead reqType req wValue wIndex wLength => decide (reqType < 256) && decide (req < 256) && half wValue && half wIndex && half wLength
  | .svcRegisterWrite reqType req wValue wIndex wLength _ => decide (reqType < 256) && decide (req < 256) && half wValue && half wIndex && half wLength
  | .pairCommit block _ => decide (block < 9)
  | .pairApply block => decide (block < 9)
  | .glbResetWarm chan key => chanOk chan && half key
  | .glbResetCold chan key => chanOk chan && half key
  | .laneCfg p => packetOk p
  | .laneTest p => packetOk p
  | .eyeScan p => packetOk p
  | .laneFom p => packetOk p
  | .laneCalDone lane _ => decide (lane < 512)
  | .laneSignalDetect lane => decide (lane < 512)
  | .laneSignalLoss lane => decide (lane < 512)
  | .laneTrainFrame lane info _ _ => decide (lane < 512) && decide (info < 2 ^ 64)
  | .laneTrainPhaseEnd e => decide (e.lane < 512)
  | .laneTrainTimeout lane => decide (lane < 512)
  | .laneLock lane m _ => decide (lane < 512) && decide (m.sub < 32) && decide (m.num < 32)
  | .laneHuntTimeout lane => decide (lane < 512)
  | .laneLockLoss e => decide (e.lane < 512)
  | .laneRetryTimer lane => decide (lane < 512)
  | .fomWindowEnd lane _ _ => decide (lane < 512)
  | .laneSafePoint lane which _ => decide (lane < 512) && decide (which < 3)
  | .laneLpiEntry lane => decide (lane < 512)
  | .steepEntry port => decide (port < 512)
  | .steepEidleRx port => decide (port < 512)
  | .steepBurstRx port => decide (port < 512)
  | .laneWakeRequest lane => decide (lane < 512)
  | .steepStaleTimer port => decide (port < 512)
  | .laneWakeLimit lane => decide (lane < 512)
  | .prbsCheckerLock e => decide (e.lane < 512)
  | .prbsCheckerLockLoss lane _ _ => decide (lane < 512)
  | .twigDeepDoze twig => decide (twig < 64)
  | .twigPllWake twig => decide (twig < 64)
  | .portCfg p => packetOk p
  | .portEnable p => packetOk p
  | .portStatus p => packetOk p
  | .pfcCfg p => packetOk p
  | .ptpCfg p => packetOk p
  | .portAligned port => decide (port < 512)
  | .portAlignTimeout port => decide (port < 512)
  | .portAlignRetry port => decide (port < 512)
  | .portFaultStart port _ => decide (port < 512)
  | .portHoldoffExpire port => decide (port < 512)
  | .portFaultClear port => decide (port < 512)
  | .rxFrame port bytes _ => decide (port < 512) && bytesOk bytes
  | .pauseTimerExpire port prio => decide (port < 512) && decide (prio < 9)
  | .portLpiIdle port => decide (port < 512)
  | .tsPop chan port _ => chanOk chan && decide (port < 512)
  | .flitRx cluster _ body crc => decide (cluster < 128) && decide (body < 2 ^ 480) && decide (crc < 2 ^ 32)
  | .nakRepeat cluster _ => decide (cluster < 128)
  | .rootClkLoss cluster _ => decide (cluster < 128)
  | .rootLaneSwap cluster _ => decide (cluster < 128)
  | .rootSwapPatternEnd cluster _ _ => decide (cluster < 128)
  | .rootSpareDeskew cluster _ spare _ => decide (cluster < 128) && decide (spare < 66)
  | .rootClusterTrain cluster _ _ _ => decide (cluster < 128)
  | .pinMapChange bough => decide (bough < 8)
  | .repinFenceRx cluster => decide (cluster < 128)
  | .repinEndWaitExpire bough => decide (bough < 8)
  | .reseqGapSkip port => decide (port < 586)
  | .pipeFrameEntry pipe slot _ => decide (pipe < 64) && decide (slot < 2)
  | .clsResultReturn pipe _ mem => decide (pipe < 64) && decide (mem < 5)
  | .pipeDispose pipe _ => decide (pipe < 64)
  | .egressProcess port _ => decide (port < 586)
  | .pipeDozeEntry pipe => decide (pipe < 64)
  | .pipeWake pipe => decide (pipe < 64)
  | .pipeFosterStart pipe => decide (pipe < 64)
  | .pipeFosterHandback pipe => decide (pipe < 64)
  | .pipeNoProgress pipe => decide (pipe < 64)
  | .progLoad p => packetOk p
  | .progPatch p => packetOk p
  | .storeModeSet p => packetOk p
  | .progActivate p => packetOk p
  | .progRead p => packetOk p
  | .walkerSafePoint store n => decide (store < 9) && decide (n < 4)
  | .safeWatchdog store ctx => decide (store < 9) && decide (ctx < 72)
  | .storeScrub store addr _ => decide (store < 9) && decide (addr < 32768)
  | .patchSetCurrent store => decide (store < 9)
  | .tblProfile p => packetOk p
  | .tblInsert p => packetOk p
  | .tblDelete p => packetOk p
  | .tblLookup p => packetOk p
  | .tblDma p => packetOk p
  | .tblAudit p => packetOk p
  | .tblLock p => packetOk p
  | .tblLearnCfg p => packetOk p
  | .learnExecute bough => decide (bough < 8)
  | .ageTick bough table => decide (bough < 8) && decide (table < 32)
  | .learnRecordWrite bough => decide (bough < 8)
  | .learnRingEnable bough _ => decide (bough < 8)
  | .clsWrite p => packetOk p
  | .clsRead p => packetOk p
  | .clsTreeLoad p => packetOk p
  | .tcamScrub partition index => decide (partition < 64) && decide (index < 8192)
  | .ecmpGroupSet p => packetOk p
  | .ecmpMemberSet p => packetOk p
  | .hashCfg p => packetOk p
  | .flowletSweep bough => decide (bough < 8)
  | .imbWindowEnd bough => decide (bough < 8)
  | .poolCfg p => packetOk p
  | .queueCfg p => packetOk p
  | .qholdCfg p => packetOk p
  | .frameAdmit r _ => decide (r < 128)
  | .allocatorMatch _ => true
  | .frameEofArrive r _ => decide (r < 128)
  | .schedPick port _ _ => decide (port < 586)
  | .dnAck cluster => decide (cluster < 128)
  | .portHoldEnter port => decide (port < 512)
  | .qholdDeadline port => decide (port < 512)
  | .flushFree _ => true
  | .tallyPass => true
  | .bankReplace n _ => decide (n < 528)
  | .bankLeaveService lbank => decide (lbank < 512)
  | .spillCfg p => packetOk p
  | .rackBlock q => decide (q < 10240)
  | .rackWriteDone q _ => decide (q < 10240)
  | .drawIssue q => decide (q < 10240)
  | .drawComplete q _ _ _ _ _ => decide (q < 10240)
  | .cellarRetrain ch _ temp => decide (ch < 16) && decide (temp < 256)
  | .cellarChannelRetire ch => decide (ch < 16)
  | .cellarChannelDead ch => decide (ch < 16)
  | .cellarWinAccess chan _ => chanOk chan
  | .cellarWinDone result => decide (result < 3)
  | .schedCfg p => packetOk p
  | .shaperCfg p => packetOk p
  | .wredCfg p => packetOk p
  | .pfcWdCfg p => packetOk p
  | .hwmRead p => packetOk p
  | .meterCfg p => packetOk p
  | .meterRead p => packetOk p
  | .pfcXoffChange port => decide (port < 512)
  | .pfcRefreshTimer port => decide (port < 512)
  | .pfcWdCheck q => decide (q < 10240)
  | .telemStreamCfg p => packetOk p
  | .sapFlag p => packetOk p
  | .telemRead p => packetOk p
  | .tagCfg p => packetOk p
  | .ioamCfg p => packetOk p
  | .perfCfg p => packetOk p
  | .perfRead p => packetOk p
  | .todSet => true
  | .todStep => true
  | .ppsOutEdge => true
  | .ppsInEdge => true
  | .exportFrameBuild stream => decide (stream < 8)
  | .exportFlushTimer stream => decide (stream < 8)
  | .exportFrameLost => true
  | .perfIntervalEnd target => half target
  | .gristGroupOpen p => packetOk p
  | .gristGroupClose p => packetOk p
  | .gristGroupStatus p => packetOk p
  | .gristContrib cluster => decide (cluster < 128)
  | .gristChunkTimeout _ _ => true
  | .gristEmit _ => true
  | .gristResultRetry slot => decide (slot < 64)
  | .gristParentRx cluster => decide (cluster < 128)
  | .gristCloseTimeout _ => true
  | .gristChunkReset engine _ _ _ => decide (engine < 68)
  | .gristEngineTakeover engine _ => decide (engine < 68)
  | .gristSlotLoss engine => decide (engine < 68)
  | .gristEngineDoze engine => decide (engine < 68)
  | .setMode p => packetOk p
  | .unitGraft p => packetOk p
  | .unitRestore p => packetOk p
  | .unitRetire p => packetOk p
  | .unitState p => packetOk p
  | .dozeCfg p => packetOk p
  | .bootStart => true
  | .steepStepGrant _ _ => true
  | .domainPowerGood dom _ => decide (dom < 27)
  | .regulatorFail dom _ => decide (dom < 27)
  | .drainComplete => true
  | .drainLimitExpire => true
  | .selfTestDone dom _ => decide (dom < 27)
  | .cellarTrainingDone chan result => decide (chan < 16) && decide (result < 3)
  | .clkSwitch p => packetOk p
  | .clkTrim p => packetOk p
  | .clkStatus p => packetOk p
  | .clkSrcEnWrite src en => decide (src < 6) && decide (en < 2)
  | .clkTrimWrite src code => decide (src < 6) && decide (code < 256)
  | .chainEnWrite pll en => decide (pll < 130) && decide (en < 2)
  | .clkMonitorWindow _ => true
  | .clkSourceReady src => decide (src < 6)
  | .clkStartTimeout src => decide (src < 6)
  | .clkSourceRetry src => decide (src < 6)
  | .muxForceSelect pll => decide (pll < 130)
  | .pllLocked pll _ => decide (pll < 130)
  | .pllLockLoss pll => decide (pll < 130)
  | .trimMeasure osc _ => decide (osc < 2)
  | .sircFault _ => true
  | .usbSofMark => true
  | .pwrHint p => packetOk p
  | .pwrOpp p => packetOk p
  | .pwrCap p => packetOk p
  | .pwrStatus p => packetOk p
  | .pwrPriv p => packetOk p
  | .vinRangeEvent => true
  | .vinBackInRange => true
  | .vinUndervoltage => true
  | .vinPowerLoss => true
  | .vinRecover => true
  | .hwIlim _ => true
  | .capTick _ _ _ _ _ => true
  | .capUnmet => true
  | .oppStep quad => decide (quad < 4)
  | .droopTrip e => decide (e.dom < 27)
  | .droopRecover dom _ => decide (dom < 27)
  | .estWindow dom _ _ _ _ => decide (dom < 27)
  | .thermalSample dom _ temp => decide (dom < 27) && decide (temp < 256)
  | .thermalShutdown => true
  | .hintActivate _ => true
  | .hintExpire _ => true
  | .regulatorProtectionTrip dom _ => decide (dom < 27)
  | .fltAck p => packetOk p
  | .fltHistory p => packetOk p
  | .fltMask p => packetOk p
  | .fltInject p => packetOk p
  | .faultEventCollect => true
  | .errPulseEnd => true
  | .fltHistSelWrite index => decide (index < 32)
  | .lockstepMismatch pc => word pc
  | .malthouseWatchdog => true
  | .fwBegin p => packetOk p
  | .fwBlock p => packetOk p
  | .fwVerify p => packetOk p
  | .fwActivate p => packetOk p
  | .fwInfo p => packetOk p
  | .fwCheckin => true
  | .fwCheckinTimeout => true
  | .dfuDownload bytes _ => bytesOk bytes
  | .dfuManifest => true
  | .porAssert pin => decide (pin < 3)
  | .porRelease pin levels => decide (pin < 3) && decide (levels < 65536)
  | .jtagInstruction code => decide (code < 256)
  | .testLogicReset => true
  | .smbBlockRead _ code _ => decide (code < 256)
  | .smbAlertResponse => true
  | .usbConnect => true

end Sys2Proof
end

