-- ==== Sys2Proof/Tests/Slice0.lean ====
section
/-! SUPPORT. The author's own tests: a state and operands that meet the conditions of every statement, clause by clause; terms that
each check of WellFormed refuses; and single steps with results read from the spec. -/
namespace Sys2Proof.Machine

set_option Elab.async false

/-! ## Small states -/

/-- The Malthouse runs. -/
def wBoot0 : State := { State.reset with life.boot := 0 }
/-- SERVICE, every power domain on. -/
def wOn : State := (eachIn (List.range 26) wBoot0 (fun s k => s.setFld PWR_DOM_V.STATE (k + 1) 2)).setFld GLB_MODE.MODE 0 3
/-- One unit in a state. -/
def wUnit (c i u : Nat) : State := State.reset.setUst (tgt c i) u 0
/-- A working lane that no port owns, in a link state. -/
def wLane (l st : Nat) : State := (wUnit 3 l uACTIVE).setFld LANE_STATUS.LSTATE l st
/-- The same at a rate code. -/
def wLaneR (l st rate : Nat) : State := (wLane l st).setLane l { cfg := { rate := rate }, act := { rate := rate } }
/-- The same at rate code 6. -/
def wLane6 (l st : Nat) : State := wLaneR l st 6
/-- Training information of VER 1 with its CRC. -/
def wFrameInfo : Nat := 2 ^ 24 + crc16 (2 ^ 24) * 2 ^ 48
/-- A lane in T1 that has seen eight good frames. -/
def wT1 : State :=
  ((wLane6 5 lTRAIN).setFld LANE_STATUS.TRAIN_PHASE 5 1).setLane 5 { (wLane6 5 lTRAIN).lane 5 with validT1 := 8 }
/-- A lane at a safe point. -/
def wSafe : State := (wLane 5 lUP).setLane 5 { safeDue := true, act := { adaptBg := true } }
/-- A one-lane port 5 of a speed code on lane 5, the port in a state and its lane in another, in a module in SERVICE. -/
def wP (speed pst lst : Nat) : State :=
  ((((((((wOn.setUst (tgt cLANE 5) uACTIVE 0).setUst (tgt cTWIG 0) uACTIVE 0).setFld LANE_STATUS.LSTATE 5 lst).setFld PORT_STATUS.LANES_ACT 5 1).setFld
    PORT_STATUS.SPEED_ACT 5 speed).setFld PORT_STATUS.PSTATE 5 pst).setFld PIPE_STATUS.SERVED_VALID 0 1).setFld PIPE_STATUS.SERVED_BY 0 0).setPort 5
    { enabled := true, lpiIdle := 1, steepEn := true, txEn := 0xFF }
/-- A down lane that waits for its next attempt. -/
def wRetry : State := (wP 6 pTRAINING lDOWN).setLane 5 { retry := true }
/-- A port whose lane may use steep idle. -/
def wSteep (st : Nat) : State := (wP 6 pUP st).setLane 5 { steepCap := true, steepIdle := st == lQUIET }
/-- A lane that wakes out of steep idle. -/
def wIdleLane : State := (wLane 5 lWAKE).setLane 5 { steepIdle := true }
/-- A twig whose lanes are all idle. -/
def wTwig : State := { ((wUnit 2 3 uREADY).setFld CLK_PLL.STATE 0x43 2).setTwig 3 { deepEn := true, enNow := true } with now := 1000 * usNs }
/-- A lane in TEST with its checker on. -/
def wPrbs : State := (wLane 5 lTEST).setLane 5 { test := { chk := true, gen := true, loop := 1, pattern := 1 } }
/-- Bits its checker locks on. -/
def wPrbsBits : List Bool :=
  let h := (List.range (prbsOrder 1)).map (fun i => i == 0)
  h ++ prbsRun 1 64 (h.foldl (prbsPush 1) 0)
/-- Port 5 in a state, its lane UP. -/
def wPort (st : Nat) : State := (wP 6 st lUP).setFld ROOT_STATUS.CSTATE 3 cACTIVE
/-- A port whose alignment timed out. -/
def wPortRetry : State := (wPort pALIGNING).setPort 5 { (wPort pALIGNING).port 5 with retry := true }
/-- A port that reports a fault only after a hold-off. -/
def wPortHold : State := (wPort pUP).setPort 5 { (wPort pUP).port 5 with holdoff := 3 }
/-- A backplane port of rate code 1 with empty queues. -/
def wLpi : State :=
  eachIn (List.range 16) ((wP 1 pUP lUP).setPort 5 { (wP 1 pUP lUP).port 5 with train := true }) (fun s q => s.setFld TUN_Q_LEN.EMPTY (80 + q) 1)
/-- A frame of 64 bytes with its FCS. -/
def wRxBytes : List Nat := List.replicate 60 0 ++ bytesOf 4 (fcsOf (List.replicate 60 0))
/-- Cluster 3 in a state. -/
def wClus (st : Nat) : State := wOn.setFld ROOT_STATUS.CSTATE 3 st
/-- A receiver that asks for a replay. -/
def wNak : State := (wClus cACTIVE).setRdir 3 false { nak := true }
/-- A lane swap to make. -/
def wSwap (st : Nat) : State := (wClus st).setRdir 3 false { swaps := [5], swapRx := true }
/-- The swap pattern runs. -/
def wSwapOn : State := ((wClus cSWAP).setRdir 3 false { swaps := [5], swapOn := true }).setFld ROOT_STATUS.CSTATE 3 cSWAP
/-- A map change that is asked for. -/
def wAsk : State := wOn.setRootBough 1 { asked := [⟨0, 3, 0⟩] }
/-- The change it starts. -/
def wAskRun : MapRun := (((wAsk.setRootBough 1 { wAsk.rootBough 1 with asked := [] }).mapBegin 1 ⟨0, 3, 0⟩).rootBough 1).run.getD ⟨⟨0, 0, 0⟩, [], [], 0⟩
/-- A FENCE that has arrived in a map change. -/
def wFenceRun : State :=
  ((wOn.setUpList 3 [.fence 0]).setRdir 3 false { rxPos := 1 }).setRootBough 0 { run := some ⟨⟨2, 3, 0⟩, [], [3], 0⟩ }
/-- An END that has arrived in one. -/
def wEndRun : State :=
  ((wOn.setUpList 3 [.fin]).setRdir 3 false { rxPos := 1 }).setRootBough 0 { run := some ⟨⟨0, 3, 0⟩, [], [3], 0⟩ }
/-- A map change under way. -/
def wRun : State := wOn.setRootBough 1 { run := some ⟨⟨2, 3, 0⟩, [], [3], 0⟩ }
/-- A frame on its way to port 5. -/
def wDn : DnFrame := ⟨5, 0, false, 2, 0, 0, 0, 0, [1, 2, 3, 4], false, 0, [], false, false, 0⟩
/-- It waits behind a gap. -/
def wReseq : State := wOn.setRootBough 0 { reseq := [wDn] }
/-- A frame in a twig's FIFO. -/
def wIn : InFrame := { port := 3, bytes := List.replicate 64 0 }
/-- A pipe with a frame to take. -/
def wPipe : State := ((wOn.setUst (tgt cPIPE 0) uACTIVE 0).setFld PIPE_STATUS.OWN 0 1).setTwigQ 0 [wIn]
/-- A frame that waits for its classifier result. -/
def wPFrame : PFrame := { n := 1, twig := 0, src := wIn }
/-- A frame that has run all its stages. -/
def wPFrameRan : PFrame := { wPFrame with cls := some 0, ran := true }
/-- A pipe that holds the first. -/
def wPf : State := wPipe.setPframes 0 [wPFrame]
/-- A pipe that holds the second. -/
def wPfRan : State := wPipe.setPframes 0 [wPFrameRan]
/-- A port with a frame to send, its pipe at work. -/
def wEg : State := ((wPort pUP).setUst (tgt cPIPE 0) uACTIVE 0).setRootBough 0 { reseq := [wDn], nextSeq := [((5, 0), 2)] }
/-- An idle pipe. -/
def wPipeIdle : State := wOn.setUst (tgt cPIPE 0) uACTIVE 0
/-- A dozing pipe with a frame to take. -/
def wPipeDoze : State := (((wOn.setUst (tgt cPIPE 0) uDOZE 0).setFld PIPE_STATUS.OWN 0 1)).setTwigQ 0 [wIn]
/-- A pipe on its way out. -/
def wLeave (k : Nat) : State := wOn.setPipe 0 { leave := k }
/-- Customer walker 3 of store 0 at a word. -/
def wAtWord (w : Nat) : State :=
  ({ wOn with ucode := [((0, 0x4000), some w)] }.setFld UC_WALKER.STATE (walkIdx 0 3) 1).setWalker 0 3 { pc := some 0x4000 }
/-- An END word. -/
def wWalk : State := wAtWord (2 ^ 136)
/-- A WAIT word that goes to itself. -/
def wLoop : State := wAtWord (0x4000 * 2 ^ 145 + 2 ^ 19)
/-- A SAFE word. -/
def wSafeWalk : State := wAtWord (2 ^ 135 + 0x4010 * 2 ^ 145)
/-- A patch set that waits to become current. -/
def wPatch : State := wOn.setStore 0 { nextSet := some [7] }
/-- A learn request. -/
def wLearn : State := wOn.setTables1 1 { queue := [{ op := 3, table := 16, key := 5 }] }
/-- A table that ages. -/
def wAgeStart : State := wOn.setTables1 1 { learn := [((0, 0), 2 ^ 11)] }
/-- An ageing pass that has not ended. -/
def wAge : State := wOn.setTables1 1 { queue := [{ op := 11, table := 0, key := 0 }], learn := [((0, 0), 2 ^ 11)] }
/-- A learn record. -/
def wLearnRec : LearnRec := ⟨0, 0, 0, 0⟩
/-- A full learn ring. -/
def wRec : State :=
  (((wOn.setTables1 1 { recs := [wLearnRec] }).setFld TBL_LEARN_CTL.EN 1 1).setFld TBL_LEARN_SIZE.RECORDS 1 64).setFld TBL_LEARN_TAIL.TAIL 1 63
/-- A learn ring with room. -/
def wRecRoom : State := wRec.setFld TBL_LEARN_TAIL.TAIL 1 3
/-- A planted TCAM error. -/
def wTcam : State := { wOn with flt.planted := [tcamPlanted 2 7 false] }
/-- A frame that an internal writer offers. -/
def wUp : UpFrame := ⟨80, false, false, 0, 3, 0, 0, 0, List.replicate 64 0, false, false, false, [], []⟩
/-- It waits at requester 2. -/
def wOffer : State := wOn.setOffers 2 [wUp]
/-- It comes in on UP list 2. -/
def wUpIn : State := ((wOn.setUpList 2 [.frame wUp]).setRdir 2 false { rxPos := 100 }).setFld TUN_FREE.CELLS 0 65536 |>.setFld TUN_Q_CFG0.MIN 80 9
/-- Its cells are all written. -/
def wAsmUp : State := ((wUpIn.setAsm 2 0 (some 1)).setTframe 1 { total := 1, cells := [5] })
/-- A frame whose cells are all written. -/
def wAsm : State := (wOn.setAsm 2 1 (some 1)).setTframe 1 { total := 1, cells := [5] }
/-- A port that has gone down. -/
def wDown : State := (wOn.setPort 5 { wentDown := true }).setFld TUN_PORT_HOLD.QHOLD 5 9
/-- A flush chain. -/
def wFlush : State := { wOn with tun.flush := [7] }
/-- A bank closed to writes, its rows free. -/
def wClosed : State := { wOn with tun.closed := [⟨9, true, 2⟩] }
/-- A spilling queue. -/
def wRack : State :=
  ((((wOn.setFld CELLAR_Q_BLOCKS.SPILLING 80 1).setFld CELLAR_Q_CFG0.SPILL_EN 80 1).setFld CELLAR_Q_CFG1.HEAD 80 0).setTqueue 80
    { frames := [1] }).setTframe 1 { total := 16, cells := List.range 16 } |>.setFld CELLAR_Q_CFG2.MAXBLK 80 0
/-- A channel has room for its block. -/
def wRackOk : State :=
  (((wRack.setFld CELLAR_Q_CFG2.MAXBLK 80 9).setUst (tgt cCELLAR 3) uACTIVE 0).setFld CELLAR_CH_FREE.SLOTS 3 100).setFld CELLAR_CH_STATUS.ALLOW 3 1
/-- A block. -/
def wBlk : Block := ⟨0, 3, 7, 0, [], [], false⟩
/-- Its rack write ends. -/
def wRacked : State := wOn.setTqueue 80 { rack := some wBlk }
/-- Its rack write ends, the cells still listed. -/
def wRackedOk : State := wRack.setTqueue 80 { frames := [1], split := true, rack := some wBlk }
/-- A racked block at a stage. -/
def wDraw (k : Nat) : State :=
  (((wOn.setTqueue 80 { split := true, blocks := [{ wBlk with stage := k }] }).setFld CELLAR_Q_CFG1.HEAD 80 64).setFld TUN_FREE.CELLS 0 4096).setFld
    TUN_BANK_STATUS.FREE 0 4096
/-- The block while it is drawn. -/
def wBlkD : Block := { wBlk with stage := 1 }
/-- A channel that leaves service. -/
def wLeaving : State := { wOn with cellar.leaving := [⟨3, false, 3⟩] }
/-- A window over the extension. -/
def wWin : State := wOn.setFld CELLAR_EXT.TELEM_MIB 0 1
/-- A write through it. -/
def wWinWr : State := { wWin.setFld CELLAR_WIN_CTL.BUSY 0 1 with cellar.win := some true }
/-- A read through it. -/
def wWinRd : State := { wWin.setFld CELLAR_WIN_CTL.BUSY 0 1 with cellar.win := some false }
/-- A frame on DN that the partner has. -/
def wDn1 : DnFrame := { wDn with fid := 1, got := true }
/-- Its cells are read. -/
def wAck : State := (((wClus cACTIVE).setDnList 3 [wDn1]).setRdir 3 true { ackPos := 9 }).setTframe 1 { total := 1, cells := [5], eof := true }
/-- A port that sends PFC and has stopped a priority. -/
def wPfc : State := ((wPort pUP).setPort 5 { (wPort pUP).port 5 with pfcMode := 2 }).setFld SCHED_P_PFC.XOFF 5 1
/-- A queue stuck behind PFC. -/
def wWd : State :=
  ((((wDown.setFld TUN_PORT_HOLD.STATE 5 1).setFld SCHED_Q_CFG.WD_EN 80 1).setTqueue 80 { frames := [1] }).setSqueue 80
    { detect := 0, cause := 2, stuck := some 0 })
/-- An export stream with a record. -/
def wExp : State := (wOn.setFld TELEM_STR_STATUS.EN 1 1).setStream 1 { recs := [[0, 0, 0, 0]] }
/-- A counter set that runs for an interval. -/
def wPerf : State := { wOn with perfInt := [((5, 3), 10)] }.setFld (setOfTarget 0x5003).1.run (setOfTarget 0x5003).1.idx 1
/-- A frame that an engine offers. -/
def wGrf : UpFrame :=
  let d := List.replicate 14 0 ++ [0x11, 0, 0, 0, 7, 0, 0, 0, 0, 0, 0, 0, 0, 1, 0, 0] ++ List.replicate 34 0
  { wUp with qid := 8224, grist := true, fmeta := 14, bytes := d }
/-- A parent's packet. -/
def wGpf : UpFrame :=
  { wGrf with bytes := List.replicate 14 0 ++ [0x12, 0, 0, 0, 7, 0, 0, 0, 0, 0, 0, 0, 0, 1, 0, 0] ++ List.replicate 34 0 }
/-- A chunk that fills. -/
def wChunkT : GChunk := { id := 0, slot := 3, st := 1, timer := some 0 }
/-- A chunk to be emitted. -/
def wChunkE : GChunk := { id := 0, slot := 3, st := 3 }
/-- A group of two ranks on slot 3. -/
def wGroup : GGroup := { slots := [3], mask := 8, fanin := 2, maxEl := 64, total := 1 }
/-- The group with the first chunk. -/
def wGroupT : GGroup := { wGroup with chunks := [wChunkT] }
/-- It may be asked again. -/
def wGroupN : GGroup := { wGroupT with retries := 2 }
/-- The group with the second. -/
def wGroupE : GGroup := { wGroup with chunks := [wChunkE] }
/-- A child group. -/
def wGroupC : GGroup := { wGroup with child := true }
/-- A close that waits. -/
def wClose : GClose := ⟨0, 0, 0, false⟩
/-- A group that closes. -/
def wGroupX : GGroup := { wGroup with closing := some wClose }
/-- Engine 3 serves slot 3. -/
def wEngine : State := ((wOn.setUst (tgt cGRIST 3) uACTIVE 0).setFld GRIST_E_STATUS.MAPPED 3 1).setFld GRIST_E_STATUS.SLOT 3 3
/-- Group 7 is open. -/
def wGrp (v : GGroup) : State := wEngine.setGroup 7 (some v)
/-- A contribution to take. -/
def wContrib : State := (wGrp wGroup).setStaged 3 [wGrf]
/-- A parent's packet to take. -/
def wParent : State := (wGrp wGroupC).setStaged 3 [wGpf]
/-- A packet the Tun has refused for a ms. -/
def wTurned : State := { wEngine.setTurned 3 (some (wUp, 0, 0)) with now := msNs }
/-- One it refused 2 µs ago. -/
def wTurnedTwo : State := { (wEngine.setTurned 3 (some (wUp, 0, 0))).setFld TUN_FREE.CELLS 0 65536 |>.setFld TUN_Q_CFG0.MIN 80 9 with now := 2000 }
/-- An engine that leaves its slot. -/
def wLeaveE : GLeave := ⟨3, 3, 0, 0, false⟩
/-- Spares are free. -/
def wGLeave : State := { wEngine with grist.leave := [wLeaveE] }
/-- No spare is free. -/
def wGLoss : State := eachIn [64, 65, 66, 67] wGLeave (fun s k => s.setUst (tgt cGRIST k) uRETIRED 3)
/-- Domains left to step up. -/
def wSteps : State := { wBoot0 with life.steps := [2, 3] }.setFld PWR_CAP_CUR.I_LIMIT 0 1023
/-- A domain that ramps. -/
def wRamp (n : Nat) : State := { wBoot0 with life.ramp := some n }
/-- One domain on. -/
def wDom (n : Nat) : State := wBoot0.setFld PWR_DOM_V.STATE n 2
/-- A change to DRAIN, the buffer empty. -/
def wDrain : State := { (wOn.setFld GLB_MODE.GOAL 0 mDRAIN).setFld GLB_MODE.CHANGING 0 1 with draining := true }
/-- The same with a frame queued. -/
def wDrainQ : State := (wDrain.setTqueue 80 { frames := [1] }).setTframe 1 {}
/-- A PLL that waits for a source. -/
def wPllWait : State := wBoot0.setPll 0x20 { wait := some 2 }
/-- A source in a state. -/
def wSrc (n st : Nat) : State := (wBoot0.setFld CLK_SRC.EN n 1).setFld CLK_SRC.STATE n st
/-- A PLL with a commanded switch. -/
def wWant : State := wBoot0.setPll 0x20 { want := some 2 }
/-- A locked PLL. -/
def wLocked : State := wBoot0.setFld CLK_PLL.STATE 0x20 2
/-- It loses its lock. -/
def wLoses : State := ((wLocked.satFld CLK_PLL.LOCK_LOSS 0x20 1).ev CLK_EVENT.LOCK_LOSS).raise 0x0205 kRETRIED (tgt cCLK 0x20) 0
/-- It has lost its lock. -/
def wLost : State := (((wLoses.setFld CLK_PLL.STATE 0x20 1).closeGate 0x20).showTwigTx wLoses 0x20).notePerm (tgt cCLK 0x20) 0x0205
/-- A quadrant that runs. -/
def wQuad : State := (wDom 2).setFld CLK_PLL.STATE 0x11 2
/-- An announced hint. -/
def wHint : State := { wOn with pwr.hints := [⟨3, 0, 0, 1, 0, 10, 0, false⟩] }
/-- A cap above the use. -/
def wCapped : State := (wBoot0.setFld PWR_CAP_CUR.P_SET 0 1000).setFld PWR_CAP_CUR.I_LIMIT 0 1000
/-- An event on its way. -/
def wEv : FltWait := ⟨0, ⟨0, 0x0101, 0, 0, 0, false⟩⟩
/-- It waits. -/
def wWaiting : State := { wBoot0 with flt.waiting := [wEv] }
/-- A trial run of slot 0. -/
def wTrial : State := wBoot0.setFld SVC_FW_STATUS.TRIAL 0 1
/-- It has checked in. -/
def wChecked : State := { ((wTrial.writeRec 0 none).setFld SVC_FW_STATUS.TRIAL 0 0).setFld SVC_FW_STATUS.CHECKIN_MS 0 0 with cmd.pause := false }
/-- A trial run in SERVICE. -/
def wTrialUp : State := wOn.setFld SVC_FW_STATUS.TRIAL 0 1
/-- It has checked in. -/
def wCheckedUp : State := { ((wTrialUp.writeRec 0 none).setFld SVC_FW_STATUS.TRIAL 0 0).setFld SVC_FW_STATUS.CHECKIN_MS 0 0 with cmd.pause := false }
/-- A DFU state and an update session. -/
def wDfu (st sess : Nat) : State := ((wBoot0.ev SVC_USB.CONFIGURED).setFld SVC_USB.DFU_STATE 0 st).setFld SVC_FW_STATUS.SESSION 0 sess
/-- Rings of 16 entries. -/
def wSized : State := (wOn.setFld CMD_SQ_SIZE.ENTRIES 0 16).setFld CMD_CQ_SIZE.ENTRIES 0 16
/-- They run. -/
def wRing : State := { (wSized.setFld CMD_CTL.EN 0 1).setFld CMD_STATUS.RUN 0 1 with cmd.phase := true }
/-- A NOP of the service port. -/
def wNop : Packet := { chan := 1 }
/-- It is PENDING. -/
def wJobs (st : JobStage) : State := { wOn with cmd.jobs := [⟨wNop, st⟩] }
/-- It blocks the sequence. -/
def wBlocked (why : BlockWhy) : State := { wOn with cmd.blocked := some ⟨wNop, why⟩ }
/-- The packet DMA runs with rings of 64. -/
def wPkt : State :=
  eachIn (List.range 4) (eachIn (List.range 8) ((wOn.setFld PKT_CTL.EN 0 1).setFld PKT_STATUS.RUN 0 1)
    (fun s r => (s.setFld PKT_RX_SIZE.ENTRIES r 64).setFld PKT_RX_SIZE.BUF_LOG2 r 11)) (fun s t => s.setFld PKT_TX_SIZE.ENTRIES t 64)
/-- Transmit ring 1 holds entries. -/
def wPktTx : State := wPkt.setFld PKT_TX_TAIL.TAIL 1 3
/-- A frame is picked for receive ring 2. -/
def wPktRx : State := { wPkt.setTframe 1 { total := 1, cells := [5], bytes := List.replicate 64 0 } with tun.hostOut := [(1, 2)] }
/-- A commit of the buffer plan. -/
def wPair : State := wOn.setPair 8 (some ⟨0, [0, 0, 0, 0, 0]⟩)


/-! ## Command packets -/

/-- A packet of the service port with inline parameters. -/
def wPk (code target : Nat) (pars : List Word) : Packet :=
  { chan := 1, opcode := code, target := target, plen := pars.length, inl := pars }
/-- It is the next command of the execution sequence. -/
def wCmd (s : State) (p : Packet) : State := { s with cmd.seqRuns := [.svc (frameWords p) false], life.boot := 0 }
/-- Another mode. -/
def wM (m : Nat) : State := wOn.setFld GLB_MODE.MODE 0 m
/-- Every logical bank is in use. -/
def wLb : State := wOn.setFld TUN_STATUS.LBANKS 0 512
/-- Every slot of engine group 0 is served, with scratch memory free. -/
def wSlots : State :=
  eachIn (List.range 16) (wOn.setFld GRIST_SCRATCH.FREE 0 4096) (fun s k => (s.setFld GRIST_SLOT_MAP.VALID k 1).setFld GRIST_SLOT_MAP.PHYS k k)
/-- A PLL that runs from crystal 1, with crystal 2 ready. -/
def wSwitch : State := ((wOn.setFld CLK_SRC.STATE 2 kREADY).setFld CLK_PLL.STATE 0x20 2).setFld CLK_PLL.SRC 0x20 3
/-- The boughs' stores take customer programs. -/
def wCust : State := wOn.setFld UC_STATUS.MODE 1 1
/-- The header words of an image of one block. -/
def wHdrWords : List Word := [0x57465447, 0x00010001, 0x00000001, 0x00010000] ++ List.replicate 60 0
/-- An update session, the header written. -/
def wSess : State :=
  (wOn.setFld SVC_FW_STATUS.SESSION 0 1).setFwSlot 1 { state := 1, hdr := wordBytes wHdrWords }
/-- A block with its check value. -/
def wBlkOf (ws : List Word) : List Word := 0 :: (ws ++ [wd (crc32c (wordBytes ws))])
/-- An image with no block left to write. -/
def wVer : State := wOn.setFld SVC_FW_STATUS.SESSION 0 1

/-! ## Well-formedness -/

/-- A packet that is ill-formed in one field only, field by field. -/
theorem test_packet_checks : ([{ chan := 2 }, { ver := 256 }, { flags := 256 }, { opcode := 65536 }, { tag := 65536 }, { plen := 65536 }, { target := 65536 },
    { rsvB := 65536 }, { ctx := 65536 }, { rsvC := 65536 }].map (fun (p : Packet) => packetOk { p with inl := List.replicate 12 0 })) = List.replicate 10 false ∧
    packetOk { inl := List.replicate 11 0 } = false ∧ packetOk { chan := 1, plen := 2, inl := [0] } = false ∧
    packetOk { chan := 1, plen := 1, inl := [0], pbuf := [0] } = false ∧ packetOk { chan := 1, plen := 1, inl := [0], pbufErr := true } = false ∧
    packetOk { inl := List.replicate 12 0 } = true ∧ packetOk { chan := 1, plen := 1, inl := [0] } = true := by decide +kernel

/-- Each check of WellFormed refuses a term with one operand past its range, part 1. -/
theorem test_ill_formed_1 : ([.nop { ver := 256, inl := List.replicate 12 0 },
    .identify { ver := 256, inl := List.replicate 12 0 },
    .fenceCmd { ver := 256, inl := List.replicate 12 0 },
    .getStatus { ver := 256, inl := List.replicate 12 0 },
    .cmdSqDoorbell 2 0,
    .cmdSqDoorbell 0 4294967296,
    .cmdCqHeadWrite 2 0,
    .cmdCqHeadWrite 0 4294967296,
    .cmdRingEnable 2 false,
    .cmdRingDisable 2 false,
    .pktDmaEnable 2,
    .pktDmaDisable 2,
    .pktTxDoorbell 2 0 0,
    .pktTxDoorbell 0 4 0,
    .pktTxDoorbell 0 0 4294967296,
    .pktTxFrame 4 (List.replicate 8 0) [],
    .pktTxFrame 0 [] [],
    .pktTxFrame 0 (List.replicate 8 0) [256],
    .pktRxDoorbell 2 0 0,
    .pktRxDoorbell 0 8 0,
    .pktRxDoorbell 0 0 4294967296,
    .pktDmaError 3 0,
    .pktDmaError 0 8,
    .pktIrqCoalTimeout 12,
    .snapshot { ver := 256, inl := List.replicate 12 0 },
    .registerWrite 2 0 [0] false,
    .registerWrite 0 4294967296 [0] false,
    .registerWrite 0 0 [] false,
    .rcRegisterRead 2 0 1,
    .rcRegisterRead 0 4294967296 1,
    .rcRegisterRead 0 0 0,
    .pairLoRead 2 0,
    .pairLoRead 0 4294967296,
    .svcRegisterRead 256 0 0 0 0,
    .svcRegisterRead 0 256 0 0 0,
    .svcRegisterRead 0 0 65536 0 0,
    .svcRegisterRead 0 0 0 65536 0,
    .svcRegisterRead 0 0 0 0 65536,
    .svcRegisterWrite 256 0 0 0 0 0,
    .svcRegisterWrite 0 256 0 0 0 0,
    .svcRegisterWrite 0 0 65536 0 0 0,
    .svcRegisterWrite 0 0 0 65536 0 0,
    .svcRegisterWrite 0 0 0 0 65536 0,
    .pairCommit 9 0,
    .pairApply 9,
    .glbResetWarm 2 0,
    .glbResetWarm 0 65536,
    .glbResetCold 2 0,
    .glbResetCold 0 65536,
    .laneCfg { ver := 256, inl := List.replicate 12 0 },
    .laneTest { ver := 256, inl := List.replicate 12 0 },
    .eyeScan { ver := 256, inl := List.replicate 12 0 },
    .laneFom { ver := 256, inl := List.replicate 12 0 },
    .laneCalDone 512 false,
    .laneSignalDetect 512,
    .laneSignalLoss 512,
    .laneTrainFrame 512 0 false false,
    .laneTrainFrame 0 18446744073709551616 false false,
    .laneTrainPhaseEnd ⟨512, []⟩,
    .laneTrainTimeout 512] : List Instr).all (fun i => !i.wellFormed) = true := by decide +kernel

/-- Each check of WellFormed refuses a term with one operand past its range, part 2. -/
theorem test_ill_formed_2 : ([.laneLock 512 ⟨0, 0, []⟩ false,
    .laneLock 0 ⟨32, 0, []⟩ false,
    .laneLock 0 ⟨0, 32, []⟩ false,
    .laneHuntTimeout 512,
    .laneLockLoss ⟨512, []⟩,
    .laneRetryTimer 512,
    .fomWindowEnd 512 0 ⟨0, []⟩,
    .laneSafePoint 512 0 false,
    .laneSafePoint 0 3 false,
    .laneLpiEntry 512,
    .steepEntry 512,
    .steepEidleRx 512,
    .steepBurstRx 512,
    .laneWakeRequest 512,
    .steepStaleTimer 512,
    .laneWakeLimit 512,
    .prbsCheckerLock ⟨512, []⟩,
    .prbsCheckerLockLoss 512 0 [],
    .twigDeepDoze 64,
    .twigPllWake 64,
    .portCfg { ver := 256, inl := List.replicate 12 0 },
    .portEnable { ver := 256, inl := List.replicate 12 0 },
    .portStatus { ver := 256, inl := List.replicate 12 0 },
    .pfcCfg { ver := 256, inl := List.replicate 12 0 },
    .ptpCfg { ver := 256, inl := List.replicate 12 0 },
    .portAligned 512,
    .portAlignTimeout 512,
    .portAlignRetry 512,
    .portFaultStart 512 false,
    .portHoldoffExpire 512,
    .portFaultClear 512,
    .rxFrame 512 [] false,
    .rxFrame 0 [256] false,
    .pauseTimerExpire 512 0,
    .pauseTimerExpire 0 9,
    .portLpiIdle 512,
    .tsPop 2 0 0,
    .tsPop 0 512 0,
    .flitRx 128 false 0 0,
    .flitRx 0 false 3121748550315992231381597229793166305748598142664971150859156959625371738819765620120306103063491971159826931121406622895447975679288285306290176 0,
    .flitRx 0 false 0 4294967296,
    .nakRepeat 128 false,
    .rootClkLoss 128 false,
    .rootLaneSwap 128 false,
    .rootSwapPatternEnd 128 false [],
    .rootSpareDeskew 128 false 0 false,
    .rootSpareDeskew 0 false 66 false,
    .rootClusterTrain 128 [] [] false,
    .pinMapChange 8,
    .repinFenceRx 128,
    .repinEndWaitExpire 8,
    .reseqGapSkip 586,
    .pipeFrameEntry 64 0 0,
    .pipeFrameEntry 0 2 0,
    .clsResultReturn 64 0 0,
    .clsResultReturn 0 0 5,
    .pipeDispose 64 false,
    .egressProcess 586 0,
    .pipeDozeEntry 64,
    .pipeWake 64] : List Instr).all (fun i => !i.wellFormed) = true := by decide +kernel

/-- Each check of WellFormed refuses a term with one operand past its range, part 3. -/
theorem test_ill_formed_3 : ([.pipeFosterStart 64,
    .pipeFosterHandback 64,
    .pipeNoProgress 64,
    .progLoad { ver := 256, inl := List.replicate 12 0 },
    .progPatch { ver := 256, inl := List.replicate 12 0 },
    .storeModeSet { ver := 256, inl := List.replicate 12 0 },
    .progActivate { ver := 256, inl := List.replicate 12 0 },
    .progRead { ver := 256, inl := List.replicate 12 0 },
    .walkerSafePoint 9 0,
    .walkerSafePoint 0 4,
    .safeWatchdog 9 0,
    .safeWatchdog 0 72,
    .storeScrub 9 0 false,
    .storeScrub 0 32768 false,
    .patchSetCurrent 9,
    .tblProfile { ver := 256, inl := List.replicate 12 0 },
    .tblInsert { ver := 256, inl := List.replicate 12 0 },
    .tblDelete { ver := 256, inl := List.replicate 12 0 },
    .tblLookup { ver := 256, inl := List.replicate 12 0 },
    .tblDma { ver := 256, inl := List.replicate 12 0 },
    .tblAudit { ver := 256, inl := List.replicate 12 0 },
    .tblLock { ver := 256, inl := List.replicate 12 0 },
    .tblLearnCfg { ver := 256, inl := List.replicate 12 0 },
    .learnExecute 8,
    .ageTick 8 0,
    .ageTick 0 32,
    .learnRecordWrite 8,
    .learnRingEnable 8 false,
    .clsWrite { ver := 256, inl := List.replicate 12 0 },
    .clsRead { ver := 256, inl := List.replicate 12 0 },
    .clsTreeLoad { ver := 256, inl := List.replicate 12 0 },
    .tcamScrub 64 0,
    .tcamScrub 0 8192,
    .ecmpGroupSet { ver := 256, inl := List.replicate 12 0 },
    .ecmpMemberSet { ver := 256, inl := List.replicate 12 0 },
    .hashCfg { ver := 256, inl := List.replicate 12 0 },
    .flowletSweep 8,
    .imbWindowEnd 8,
    .poolCfg { ver := 256, inl := List.replicate 12 0 },
    .queueCfg { ver := 256, inl := List.replicate 12 0 },
    .qholdCfg { ver := 256, inl := List.replicate 12 0 },
    .frameAdmit 128 false,
    .frameEofArrive 128 false,
    .schedPick 586 false 0,
    .dnAck 128,
    .portHoldEnter 512,
    .qholdDeadline 512,
    .bankReplace 528 [],
    .bankLeaveService 512,
    .spillCfg { ver := 256, inl := List.replicate 12 0 },
    .rackBlock 10240,
    .rackWriteDone 10240 0,
    .drawIssue 10240,
    .drawComplete 10240 0 0 0 [] false,
    .cellarRetrain 16 false 0,
    .cellarRetrain 0 false 256,
    .cellarChannelRetire 16,
    .cellarChannelDead 16,
    .cellarWinAccess 2 0,
    .cellarWinDone 3] : List Instr).all (fun i => !i.wellFormed) = true := by decide +kernel

/-- Each check of WellFormed refuses a term with one operand past its range, part 4. -/
theorem test_ill_formed_4 : ([.schedCfg { ver := 256, inl := List.replicate 12 0 },
    .shaperCfg { ver := 256, inl := List.replicate 12 0 },
    .wredCfg { ver := 256, inl := List.replicate 12 0 },
    .pfcWdCfg { ver := 256, inl := List.replicate 12 0 },
    .hwmRead { ver := 256, inl := List.replicate 12 0 },
    .meterCfg { ver := 256, inl := List.replicate 12 0 },
    .meterRead { ver := 256, inl := List.replicate 12 0 },
    .pfcXoffChange 512,
    .pfcRefreshTimer 512,
    .pfcWdCheck 10240,
    .telemStreamCfg { ver := 256, inl := List.replicate 12 0 },
    .sapFlag { ver := 256, inl := List.replicate 12 0 },
    .telemRead { ver := 256, inl := List.replicate 12 0 },
    .tagCfg { ver := 256, inl := List.replicate 12 0 },
    .ioamCfg { ver := 256, inl := List.replicate 12 0 },
    .perfCfg { ver := 256, inl := List.replicate 12 0 },
    .perfRead { ver := 256, inl := List.replicate 12 0 },
    .exportFrameBuild 8,
    .exportFlushTimer 8,
    .perfIntervalEnd 65536,
    .gristGroupOpen { ver := 256, inl := List.replicate 12 0 },
    .gristGroupClose { ver := 256, inl := List.replicate 12 0 },
    .gristGroupStatus { ver := 256, inl := List.replicate 12 0 },
    .gristContrib 128,
    .gristResultRetry 64,
    .gristParentRx 128,
    .gristChunkReset 68 0 0 0,
    .gristEngineTakeover 68 false,
    .gristSlotLoss 68,
    .gristEngineDoze 68,
    .setMode { ver := 256, inl := List.replicate 12 0 },
    .unitGraft { ver := 256, inl := List.replicate 12 0 },
    .unitRestore { ver := 256, inl := List.replicate 12 0 },
    .unitRetire { ver := 256, inl := List.replicate 12 0 },
    .unitState { ver := 256, inl := List.replicate 12 0 },
    .dozeCfg { ver := 256, inl := List.replicate 12 0 },
    .domainPowerGood 27 0,
    .regulatorFail 27 0,
    .selfTestDone 27 [],
    .cellarTrainingDone 16 0,
    .cellarTrainingDone 0 3,
    .clkSwitch { ver := 256, inl := List.replicate 12 0 },
    .clkTrim { ver := 256, inl := List.replicate 12 0 },
    .clkStatus { ver := 256, inl := List.replicate 12 0 },
    .clkSrcEnWrite 6 0,
    .clkSrcEnWrite 0 2,
    .clkTrimWrite 6 0,
    .clkTrimWrite 0 256,
    .chainEnWrite 130 0,
    .chainEnWrite 0 2,
    .clkSourceReady 6,
    .clkStartTimeout 6,
    .clkSourceRetry 6,
    .muxForceSelect 130,
    .pllLocked 130 false,
    .pllLockLoss 130,
    .trimMeasure 2 0,
    .pwrHint { ver := 256, inl := List.replicate 12 0 },
    .pwrOpp { ver := 256, inl := List.replicate 12 0 },
    .pwrCap { ver := 256, inl := List.replicate 12 0 }] : List Instr).all (fun i => !i.wellFormed) = true := by decide +kernel

/-- Each check of WellFormed refuses a term with one operand past its range, part 5. -/
theorem test_ill_formed_5 : ([.pwrStatus { ver := 256, inl := List.replicate 12 0 },
    .pwrPriv { ver := 256, inl := List.replicate 12 0 },
    .oppStep 4,
    .droopTrip ⟨27, 0⟩,
    .droopRecover 27 0,
    .estWindow 27 0 0 false false,
    .thermalSample 27 false 0,
    .thermalSample 0 false 256,
    .regulatorProtectionTrip 27 0,
    .fltAck { ver := 256, inl := List.replicate 12 0 },
    .fltHistory { ver := 256, inl := List.replicate 12 0 },
    .fltMask { ver := 256, inl := List.replicate 12 0 },
    .fltInject { ver := 256, inl := List.replicate 12 0 },
    .fltHistSelWrite 32,
    .lockstepMismatch 4294967296,
    .fwBegin { ver := 256, inl := List.replicate 12 0 },
    .fwBlock { ver := 256, inl := List.replicate 12 0 },
    .fwVerify { ver := 256, inl := List.replicate 12 0 },
    .fwActivate { ver := 256, inl := List.replicate 12 0 },
    .fwInfo { ver := 256, inl := List.replicate 12 0 },
    .dfuDownload [256] 0,
    .porAssert 3,
    .porRelease 3 0,
    .porRelease 0 65536,
    .jtagInstruction 256,
    .smbBlockRead false 256 false] : List Instr).all (fun i => !i.wellFormed) = true := by decide +kernel

/-- The same commands with every operand in range are well-formed, part 1. -/
theorem test_well_formed_1 : ([.nop { inl := List.replicate 12 0 },
    .identify { inl := List.replicate 12 0 },
    .fenceCmd { inl := List.replicate 12 0 },
    .getStatus { inl := List.replicate 12 0 },
    .cmdSqDoorbell 0 0,
    .cmdCqHeadWrite 0 0,
    .cmdRingEnable 0 false,
    .cmdRingDisable 0 false,
    .pktDmaEnable 0,
    .pktDmaDisable 0,
    .pktTxDoorbell 0 0 0,
    .pktTxFrame 0 (List.replicate 8 0) [],
    .pktRxDoorbell 0 0 0,
    .pktDmaError 0 0,
    .pktIrqCoalTimeout 0,
    .snapshot { inl := List.replicate 12 0 },
    .registerWrite 0 0 [0] false,
    .rcRegisterRead 0 0 1,
    .pairLoRead 0 0,
    .svcRegisterRead 0 0 0 0 0,
    .svcRegisterWrite 0 0 0 0 0 0,
    .pairCommit 0 0,
    .pairApply 0,
    .glbResetWarm 0 0,
    .glbResetCold 0 0,
    .laneCfg { inl := List.replicate 12 0 },
    .laneTest { inl := List.replicate 12 0 },
    .eyeScan { inl := List.replicate 12 0 },
    .laneFom { inl := List.replicate 12 0 },
    .laneCalDone 0 false,
    .laneSignalDetect 0,
    .laneSignalLoss 0,
    .laneTrainFrame 0 0 false false,
    .laneTrainPhaseEnd ⟨0, []⟩,
    .laneTrainTimeout 0,
    .laneLock 0 ⟨0, 0, []⟩ false,
    .laneHuntTimeout 0,
    .laneLockLoss ⟨0, []⟩,
    .laneRetryTimer 0,
    .fomWindowEnd 0 0 ⟨0, []⟩,
    .laneSafePoint 0 0 false,
    .laneLpiEntry 0,
    .steepEntry 0,
    .steepEidleRx 0,
    .steepBurstRx 0,
    .laneWakeRequest 0,
    .steepStaleTimer 0,
    .laneWakeLimit 0,
    .prbsCheckerLock ⟨0, []⟩,
    .prbsCheckerLockLoss 0 0 [],
    .twigDeepDoze 0,
    .twigPllWake 0,
    .portCfg { inl := List.replicate 12 0 },
    .portEnable { inl := List.replicate 12 0 },
    .portStatus { inl := List.replicate 12 0 },
    .pfcCfg { inl := List.replicate 12 0 },
    .ptpCfg { inl := List.replicate 12 0 },
    .portAligned 0,
    .portAlignTimeout 0,
    .portAlignRetry 0] : List Instr).all Instr.wellFormed = true := by decide +kernel

/-- The same commands with every operand in range are well-formed, part 2. -/
theorem test_well_formed_2 : ([.portFaultStart 0 false,
    .portHoldoffExpire 0,
    .portFaultClear 0,
    .rxFrame 0 [] false,
    .pauseTimerExpire 0 0,
    .portLpiIdle 0,
    .tsPop 0 0 0,
    .flitRx 0 false 0 0,
    .nakRepeat 0 false,
    .rootClkLoss 0 false,
    .rootLaneSwap 0 false,
    .rootSwapPatternEnd 0 false [],
    .rootSpareDeskew 0 false 0 false,
    .rootClusterTrain 0 [] [] false,
    .pinMapChange 0,
    .repinFenceRx 0,
    .repinEndWaitExpire 0,
    .reseqGapSkip 0,
    .pipeFrameEntry 0 0 0,
    .clsResultReturn 0 0 0,
    .pipeDispose 0 false,
    .egressProcess 0 0,
    .pipeDozeEntry 0,
    .pipeWake 0,
    .pipeFosterStart 0,
    .pipeFosterHandback 0,
    .pipeNoProgress 0,
    .progLoad { inl := List.replicate 12 0 },
    .progPatch { inl := List.replicate 12 0 },
    .storeModeSet { inl := List.replicate 12 0 },
    .progActivate { inl := List.replicate 12 0 },
    .progRead { inl := List.replicate 12 0 },
    .walkerSafePoint 0 0,
    .safeWatchdog 0 0,
    .storeScrub 0 0 false,
    .patchSetCurrent 0,
    .tblProfile { inl := List.replicate 12 0 },
    .tblInsert { inl := List.replicate 12 0 },
    .tblDelete { inl := List.replicate 12 0 },
    .tblLookup { inl := List.replicate 12 0 },
    .tblDma { inl := List.replicate 12 0 },
    .tblAudit { inl := List.replicate 12 0 },
    .tblLock { inl := List.replicate 12 0 },
    .tblLearnCfg { inl := List.replicate 12 0 },
    .learnExecute 0,
    .ageTick 0 0,
    .learnRecordWrite 0,
    .learnRingEnable 0 false,
    .clsWrite { inl := List.replicate 12 0 },
    .clsRead { inl := List.replicate 12 0 },
    .clsTreeLoad { inl := List.replicate 12 0 },
    .tcamScrub 0 0,
    .ecmpGroupSet { inl := List.replicate 12 0 },
    .ecmpMemberSet { inl := List.replicate 12 0 },
    .hashCfg { inl := List.replicate 12 0 },
    .flowletSweep 0,
    .imbWindowEnd 0,
    .poolCfg { inl := List.replicate 12 0 },
    .queueCfg { inl := List.replicate 12 0 },
    .qholdCfg { inl := List.replicate 12 0 }] : List Instr).all Instr.wellFormed = true := by decide +kernel

/-- The same commands with every operand in range are well-formed, part 3. -/
theorem test_well_formed_3 : ([.frameAdmit 0 false,
    .frameEofArrive 0 false,
    .schedPick 0 false 0,
    .dnAck 0,
    .portHoldEnter 0,
    .qholdDeadline 0,
    .bankReplace 0 [],
    .bankLeaveService 0,
    .spillCfg { inl := List.replicate 12 0 },
    .rackBlock 0,
    .rackWriteDone 0 0,
    .drawIssue 0,
    .drawComplete 0 0 0 0 [] false,
    .cellarRetrain 0 false 0,
    .cellarChannelRetire 0,
    .cellarChannelDead 0,
    .cellarWinAccess 0 0,
    .cellarWinDone 0,
    .schedCfg { inl := List.replicate 12 0 },
    .shaperCfg { inl := List.replicate 12 0 },
    .wredCfg { inl := List.replicate 12 0 },
    .pfcWdCfg { inl := List.replicate 12 0 },
    .hwmRead { inl := List.replicate 12 0 },
    .meterCfg { inl := List.replicate 12 0 },
    .meterRead { inl := List.replicate 12 0 },
    .pfcXoffChange 0,
    .pfcRefreshTimer 0,
    .pfcWdCheck 0,
    .telemStreamCfg { inl := List.replicate 12 0 },
    .sapFlag { inl := List.replicate 12 0 },
    .telemRead { inl := List.replicate 12 0 },
    .tagCfg { inl := List.replicate 12 0 },
    .ioamCfg { inl := List.replicate 12 0 },
    .perfCfg { inl := List.replicate 12 0 },
    .perfRead { inl := List.replicate 12 0 },
    .exportFrameBuild 0,
    .exportFlushTimer 0,
    .perfIntervalEnd 0,
    .gristGroupOpen { inl := List.replicate 12 0 },
    .gristGroupClose { inl := List.replicate 12 0 },
    .gristGroupStatus { inl := List.replicate 12 0 },
    .gristContrib 0,
    .gristResultRetry 0,
    .gristParentRx 0,
    .gristChunkReset 0 0 0 0,
    .gristEngineTakeover 0 false,
    .gristSlotLoss 0,
    .gristEngineDoze 0,
    .setMode { inl := List.replicate 12 0 },
    .unitGraft { inl := List.replicate 12 0 },
    .unitRestore { inl := List.replicate 12 0 },
    .unitRetire { inl := List.replicate 12 0 },
    .unitState { inl := List.replicate 12 0 },
    .dozeCfg { inl := List.replicate 12 0 },
    .domainPowerGood 0 0,
    .regulatorFail 0 0,
    .selfTestDone 0 [],
    .cellarTrainingDone 0 0,
    .clkSwitch { inl := List.replicate 12 0 },
    .clkTrim { inl := List.replicate 12 0 }] : List Instr).all Instr.wellFormed = true := by decide +kernel

/-- The same commands with every operand in range are well-formed, part 4. -/
theorem test_well_formed_4 : ([.clkStatus { inl := List.replicate 12 0 },
    .clkSrcEnWrite 0 0,
    .clkTrimWrite 0 0,
    .chainEnWrite 0 0,
    .clkSourceReady 0,
    .clkStartTimeout 0,
    .clkSourceRetry 0,
    .muxForceSelect 0,
    .pllLocked 0 false,
    .pllLockLoss 0,
    .trimMeasure 0 0,
    .pwrHint { inl := List.replicate 12 0 },
    .pwrOpp { inl := List.replicate 12 0 },
    .pwrCap { inl := List.replicate 12 0 },
    .pwrStatus { inl := List.replicate 12 0 },
    .pwrPriv { inl := List.replicate 12 0 },
    .oppStep 0,
    .droopTrip ⟨0, 0⟩,
    .droopRecover 0 0,
    .estWindow 0 0 0 false false,
    .thermalSample 0 false 0,
    .regulatorProtectionTrip 0 0,
    .fltAck { inl := List.replicate 12 0 },
    .fltHistory { inl := List.replicate 12 0 },
    .fltMask { inl := List.replicate 12 0 },
    .fltInject { inl := List.replicate 12 0 },
    .fltHistSelWrite 0,
    .lockstepMismatch 0,
    .fwBegin { inl := List.replicate 12 0 },
    .fwBlock { inl := List.replicate 12 0 },
    .fwVerify { inl := List.replicate 12 0 },
    .fwActivate { inl := List.replicate 12 0 },
    .fwInfo { inl := List.replicate 12 0 },
    .dfuDownload [] 0,
    .porAssert 0,
    .porRelease 0 0,
    .jtagInstruction 0,
    .smbBlockRead false 0 false] : List Instr).all Instr.wellFormed = true := by decide +kernel

/-! ## Worked examples of the spec -/

/-- The TARGETs of lane 331 and its port, pipe, twig, LC PLL and cluster (chapter 00, the example on numbering). -/
theorem test_targets : [tgt cLANE 331, tgt cPORT 328, tgt cPIPE 41, tgt cTWIG 41, tgt cCLK (0x40 + 41), tgt cROOT (5 * 16 + 7)] =
    [0x314B, 0x4148, 0x5029, 0x2029, 0xA069, 0xE057] := by decide +kernel

/-- A masked write of 0x0006_0004 turns 0x0000_00A3 into 0x0000_00A5 (chapter 03, the example after R91). -/
theorem test_masked_write : ((wBoot0.setReg .GPIO_OUT 0 0xA3).busWrite 1 (regOffset .GPIO_OUT) [0x00060004] true).reg .GPIO_OUT = 0xA5 := by
  decide +kernel

/-- An absent offset of GLB is a bus error of CAUSE 0 that counts (R74, R90). -/
theorem test_absent_offset : (wBoot0.busWrite 1 0x34 [1] true).fld GLB_BUSERR_ADDR.OFFSET = 0x34 ∧
    (wBoot0.busWrite 1 0x34 [1] true).fld GLB_BUSERR_INFO.COUNT = 1 ∧ (wBoot0.busWrite 1 0x34 [1] true).fld GLB_BUSERR_INFO.CAUSE = 0 := by
  decide +kernel

/-- A partial write to a register whose domain is off records CAUSE 1 on PCIe (R74's own example): the shape is tested first. -/
theorem test_shape_first : (wDom 1).busCheck 0 (regOffset .LANE_STATUS) 1 true false = .inr 1 ∧
    (wDom 1).busCheck 0 (regOffset .LANE_STATUS) 1 true true = .inr 2 := by decide +kernel

/-- NOP's reply on the service port: header 0xA502_0004, TAG and OK, no results, DETAIL 0, the opcode (R46, R64). -/
theorem test_nop_reply : (match exec (.nop (wPk 0 0 [])) (wCmd wOn (wPk 0 0 [])) with
    | .next t => t.out.head? == some (.usbReply [0xA5020004, 0, 0, 0, 0])
    | _ => false) = true := by decide +kernel

/-- Opcodes that R60 does not list, and a version other than 1, are refused with E_OPCODE (R49). -/
theorem test_unknown_opcode : accept wOn (wPk 0x00FF 0 []) = some (refuse 0x0101 0x00FF) ∧
    accept wOn { wPk 0 0 [] with ver := 3 } = some (refuse 0x0101 3) := by decide +kernel

/-- PAGES of FANIN 512, 2,048 elements and a WINDOW of 8 is 4,096 (R399's own example). -/
theorem test_grist_pages : (groupOf (wPk 0x0601 (tgt cGRIST 0x100) [7, 1 + 512 * 65536, 2048 * 65536, 8])).pages = 4096 := by decide +kernel

/-- 2^24 + 1 + (1 + 1) in the tree's order is 16,777,218; in the order 0, 1, 2, 3 it would be 16,777,216 (chapter 16, the example on
one chunk). -/
theorem test_fp_sum : fpAdd (fpAdd 0x4B800000 0x3F800000) (fpAdd 0x3F800000 0x3F800000) = 0x4B800001 ∧
    fpAdd (fpAdd (fpAdd 0x4B800000 0x3F800000) 0x3F800000) 0x3F800000 = 0x4B800000 := by decide +kernel

/-- Selector 0x9C40 in a group of BASE 4,000 and SIZE 6 takes slot 4,003 (chapter 11, the example on choosing a slot). -/
theorem test_slot_choice (e : Nat) (h : grpBase e = 4000) (h' : grpSize e = 6) : slotOf e 0x9C40 = 4003 := by
  unfold slotOf; rw [h, h']; decide

/-- The queue of the example on dynamic thresholds: room 448,576, thresholds 448,576, 224,288 and 56,072 (chapter 12). -/
theorem test_thresholds :
    let s := (({ wOn with tun.poolSize := [1048576] }.setFld TUN_POOL_USED.CELLS 0 600000).setFld TUN_Q_CFG0.DY 5251 1).setFld TUN_Q_CFG0.DR 5251 3
    [s.admitRoom 5251 0, s.admitRoom 5251 1, s.admitRoom 5251 2] = [448576, 224288, 56072] := by decide +kernel

/-- CIR 100 Mb/s, CBS 3,000 and EBS 0 in RFC 4115 mode: green, green, red (chapter 14, the example on a zero excess burst); in
RFC 2698 mode with PBS 0 red at once. -/
theorem test_meter :
    let m : Meter := { mode := true, cbs := 3000, tc := 3000 * tokUnit }
    let a := meterColor m 1500 0
    let b := meterColor a.1 1500 0
    [a.2, b.2, (meterColor b.1 1500 0).2, (meterColor { m with mode := false } 1500 0).2] = [0, 0, 2, 2] := by decide +kernel

/-- The branch of the example in chapter 08: instances 6 and 7 valid, in turn neither, 6, 7, both. -/
theorem test_branch : [0, 2 ^ 6, 2 ^ 7, 2 ^ 6 + 2 ^ 7].map (fun v =>
    nextAddr false { valid := v } {} (0xC0406600 * 2 ^ 128 + 6 * 2 ^ 20)) = [0x6020, 0x6021, 0x6022, 0x6023] := by decide +kernel

/-- A leaf whose rule 0 has no slice enabled answers its DATA with HIT and TREE; a search of TCAM that finds nothing answers MISS_DATA
(chapter 10). -/
theorem test_cls_words : clsWord 0x101 true false true = 0x05000101 ∧ clsWord 0x300 true false true = 0x05000300 ∧
    clsWord 0x42 false false false = 0x42 := by decide +kernel

/-- A lane's loss of lock merges into the entry made since handling began (chapter 20, the example on merging): one entry, MERGE 1. -/
theorem test_merge : (let s := wBoot0.setReg .FLT_SEQ 0 40
    let e : FltEv := ⟨19, 0x0401, 1, 0x314B, 0, false⟩
    let t := (s.collect e).collect e
    (t.flt.hist.map (fun h => (h.seq, h.merge)), t.reg .FLT_SEQ, t.reg .FLT_TOP_LO)) = ([(40, 1)], 41, 0x80000) := by decide +kernel

/-- The spec's reset values of GLB_ID's PART and FAMILY, and of RESET_CAUSE (R90). -/
theorem test_reset_words : State.reset.reg .GLB_ID = 0x6C204800 ∧ State.reset.reg .GLB_RESET_CAUSE = 1 ∧ State.reset.reg .GLB_MODE = 0 := by
  decide +kernel

/-- The lands of lane 331, and two PGND lands beside them (R530, the example on lane 331). -/
theorem test_lane_331 : [laneLand 331 false false, laneLand 331 false true, laneLand 331 true false, laneLand 331 true true] =
    [(96, 24), (96, 23), (90, 24), (90, 23)] ∧ landAt 94 24 = .pgnd ∧ landAt 96 22 = .pgnd := by decide +kernel

/-- Every leg of every lane has a land of its own: the land of each leg carries that leg (R530). -/
theorem test_lane_lands : (List.range 512).all (fun l => [true, false].all (fun neg =>
    decide (landAt (laneLand l false neg).1 (laneLand l false neg).2 = .laneTx l neg) &&
    decide (landAt (laneLand l true neg).1 (laneLand l true neg).2 = .laneRx l neg))) = true := by decide +kernel

/-- Signals of the low-speed block (R531). -/
theorem test_low_lands : [landAt 13 38, landAt 17 45, landAt 19 52, landAt 20 44, landAt 20 60, landAt 14 40] =
    [.lowOf "PCIE_TX_N" 0, .low "XA_IN", .lowOf "GPIO" 15, .low "ERR_N", .reserved, .pgnd] := by decide +kernel

/-! ## The conditions of every clause are met together -/

/-- The conditions of the laneCalDone clause are met together. -/
theorem test_wit_laneCalDone :
    ((wUnit 3 5 uWAKING : State).ust (tgt cLANE (5 : Nat)) = uWAKING) := by decide +kernel

/-- The conditions of the laneCalDone clause are met together. -/
theorem test_wit_laneCalFail :
    ((wUnit 3 5 uWAKING : State).ust (tgt cLANE (5 : Nat)) = uWAKING) := by decide +kernel

/-- The conditions of the laneSignalDetect clause are met together. -/
theorem test_wit_laneSignalDetect :
    ((wLane 5 lDETECT : State).linkable (5 : Nat) = true) ∧ ((wLane 5 lDETECT : State).lstate (5 : Nat) = lDETECT) ∧ (((wLane 5 lDETECT : State).setFld LANE_STATUS.SIG (5 : Nat) 1).trains (5 : Nat) = false) := by decide +kernel

/-- The conditions of the laneSignalDetect clause are met together. -/
theorem test_wit_laneSignalTrain :
    ((wLane6 5 lDETECT : State).linkable (5 : Nat) = true) ∧ ((wLane6 5 lDETECT : State).lstate (5 : Nat) = lDETECT) ∧ (((wLane6 5 lDETECT : State).setFld LANE_STATUS.SIG (5 : Nat) 1).trains (5 : Nat) = true) := by decide +kernel

/-- The conditions of the laneSignalLoss clause are met together. -/
theorem test_wit_laneSignalLoss :
    ((wLane 5 lHUNT : State).linkable (5 : Nat) = true) ∧ ((wLane 5 lHUNT : State).lstate (5 : Nat) = lHUNT) := by decide +kernel

/-- The conditions of the laneSignalLoss clause are met together. -/
theorem test_wit_laneSignalLossUp :
    ((wLane 5 lUP : State).linkable (5 : Nat) = true) ∧ ((wLane 5 lUP : State).lstate (5 : Nat) = lUP) := by decide +kernel

/-- The conditions of the laneTrainFrame clause are met together. -/
theorem test_wit_laneTrainFrame :
    ((wLane6 5 lTRAIN : State).linkable (5 : Nat) = true) ∧ ((wLane6 5 lTRAIN : State).lstate (5 : Nat) = lTRAIN) ∧ ((wLane6 5 lTRAIN : State).trains (5 : Nat) = true) ∧ ((wLane6 5 lTRAIN : State).rateOf (5 : Nat) = 6) ∧ (frameCrcOk (wFrameInfo : Nat) = true) ∧ (nbits (wFrameInfo : Nat) 24 4 = 1) := by decide +kernel

/-- The conditions of the laneTrainFrame clause are met together. -/
theorem test_wit_laneTrainFrameBad :
    ((wLane6 5 lTRAIN : State).linkable (5 : Nat) = true) ∧ ((wLane6 5 lTRAIN : State).lstate (5 : Nat) = lTRAIN) ∧ ((wLane6 5 lTRAIN : State).trains (5 : Nat) = true) ∧ ((wLane6 5 lTRAIN : State).rateOf (5 : Nat) = 6) := by decide +kernel

/-- The conditions of the laneTrainPhaseEnd clause are met together. -/
theorem test_wit_laneTrainPhaseEnd :
    ((wLaneR 5 lTRAIN 3 : State).linkable (5 : Nat) = true) ∧ ((wLaneR 5 lTRAIN 3 : State).lstate (5 : Nat) = lTRAIN) ∧ ((wLaneR 5 lTRAIN 3 : State).rateOf (5 : Nat) ≠ 6) := by decide +kernel

/-- The conditions of the laneTrainPhaseEnd clause are met together. -/
theorem test_wit_laneTrainPhaseT1 :
    ((wT1 : State).linkable (5 : Nat) = true) ∧ ((wT1 : State).lstate (5 : Nat) = lTRAIN) ∧ ((wT1 : State).rateOf (5 : Nat) = 6) ∧ ((wT1 : State).fld LANE_STATUS.TRAIN_PHASE (5 : Nat) = 1) ∧ (8 ≤ ((wT1 : State).lane (5 : Nat)).validT1) := by decide +kernel

/-- The conditions of the laneTrainPhaseEnd clause are met together. -/
theorem test_wit_laneTrainPhaseT6 :
    (((wLane6 5 lTRAIN).setFld LANE_STATUS.TRAIN_PHASE 5 6 : State).linkable (5 : Nat) = true) ∧ (((wLane6 5 lTRAIN).setFld LANE_STATUS.TRAIN_PHASE 5 6 : State).lstate (5 : Nat) = lTRAIN) ∧ (((wLane6 5 lTRAIN).setFld LANE_STATUS.TRAIN_PHASE 5 6 : State).rateOf (5 : Nat) = 6) ∧ (((wLane6 5 lTRAIN).setFld LANE_STATUS.TRAIN_PHASE 5 6 : State).fld LANE_STATUS.TRAIN_PHASE (5 : Nat) = 6) := by decide +kernel

/-- The conditions of the laneTrainTimeout clause are met together. -/
theorem test_wit_laneTrainTimeout :
    ((wLaneR 5 lTRAIN 3 : State).linkable (5 : Nat) = true) ∧ ((wLaneR 5 lTRAIN 3 : State).lstate (5 : Nat) = lTRAIN) ∧ ((wLaneR 5 lTRAIN 3 : State).rateOf (5 : Nat) ≠ 6 ∨ (wLaneR 5 lTRAIN 3 : State).trainLate (5 : Nat) = true) := by decide +kernel

/-- The conditions of the laneLock clause are met together. -/
theorem test_wit_laneLock :
    ((wLane 5 lHUNT : State).linkable (5 : Nat) = true) ∧ ((wLane 5 lHUNT : State).lstate (5 : Nat) = lHUNT) ∧ ((wLane 5 lHUNT : State).lockSeen (5 : Nat) (List.replicate 64 1 : List Nat) = true) ∧ (((wLane 5 lHUNT : State).subLock (5 : Nat) (0 : Nat) (3 : Nat)).allLocked (5 : Nat) = true) := by decide +kernel

/-- The conditions of the laneLock clause are met together. -/
theorem test_wit_laneLockWake :
    ((wLane 5 lWAKE : State).linkable (5 : Nat) = true) ∧ ((wLane 5 lWAKE : State).lstate (5 : Nat) = lWAKE) ∧ ((wLane 5 lWAKE : State).lockSeen (5 : Nat) (List.replicate 64 1 : List Nat) = true) ∧ (((wLane 5 lWAKE : State).subLock (5 : Nat) (0 : Nat) (3 : Nat)).allLocked (5 : Nat) = true) := by decide +kernel

/-- The conditions of the laneHuntTimeout clause are met together. -/
theorem test_wit_laneHuntTimeout :
    ((({ wLane 5 lHUNT with now := 10 * msNs } : State) : State).linkable (5 : Nat) = true) ∧ ((({ wLane 5 lHUNT with now := 10 * msNs } : State) : State).lstate (5 : Nat) = lHUNT) ∧ (((({ wLane 5 lHUNT with now := 10 * msNs } : State) : State).lane (5 : Nat)).since + 10 * msNs ≤ (({ wLane 5 lHUNT with now := 10 * msNs } : State) : State).now) := by decide +kernel

/-- The conditions of the laneLockLoss clause are met together. -/
theorem test_wit_laneLockLoss :
    ((wLane 5 lUP : State).linkable (5 : Nat) = true) ∧ ((wLane 5 lUP : State).lstate (5 : Nat) = lUP) ∧ ((wLane 5 lUP : State).lossSeen (5 : Nat) (List.replicate 64 0 : List Nat) = true) := by decide +kernel

/-- The conditions of the laneRetryTimer clause are met together. -/
theorem test_wit_laneRetryTimer :
    ((({ wRetry with now := 100 * msNs } : State) : State).linkable (5 : Nat) = true) ∧ ((({ wRetry with now := 100 * msNs } : State) : State).lstate (5 : Nat) = lDOWN) ∧ (((({ wRetry with now := 100 * msNs } : State) : State).lane (5 : Nat)).retry = true) ∧ (((({ wRetry with now := 100 * msNs } : State) : State).lane (5 : Nat)).since + 100 * msNs ≤ (({ wRetry with now := 100 * msNs } : State) : State).now) ∧ ((({ wRetry with now := 100 * msNs } : State) : State).portOf (5 : Nat) = some (5 : Nat)) ∧ (((({ wRetry with now := 100 * msNs } : State) : State).port (5 : Nat)).enabled = true) := by decide +kernel

/-- The conditions of the fomWindowEnd clause are met together. -/
theorem test_wit_fomWindowEnd :
    ((wLane 5 lUP : State).linkable (5 : Nat) = true) ∧ ((wLane 5 lUP : State).lstate (5 : Nat) = lUP) := by decide +kernel

/-- The conditions of the fomWindowEnd clause are met together. -/
theorem test_wit_fomWindowTrain :
    ((wLane6 5 lTRAIN : State).linkable (5 : Nat) = true) ∧ ((wLane6 5 lTRAIN : State).lstate (5 : Nat) = lTRAIN) ∧ ((wLane6 5 lTRAIN : State).rateOf (5 : Nat) = 6) := by decide +kernel

/-- The conditions of the laneSafePoint clause are met together. -/
theorem test_wit_laneSafePoint :
    ((wSafe : State).linkable (5 : Nat) = true) ∧ ((wSafe : State).lstate (5 : Nat) = lUP) ∧ (((wSafe : State).lane (5 : Nat)).safeDue = true) ∧ ((wSafe : State).flag LANE_STATUS.FROZEN (5 : Nat) = false) ∧ (((wSafe : State).lane (5 : Nat)).act.adaptBg = true) ∧ ((wSafe : State).flag LANE_STATUS.READAPT (5 : Nat) = false) := by decide +kernel

/-- The conditions of the laneSafePoint clause are met together. -/
theorem test_wit_laneReadapt :
    ((wSafe.setFld LANE_STATUS.READAPT 5 1 : State).linkable (5 : Nat) = true) ∧ ((wSafe.setFld LANE_STATUS.READAPT 5 1 : State).lstate (5 : Nat) = lUP) ∧ (((wSafe.setFld LANE_STATUS.READAPT 5 1 : State).lane (5 : Nat)).safeDue = true) ∧ ((wSafe.setFld LANE_STATUS.READAPT 5 1 : State).flag LANE_STATUS.FROZEN (5 : Nat) = false) ∧ ((wSafe.setFld LANE_STATUS.READAPT 5 1 : State).flag LANE_STATUS.READAPT (5 : Nat) = true) := by decide +kernel

/-- The conditions of the laneLpiEntry clause are met together. -/
theorem test_wit_laneLpiEntry :
    ((wLaneR 5 lUP 3 : State).linkable (5 : Nat) = true) ∧ ((wLaneR 5 lUP 3 : State).lstate (5 : Nat) = lUP) ∧ (eeePhy ((wLaneR 5 lUP 3 : State).rateOf (5 : Nat)) ((wLaneR 5 lUP 3 : State).lane (5 : Nat)).train = true) := by decide +kernel

/-- The conditions of the steepEntry clause are met together. -/
theorem test_wit_steepEntry :
    ((wSteep lUP : State).steepOk (5 : Nat) = true) ∧ (((wSteep lUP : State).lanesOf (5 : Nat)).all (fun l => (wSteep lUP : State).lstate l == lUP) = true) := by decide +kernel

/-- The conditions of the steepEidleRx clause are met together. -/
theorem test_wit_steepEidleRx :
    ((wSteep lUP : State).steepOk (5 : Nat) = true) ∧ (((wSteep lUP : State).lanesOf (5 : Nat)).any (fun l => (wSteep lUP : State).lstate l == lUP) = true) := by decide +kernel

/-- The conditions of the steepBurstRx clause are met together. -/
theorem test_wit_steepBurstRx :
    ((wSteep lQUIET : State).steepIdle (5 : Nat) = true) := by decide +kernel

/-- The conditions of the laneWakeRequest clause are met together. -/
theorem test_wit_laneWakeRequest :
    ((wLane 5 lQUIET : State).linkable (5 : Nat) = true) ∧ ((wLane 5 lQUIET : State).lstate (5 : Nat) = lQUIET) ∧ ((wLane 5 lQUIET : State).ust (tgt cLANE (5 : Nat)) ≠ uDEEP) ∧ (((wLane 5 lQUIET : State).lane (5 : Nat)).steepIdle = false) := by decide +kernel

/-- The conditions of the laneWakeRequest clause are met together. -/
theorem test_wit_laneWakeSteep :
    ((wSteep lQUIET : State).linkable (5 : Nat) = true) ∧ ((wSteep lQUIET : State).lstate (5 : Nat) = lQUIET) ∧ ((wSteep lQUIET : State).ust (tgt cLANE (5 : Nat)) ≠ uDEEP) ∧ ((wSteep lQUIET : State).portOf (5 : Nat) = some (5 : Nat)) ∧ (((wSteep lQUIET : State).lane (5 : Nat)).steepIdle = true) := by decide +kernel

/-- The conditions of the steepStaleTimer clause are met together. -/
theorem test_wit_steepStaleTimer :
    ((wSteep lQUIET : State).steepIdle (5 : Nat) = true) ∧ (((wSteep lQUIET : State).lanesOf (5 : Nat)).any (wSteep lQUIET : State).stale = true) := by decide +kernel

/-- The conditions of the laneWakeLimit clause are met together. -/
theorem test_wit_laneWakeLimit :
    ((wP 6 pUP lWAKE : State).linkable (5 : Nat) = true) ∧ ((wP 6 pUP lWAKE : State).lstate (5 : Nat) = lWAKE) ∧ (((wP 6 pUP lWAKE : State).lane (5 : Nat)).steepIdle = false) ∧ ((((wP 6 pUP lWAKE : State).setLane (5 : Nat) { (wP 6 pUP lWAKE : State).lane (5 : Nat) with steepIdle := false }).setLState (5 : Nat) lDETECT 1).portOf (5 : Nat) = some (5 : Nat)) := by decide +kernel

/-- The conditions of the laneWakeLimit clause are met together. -/
theorem test_wit_laneWakeLimitSteep :
    ((({ wIdleLane with now := 2 * usNs } : State) : State).linkable (5 : Nat) = true) ∧ ((({ wIdleLane with now := 2 * usNs } : State) : State).lstate (5 : Nat) = lWAKE) ∧ (((({ wIdleLane with now := 2 * usNs } : State) : State).lane (5 : Nat)).steepIdle = true) ∧ (((({ wIdleLane with now := 2 * usNs } : State) : State).lane (5 : Nat)).since + 2 * usNs ≤ (({ wIdleLane with now := 2 * usNs } : State) : State).now) ∧ (((((({ wIdleLane with now := 2 * usNs } : State) : State).ev LANE_EVENT.STEEP_FAIL (5 : Nat)).setLane (5 : Nat) { (({ wIdleLane with now := 2 * usNs } : State) : State).lane (5 : Nat) with steepIdle := false }).setLState (5 : Nat) lDETECT 1).portOf (5 : Nat) = none) := by decide +kernel

/-- The conditions of the twigDeepDoze clause are met together. -/
theorem test_wit_twigDeepDoze :
    ((wTwig : State).deepIdle (3 : Nat) = some (1000 : Nat)) ∧ (((wTwig : State).twig (3 : Nat)).idleAt + (1000 : Nat) * usNs ≤ (wTwig : State).now) ∧ ((wTwig : State).lanesIdle (3 : Nat) = true) ∧ ((wTwig : State).fld CLK_PLL.STATE (0x40 + (3 : Nat)) = 2) ∧ ((wTwig : State).ust (tgt cTWIG (3 : Nat)) = uREADY) := by decide +kernel

/-- The conditions of the twigPllWake clause are met together. -/
theorem test_wit_twigPllWake :
    (((wUnit 2 3 uDEEP).setSrc 4 kREADY : State).ust (tgt cTWIG (3 : Nat)) = uDEEP) ∧ (((wUnit 2 3 uDEEP).setSrc 4 kREADY : State).pllState (0x40 + (3 : Nat)) = 0) ∧ (((wUnit 2 3 uDEEP).setSrc 4 kREADY : State).srcState (((wUnit 2 3 uDEEP).setSrc 4 kREADY : State).fld CLK_PLL.SRC (0x40 + (3 : Nat))) = kREADY) := by decide +kernel

/-- The conditions of the prbsCheckerLock clause are met together. -/
theorem test_wit_prbsCheckerLock :
    ((wPrbs : State).lstate (5 : Nat) = lTEST) ∧ (((wPrbs : State).lane (5 : Nat)).test.chk = true) ∧ (((wPrbs : State).lane (5 : Nat)).test.fed = true) ∧ (checkerLocks ((wPrbs : State).lane (5 : Nat)).test (wPrbsBits : List Bool) = true) := by decide +kernel

/-- The conditions of the prbsCheckerLockLoss clause are met together. -/
theorem test_wit_prbsCheckerLockLoss :
    ((wPrbs.setFld LANE_PRBS_STATUS.CHK_LOCK 5 1 : State).flag LANE_PRBS_STATUS.CHK_LOCK (5 : Nat) = true) ∧ (checkerLoses (900 : Nat) (List.range 512 : List Nat) = true) := by decide +kernel

/-- The conditions of the portAligned clause are met together. -/
theorem test_wit_portAligned :
    ((wPort pALIGNING : State).pstate (5 : Nat) = pALIGNING) ∧ (((wPort pALIGNING : State).lanesOf (5 : Nat)).all (fun l => (wPort pALIGNING : State).lstate l == lUP) = true) ∧ ((wPort pALIGNING : State).flag PORT_STATUS.RF (5 : Nat) = false) ∧ ((wPort pALIGNING : State).portHeld (5 : Nat) = false) ∧ ((wPort pALIGNING : State).laneDup (5 : Nat) = false) := by decide +kernel

/-- The conditions of the portAlignTimeout clause are met together. -/
theorem test_wit_portAlignTimeout :
    ((({ wPort pALIGNING with now := 10 * msNs } : State) : State).pstate (5 : Nat) = pALIGNING) ∧ (((({ wPort pALIGNING with now := 10 * msNs } : State) : State).port (5 : Nat)).retry = false) ∧ (((({ wPort pALIGNING with now := 10 * msNs } : State) : State).port (5 : Nat)).since + 10 * msNs ≤ (({ wPort pALIGNING with now := 10 * msNs } : State) : State).now) := by decide +kernel

/-- The conditions of the portAlignRetry clause are met together. -/
theorem test_wit_portAlignRetry :
    ((({ wPortRetry with now := 100 * msNs } : State) : State).pstate (5 : Nat) = pALIGNING) ∧ (((({ wPortRetry with now := 100 * msNs } : State) : State).port (5 : Nat)).retry = true) ∧ (((({ wPortRetry with now := 100 * msNs } : State) : State).port (5 : Nat)).since + 100 * msNs ≤ (({ wPortRetry with now := 100 * msNs } : State) : State).now) := by decide +kernel

/-- The conditions of the portFaultStart clause are met together. -/
theorem test_wit_portFaultStart :
    (pTRAINING ≤ (wPortHold : State).pstate (5 : Nat)) ∧ ((wPortHold : State).flag PORT_STATUS.RF (5 : Nat) = false) ∧ (((wPortHold : State).port (5 : Nat)).holdoff ≠ 0) := by decide +kernel

/-- The conditions of the portFaultStart clause are met together. -/
theorem test_wit_portFaultLocal :
    (pTRAINING ≤ (wPortHold : State).pstate (5 : Nat)) := by decide +kernel

/-- The conditions of the portHoldoffExpire clause are met together. -/
theorem test_wit_portHoldoffExpire :
    ((({ wPortHold.setFld PORT_STATUS.LF 5 1 with now := 3 * usNs } : State) : State).flag PORT_STATUS.LF (5 : Nat) = true) ∧ (((({ wPortHold.setFld PORT_STATUS.LF 5 1 with now := 3 * usNs } : State) : State).port (5 : Nat)).faultAt + ((({ wPortHold.setFld PORT_STATUS.LF 5 1 with now := 3 * usNs } : State) : State).port (5 : Nat)).holdoff * usNs ≤ (({ wPortHold.setFld PORT_STATUS.LF 5 1 with now := 3 * usNs } : State) : State).now) := by decide +kernel

/-- The conditions of the portFaultClear clause are met together. -/
theorem test_wit_portFaultClear :
    ((wPort pFAULT : State).pstate (5 : Nat) = pFAULT) ∧ (((wPort pFAULT : State).setFld PORT_STATUS.RF (5 : Nat) 0).pstate (5 : Nat) = pFAULT) ∧ (((wPort pFAULT : State).setFld PORT_STATUS.RF (5 : Nat) 0).lanesFine (5 : Nat) = true) := by decide +kernel

/-- The conditions of the pauseTimerExpire clause are met together. -/
theorem test_wit_pauseTimerExpire :
    ((3 : Nat) < 8) ∧ (((State.reset : State).port (5 : Nat)).timers.getD (3 : Nat) 0 ≤ (State.reset : State).now) := by decide +kernel

/-- The conditions of the pauseTimerExpire clause are met together. -/
theorem test_wit_pauseExpire :
    (((State.reset : State).port (5 : Nat)).pauseEnd ≤ (State.reset : State).now) := by decide +kernel

/-- The conditions of the portLpiIdle clause are met together. -/
theorem test_wit_portLpiIdle :
    ((wLpi : State).pstate (5 : Nat) = pUP) ∧ (((wLpi : State).port (5 : Nat)).lpiIdle ≠ 0) ∧ ((wLpi : State).queuesEmpty (5 : Nat) = true) ∧ (eeePhy ((wLpi : State).portRate (5 : Nat)) ((wLpi : State).port (5 : Nat)).train = true) := by decide +kernel

/-- The conditions of the rxFrame clause are met together. -/
theorem test_wit_rxFrame :
    ((5 : Nat) < 512) ∧ ((wPort pUP : State).pstate (5 : Nat) = pUP) ∧ ((wPort pUP : State).boughStopped ((5 : Nat) / 64) = false) ∧ (64 ≤ (wRxBytes : List Nat).length) ∧ ((wRxBytes : List Nat).length ≤ ((wPort pUP : State).port (5 : Nat)).maxFrame) ∧ (fcsField (wRxBytes : List Nat) = fcsOf ((wRxBytes : List Nat).take ((wRxBytes : List Nat).length - 4))) ∧ (fcsField (wRxBytes : List Nat) ≠ 2 ^ 32 - 1 - fcsOf ((wRxBytes : List Nat).take ((wRxBytes : List Nat).length - 4))) ∧ (controlOp (wRxBytes : List Nat) = none) := by decide +kernel

/-- The conditions of the rxFrame clause are met together. -/
theorem test_wit_rxRunt :
    ((5 : Nat) < 512) ∧ ((wPort pUP : State).pstate (5 : Nat) = pUP) ∧ ((wPort pUP : State).boughStopped ((5 : Nat) / 64) = false) ∧ (([1, 2, 3] : List Nat).length < 64) := by decide +kernel

/-- The conditions of the tsPop clause are met together. -/
theorem test_wit_tsPop :
    ((5 : Nat) < 512) ∧ ((wPort pUP : State).busUp 1 = true) ∧ ((wPort pUP : State).busWaits 1 (regOffset .PORT_TS_POP (5 : Nat)) = false) ∧ ((wPort pUP : State).busCheck 1 (regOffset .PORT_TS_POP (5 : Nat)) 1 true true = .inl ⟨.PORT_TS_POP, (5 : Nat), false⟩) := by decide +kernel

/-- The conditions of the flitRx clause are met together. -/
theorem test_wit_flitRx :
    ((wClus cACTIVE : State).dirRuns (3 : Nat) false = true) ∧ ((wClus cACTIVE : State).upFull (3 : Nat) = false) := by decide +kernel

/-- The conditions of the flitRx clause are met together. -/
theorem test_wit_flitRxDn :
    ((wClus cACTIVE : State).dirRuns (3 : Nat) true = true) := by decide +kernel

/-- The conditions of the nakRepeat clause are met together. -/
theorem test_wit_nakRepeat :
    ((({ wNak with now := 64 } : State) : State).carries (3 : Nat) = true) ∧ (((({ wNak with now := 64 } : State) : State).rdir (3 : Nat) false).nak = true) ∧ (((({ wNak with now := 64 } : State) : State).rdir (3 : Nat) false).nakAt + 64 ≤ (({ wNak with now := 64 } : State) : State).now) := by decide +kernel

/-- The conditions of the rootClkLoss clause are met together. -/
theorem test_wit_rootClkLoss :
    ((wClus cACTIVE : State).carries (3 : Nat) = true) := by decide +kernel

/-- The conditions of the rootLaneSwap clause are met together. -/
theorem test_wit_rootLaneSwap :
    ((wSwap cACTIVE : State).carries (3 : Nat) = true) ∧ ((wSwap cACTIVE : State).cstate (3 : Nat) ≠ cSWAP) ∧ (((wSwap cACTIVE : State).rdir (3 : Nat) (false : Bool)).swapRx = true) ∧ (((wSwap cACTIVE : State).rdir (3 : Nat) (false : Bool)).swaps ≠ []) := by decide +kernel

/-- The conditions of the rootSwapPatternEnd clause are met together. -/
theorem test_wit_rootSwapPatternEnd :
    ((({ wSwapOn with now := 1500 } : State) : State).cstate (3 : Nat) = cSWAP) ∧ (((({ wSwapOn with now := 1500 } : State) : State).rdir (3 : Nat) false).swapOn = true) ∧ (((({ wSwapOn with now := 1500 } : State) : State).rdir (3 : Nat) false).swapAt + 1500 ≤ (({ wSwapOn with now := 1500 } : State) : State).now) ∧ ((((((({ wSwapOn with now := 1500 } : State) : State).doSwaps (3 : Nat) false).ev ROOT_EVENT.SWAP_UP (3 : Nat)).replay (3 : Nat) false).rdir (3 : Nat) true).swapOn = false) := by decide +kernel

/-- The conditions of the rootSpareDeskew clause are met together. -/
theorem test_wit_rootSpareFails :
    ((wClus cACTIVE : State).carries (3 : Nat) = true) ∧ ((64 : Nat) = 64 ∨ (64 : Nat) = 65) ∧ ((wClus cACTIVE : State).spareFree (3 : Nat) (false : Bool) (64 : Nat) = true) := by decide +kernel

/-- The conditions of the rootClusterTrain clause are met together. -/
theorem test_wit_rootClusterTrain :
    ((wUnit 14 3 uWAKING : State).ust (tgt cROOT (3 : Nat)) = uWAKING) ∧ ((wUnit 14 3 uWAKING : State).trainOk (3 : Nat) ([] : List Nat) ([] : List Nat) true = true) := by decide +kernel

/-- The conditions of the pinMapChange clause are met together. -/
theorem test_wit_pinMapChange :
    (((wAsk : State).rootBough (1 : Nat)).run = none) ∧ (((wAsk : State).rootBough (1 : Nat)).asked = (⟨0, 3, 0⟩ : MapReq) :: ([] : List MapReq)) ∧ (((((wAsk : State).setRootBough (1 : Nat) { (wAsk : State).rootBough (1 : Nat) with asked := ([] : List MapReq) }).mapBegin (1 : Nat) (⟨0, 3, 0⟩ : MapReq)).rootBough (1 : Nat)).run = some (wAskRun : MapRun)) ∧ ((wAskRun : MapRun).waiting ≠ []) := by decide +kernel

/-- The conditions of the repinFenceRx clause are met together. -/
theorem test_wit_repinFenceRx :
    (((wFenceRun : State).rdir (3 : Nat) false).rxPos ≠ 0) ∧ ((wFenceRun : State).upList (3 : Nat) = .fence (0 : Nat) :: ([] : List UpItem)) ∧ (((wFenceRun : State).rootBough ((3 : Nat) / 16)).run = some (⟨⟨2, 3, 0⟩, [], [3], 0⟩ : MapRun)) ∧ ((0 : Nat) % 65536 = (wFenceRun : State).fld ROOT_MAP_EPOCH.UP ((3 : Nat) / 16)) := by decide +kernel

/-- The conditions of the repinFenceRx clause are met together. -/
theorem test_wit_repinEndRx :
    (((wEndRun : State).rdir (3 : Nat) false).rxPos ≠ 0) ∧ ((wEndRun : State).upList (3 : Nat) = .fin :: ([] : List UpItem)) ∧ (((wEndRun : State).rootBough ((3 : Nat) / 16)).run = some (⟨⟨0, 3, 0⟩, [], [3], 0⟩ : MapRun)) := by decide +kernel

/-- The conditions of the repinEndWaitExpire clause are met together. -/
theorem test_wit_repinEndWaitExpire :
    (((({ wRun with now := 200 * usNs } : State) : State).rootBough (1 : Nat)).run = some (⟨⟨2, 3, 0⟩, [], [3], 0⟩ : MapRun)) ∧ ((⟨⟨2, 3, 0⟩, [], [3], 0⟩ : MapRun).start + 200 * usNs ≤ (({ wRun with now := 200 * usNs } : State) : State).now) ∧ ((⟨⟨2, 3, 0⟩, [], [3], 0⟩ : MapRun).req.kind = 2) := by decide +kernel

/-- The conditions of the reseqGapSkip clause are met together. -/
theorem test_wit_reseqGapSkip :
    (((({ wReseq with now := 250 * usNs } : State) : State).rootBough (egBough (5 : Nat))).reseq = [(wDn : DnFrame)]) ∧ ((wDn : DnFrame).outPort = (5 : Nat)) ∧ (((wDn : DnFrame).pseq + 65536 - (({ wReseq with now := 250 * usNs } : State) : State).nextPseq (5 : Nat)) % 65536 = (2 : Nat)) ∧ ((2 : Nat) ≠ 0) ∧ ((wDn : DnFrame).since + 250 * usNs ≤ (({ wReseq with now := 250 * usNs } : State) : State).now) := by decide +kernel

/-- The conditions of the pipeFrameEntry clause are met together. -/
theorem test_wit_pipeFrameEntry :
    ((wPipe : State).pipeRuns (0 : Nat) = true) ∧ ((wPipe : State).intakeOpen = true) ∧ ((wPipe : State).pipeStalls (0 : Nat) = false) ∧ ((wPipe : State).switchHolds (0 : Nat) = false) ∧ ((wPipe : State).nextSource (0 : Nat) (0 : Nat) = some (.twig 0 : Source)) ∧ ((wPipe : State).takeFrom (.twig 0 : Source) = (((wPipe.takeFrom (.twig 0)).1 : State), some ((wIn : InFrame), (0 : Nat)))) ∧ (badLength (wIn : InFrame) = false) := by decide +kernel

/-- The conditions of the clsResultReturn clause are met together. -/
theorem test_wit_clsResultReturn :
    (((wPf : State).pframesOf (0 : Nat)).find? (fun g => g.n == (1 : Nat) && g.cls.isNone) = some (wPFrame : PFrame)) ∧ ((((wPf : State).pframesOf (0 : Nat)).find? (fun g => !g.ran)).any (fun g => g.n == (1 : Nat)) = true) := by decide +kernel

/-- The conditions of the pipeDispose clause are met together. -/
theorem test_wit_pipeDispose :
    ((wPfRan : State).pframesOf (0 : Nat) = (wPFrameRan : PFrame) :: ([] : List PFrame)) ∧ ((wPFrameRan : PFrame).ran = true) := by decide +kernel

/-- The conditions of the egressProcess clause are met together. -/
theorem test_wit_egressProcess :
    ((wEg : State).egressPipe (5 : Nat) = some (0 : Nat)) ∧ ((wEg : State).macReady (5 : Nat) = true) ∧ ((wEg : State).switchHolds (0 : Nat) = false) ∧ ((wEg : State).nextDn (5 : Nat) (((wEg : State).rootBough (egBough (5 : Nat))).reseq.length + 1) = (((wEg.nextDn 5 2).1 : State), some (wDn : DnFrame))) := by decide +kernel

/-- The conditions of the pipeDozeEntry clause are met together. -/
theorem test_wit_pipeDozeEntry :
    ((({ wPipeIdle with now := 10000 * usNs } : State) : State).ust (tgt cPIPE (0 : Nat)) = uACTIVE) ∧ ((({ wPipeIdle with now := 10000 * usNs } : State) : State).pipeIdleUs (0 : Nat) ≠ 0) ∧ ((({ wPipeIdle with now := 10000 * usNs } : State) : State).pipeIdle (0 : Nat) = true) ∧ ((({ wPipeIdle with now := 10000 * usNs } : State) : State).switchHolds (0 : Nat) = false) ∧ (((({ wPipeIdle with now := 10000 * usNs } : State) : State).pipe (0 : Nat)).fed + (({ wPipeIdle with now := 10000 * usNs } : State) : State).pipeIdleUs (0 : Nat) * usNs ≤ (({ wPipeIdle with now := 10000 * usNs } : State) : State).now) := by decide +kernel

/-- The conditions of the pipeWake clause are met together. -/
theorem test_wit_pipeWake :
    ((wPipeDoze : State).pipeIdle (0 : Nat) = false) ∧ ((wPipeDoze : State).ust (tgt cPIPE (0 : Nat)) = uDOZE) := by decide +kernel

/-- The conditions of the pipeFosterStart clause are met together. -/
theorem test_wit_pipeFosterStart :
    (((wLeave 1 : State).pipe (0 : Nat)).leave = 1) ∧ ((wLeave 1 : State).pframesOf (0 : Nat) = []) ∧ ((wLeave 1 : State).fosterQueue (0 : Nat) = []) ∧ ((((wLeave 1 : State).pipe (0 : Nat)).began - ((wLeave 1 : State).pipe (0 : Nat)).since) / usNs = 0) := by decide +kernel

/-- The conditions of the pipeFosterHandback clause are met together. -/
theorem test_wit_pipeFosterHandback :
    (((((wLeave 4).setFld PIPE_STATUS.SERVED_VALID 0 1).setFld PIPE_STATUS.SERVED_BY 0 1 : State).pipe (0 : Nat)).leave = 4) ∧ ((((wLeave 4).setFld PIPE_STATUS.SERVED_VALID 0 1).setFld PIPE_STATUS.SERVED_BY 0 1 : State).fld PIPE_STATUS.SERVED_BY (0 : Nat) = (1 : Nat)) ∧ ((((wLeave 4).setFld PIPE_STATUS.SERVED_VALID 0 1).setFld PIPE_STATUS.SERVED_BY 0 1 : State).flag PIPE_STATUS.SERVED_VALID (0 : Nat) = true) ∧ (((((wLeave 4).setFld PIPE_STATUS.SERVED_VALID 0 1).setFld PIPE_STATUS.SERVED_BY 0 1 : State).pframesOf (1 : Nat)).any (fun g => g.twig == (0 : Nat)) = false) := by decide +kernel

/-- The conditions of the pipeNoProgress clause are met together. -/
theorem test_wit_pipeNoProgress :
    ((({ wPfRan with now := 10 * usNs } : State) : State).ust (tgt cPIPE (0 : Nat)) = uACTIVE) ∧ ((({ wPfRan with now := 10 * usNs } : State) : State).pframesOf (0 : Nat) ≠ []) ∧ (((({ wPfRan with now := 10 * usNs } : State) : State).pipe (0 : Nat)).held + 10 * usNs ≤ (({ wPfRan with now := 10 * usNs } : State) : State).now) := by decide +kernel

/-- The conditions of the walkerSafePoint clause are met together. -/
theorem test_wit_walkerSafePoint :
    ((0 : Nat) ≤ 8) ∧ ((3 : Nat) < 4) ∧ ((wSafeWalk : State).storeOn (0 : Nat) = true) ∧ ((wSafeWalk : State).ctxState (0 : Nat) (3 : Nat) = 1) ∧ (((wSafeWalk : State).walkRun (0 : Nat) (3 : Nat) 512 0 ((wSafeWalk : State).ctxPc (0 : Nat) (3 : Nat))).2 = .safe (0x4010 : Nat)) := by decide +kernel

/-- The conditions of the walkerSafePoint clause are met together. -/
theorem test_wit_walkerDone :
    ((0 : Nat) ≤ 8) ∧ ((3 : Nat) < 4) ∧ ((wWalk : State).storeOn (0 : Nat) = true) ∧ ((wWalk : State).ctxState (0 : Nat) (3 : Nat) = 1) ∧ (((wWalk : State).walkRun (0 : Nat) (3 : Nat) 512 0 ((wWalk : State).ctxPc (0 : Nat) (3 : Nat))).2 = .done) := by decide +kernel

/-- The conditions of the safeWatchdog clause are met together. -/
theorem test_wit_safeWatchdog :
    ((0 : Nat) ≤ 8) ∧ (0 < (3 : Nat)) ∧ ((3 : Nat) < 4) ∧ ((wLoop : State).ctxState (0 : Nat) (3 : Nat) = 1) ∧ (((wLoop : State).walkRun (0 : Nat) (3 : Nat) 512 0 ((wLoop : State).ctxPc (0 : Nat) (3 : Nat))).2 = .limit (16384 : Nat)) := by decide +kernel

/-- The conditions of the storeScrub clause are met together. -/
theorem test_wit_storeScrub :
    (storeHas (0 : Nat) (0x4000 : Nat) = true) ∧ (0x4000 ≤ (0x4000 : Nat)) ∧ ((State.reset : State).wordBad (0 : Nat) (0x4000 : Nat) = false) := by decide +kernel

/-- The conditions of the patchSetCurrent clause are met together. -/
theorem test_wit_patchSetCurrent :
    (((wPatch : State).store (0 : Nat)).nextSet = some ([7] : List Word)) ∧ ((wPatch : State).prevInUse (0 : Nat) = false) := by decide +kernel

/-- The conditions of the learnExecute clause are met together. -/
theorem test_wit_learnExecute :
    (((wLearn : State).tables1 (1 : Nat)).queue ≠ []) := by decide +kernel

/-- The conditions of the ageTick clause are met together. -/
theorem test_wit_ageTick :
    ((wAgeStart : State).ages (1 : Nat) (0 : Nat) = true) ∧ (tabGet ((wAgeStart : State).tables1 (1 : Nat)).ageNext ((0 : Nat), 0) 0 ≤ (wAgeStart : State).now) ∧ (((wAgeStart : State).setTables1 (1 : Nat) { (wAgeStart : State).tables1 (1 : Nat) with ageNext := tabSet ((wAgeStart : State).tables1 (1 : Nat)).ageNext ((0 : Nat), 0) ((wAgeStart : State).now + nbits ((wAgeStart : State).learnCfg (1 : Nat) (0 : Nat)) 16 16 * (10 * msNs)) 0 }).ageing (1 : Nat) (0 : Nat) = false) := by decide +kernel

/-- The conditions of the ageTick clause are met together. -/
theorem test_wit_ageSlow :
    ((wAge : State).ages (1 : Nat) (0 : Nat) = true) ∧ (tabGet ((wAge : State).tables1 (1 : Nat)).ageNext ((0 : Nat), 0) 0 ≤ (wAge : State).now) ∧ (((wAge : State).setTables1 (1 : Nat) { (wAge : State).tables1 (1 : Nat) with ageNext := tabSet ((wAge : State).tables1 (1 : Nat)).ageNext ((0 : Nat), 0) ((wAge : State).now + nbits ((wAge : State).learnCfg (1 : Nat) (0 : Nat)) 16 16 * (10 * msNs)) 0 }).ageing (1 : Nat) (0 : Nat) = true) := by decide +kernel

/-- The conditions of the learnRecordWrite clause are met together. -/
theorem test_wit_learnRecordWrite :
    (((wRecRoom : State).tables1 (1 : Nat)).recs = (wLearnRec : LearnRec) :: ([] : List LearnRec)) ∧ ((wRecRoom : State).flag TBL_LEARN_CTL.EN (1 : Nat) = true) ∧ (((wRecRoom : State).fld TBL_LEARN_TAIL.TAIL (1 : Nat) + 1) % (wRecRoom : State).learnSize (1 : Nat) ≠ (wRecRoom : State).fld TBL_LEARN_HEAD.HEAD (1 : Nat)) ∧ ((wRecRoom : State).flag TBL_LEARN_CTL.IRQ_EN (1 : Nat) = false) := by decide +kernel

/-- The conditions of the learnRecordWrite clause are met together. -/
theorem test_wit_learnRingFull :
    (((wRec : State).tables1 (1 : Nat)).recs = (wLearnRec : LearnRec) :: ([] : List LearnRec)) ∧ ((wRec : State).flag TBL_LEARN_CTL.EN (1 : Nat) = true) ∧ (((wRec : State).fld TBL_LEARN_TAIL.TAIL (1 : Nat) + 1) % (wRec : State).learnSize (1 : Nat) = (wRec : State).fld TBL_LEARN_HEAD.HEAD (1 : Nat)) := by decide +kernel

/-- The conditions of the learnRingEnable clause are met together. -/
theorem test_wit_learnRingEnable :
    (ringSizeOk (((State.reset.setFld TBL_LEARN_SIZE.RECORDS 1 64 : State).setFld TBL_LEARN_CTL.IRQ_EN (1 : Nat) 1).learnSize (1 : Nat)) 64 65536 = true) ∧ (((State.reset.setFld TBL_LEARN_SIZE.RECORDS 1 64 : State).setFld TBL_LEARN_CTL.IRQ_EN (1 : Nat) 1).flag TBL_LEARN_CTL.EN (1 : Nat) = false) := by decide +kernel

/-- The conditions of the tcamScrub clause are met together. -/
theorem test_wit_tcamScrub :
    ((wOn : State).tcamBad (2 : Nat) (7 : Nat) false = false) ∧ ((wOn : State).tcamBad (2 : Nat) (7 : Nat) true = false) := by decide +kernel

/-- The conditions of the tcamScrub clause are met together. -/
theorem test_wit_tcamScrubBad :
    (((wTcam : State).tcamBad (2 : Nat) (7 : Nat) false || (wTcam : State).tcamBad (2 : Nat) (7 : Nat) true) = true) := by decide +kernel

/-- The conditions of the imbWindowEnd clause are met together. -/
theorem test_wit_imbWindowEnd :
    ((({ State.reset with tod := 100000000000 } : State) : State).winEnd (1 : Nat) ≤ (({ State.reset with tod := 100000000000 } : State) : State).tod) := by decide +kernel

/-- The conditions of the frameAdmit clause are met together. -/
theorem test_wit_frameAdmit :
    ((wOffer : State).mode = mSERVICE) ∧ ((wOffer : State).offersAt (2 : Nat) = (wUp : UpFrame) :: ([] : List UpFrame)) ∧ ((wOffer : State).asmAt (2 : Nat) 1 = none) ∧ ((wUp : UpFrame).gtag = []) := by decide +kernel

/-- The conditions of the frameAdmit clause are met together. -/
theorem test_wit_frameAdmitUp :
    ((wUpIn : State).mode = mSERVICE) ∧ ((wUpIn : State).upList (2 : Nat) = .frame (wUp : UpFrame) :: ([] : List UpItem)) ∧ (diverted (upCarried (wUp : UpFrame)) = false) ∧ ((upCarried (wUp : UpFrame)).head = false) ∧ ((upCarried (wUp : UpFrame)).gone = false) ∧ (firstCellAt (upCarried (wUp : UpFrame)) ≤ ((wUpIn : State).rdir (2 : Nat) false).rxPos) ∧ ((wUpIn : State).inBufAt (2 : Nat) < 4) ∧ (((wUpIn : State).offer (upCarried (wUp : UpFrame)) (2 : Nat)).2 = some (1 : Nat)) := by decide +kernel

/-- The conditions of the frameEofArrive clause are met together. -/
theorem test_wit_frameEofArrive :
    ((wAsm : State).asmAt (2 : Nat) 1 = some (1 : Nat)) ∧ (((wAsm : State).tframe (1 : Nat)).total ≤ ((wAsm : State).tframe (1 : Nat)).cells.length) := by decide +kernel

/-- The conditions of the frameEofArrive clause are met together. -/
theorem test_wit_frameEofUp :
    ((wAsmUp : State).asmAt (2 : Nat) 0 = some (1 : Nat)) ∧ (((wAsmUp : State).tframe (1 : Nat)).total ≤ ((wAsmUp : State).tframe (1 : Nat)).cells.length) ∧ ((wAsmUp : State).upList (2 : Nat) = .frame (wUp : UpFrame) :: ([] : List UpItem)) ∧ (frameUnits (wUp : UpFrame).bytes ≤ ((wAsmUp : State).rdir (2 : Nat) false).rxPos) := by decide +kernel

/-- The conditions of the portHoldEnter clause are met together. -/
theorem test_wit_portHoldEnter :
    ((5 : Nat) < 512) ∧ (((wDown : State).port (5 : Nat)).wentDown = true) ∧ ((wDown : State).holdState (5 : Nat) = 0) ∧ ((wDown : State).fld TUN_PORT_HOLD.QHOLD (5 : Nat) ≠ 0) := by decide +kernel

/-- The conditions of the qholdDeadline clause are met together. -/
theorem test_wit_qholdDeadline :
    ((({ (State.reset.setFld TUN_PORT_HOLD.STATE 5 1) with now := 1000000000 } : State) : State).holdState (5 : Nat) = 1) ∧ ((({ (State.reset.setFld TUN_PORT_HOLD.STATE 5 1) with now := 1000000000 } : State) : State).pstate (5 : Nat) ≠ pUP) ∧ (tabGet (({ (State.reset.setFld TUN_PORT_HOLD.STATE 5 1) with now := 1000000000 } : State) : State).tun.holdAt ((5 : Nat), 0) 0 + (({ (State.reset.setFld TUN_PORT_HOLD.STATE 5 1) with now := 1000000000 } : State) : State).fld TUN_PORT_HOLD.QHOLD (5 : Nat) * usNs ≤ (({ (State.reset.setFld TUN_PORT_HOLD.STATE 5 1) with now := 1000000000 } : State) : State).now) := by decide +kernel

/-- The conditions of the tallyPass clause are met together. -/
theorem test_wit_tallyPass :
    ((State.reset : State).flag TUN_TALLY_CTL.EN = true) ∧ ((State.reset : State).tun.migs = []) ∧ (((State.reset : State).tun.used.map (fun e => e.1.1 * 4096 + e.1.2)).filter (fun x => !(State.reset : State).listedCells.contains x) = []) ∧ ((State.reset : State).listedCells.filter (fun x => !(State.reset : State).cellUsed x) = []) := by decide +kernel

/-- The conditions of the bankLeaveService clause are met together. -/
theorem test_wit_bankLeaveService :
    ((wClosed : State).tun.closed.find? (fun y => y.lbank == (9 : Nat)) = some (⟨9, true, 2⟩ : ClosedBank)) ∧ ((wClosed : State).usedRows (9 : Nat) = []) ∧ ((⟨9, true, 2⟩ : ClosedBank).graft = true) := by decide +kernel

/-- The conditions of the rackBlock clause are met together. -/
theorem test_wit_rackBlock :
    ((wRackOk : State).spilling (80 : Nat) = true) ∧ ((wRackOk : State).mayRack (80 : Nat) = true) ∧ (((wRackOk : State).tqueue (80 : Nat)).rack = none) ∧ (((wRackOk : State).tqueue (80 : Nat)).split = false) ∧ ((wRackOk : State).fld CELLAR_Q_CFG1.HEAD (80 : Nat) + 16 ≤ ((wRackOk : State).flatCells (80 : Nat)).length) ∧ (((wRackOk : State).tqueue (80 : Nat)).blocks.length < (wRackOk : State).fld CELLAR_Q_CFG2.MAXBLK (80 : Nat)) ∧ ((wRackOk : State).rackChan ((wRackOk : State).tqueue (80 : Nat)) = some (3 : Nat)) := by decide +kernel

/-- The conditions of the rackBlock clause are met together. -/
theorem test_wit_rackFull :
    ((wRack : State).spilling (80 : Nat) = true) ∧ ((wRack : State).mayRack (80 : Nat) = true) ∧ (((wRack : State).tqueue (80 : Nat)).rack = none) ∧ (((wRack : State).tqueue (80 : Nat)).split = false) ∧ ((wRack : State).fld CELLAR_Q_CFG1.HEAD (80 : Nat) + 16 ≤ ((wRack : State).flatCells (80 : Nat)).length) ∧ ((wRack : State).fld CELLAR_Q_CFG2.MAXBLK (80 : Nat) ≤ ((wRack : State).tqueue (80 : Nat)).blocks.length) := by decide +kernel

/-- The conditions of the rackWriteDone clause are met together. -/
theorem test_wit_rackWriteDone :
    (((wRackedOk : State).tqueue (80 : Nat)).rack = some (wBlk : Block)) ∧ ((wRackedOk : State).rackReading (80 : Nat) (wBlk : Block).chan = false) ∧ ((wRackedOk : State).mayServe (wBlk : Block).chan 1 = true) ∧ ((wRackedOk : State).flt.planted = []) ∧ (((wRackedOk : State).tqueue (80 : Nat)).split = true) ∧ (((wRackedOk : State).tqueue (80 : Nat)).head + 16 * ((wRackedOk : State).tqueue (80 : Nat)).blocks.length + 16 ≤ ((wRackedOk : State).flatCells (80 : Nat)).length) := by decide +kernel

/-- The conditions of the rackWriteDone clause are met together. -/
theorem test_wit_rackGone :
    (((wRacked : State).tqueue (80 : Nat)).rack = some (wBlk : Block)) ∧ ((wRacked : State).rackReading (80 : Nat) (wBlk : Block).chan = false) ∧ ((wRacked : State).mayServe (wBlk : Block).chan 1 = true) ∧ ((wRacked : State).flt.planted = []) ∧ (((wRacked : State).tqueue (80 : Nat)).split = false) := by decide +kernel

/-- The conditions of the drawIssue clause are met together. -/
theorem test_wit_drawIssue :
    (((wDraw 0 : State).tqueue (80 : Nat)).split = true) ∧ (((wDraw 0 : State).tqueue (80 : Nat)).head + 16 * (((wDraw 0 : State).tqueue (80 : Nat)).blocks.filter (fun b => b.stage != 0)).length < (wDraw 0 : State).fld CELLAR_Q_CFG1.HEAD (80 : Nat)) ∧ ((((wDraw 0 : State).tqueue (80 : Nat)).blocks.filter (fun b => b.stage != 0)).length < 16) ∧ (nextDraw ((wDraw 0 : State).tqueue (80 : Nat)).blocks = some (0 : Nat)) ∧ ((((wDraw 0 : State).tqueue (80 : Nat)).blocks[(0 : Nat)]?).any (fun b => (wDraw 0 : State).chanStopped b.chan) = false) := by decide +kernel

/-- The conditions of the drawComplete clause are met together. -/
theorem test_wit_drawComplete :
    (((wDraw 1 : State).tqueue (80 : Nat)).blocks.find? (fun y => y.bseq == (0 : Nat) && y.stage == 1) = some (wBlkD : Block)) ∧ ((List.range 512).any (wDraw 1 : State).canWrite = true) ∧ (16 ≤ (wDraw 1 : State).fld TUN_FREE.CELLS) ∧ ((wDraw 1 : State).clusterWrites (8 * (wBlkD : Block).chan) = false) ∧ ((wDraw 1 : State).mayServe (wBlkD : Block).chan 0 = true) ∧ ((wDraw 1 : State).flt.planted = []) := by decide +kernel

/-- The conditions of the cellarRetrain clause are met together. -/
theorem test_wit_cellarRetrain :
    ((wUnit 9 3 uACTIVE : State).ust (tgt cCELLAR (3 : Nat)) = uACTIVE) ∧ ((List.range 16).any (wUnit 9 3 uACTIVE : State).retraining = false) := by decide +kernel

/-- The conditions of the cellarChannelRetire clause are met together. -/
theorem test_wit_cellarChannelRetire :
    ((wLeaving : State).cellar.leaving.find? (fun y => y.chan == (3 : Nat)) = some (⟨3, false, 3⟩ : ChanLeave)) ∧ (tabRow (wLeaving : State).cellar.slots (3 : Nat) = []) := by decide +kernel

/-- The conditions of the cellarChannelDead clause are met together. -/
theorem test_wit_cellarChannelDead :
    ((wUnit 9 3 uACTIVE : State).ust (tgt cCELLAR (3 : Nat)) = uACTIVE) ∧ ((wUnit 9 3 uACTIVE : State).cellar.leaving = []) ∧ (((wUnit 9 3 uACTIVE : State).chanLeave (3 : Nat) false 3).tun.queues = []) ∧ (((wUnit 9 3 uACTIVE : State).chanLeave (3 : Nat) false 3).cellar.leaving.find? (fun y => y.chan == (3 : Nat)) = some (⟨3, false, 3⟩ : ChanLeave)) := by decide +kernel

/-- The conditions of the cellarWinAccess clause are met together. -/
theorem test_wit_cellarWinAccess :
    ((wWin : State).lands 1 .CELLAR_WIN_CTL 0) ∧ (bitsAt (1 : Word) 0 1 = 1) ∧ ((wWin : State).flag CELLAR_WIN_CTL.BUSY = false) ∧ ((wWin : State).fld CELLAR_WIN_ADDR.LINE < (wWin : State).partLines ((wWin : State).fld CELLAR_WIN_ADDR.PART)) := by decide +kernel

/-- The conditions of the cellarWinDone clause are met together. -/
theorem test_wit_cellarWinDone :
    ((wWinWr : State).cellar.win = some true) ∧ ((wWinWr : State).mayServe (wWinWr : State).winChan 2 = true) ∧ ((((({ wWinWr.extUsed wWinWr.winChan with cellar.win := none } : State).setFld CELLAR_WIN_CTL.BUSY 0 0).perf (tunSet 8) 0x284) : State) = ((({ (wWinWr : State).extUsed (wWinWr : State).winChan with cellar.win := none } : State).setFld CELLAR_WIN_CTL.BUSY 0 0).perf (tunSet 8) 0x284)) ∧ ((((({ wWinWr.extUsed wWinWr.winChan with cellar.win := none } : State).setFld CELLAR_WIN_CTL.BUSY 0 0).perf (tunSet 8) 0x284) : State).fld CELLAR_WIN_ADDR.LINE < (((({ wWinWr.extUsed wWinWr.winChan with cellar.win := none } : State).setFld CELLAR_WIN_CTL.BUSY 0 0).perf (tunSet 8) 0x284) : State).partLines ((((({ wWinWr.extUsed wWinWr.winChan with cellar.win := none } : State).setFld CELLAR_WIN_CTL.BUSY 0 0).perf (tunSet 8) 0x284) : State).fld CELLAR_WIN_ADDR.PART)) := by decide +kernel

/-- The conditions of the cellarWinDone clause are met together. -/
theorem test_wit_cellarWinRead :
    ((wWinRd : State).cellar.win = some false) ∧ ((wWinRd : State).mayServe (wWinRd : State).winChan 2 = true) ∧ ((((({ wWinRd.extUsed wWinRd.winChan with cellar.win := none } : State).setFld CELLAR_WIN_CTL.BUSY 0 0).perf (tunSet 8) 0x284) : State) = ((({ (wWinRd : State).extUsed (wWinRd : State).winChan with cellar.win := none } : State).setFld CELLAR_WIN_CTL.BUSY 0 0).perf (tunSet 8) 0x284)) ∧ ((((({ wWinRd.extUsed wWinRd.winChan with cellar.win := none } : State).setFld CELLAR_WIN_CTL.BUSY 0 0).perf (tunSet 8) 0x284) : State).fld CELLAR_WIN_ADDR.LINE < (((({ wWinRd.extUsed wWinRd.winChan with cellar.win := none } : State).setFld CELLAR_WIN_CTL.BUSY 0 0).perf (tunSet 8) 0x284) : State).partLines ((((({ wWinRd.extUsed wWinRd.winChan with cellar.win := none } : State).setFld CELLAR_WIN_CTL.BUSY 0 0).perf (tunSet 8) 0x284) : State).fld CELLAR_WIN_ADDR.PART)) := by decide +kernel

/-- The conditions of the schedPick clause are met together. -/
theorem test_wit_schedPick :
    ((State.reset.setFld GLB_MODE.MODE 0 mSERVICE : State).mode = mSERVICE) ∧ ((State.reset.setFld GLB_MODE.MODE 0 mSERVICE : State).quadStopped 0 = false) ∧ ((State.reset.setFld GLB_MODE.MODE 0 mSERVICE : State).quadStopped (egBough (5 : Nat) / 2) = false) ∧ ((State.reset.setFld GLB_MODE.MODE 0 mSERVICE : State).lpiHolds (5 : Nat) = false) := by decide +kernel

/-- The conditions of the dnAck clause are met together. -/
theorem test_wit_dnAck :
    ((wAck : State).dnList (3 : Nat) = (wDn1 : DnFrame) :: ([] : List DnFrame)) ∧ ((wDn1 : DnFrame).got = true) ∧ (frameUnits (wDn1 : DnFrame).bytes ≤ ((wAck : State).rdir (3 : Nat) true).ackPos) ∧ ((wAck : State).unread (wDn1 : DnFrame).fid = false) := by decide +kernel

/-- The conditions of the pfcXoffChange clause are met together. -/
theorem test_wit_pfcXoffChange :
    ((5 : Nat) < 512) := by decide +kernel

/-- The conditions of the pfcRefreshTimer clause are met together. -/
theorem test_wit_pfcRefreshTimer :
    ((5 : Nat) < 512) ∧ ((({ wPfc with now := 1000000000 } : State) : State).pstate (5 : Nat) = pUP) ∧ (((({ wPfc with now := 1000000000 } : State) : State).sport (5 : Nat)).sentAt + quantaNs (speedMbps ((({ wPfc with now := 1000000000 } : State) : State).portSpeed (5 : Nat))) ((({ wPfc with now := 1000000000 } : State) : State).port (5 : Nat)).refresh ≤ (({ wPfc with now := 1000000000 } : State) : State).now) ∧ (((({ wPfc with now := 1000000000 } : State) : State).port (5 : Nat)).pfcMode = 2) ∧ (Nat.land ((({ wPfc with now := 1000000000 } : State) : State).fld SCHED_P_PFC.XOFF (5 : Nat)) ((({ wPfc with now := 1000000000 } : State) : State).port (5 : Nat)).txEn ≠ 0) := by decide +kernel

/-- The conditions of the pfcWdCheck clause are met together. -/
theorem test_wit_pfcWdCheck :
    ((wWd : State).flag SCHED_Q_CFG.WD_EN (80 : Nat) = true) ∧ (((wWd : State).squeue (80 : Nat)).chk ≤ (wWd : State).now) ∧ ((wWd : State).fld SCHED_Q_STATE.WD (80 : Nat) = 0) ∧ (((wWd : State).tqueue (80 : Nat)).frames ≠ []) ∧ ((wWd : State).wdCauses (80 : Nat) ≠ 0) ∧ (((wWd : State).squeue (80 : Nat)).stuck = some (0 : Nat)) ∧ (Nat.land ((wWd : State).squeue (80 : Nat)).cause ((wWd : State).wdCauses (80 : Nat)) ≠ 0) ∧ ((0 : Nat) + ((wWd : State).squeue (80 : Nat)).detect * msNs ≤ (wWd : State).now) := by decide +kernel

/-- The conditions of the todSet clause are met together. -/
theorem test_wit_todSet :
    (({ State.reset with todPend := 1 } : State).todPend = 1) := by decide +kernel

/-- The conditions of the todStep clause are met together. -/
theorem test_wit_todStep :
    (({ State.reset with todPend := 2 } : State).todPend = 2) := by decide +kernel

/-- The conditions of the ppsOutEdge clause are met together. -/
theorem test_wit_ppsOutEdge :
    ((({ State.reset.setFld TELEM_TOD_CTL.PPS_OUT_EN 0 1 with tod := 1000000000 } : State) : State).flag TELEM_TOD_CTL.PPS_OUT_EN = true) ∧ ((({ State.reset.setFld TELEM_TOD_CTL.PPS_OUT_EN 0 1 with tod := 1000000000 } : State) : State).atSecond = true) ∧ ((({ State.reset.setFld TELEM_TOD_CTL.PPS_OUT_EN 0 1 with tod := 1000000000 } : State) : State).ppsFall = none) := by decide +kernel

/-- The conditions of the ppsInEdge clause are met together. -/
theorem test_wit_ppsInEdge :
    ((State.reset.setFld TELEM_TOD_CTL.PPS_IN_EN 0 1 : State).flag TELEM_TOD_CTL.PPS_IN_EN = true) := by decide +kernel

/-- The conditions of the exportFrameBuild clause are met together. -/
theorem test_wit_exportFrameBuild :
    ((wExp : State).mayBuild (1 : Nat) = true) ∧ (((wExp : State).stream (1 : Nat)).flushUs = 0 ∨ ((wExp : State).stream (1 : Nat)).maxB ≤ ((wExp : State).waitingRecs (1 : Nat)).flatten.length) := by decide +kernel

/-- The conditions of the exportFlushTimer clause are met together. -/
theorem test_wit_exportFlushTimer :
    ((wExp : State).mayBuild (1 : Nat) = true) ∧ ((wExp : State).firstWait (1 : Nat) + ((wExp : State).stream (1 : Nat)).flushUs * usNs ≤ (wExp : State).now) := by decide +kernel

/-- The conditions of the exportFrameLost clause are met together. -/
theorem test_wit_exportFrameLost :
    (({ wExp with expLost := [(1, 0, 3)] } : State).expLost = ((1 : Nat), (0 : Nat), (3 : Nat)) :: ([] : List (Nat × Nat × Nat))) ∧ (({ wExp with expLost := [(1, 0, 3)] } : State).flag TELEM_STR_STATUS.EN (1 : Nat) = true) := by decide +kernel

/-- The conditions of the exportFrameLost clause are met together. -/
theorem test_wit_exportLostOff :
    (({ State.reset with expLost := [(1, 0, 3)] } : State).expLost = ((1 : Nat), (0 : Nat), (3 : Nat)) :: ([] : List (Nat × Nat × Nat))) ∧ (({ State.reset with expLost := [(1, 0, 3)] } : State).flag TELEM_STR_STATUS.EN (1 : Nat) = false) := by decide +kernel

/-- The conditions of the perfIntervalEnd clause are met together. -/
theorem test_wit_perfIntervalEnd :
    ((({ wPerf with now := 10 } : State) : State).flag (setOfTarget (0x5003 : Nat)).1.run (setOfTarget (0x5003 : Nat)).1.idx = true) ∧ (tabGet (({ wPerf with now := 10 } : State) : State).perfInt (tCls (0x5003 : Nat), tInst (0x5003 : Nat)) 0 ≠ 0) ∧ (tabGet (({ wPerf with now := 10 } : State) : State).perfInt (tCls (0x5003 : Nat), tInst (0x5003 : Nat)) 0 ≤ (({ wPerf with now := 10 } : State) : State).now) := by decide +kernel

/-- The conditions of the gristContrib clause are met together. -/
theorem test_wit_gristContrib :
    ((wContrib : State).staged (3 : Nat) = (wGrf : UpFrame) :: ([] : List UpFrame)) ∧ ((wContrib : State).gristKind (egOf (wGrf : UpFrame)) (gristHdr (wGrf : UpFrame)) = .contrib (wGroup : GGroup)) := by decide +kernel

/-- The conditions of the gristChunkTimeout clause are met together. -/
theorem test_wit_gristChunkTimeout :
    ((({ wGrp wGroupN with now := 1000000 } : State) : State).group (7 : Nat) = some (wGroupN : GGroup)) ∧ (chunkOf (wGroupN : GGroup) (0 : Nat) = some (wChunkT : GChunk)) ∧ ((wChunkT : GChunk).timer = some (0 : Nat)) ∧ ((0 : Nat) + 1000 * (wGroupN : GGroup).timeout ≤ (({ wGrp wGroupN with now := 1000000 } : State) : State).now) ∧ ((wChunkT : GChunk).st ≠ 2) ∧ ((wChunkT : GChunk).nacks < (wGroupN : GGroup).retries) := by decide +kernel

/-- The conditions of the gristChunkTimeout clause are met together. -/
theorem test_wit_gristChunkFails :
    ((({ wGrp wGroupT with now := 1000000 } : State) : State).group (7 : Nat) = some (wGroupT : GGroup)) ∧ (chunkOf (wGroupT : GGroup) (0 : Nat) = some (wChunkT : GChunk)) ∧ ((wChunkT : GChunk).timer = some (0 : Nat)) ∧ ((0 : Nat) + 1000 * (wGroupT : GGroup).timeout ≤ (({ wGrp wGroupT with now := 1000000 } : State) : State).now) ∧ ((wChunkT : GChunk).st ≠ 2) ∧ ((wGroupT : GGroup).retries ≤ (wChunkT : GChunk).nacks) := by decide +kernel

/-- The conditions of the gristEmit clause are met together. -/
theorem test_wit_gristEmit :
    ((wGrp wGroupE : State).group (7 : Nat) = some (wGroupE : GGroup)) ∧ ((wGroupE : GGroup).chunks = (wChunkE : GChunk) :: ([] : List GChunk)) ∧ ((wChunkE : GChunk).st = 3) ∧ ((wGrp wGroupE : State).slotHeld (wChunkE : GChunk).slot = false) ∧ ((wChunkE : GChunk).sent = false) := by decide +kernel

/-- The conditions of the gristResultRetry clause are met together. -/
theorem test_wit_gristResultRetry :
    ((wTurnedTwo : State).turned (3 : Nat) = some ((wUp : UpFrame), (0 : Nat), (0 : Nat))) ∧ ((wTurnedTwo : State).now < (0 : Nat) + msNs) ∧ ((0 : Nat) + 2000 ≤ (wTurnedTwo : State).now) ∧ ((wTurnedTwo : State).asmAt (2 * (3 : Nat) + 1) 1 = none) ∧ (((wTurnedTwo : State).offer (wUp : UpFrame) (2 * (3 : Nat) + 1)).2 = some (1 : Nat)) := by decide +kernel

/-- The conditions of the gristResultRetry clause are met together. -/
theorem test_wit_gristResultDrop :
    ((wTurned : State).turned (3 : Nat) = some ((wUp : UpFrame), (0 : Nat), (0 : Nat))) ∧ ((0 : Nat) + msNs ≤ (wTurned : State).now) := by decide +kernel

/-- The conditions of the gristParentRx clause are met together. -/
theorem test_wit_gristParentRx :
    ((wParent : State).staged (3 : Nat) = (wGpf : UpFrame) :: ([] : List UpFrame)) ∧ ((wParent : State).gristKind (egOf (wGpf : UpFrame)) (gristHdr (wGpf : UpFrame)) = .parent (wGroupC : GGroup)) := by decide +kernel

/-- The conditions of the gristCloseTimeout clause are met together. -/
theorem test_wit_gristCloseTimeout :
    ((({ wGrp wGroupX with now := 100 * msNs } : State) : State).group (7 : Nat) = some (wGroupX : GGroup)) ∧ ((wGroupX : GGroup).closing = some (wClose : GClose)) ∧ ((wClose : GClose).abort = false) ∧ ((wClose : GClose).since + 100 * msNs ≤ (({ wGrp wGroupX with now := 100 * msNs } : State) : State).now) := by decide +kernel

/-- The conditions of the gristChunkReset clause are met together. -/
theorem test_wit_gristChunkReset :
    (((wGrp wGroupE : State).group (7 : Nat)).bind (fun v => chunkOf v (0 : Nat)) = some (wChunkE : GChunk)) ∧ ((wGrp wGroupE : State).slotOf (3 : Nat) = some (wChunkE : GChunk).slot) ∧ ((wChunkE : GChunk).st ≠ 0) ∧ ((wChunkE : GChunk).fail = 0) := by decide +kernel

/-- The conditions of the gristChunkReset clause are met together. -/
theorem test_wit_gristFetchFault :
    (((wGrp wGroupE : State).group (7 : Nat)).bind (fun v => chunkOf v (0 : Nat)) = some (wChunkE : GChunk)) ∧ ((wGrp wGroupE : State).slotOf (3 : Nat) = some (wChunkE : GChunk).slot) ∧ ((wChunkE : GChunk).st ≠ 0) ∧ ((wChunkE : GChunk).fail = 0) := by decide +kernel

/-- The conditions of the gristEngineTakeover clause are met together. -/
theorem test_wit_gristEngineTakeover :
    ((wGLeave : State).grist.leave.find? (fun (wLeaveE : GLeave) => (wLeaveE : GLeave).engine == (3 : Nat)) = some (wLeaveE : GLeave)) ∧ ((wGLeave : State).slotOf (3 : Nat) = some (3 : Nat)) ∧ ((wLeaveE : GLeave).kind ≠ 4) ∧ ((wGLeave : State).spareEngines (3 : Nat) = (64 : Nat) :: (wGLeave.spareEngines 3 |>.drop 1 : List Nat)) := by decide +kernel

/-- The conditions of the gristSlotLoss clause are met together. -/
theorem test_wit_gristSlotLoss :
    ((wGLoss : State).grist.leave.find? (fun (wLeaveE : GLeave) => (wLeaveE : GLeave).engine == (3 : Nat)) = some (wLeaveE : GLeave)) ∧ ((wGLoss : State).slotOf (3 : Nat) = some (3 : Nat)) ∧ ((wLeaveE : GLeave).kind ≠ 4) ∧ ((wLeaveE : GLeave).kind ≠ 3 ∨ (wLeaveE : GLeave).dest = 0) ∧ ((wGLoss : State).spareEngines (3 : Nat) = []) := by decide +kernel

/-- The conditions of the gristEngineDoze clause are met together. -/
theorem test_wit_gristEngineDoze :
    ((({ wEngine with now := 20000 } : State) : State).slotOf (3 : Nat) = some (3 : Nat)) ∧ ((({ wEngine with now := 20000 } : State) : State).ust (tgt cGRIST (3 : Nat)) = uACTIVE) ∧ (tabGet (({ wEngine with now := 20000 } : State) : State).grist.busyAt ((3 : Nat), 0) 0 + 20000 ≤ (({ wEngine with now := 20000 } : State) : State).now) ∧ ((({ wEngine with now := 20000 } : State) : State).grist.groups = []) ∧ ((({ wEngine with now := 20000 } : State) : State).stagedFor (3 : Nat) = false) ∧ ((({ wEngine with now := 20000 } : State) : State).hintAwake (3 : Nat) = false) := by decide +kernel

/-- The conditions of the bootStart clause are met together. -/
theorem test_wit_bootStart :
    ((State.reset : State).life.boot = 1) ∧ ((((State.reset : State).startClocks.showFlash).freshStart.romLoader).2 = none) := by decide +kernel

/-- The conditions of the bootStart clause are met together. -/
theorem test_wit_bootSlot :
    ((({ State.reset with life.boot := 3 } : State) : State).life.boot = 3) ∧ ((({ State.reset with life.boot := 3 } : State).startClocks.showFlash : State) = (({ State.reset with life.boot := 3 } : State) : State).startClocks.showFlash) := by decide +kernel

/-- The conditions of the steepStepGrant clause are met together. -/
theorem test_wit_steepStepGrant :
    ((({ wSteps with now := 1000000000 } : State) : State).life.steps = (2 : Nat) :: ([3] : List Nat)) ∧ ((({ wSteps with now := 1000000000 } : State) : State).life.ramp = none) ∧ ((Nat.max wSteps.life.good (wSteps.life.t0 + wSteps.life.slip + stepOff 2 * usNs) : Nat) = Nat.max (({ wSteps with now := 1000000000 } : State) : State).life.good ((({ wSteps with now := 1000000000 } : State) : State).life.t0 + (({ wSteps with now := 1000000000 } : State) : State).life.slip + stepOff (2 : Nat) * usNs)) ∧ ((Nat.max wSteps.life.good (wSteps.life.t0 + wSteps.life.slip + stepOff 2 * usNs) : Nat) ≤ (({ wSteps with now := 1000000000 } : State) : State).now) ∧ (((0 : Nat) + 10 * stepPeak (2 : Nat)) * 10000 ≤ 828 * (1200 : Nat) * (({ wSteps with now := 1000000000 } : State) : State).fld PWR_CAP_CUR.I_LIMIT) := by decide +kernel

/-- The conditions of the domainPowerGood clause are met together. -/
theorem test_wit_domainPowerGood :
    ((wRamp 26 : State).life.ramp = some (26 : Nat)) ∧ ((domPlls (26 : Nat)).all (wRamp 26 : State).pllPasses = true) := by decide +kernel

/-- The conditions of the regulatorFail clause are met together. -/
theorem test_wit_regulatorFail :
    ((({ wRamp 6 with now := 2 * msNs } : State) : State).life.ramp = some (6 : Nat)) ∧ ((({ wRamp 6 with now := 2 * msNs } : State) : State).life.began + 2 * msNs ≤ (({ wRamp 6 with now := 2 * msNs } : State) : State).now) ∧ ((6 : Nat) ≠ 1) ∧ ((6 : Nat) ≠ 26) := by decide +kernel

/-- The conditions of the regulatorProtectionTrip clause are met together. -/
theorem test_wit_regulatorProtectionTrip :
    (0 < (6 : Nat)) ∧ ((6 : Nat) ≤ 26) ∧ ((wDom 6 : State).domOn (6 : Nat) = true) := by decide +kernel

/-- The conditions of the selfTestDone clause are met together. -/
theorem test_wit_selfTestDone :
    (({ State.reset with life.tests := [22] } : State).life.tests.contains (22 : Nat) = true) ∧ (4 < (22 : Nat)) := by decide +kernel

/-- The conditions of the cellarTrainingDone clause are met together. -/
theorem test_wit_cellarTrainingDone :
    ((3 : Nat) < 16) ∧ ((wUnit 9 3 uWAKING : State).ust (tgt cCELLAR (3 : Nat)) = uWAKING) := by decide +kernel

/-- The conditions of the drainComplete clause are met together. -/
theorem test_wit_drainComplete :
    ((wDrain : State).toDrain = true) ∧ ((wDrain : State).emptied = true) := by decide +kernel

/-- The conditions of the drainLimitExpire clause are met together. -/
theorem test_wit_drainLimitExpire :
    ((wDrainQ : State).toDrain = true) ∧ ((wDrainQ : State).life.since + (wDrainQ : State).life.limit * msNs ≤ (wDrainQ : State).now) ∧ ((wDrainQ : State).emptied = false) := by decide +kernel

/-- The conditions of the clkSrcEnWrite clause are met together. -/
theorem test_wit_clkSrcEnWrite :
    (1 ≤ (4 : Nat)) ∧ ((4 : Nat) ≤ 5) ∧ (((State.reset : State).setFld CLK_SRC.EN (4 : Nat) 1).srcState (4 : Nat) = kOFF) := by decide +kernel

/-- The conditions of the clkSrcEnWrite clause are met together. -/
theorem test_wit_clkSrcOff :
    (1 ≤ (4 : Nat)) ∧ ((4 : Nat) ≤ 5) ∧ ((State.reset : State).srcUsed (4 : Nat) = false) := by decide +kernel

/-- The conditions of the clkTrimWrite clause are met together. -/
theorem test_wit_clkTrimWrite :
    ((1 : Nat) < 2) := by decide +kernel

/-- The conditions of the chainEnWrite clause are met together. -/
theorem test_wit_chainEnWrite :
    (isPll (0x20 : Nat) = true) ∧ ((((wBoot0 : State).setFld CLK_PLL.CHAIN_EN (0x20 : Nat) (1 : Nat)).pll (0x20 : Nat)).wait = none) ∧ ((((wBoot0 : State).setFld CLK_PLL.CHAIN_EN (0x20 : Nat) (1 : Nat)).pll (0x20 : Nat)).want = none) := by decide +kernel

/-- The conditions of the chainEnWrite clause are met together. -/
theorem test_wit_chainEnWaits :
    (isPll (0x20 : Nat) = true) ∧ ((((wPllWait : State).setFld CLK_PLL.CHAIN_EN (0x20 : Nat) (0 : Nat)).pll (0x20 : Nat)).wait.isSome = true) := by decide +kernel

/-- The conditions of the clkMonitorWindow clause are met together. -/
theorem test_wit_clkMonitorWindow :
    (1 ≤ (2 : Nat)) ∧ ((2 : Nat) ≤ 5) ∧ ((wSrc 2 kREADY : State).srcState (2 : Nat) ≠ kOFF) ∧ ((windowLimits (2 : Nat)).1 ≤ ((windowLimits 2).1 : Nat)) ∧ (((windowLimits 2).1 : Nat) ≤ (windowLimits (2 : Nat)).2) := by decide +kernel

/-- The conditions of the clkMonitorWindow clause are met together. -/
theorem test_wit_clkMonitorTrip :
    (1 ≤ (2 : Nat)) ∧ ((2 : Nat) ≤ 5) ∧ ((wSrc 2 kREADY : State).srcState (2 : Nat) = kREADY) ∧ ((0 : Nat) < (windowLimits (2 : Nat)).1 ∨ (windowLimits (2 : Nat)).2 < (0 : Nat)) := by decide +kernel

/-- The conditions of the clkSourceReady clause are met together. -/
theorem test_wit_clkSourceReady :
    (1 ≤ (2 : Nat)) ∧ ((2 : Nat) ≤ 5) ∧ ((({ wSrc 2 kSTARTING with clk.goodWin := [((2, 0), 1)] } : State) : State).srcState (2 : Nat) = kSTARTING) ∧ ((({ wSrc 2 kSTARTING with clk.goodWin := [((2, 0), 1)] } : State) : State).winsNeeded (2 : Nat) ≤ tabGet (({ wSrc 2 kSTARTING with clk.goodWin := [((2, 0), 1)] } : State) : State).clk.goodWin ((2 : Nat), 0) 0) := by decide +kernel

/-- The conditions of the clkStartTimeout clause are met together. -/
theorem test_wit_clkStartTimeout :
    (1 ≤ (2 : Nat)) ∧ ((2 : Nat) ≤ 5) ∧ ((({ wSrc 2 kSTARTING with now := 20 * msNs } : State) : State).srcState (2 : Nat) = kSTARTING) ∧ ((({ wSrc 2 kSTARTING with now := 20 * msNs } : State) : State).srcSince (2 : Nat) + (({ wSrc 2 kSTARTING with now := 20 * msNs } : State) : State).srcTimeout (2 : Nat) ≤ (({ wSrc 2 kSTARTING with now := 20 * msNs } : State) : State).now) ∧ (pllList.filter (fun i => ((((({ wSrc 2 kSTARTING with now := 20 * msNs } : State) : State).setSrc (2 : Nat) kFAILED).ev CLK_EVENT.START_TIMEOUT).bootClock (2 : Nat)).pllState i == 3 && (((((({ wSrc 2 kSTARTING with now := 20 * msNs } : State) : State).setSrc (2 : Nat) kFAILED).ev CLK_EVENT.START_TIMEOUT).bootClock (2 : Nat)).pll i).wait == some (2 : Nat)) = []) := by decide +kernel

/-- The conditions of the clkSourceRetry clause are met together. -/
theorem test_wit_clkSourceRetry :
    (1 ≤ (2 : Nat)) ∧ ((2 : Nat) ≤ 5) ∧ ((({ wSrc 2 kFAILED with now := 1000 * msNs } : State) : State).srcState (2 : Nat) = kFAILED) ∧ ((({ wSrc 2 kFAILED with now := 1000 * msNs } : State) : State).flag CLK_SRC.EN (2 : Nat) = true) ∧ ((({ wSrc 2 kFAILED with now := 1000 * msNs } : State) : State).srcSince (2 : Nat) + 1000 * msNs ≤ (({ wSrc 2 kFAILED with now := 1000 * msNs } : State) : State).now) := by decide +kernel

/-- The conditions of the muxForceSelect clause are met together. -/
theorem test_wit_muxForceSelect :
    (((wWant : State).pll (0x20 : Nat)).want = some (2 : Nat)) ∧ ((wWant : State).pllState (0x20 : Nat) ≠ 2) := by decide +kernel

/-- The conditions of the muxForceSelect clause are met together. -/
theorem test_wit_muxForceLocked :
    (((wWant.setFld CLK_PLL.STATE 0x20 2 : State).pll (0x20 : Nat)).want = some (2 : Nat)) ∧ ((wWant.setFld CLK_PLL.STATE 0x20 2 : State).pllState (0x20 : Nat) = 2) := by decide +kernel

/-- The conditions of the pllLocked clause are met together. -/
theorem test_wit_pllLocked :
    (isPll (0x20 : Nat) = true) ∧ ((State.reset.setFld CLK_PLL.STATE 0x20 1 : State).pllState (0x20 : Nat) = 1) ∧ (((State.reset.setFld CLK_PLL.STATE 0x20 1 : State).pll (0x20 : Nat)).dead = false) := by decide +kernel

/-- The conditions of the pllLockLoss clause are met together. -/
theorem test_wit_pllLockLoss :
    (isPll (0x20 : Nat) = true) ∧ ((wLocked : State).pllState (0x20 : Nat) = 2) ∧ ((wLoses : State) = (((wLocked : State).satFld CLK_PLL.LOCK_LOSS (0x20 : Nat) 1).ev CLK_EVENT.LOCK_LOSS).raise 0x0205 kRETRIED (tgt cCLK (0x20 : Nat)) 0) ∧ ((wLost : State) = ((((wLoses : State).setFld CLK_PLL.STATE (0x20 : Nat) 1).closeGate (0x20 : Nat)).showTwigTx (wLoses : State) (0x20 : Nat)).notePerm (tgt cCLK (0x20 : Nat)) 0x0205) ∧ ((wLost : State).permCount (tgt cCLK (0x20 : Nat)) 0x0205 (10 * msNs) < 4) := by decide +kernel

/-- The conditions of the trimMeasure clause are met together. -/
theorem test_wit_trimMeasure :
    ((0 : Nat) < 2) ∧ ((wSrc 2 kREADY |>.setFld CLK_TRIM_CTL.REF 0 0 : State).flag (autoFld (0 : Nat)) = true) ∧ ((wSrc 2 kREADY |>.setFld CLK_TRIM_CTL.REF 0 0 : State).trimRef ((wSrc 2 kREADY |>.setFld CLK_TRIM_CTL.REF 0 0 : State).fld CLK_TRIM_CTL.REF) = true) ∧ (tabGet (wSrc 2 kREADY |>.setFld CLK_TRIM_CTL.REF 0 0 : State).clk.trimAt ((0 : Nat), 0) 0 ≤ (wSrc 2 kREADY |>.setFld CLK_TRIM_CTL.REF 0 0 : State).now) := by decide +kernel

/-- The conditions of the sircFault clause are met together. -/
theorem test_wit_sircFault :
    ((97 : Nat) ≤ 800) := by decide +kernel

/-- The conditions of the sircFault clause are met together. -/
theorem test_wit_sircSlow :
    (800 < (900 : Nat)) ∧ ((State.reset : State).clk.sircBad = false) := by decide +kernel

/-- The conditions of the usbSofMark clause are met together. -/
theorem test_wit_usbSofMark :
    (((State.reset.ev SVC_USB.CONN).ev SVC_USB.CONFIGURED : State).flag SVC_USB.CONN = true) ∧ (((State.reset.ev SVC_USB.CONN).ev SVC_USB.CONFIGURED : State).flag SVC_USB.CONFIGURED = true) := by decide +kernel

/-- The conditions of the vinRecover clause are met together. -/
theorem test_wit_vinRecover :
    (({ State.reset with life.low := [2] } : State).life.low.contains 2 = true) := by decide +kernel

/-- The conditions of the capTick clause are met together. -/
theorem test_wit_capTick :
    ((wCapped : State).life.boot ≠ 2) ∧ ((wCapped : State).pwr.tickAt ≤ (wCapped : State).now) ∧ (((({ (wCapped : State) with pwr.tickAt := (wCapped : State).now + usNs } : State).capMeasure (1200 : Nat) (0 : Nat) (0 : Nat) ([] : List (Nat × Nat)))).uPower ([] : List (Nat × Nat)) ≤ ((({ (wCapped : State) with pwr.tickAt := (wCapped : State).now + usNs } : State).capMeasure (1200 : Nat) (0 : Nat) (0 : Nat) ([] : List (Nat × Nat)))).capNow * 1000) := by decide +kernel

/-- The conditions of the capTick clause are met together. -/
theorem test_wit_capOver :
    ((wBoot0 : State).life.boot ≠ 2) ∧ ((wBoot0 : State).pwr.tickAt ≤ (wBoot0 : State).now) ∧ (((({ (wBoot0 : State) with pwr.tickAt := (wBoot0 : State).now + usNs } : State).capMeasure (1200 : Nat) (65535 : Nat) (0 : Nat) ([(0, 1000000)] : List (Nat × Nat)))).capNow * 1000 < ((({ (wBoot0 : State) with pwr.tickAt := (wBoot0 : State).now + usNs } : State).capMeasure (1200 : Nat) (65535 : Nat) (0 : Nat) ([(0, 1000000)] : List (Nat × Nat)))).uPower ([(0, 1000000)] : List (Nat × Nat))) := by decide +kernel

/-- The conditions of the capUnmet clause are met together. -/
theorem test_wit_capUnmet :
    (1000 ≤ ({ State.reset with pwr.unmet := 1000 } : State).pwr.unmet) ∧ (({ State.reset with pwr.unmet := 1000 } : State).flag PWR_STAT.CAP_UNMET = false) := by decide +kernel

/-- The conditions of the oppStep clause are met together. -/
theorem test_wit_oppStep :
    ((1 : Nat) < 4) ∧ ((wQuad : State).domOn (domQuad (1 : Nat)) = true) ∧ ((wQuad : State).pllState (0x10 + (1 : Nat)) = 2) := by decide +kernel

/-- The conditions of the droopTrip clause are met together. -/
theorem test_wit_droopTrip :
    (hasDroop (2 : Nat) = true) ∧ ((({ wDom 2 with pwr.vset := [750, 750, 750, 750] } : State) : State).domOn (2 : Nat) = true) ∧ ((({ wDom 2 with pwr.vset := [750, 750, 750, 750] } : State) : State).pwr.tripped.contains (2 : Nat) = false) ∧ ((0 : Nat) + (({ wDom 2 with pwr.vset := [750, 750, 750, 750] } : State) : State).dth (2 : Nat) < (({ wDom 2 with pwr.vset := [750, 750, 750, 750] } : State) : State).vSet (2 : Nat)) ∧ (droopQuad (2 : Nat) = some (1 : Nat)) ∧ ((({ wDom 2 with pwr.vset := [750, 750, 750, 750] } : State) : State).domOn (domQuad (1 : Nat)) = true) := by decide +kernel

/-- The conditions of the droopTrip clause are met together. -/
theorem test_wit_droopTripAlone :
    (hasDroop (6 : Nat) = true) ∧ ((wDom 6 : State).domOn (6 : Nat) = true) ∧ ((wDom 6 : State).pwr.tripped.contains (6 : Nat) = false) ∧ ((0 : Nat) + (wDom 6 : State).dth (6 : Nat) < (wDom 6 : State).vSet (6 : Nat)) ∧ (droopQuad (6 : Nat) = none) := by decide +kernel

/-- The conditions of the droopRecover clause are met together. -/
theorem test_wit_droopRecover :
    (({ State.reset with pwr.tripped := [2] } : State).pwr.tripped.contains (2 : Nat) = true) ∧ (droopQuad (2 : Nat) = some (1 : Nat)) ∧ ((({ State.reset with pwr.tripped := [2] } : State).pwr.tripped.filter (· != (2 : Nat))).contains (domQuad (1 : Nat)) = false) ∧ ((({ State.reset with pwr.tripped := [2] } : State).pwr.tripped.filter (· != (2 : Nat))).contains (domGrist (1 : Nat)) = false) := by decide +kernel

/-- The conditions of the droopRecover clause are met together. -/
theorem test_wit_droopRecoverAlone :
    (({ State.reset with pwr.tripped := [6] } : State).pwr.tripped.contains (6 : Nat) = true) ∧ (droopQuad (6 : Nat) = none) := by decide +kernel

/-- The conditions of the estWindow clause are met together. -/
theorem test_wit_estWindow :
    ((6 : Nat) ≤ 26) ∧ ((wDom 6 : State).domOn (6 : Nat) = true) ∧ (tabGet (wDom 6 : State).pwr.estAt ((6 : Nat), 0) 0 ≤ (wDom 6 : State).now) ∧ (((({ wDom 6 with pwr.estAt := tabSet (wDom 6).pwr.estAt (6, 0) ((wDom 6).now + msNs) 0 } : State).showCal 6 (loadBand 6 50)) : State) = (({ (wDom 6 : State) with pwr.estAt := tabSet (wDom 6 : State).pwr.estAt ((6 : Nat), 0) ((wDom 6 : State).now + msNs) 0 } : State).showCal (6 : Nat) (loadBand (6 : Nat) (50 : Nat)))) ∧ (10 ≤ (50 : Nat)) := by decide +kernel

/-- The conditions of the estWindow clause are met together. -/
theorem test_wit_estRetake :
    ((6 : Nat) ≤ 26) ∧ ((wDom 6 : State).domOn (6 : Nat) = true) ∧ (tabGet (wDom 6 : State).pwr.estAt ((6 : Nat), 0) 0 ≤ (wDom 6 : State).now) ∧ (((({ wDom 6 with pwr.estAt := tabSet (wDom 6).pwr.estAt (6, 0) ((wDom 6).now + msNs) 0 } : State).showCal 6 (loadBand 6 50)) : State) = (({ (wDom 6 : State) with pwr.estAt := tabSet (wDom 6 : State).pwr.estAt ((6 : Nat), 0) ((wDom 6 : State).now + msNs) 0 } : State).showCal (6 : Nat) (loadBand (6 : Nat) (50 : Nat)))) ∧ (((({ wDom 6 with pwr.estAt := tabSet (wDom 6).pwr.estAt (6, 0) ((wDom 6).now + msNs) 0 } : State).showCal 6 (loadBand 6 50)) : State).calValid (6 : Nat) = false) := by decide +kernel

/-- The conditions of the thermalSample clause are met together. -/
theorem test_wit_thermalSample :
    ((6 : Nat) ≤ 26) ∧ ((wDom 6 : State).domOn (6 : Nat) = true) ∧ ((stepped (sampled ((wDom 6 : State).sensor (6 : Nat) 0) 0 (40 : Nat)) (6 : Nat)).max ≠ 2) ∧ (((wDom 6).setSensor 6 0 (stepped (sampled ((wDom 6).sensor 6 0) 0 40) 6) : State) = (wDom 6 : State).setSensor (6 : Nat) 0 (stepped (sampled ((wDom 6 : State).sensor (6 : Nat) 0) 0 (40 : Nat)) (6 : Nat))) := by decide +kernel

/-- The conditions of the hintActivate clause are met together. -/
theorem test_wit_hintActivate :
    ((wHint : State).pwr.hints.any (fun h => h.id == (3 : Nat) && !h.active && decide (h.since + (h.start - 30) * usNs ≤ (wHint : State).now)) = true) := by decide +kernel

/-- The conditions of the hintExpire clause are met together. -/
theorem test_wit_hintExpire :
    ((({ wHint with now := 10 * usNs } : State) : State).pwr.hints.any (fun h => h.id == (3 : Nat) && decide (h.since + (h.start + h.dur) * usNs ≤ (({ wHint with now := 10 * usNs } : State) : State).now)) = true) := by decide +kernel

/-- The conditions of the faultEventCollect clause are met together. -/
theorem test_wit_faultEventCollect :
    (nextEvent (wWaiting : State).flt.waiting = some (wEv : FltWait)) := by decide +kernel

/-- The conditions of the errPulseEnd clause are met together. -/
theorem test_wit_errPulseEnd :
    (sircCycles (({ State.reset with now := 1000000 } : State) : State).flt.pulseAt + 86 ≤ sircCycles (({ State.reset with now := 1000000 } : State) : State).now) := by decide +kernel

/-- The conditions of the fltHistSelWrite clause are met together. -/
theorem test_wit_fltHistSelWrite :
    ((3 : Nat) < 32) := by decide +kernel

/-- The conditions of the lockstepMismatch clause are met together. -/
theorem test_wit_lockstepMismatch :
    ((wBoot0 : State).life.boot = 0) ∧ (((wBoot0 : State).notePerm (tgt 0 0) 0x0102).permCount (tgt 0 0) 0x0102 (1000 * msNs) < 2) := by decide +kernel

/-- The conditions of the malthouseWatchdog clause are met together. -/
theorem test_wit_malthouseWatchdog :
    ((wBoot0 : State).life.boot = 0) := by decide +kernel

/-- The conditions of the fwCheckin clause are met together. -/
theorem test_wit_fwCheckin :
    ((wTrialUp : State).life.boot = 0) ∧ ((wTrialUp : State).flag SVC_FW_STATUS.TRIAL = true) ∧ ((wTrialUp : State).fld SVC_FW_STATUS.RUN_SLOT = (0 : Nat)) ∧ ((wCheckedUp : State) = ({ (((wTrialUp : State).writeRec (0 : Nat) none).setFld SVC_FW_STATUS.TRIAL 0 0).setFld SVC_FW_STATUS.CHECKIN_MS 0 0 with cmd.pause := false } : State)) ∧ ((wCheckedUp : State).modeUp = true) := by decide +kernel

/-- The conditions of the fwCheckin clause are met together. -/
theorem test_wit_fwCheckinDown :
    ((wTrial : State).life.boot = 0) ∧ ((wTrial : State).flag SVC_FW_STATUS.TRIAL = true) ∧ ((wTrial : State).fld SVC_FW_STATUS.RUN_SLOT = (0 : Nat)) ∧ ((wChecked : State) = ({ (((wTrial : State).writeRec (0 : Nat) none).setFld SVC_FW_STATUS.TRIAL 0 0).setFld SVC_FW_STATUS.CHECKIN_MS 0 0 with cmd.pause := false } : State)) ∧ ((wChecked : State).modeUp = false) := by decide +kernel

/-- The conditions of the fwCheckinTimeout clause are met together. -/
theorem test_wit_fwCheckinTimeout :
    ((({ wTrial with now := 2000 * msNs } : State) : State).life.boot = 0) ∧ ((({ wTrial with now := 2000 * msNs } : State) : State).flag SVC_FW_STATUS.TRIAL = true) ∧ ((({ wTrial with now := 2000 * msNs } : State) : State).fw.trialAt + 2000 * msNs ≤ (({ wTrial with now := 2000 * msNs } : State) : State).now) ∧ ((({ wTrial with now := 2000 * msNs } : State) : State).fld SVC_FW_STATUS.RUN_SLOT = (0 : Nat)) := by decide +kernel

/-- The conditions of the dfuDownload clause are met together. -/
theorem test_wit_dfuDownload :
    ((wDfu 5 2 : State).life.boot = 0) ∧ ((wDfu 5 2 : State).flag SVC_USB.CONFIGURED = true) ∧ (([1] : List Nat) ≠ []) ∧ (([1] : List Nat).length ≤ 4096) ∧ ((wDfu 5 2 : State).fld SVC_USB.DFU_STATE = 5) := by decide +kernel

/-- The conditions of the dfuDownload clause are met together. -/
theorem test_wit_dfuBusy :
    ((wDfu 2 1 : State).life.boot = 0) ∧ ((wDfu 2 1 : State).flag SVC_USB.CONFIGURED = true) ∧ (([1] : List Nat) ≠ []) ∧ (([1] : List Nat).length ≤ 4096) ∧ ((wDfu 2 1 : State).fld SVC_USB.DFU_STATE ≠ 5) ∧ ((wDfu 2 1 : State).fld SVC_FW_STATUS.SESSION = 1) := by decide +kernel

/-- The conditions of the dfuManifest clause are met together. -/
theorem test_wit_dfuManifest :
    ((({ wDfu 5 2 with fw.dfu := List.replicate 256 0, fw.parts := 1 } : State) : State).life.boot = 0) ∧ ((({ wDfu 5 2 with fw.dfu := List.replicate 256 0, fw.parts := 1 } : State) : State).fld SVC_USB.DFU_STATE = 5) ∧ ((({ wDfu 5 2 with fw.dfu := List.replicate 256 0, fw.parts := 1 } : State) : State).cmd.jobs = []) ∧ ((({ wDfu 5 2 with fw.dfu := List.replicate 256 0, fw.parts := 1 } : State) : State).cmd.heldReps = []) ∧ ((({ wDfu 5 2 with fw.dfu := List.replicate 256 0, fw.parts := 1 } : State) : State).cmd.blocked = none) ∧ ((({ wDfu 5 2 with fw.dfu := List.replicate 256 0, fw.parts := 1 } : State) : State).units.any (fun e => e.2.held) = false) ∧ ((({ wDfu 5 2 with fw.dfu := List.replicate 256 0, fw.parts := 1 } : State) : State).flag SVC_FW_STATUS.TRIAL = false) ∧ ((({ wDfu 5 2 with fw.dfu := List.replicate 256 0, fw.parts := 1 } : State) : State).fw.dfu.length = 256) ∧ ((({ wDfu 5 2 with fw.dfu := List.replicate 256 0, fw.parts := 1 } : State) : State).fw.parts ≠ 0) ∧ (blockMissing ((({ wDfu 5 2 with fw.dfu := List.replicate 256 0, fw.parts := 1 } : State) : State).fwSlot (({ wDfu 5 2 with fw.dfu := List.replicate 256 0, fw.parts := 1 } : State) : State).dfuSlot) = none) := by decide +kernel

/-- The conditions of the dfuManifest clause are met together. -/
theorem test_wit_dfuShort :
    ((wDfu 5 2 : State).life.boot = 0) ∧ ((wDfu 5 2 : State).fld SVC_USB.DFU_STATE = 5) ∧ ((wDfu 5 2 : State).cmd.jobs = []) ∧ ((wDfu 5 2 : State).cmd.heldReps = []) ∧ ((wDfu 5 2 : State).cmd.blocked = none) ∧ ((wDfu 5 2 : State).units.any (fun e => e.2.held) = false) ∧ ((wDfu 5 2 : State).flag SVC_FW_STATUS.TRIAL = false) ∧ ((wDfu 5 2 : State).fw.dfu.length ≠ 256) := by decide +kernel

/-- The conditions of the porRelease clause are met together. -/
theorem test_wit_porRelease :
    ((1 : Nat) ≤ 1) ∧ (({ State.reset with life.low := [1] } : State).life.low.contains (1 : Nat) = true) := by decide +kernel

/-- The conditions of the jtagInstruction clause are met together. -/
theorem test_wit_jtagInstruction :
    ((State.reset.setFld GLB_MODE.MODE 0 mTEST : State).mode = mTEST) ∧ ([0x00, 0x02, 0x04, 0x05, 0x08, 0x09].contains (2 : Nat) = true) ∧ (((State.reset.setFld GLB_MODE.MODE 0 mTEST : State).jtagTo (2 : Nat)).jtagIr ≠ 1) := by decide +kernel

/-- The conditions of the jtagInstruction clause are met together. -/
theorem test_wit_jtagIdcode :
    (((State.reset : State).jtagTo 1).jtagIr = 1) := by decide +kernel

/-- The conditions of the smbBlockRead clause are met together. -/
theorem test_wit_smbBlockRead :
    ((wBoot0 : State).life.boot ≠ 2) ∧ ((wBoot0 : State).mirror (0 : Nat) = some (0x6C204800 : Word)) := by decide +kernel

/-- The conditions of the smbAlertResponse clause are met together. -/
theorem test_wit_smbAlertResponse :
    (({ State.reset with pwr.alert := true } : State).pwr.alert = true) := by decide +kernel

/-- The conditions of the cmdSqDoorbell clause are met together. -/
theorem test_wit_cmdSqDoorbell :
    ((wRing : State).lands 1 .CMD_SQ_TAIL 0) ∧ ((wRing : State).flag CMD_CTL.EN = true) ∧ (bitsAt (wd (3 : Nat)) 0 16 < (wRing : State).sqSize) ∧ ((wRing : State).cmd.seqRuns = []) := by decide +kernel

/-- The conditions of the cmdCqHeadWrite clause are met together. -/
theorem test_wit_cmdCqHeadWrite :
    ((wRing : State).lands 1 .CMD_CQ_HEAD 0) ∧ ((wRing : State).flag CMD_STATUS.RUN = true) ∧ (bitsAt (wd (0 : Nat)) 0 16 < (wRing : State).cqSize) := by decide +kernel

/-- The conditions of the cmdRingEnable clause are met together. -/
theorem test_wit_cmdRingEnable :
    ((wSized : State).lands 1 .CMD_CTL 0) ∧ (((wSized : State).setFld CMD_CTL.IRQ_EN 0 0).flag CMD_CTL.EN = false) ∧ (ringSizeOk ((wSized : State).setFld CMD_CTL.IRQ_EN 0 0).sqSize 16 65536 = true) ∧ (ringSizeOk ((wSized : State).setFld CMD_CTL.IRQ_EN 0 0).cqSize 16 65536 = true) := by decide +kernel

/-- The conditions of the cmdRingDisable clause are met together. -/
theorem test_wit_cmdRingDisable :
    ((wRing : State).lands 1 .CMD_CTL 0) := by decide +kernel

/-- The conditions of the cmdFetchError clause are met together. -/
theorem test_wit_cmdFetchError :
    (({ wRing with cmd.seqRuns := [.sq 2] } : State).cmd.seqRuns = .sq (2 : Nat) :: ([] : List SeqRun)) ∧ (({ wRing with cmd.seqRuns := [.sq 2] } : State).flag CMD_CTL.EN = true) ∧ (({ wRing with cmd.seqRuns := [.sq 2] } : State).cmd.blocked = none) ∧ (({ wRing with cmd.seqRuns := [.sq 2] } : State).cmd.pause = false) := by decide +kernel

/-- The conditions of the pendingComplete clause are met together. -/
theorem test_wit_pendingComplete :
    ((wJobs .work : State).life.boot = 0) ∧ ((wJobs .work : State).cmd.jobs[(0 : Nat)]? = some (⟨wNop, .work⟩ : Job)) ∧ ((⟨wNop, .work⟩ : Job).stage = .work) := by decide +kernel

/-- The conditions of the fenceWaitEnd clause are met together. -/
theorem test_wit_fenceWaitEnd :
    ((wBlocked .fence : State).cmd.blocked = some (⟨wNop, .fence⟩ : Blocked)) ∧ ((⟨wNop, .fence⟩ : Blocked).why = .fence) ∧ ((wBlocked .fence : State).cmd.jobs = []) ∧ ((wBlocked .fence : State).cmd.heldReps = []) := by decide +kernel

/-- The conditions of the heldCommandRelease clause are met together. -/
theorem test_wit_heldCommandRelease :
    ((wBlocked .held : State).cmd.blocked = some (⟨wNop, .held⟩ : Blocked)) ∧ ((⟨wNop, .held⟩ : Blocked).why = .held) ∧ ((wBlocked .held : State).mustWait (⟨wNop, .held⟩ : Blocked).pkt = false) ∧ (lostUnit (wBlocked .held : State) (⟨wNop, .held⟩ : Blocked).pkt = false) := by decide +kernel

/-- The conditions of the cqReplyRelease clause are met together. -/
theorem test_wit_cqReplyRelease :
    (({ wRing with cmd.heldReps := [⟨wNop, ok⟩] } : State).flag CMD_STATUS.RUN = true) ∧ (({ wRing with cmd.heldReps := [⟨wNop, ok⟩] } : State).cmd.heldReps = [(⟨wNop, ok⟩ : HeldRep)]) ∧ (({ wRing with cmd.heldReps := [⟨wNop, ok⟩] } : State).cqFull = false) := by decide +kernel

/-- The conditions of the cmdIrqCoalTimeout clause are met together. -/
theorem test_wit_cmdIrqCoalTimeout :
    (({ wRing.setFld CMD_CTL.IRQ_EN 0 1 with cmd.irqCnt := 1 } : State).flag CMD_CTL.IRQ_EN = true) ∧ (0 < ({ wRing.setFld CMD_CTL.IRQ_EN 0 1 with cmd.irqCnt := 1 } : State).cmd.irqCnt) ∧ (({ wRing.setFld CMD_CTL.IRQ_EN 0 1 with cmd.irqCnt := 1 } : State).cmd.irqFirst + ({ wRing.setFld CMD_CTL.IRQ_EN 0 1 with cmd.irqCnt := 1 } : State).fld CMD_IRQ_CTL.COAL_TIME * usNs ≤ ({ wRing.setFld CMD_CTL.IRQ_EN 0 1 with cmd.irqCnt := 1 } : State).now) := by decide +kernel

/-- The conditions of the svcCommandFrame clause are met together. -/
theorem test_wit_svcCommandFrame :
    ((wBoot0 : State).life.boot = 0) ∧ ((wBoot0 : State).cmd.pause = false) ∧ (frameOk ([0xA5010004, 0x01000000, 0, 0, 0] : List Word) false = true) ∧ ((wBoot0 : State).domOn (domQuad 0) = false) := by decide +kernel

/-- The conditions of the svcPortDisconnect clause are met together. -/
theorem test_wit_svcPortDisconnect :
    ((State.reset : State).cmd.seqRuns = []) ∧ ((State.reset : State).cmd.jobs = []) ∧ ((State.reset : State).cmd.blocked = none) := by decide +kernel

/-- The conditions of the pktDmaEnable clause are met together. -/
theorem test_wit_pktDmaEnable :
    ((wOn : State).lands 1 .PKT_CTL 0) ∧ ((wOn : State).flag PKT_CTL.EN = false) ∧ ((wOn : State).pktRingsOk = true) := by decide +kernel

/-- The conditions of the pktDmaDisable clause are met together. -/
theorem test_wit_pktDmaDisable :
    ((wPkt : State).lands 1 .PKT_CTL 0) := by decide +kernel

/-- The conditions of the pktTxDoorbell clause are met together. -/
theorem test_wit_pktTxDoorbell :
    ((1 : Nat) < 4) ∧ ((wPkt : State).lands 1 .PKT_TX_TAIL (1 : Nat)) ∧ ((wPkt : State).flag PKT_CTL.EN = true) ∧ (bitsAt (wd (5 : Nat)) 0 16 < (wPkt : State).fld PKT_TX_SIZE.ENTRIES (1 : Nat)) := by decide +kernel

/-- The conditions of the pktRxDoorbell clause are met together. -/
theorem test_wit_pktRxDoorbell :
    ((2 : Nat) < 8) ∧ ((wPkt : State).lands 1 .PKT_RX_TAIL (2 : Nat)) ∧ ((wPkt : State).flag PKT_CTL.EN = true) ∧ (bitsAt (wd (5 : Nat)) 0 16 < (wPkt : State).fld PKT_RX_SIZE.ENTRIES (2 : Nat)) := by decide +kernel

/-- The conditions of the pktTxFrame clause are met together. -/
theorem test_wit_pktTxFrame :
    ((wPktTx : State).pktRuns = true) ∧ ((wPktTx : State).flag PKT_CTL.EN = true) ∧ ((wPktTx : State).txNext = some (1 : Nat)) ∧ (txEntryOk ([0, 0, 60] : List Word) = true) ∧ ((wPktTx : State).injectUsed 0 + txLen ([0, 0, 60] : List Word) + 4 ≤ 32768) := by decide +kernel

/-- The conditions of the pktRxDeliver clause are met together. -/
theorem test_wit_pktRxDeliver :
    ((wPktRx : State).tun.hostOut = ((1 : Nat), (2 : Nat)) :: ([] : List (Nat × Nat))) ∧ ((wPktRx : State).pktRuns = true) ∧ ((wPktRx : State).unread (1 : Nat) = false) := by decide +kernel

/-- The conditions of the pktDmaError clause are met together. -/
theorem test_wit_pktDmaError :
    ((wPktTx : State).pktRuns = true) ∧ ((1 : Nat) < 4) ∧ (0 < (wPktTx : State).txHeld (1 : Nat)) := by decide +kernel

/-- The conditions of the pktIrqCoalTimeout clause are met together. -/
theorem test_wit_pktIrqCoalTimeout :
    ((1 : Nat) < 12) ∧ (({ wPkt.setReg .PKT_TX_IRQ 1 0x01000000 with pkt.irq := [((1, 0), 2)] } : State).pktIrqFld (1 : Nat) 24 1 = 1) ∧ (0 < tabGet ({ wPkt.setReg .PKT_TX_IRQ 1 0x01000000 with pkt.irq := [((1, 0), 2)] } : State).pkt.irq ((1 : Nat), 0) 0) ∧ (tabGet ({ wPkt.setReg .PKT_TX_IRQ 1 0x01000000 with pkt.irq := [((1, 0), 2)] } : State).pkt.irq ((1 : Nat), 1) 0 + ({ wPkt.setReg .PKT_TX_IRQ 1 0x01000000 with pkt.irq := [((1, 0), 2)] } : State).pktIrqFld (1 : Nat) 8 16 * usNs ≤ ({ wPkt.setReg .PKT_TX_IRQ 1 0x01000000 with pkt.irq := [((1, 0), 2)] } : State).now) := by decide +kernel

/-- The conditions of the registerWrite clause are met together. -/
theorem test_wit_registerWrite :
    ((wBoot0 : State).lands 1 .GLB_SCRATCH 0) := by decide +kernel

/-- The conditions of the rcRegisterRead clause are met together. -/
theorem test_wit_rcRegisterRead :
    ((wOn : State).busUp 1 = true) ∧ ((wOn : State).busWaits 1 (regOffset .TELEM_EVENT) = false) ∧ ((wOn : State).busCheck 1 (regOffset .TELEM_EVENT) 1 false true = .inl ⟨.TELEM_EVENT, 0, false⟩) ∧ (tabGet (wOn : State).hiLatch (latchKey 1 .TELEM_EVENT 0) none = none) := by decide +kernel

/-- The conditions of the pairLoRead clause are met together. -/
theorem test_wit_pairLoRead :
    ((wOn : State).busUp 1 = true) ∧ ((wOn : State).busWaits 1 (regOffset .TELEM_PPS_IN_LO) = false) ∧ ((wOn : State).busCheck 1 (regOffset .TELEM_PPS_IN_LO) 1 false true = .inl ⟨.TELEM_PPS_IN_LO, 0, false⟩) ∧ (tabGet (wOn : State).hiLatch (latchKey 1 .TELEM_PPS_IN_LO 0) none = none) := by decide +kernel

/-- The conditions of the svcRegisterRead clause are met together. -/
theorem test_wit_svcRegisterRead :
    ((wBoot0 : State).busUp 1 = true) ∧ ((wBoot0 : State).busWaits 1 0 = false) ∧ (tabGet (wBoot0 : State).hiLatch (latchKey 1 .GLB_ID 0) none = none) := by decide +kernel

/-- The conditions of the svcRegisterWrite clause are met together. -/
theorem test_wit_svcRegisterWrite :
    ((wBoot0 : State).lands 1 .GLB_SCRATCH 0) := by decide +kernel

/-- The conditions of the pairCommit clause are met together. -/
theorem test_wit_pairCommit :
    ((1 : Nat) < 8) ∧ ((wOn : State).domOn (domBough (1 : Nat)) = true) ∧ (bitsAt (0x80000005 : Word) 31 1 = 1) := by decide +kernel

/-- The conditions of the pairApply clause are met together. -/
theorem test_wit_pairApply :
    ((wPair : State).pair 8 = some (⟨0, [0, 0, 0, 0, 0]⟩ : PairCommit)) := by decide +kernel

/-- The conditions of the glbResetWarm clause are met together. -/
theorem test_wit_glbResetWarm :
    ((wBoot0 : State).lands 1 .GLB_RESET_CTL 0) := by decide +kernel

/-- The conditions of the glbResetCold clause are met together. -/
theorem test_wit_glbResetCold :
    ((wBoot0 : State).lands 1 .GLB_RESET_CTL 0) := by decide +kernel

/-- The conditions of the nop clause are met together. -/
theorem test_wit_nop :
    ((wCmd (wOn) (wPk 0x0000 (0) []) : State).takes 0x0000 (wPk 0x0000 (0) [] : Packet)) ∧ ((runEff effNop (wPk 0x0000 (0) [] : Packet) (wCmd (wOn) (wPk 0x0000 (0) []) : State).take).2.status = 0) := by decide +kernel

/-- The conditions of the identify clause are met together. -/
theorem test_wit_identify :
    ((wCmd (wOn) (wPk 0x0001 (0) []) : State).takes 0x0001 (wPk 0x0001 (0) [] : Packet)) ∧ ((runEff effIdentify (wPk 0x0001 (0) [] : Packet) (wCmd (wOn) (wPk 0x0001 (0) []) : State).take).2.status = 0) := by decide +kernel

/-- The conditions of the setMode clause are met together. -/
theorem test_wit_setMode :
    ((wCmd (wOn) (wPk 0x0002 (0) [4]) : State).takes 0x0002 (wPk 0x0002 (0) [4] : Packet)) ∧ ((runEff effSetMode (wPk 0x0002 (0) [4] : Packet) (wCmd (wOn) (wPk 0x0002 (0) [4]) : State).take).2.status = 0) := by decide +kernel

/-- The conditions of the snapshot clause are met together. -/
theorem test_wit_snapshot :
    ((wCmd (wOn) (wPk 0x0003 (0) []) : State).takes 0x0003 (wPk 0x0003 (0) [] : Packet)) ∧ ((runEff effSnapshot (wPk 0x0003 (0) [] : Packet) (wCmd (wOn) (wPk 0x0003 (0) []) : State).take).2.status = 0) := by decide +kernel

/-- The conditions of the fenceCmd clause are met together. -/
theorem test_wit_fenceCmd :
    ((wCmd (wOn) (wPk 0x0004 (0) []) : State).takes 0x0004 (wPk 0x0004 (0) [] : Packet)) ∧ ((runEff effNop (wPk 0x0004 (0) [] : Packet) (wCmd (wOn) (wPk 0x0004 (0) []) : State).take).2.status = 0) := by decide +kernel

/-- The conditions of the getStatus clause are met together. -/
theorem test_wit_getStatus :
    ((wCmd (wOn) (wPk 0x0005 (0) []) : State).takes 0x0005 (wPk 0x0005 (0) [] : Packet)) ∧ ((runEff effGetStatus (wPk 0x0005 (0) [] : Packet) (wCmd (wOn) (wPk 0x0005 (0) []) : State).take).2.status = 0) := by decide +kernel

/-- The conditions of the portCfg clause are met together. -/
theorem test_wit_portCfg :
    ((wCmd (wOn) (wPk 0x0101 (tgt cPORT 64) [0x461]) : State).takes 0x0101 (wPk 0x0101 (tgt cPORT 64) [0x461] : Packet)) ∧ ((runEff effPortCfg (wPk 0x0101 (tgt cPORT 64) [0x461] : Packet) (wCmd (wOn) (wPk 0x0101 (tgt cPORT 64) [0x461]) : State).take).2.status = 0) := by decide +kernel

/-- The conditions of the portEnable clause are met together. -/
theorem test_wit_portEnable :
    ((wCmd (wPort pUP) (wPk 0x0102 (tgt cPORT 5) [1]) : State).takes 0x0102 (wPk 0x0102 (tgt cPORT 5) [1] : Packet)) ∧ ((runEff effPortEnable (wPk 0x0102 (tgt cPORT 5) [1] : Packet) (wCmd (wPort pUP) (wPk 0x0102 (tgt cPORT 5) [1]) : State).take).2.status = 0) := by decide +kernel

/-- The conditions of the portStatus clause are met together. -/
theorem test_wit_portStatus :
    ((wCmd (wPort pUP) (wPk 0x0103 (tgt cPORT 5) []) : State).takes 0x0103 (wPk 0x0103 (tgt cPORT 5) [] : Packet)) ∧ ((runEff effPortStatus (wPk 0x0103 (tgt cPORT 5) [] : Packet) (wCmd (wPort pUP) (wPk 0x0103 (tgt cPORT 5) []) : State).take).2.status = 0) := by decide +kernel

/-- The conditions of the laneCfg clause are met together. -/
theorem test_wit_laneCfg :
    ((wCmd (wOn) (wPk 0x0104 (tgt cLANE 9) [0]) : State).takes 0x0104 (wPk 0x0104 (tgt cLANE 9) [0] : Packet)) ∧ ((runEff effLaneCfg (wPk 0x0104 (tgt cLANE 9) [0] : Packet) (wCmd (wOn) (wPk 0x0104 (tgt cLANE 9) [0]) : State).take).2.status = 0) := by decide +kernel

/-- The conditions of the laneTest clause are met together. -/
theorem test_wit_laneTest :
    ((wCmd ((wLane 5 lDOWN).setFld GLB_MODE.MODE 0 mTEST) (wPk 0x0105 (tgt cLANE 5) [0]) : State).takes 0x0105 (wPk 0x0105 (tgt cLANE 5) [0] : Packet)) ∧ ((runEff effLaneTest (wPk 0x0105 (tgt cLANE 5) [0] : Packet) (wCmd ((wLane 5 lDOWN).setFld GLB_MODE.MODE 0 mTEST) (wPk 0x0105 (tgt cLANE 5) [0]) : State).take).2.status = 0) := by decide +kernel

/-- The conditions of the eyeScan clause are met together. -/
theorem test_wit_eyeScan :
    ((wCmd (wPort pUP) (wPk 0x0106 (tgt cLANE 5) [0xA00, 0x100, 0x100]) : State).takes 0x0106 (wPk 0x0106 (tgt cLANE 5) [0xA00, 0x100, 0x100] : Packet)) ∧ ((runEff effEyeScan (wPk 0x0106 (tgt cLANE 5) [0xA00, 0x100, 0x100] : Packet) (wCmd (wPort pUP) (wPk 0x0106 (tgt cLANE 5) [0xA00, 0x100, 0x100]) : State).take).2.status = 0) := by decide +kernel

/-- The conditions of the laneFom clause are met together. -/
theorem test_wit_laneFom :
    ((wCmd (wOn) (wPk 0x0107 (tgt cLANE 5) []) : State).takes 0x0107 (wPk 0x0107 (tgt cLANE 5) [] : Packet)) ∧ ((runEff effLaneFom (wPk 0x0107 (tgt cLANE 5) [] : Packet) (wCmd (wOn) (wPk 0x0107 (tgt cLANE 5) []) : State).take).2.status = 0) := by decide +kernel

/-- The conditions of the pfcCfg clause are met together. -/
theorem test_wit_pfcCfg :
    ((wCmd (wPort pUP) (wPk 0x0108 (tgt cPORT 5) [2]) : State).takes 0x0108 (wPk 0x0108 (tgt cPORT 5) [2] : Packet)) ∧ ((runEff effPfcCfg (wPk 0x0108 (tgt cPORT 5) [2] : Packet) (wCmd (wPort pUP) (wPk 0x0108 (tgt cPORT 5) [2]) : State).take).2.status = 0) := by decide +kernel

/-- The conditions of the ptpCfg clause are met together. -/
theorem test_wit_ptpCfg :
    ((wCmd (wPort pUP) (wPk 0x0109 (tgt cPORT 5) [3]) : State).takes 0x0109 (wPk 0x0109 (tgt cPORT 5) [3] : Packet)) ∧ ((runEff effPtpCfg (wPk 0x0109 (tgt cPORT 5) [3] : Packet) (wCmd (wPort pUP) (wPk 0x0109 (tgt cPORT 5) [3]) : State).take).2.status = 0) := by decide +kernel

/-- The conditions of the tblProfile clause are met together. -/
theorem test_wit_tblProfile :
    ((wCmd (wM mSTEEPING) (wPk 0x0201 (tgt cBOUGH 1) [1, 0]) : State).takes 0x0201 (wPk 0x0201 (tgt cBOUGH 1) [1, 0] : Packet)) ∧ ((runEff effTblProfile (wPk 0x0201 (tgt cBOUGH 1) [1, 0] : Packet) (wCmd (wM mSTEEPING) (wPk 0x0201 (tgt cBOUGH 1) [1, 0]) : State).take).2.status = 0) := by decide +kernel

/-- The conditions of the tblInsert clause are met together. -/
theorem test_wit_tblInsert :
    ((wCmd (wOn) (wPk 0x0202 (tgt cBOUGH 1) [0]) : State).takes 0x0202 (wPk 0x0202 (tgt cBOUGH 1) [0] : Packet)) ∧ ((runEff effTblInsert (wPk 0x0202 (tgt cBOUGH 1) [0] : Packet) (wCmd (wOn) (wPk 0x0202 (tgt cBOUGH 1) [0]) : State).take).2.status = 0) := by decide +kernel

/-- The conditions of the tblDelete clause are met together. -/
theorem test_wit_tblDelete :
    ((wCmd (wOn) (wPk 0x0203 (tgt cBOUGH 1) [0]) : State).takes 0x0203 (wPk 0x0203 (tgt cBOUGH 1) [0] : Packet)) ∧ ((runEff effTblDelete (wPk 0x0203 (tgt cBOUGH 1) [0] : Packet) (wCmd (wOn) (wPk 0x0203 (tgt cBOUGH 1) [0]) : State).take).2.status = 0) := by decide +kernel

/-- The conditions of the tblLookup clause are met together. -/
theorem test_wit_tblLookup :
    ((wCmd (wOn) (wPk 0x0204 (tgt cBOUGH 1) [0]) : State).takes 0x0204 (wPk 0x0204 (tgt cBOUGH 1) [0] : Packet)) ∧ ((runEff effTblLookup (wPk 0x0204 (tgt cBOUGH 1) [0] : Packet) (wCmd (wOn) (wPk 0x0204 (tgt cBOUGH 1) [0]) : State).take).2.status = 0) := by decide +kernel

/-- The conditions of the tblDma clause are met together. -/
theorem test_wit_tblDma :
    ((wCmd (wOn) (wPk 0x0205 (tgt cBOUGH 1) [0, 0, 0, 0, 0]) : State).takes 0x0205 (wPk 0x0205 (tgt cBOUGH 1) [0, 0, 0, 0, 0] : Packet)) ∧ ((runEff effTblDma (wPk 0x0205 (tgt cBOUGH 1) [0, 0, 0, 0, 0] : Packet) (wCmd (wOn) (wPk 0x0205 (tgt cBOUGH 1) [0, 0, 0, 0, 0]) : State).take).2.status = 0) := by decide +kernel

/-- The conditions of the tblAudit clause are met together. -/
theorem test_wit_tblAudit :
    ((wCmd (wOn) (wPk 0x0206 (tgt cBOUGH 1) [0, 0, 0, 0, 0, 0]) : State).takes 0x0206 (wPk 0x0206 (tgt cBOUGH 1) [0, 0, 0, 0, 0, 0] : Packet)) ∧ ((runEff effTblAudit (wPk 0x0206 (tgt cBOUGH 1) [0, 0, 0, 0, 0, 0] : Packet) (wCmd (wOn) (wPk 0x0206 (tgt cBOUGH 1) [0, 0, 0, 0, 0, 0]) : State).take).2.status = 0) := by decide +kernel

/-- The conditions of the tblLock clause are met together. -/
theorem test_wit_tblLock :
    ((wCmd (wOn) (wPk 0x0207 (tgt cBOUGH 1) [0x100, 0, 2]) : State).takes 0x0207 (wPk 0x0207 (tgt cBOUGH 1) [0x100, 0, 2] : Packet)) ∧ ((runEff effTblLock (wPk 0x0207 (tgt cBOUGH 1) [0x100, 0, 2] : Packet) (wCmd (wOn) (wPk 0x0207 (tgt cBOUGH 1) [0x100, 0, 2]) : State).take).2.status = 0) := by decide +kernel

/-- The conditions of the tblLearnCfg clause are met together. -/
theorem test_wit_tblLearnCfg :
    ((wCmd (wOn) (wPk 0x0208 (tgt cBOUGH 1) [0]) : State).takes 0x0208 (wPk 0x0208 (tgt cBOUGH 1) [0] : Packet)) ∧ ((runEff effTblLearnCfg (wPk 0x0208 (tgt cBOUGH 1) [0] : Packet) (wCmd (wOn) (wPk 0x0208 (tgt cBOUGH 1) [0]) : State).take).2.status = 0) := by decide +kernel

/-- The conditions of the ecmpGroupSet clause are met together. -/
theorem test_wit_ecmpGroupSet :
    ((wCmd (wOn) (wPk 0x0209 (tgt cBOUGH 1) [0x10005, 0, 0, 0, 0]) : State).takes 0x0209 (wPk 0x0209 (tgt cBOUGH 1) [0x10005, 0, 0, 0, 0] : Packet)) ∧ ((runEff effEcmpGroupSet (wPk 0x0209 (tgt cBOUGH 1) [0x10005, 0, 0, 0, 0] : Packet) (wCmd (wOn) (wPk 0x0209 (tgt cBOUGH 1) [0x10005, 0, 0, 0, 0]) : State).take).2.status = 0) := by decide +kernel

/-- The conditions of the ecmpMemberSet clause are met together. -/
theorem test_wit_ecmpMemberSet :
    ((wCmd (wOn) (wPk 0x020A (tgt cBOUGH 1) [0x10005, 0, 0]) : State).takes 0x020A (wPk 0x020A (tgt cBOUGH 1) [0x10005, 0, 0] : Packet)) ∧ ((runEff effEcmpMemberSet (wPk 0x020A (tgt cBOUGH 1) [0x10005, 0, 0] : Packet) (wCmd (wOn) (wPk 0x020A (tgt cBOUGH 1) [0x10005, 0, 0]) : State).take).2.status = 0) := by decide +kernel

/-- The conditions of the hashCfg clause are met together. -/
theorem test_wit_hashCfg :
    ((wCmd (wOn) (wPk 0x020B (tgt cBOUGH 1) [3, 0xFF]) : State).takes 0x020B (wPk 0x020B (tgt cBOUGH 1) [3, 0xFF] : Packet)) ∧ ((runEff effHashCfg (wPk 0x020B (tgt cBOUGH 1) [3, 0xFF] : Packet) (wCmd (wOn) (wPk 0x020B (tgt cBOUGH 1) [3, 0xFF]) : State).take).2.status = 0) := by decide +kernel

/-- The conditions of the clsWrite clause are met together. -/
theorem test_wit_clsWrite :
    ((wCmd (wOn) (wPk 0x0301 (tgt cPIPE 3) [0]) : State).takes 0x0301 (wPk 0x0301 (tgt cPIPE 3) [0] : Packet)) ∧ ((runEff effClsWrite (wPk 0x0301 (tgt cPIPE 3) [0] : Packet) (wCmd (wOn) (wPk 0x0301 (tgt cPIPE 3) [0]) : State).take).2.status = 0) := by decide +kernel

/-- The conditions of the clsRead clause are met together. -/
theorem test_wit_clsRead :
    ((wCmd (wOn) (wPk 0x0302 (tgt cPIPE 3) [0]) : State).takes 0x0302 (wPk 0x0302 (tgt cPIPE 3) [0] : Packet)) ∧ ((runEff effClsRead (wPk 0x0302 (tgt cPIPE 3) [0] : Packet) (wCmd (wOn) (wPk 0x0302 (tgt cPIPE 3) [0]) : State).take).2.status = 0) := by decide +kernel

/-- The conditions of the clsTreeLoad clause are met together. -/
theorem test_wit_clsTreeLoad :
    ((wCmd (wOn) (wPk 0x0303 (tgt cPIPE 3) [0, 0]) : State).takes 0x0303 (wPk 0x0303 (tgt cPIPE 3) [0, 0] : Packet)) ∧ ((runEff effClsTreeLoad (wPk 0x0303 (tgt cPIPE 3) [0, 0] : Packet) (wCmd (wOn) (wPk 0x0303 (tgt cPIPE 3) [0, 0]) : State).take).2.status = 0) := by decide +kernel

/-- The conditions of the meterCfg clause are met together. -/
theorem test_wit_meterCfg :
    ((wCmd (wOn) (wPk 0x0304 (tgt cPIPE 3) [0x10005, 0, 0, 0, 0, 0]) : State).takes 0x0304 (wPk 0x0304 (tgt cPIPE 3) [0x10005, 0, 0, 0, 0, 0] : Packet)) ∧ ((runEff effMeterCfg (wPk 0x0304 (tgt cPIPE 3) [0x10005, 0, 0, 0, 0, 0] : Packet) (wCmd (wOn) (wPk 0x0304 (tgt cPIPE 3) [0x10005, 0, 0, 0, 0, 0]) : State).take).2.status = 0) := by decide +kernel

/-- The conditions of the meterRead clause are met together. -/
theorem test_wit_meterRead :
    ((wCmd (wOn) (wPk 0x0305 (tgt cPIPE 3) [0x10005]) : State).takes 0x0305 (wPk 0x0305 (tgt cPIPE 3) [0x10005] : Packet)) ∧ ((runEff effMeterRead (wPk 0x0305 (tgt cPIPE 3) [0x10005] : Packet) (wCmd (wOn) (wPk 0x0305 (tgt cPIPE 3) [0x10005]) : State).take).2.status = 0) := by decide +kernel

/-- The conditions of the poolCfg clause are met together. -/
theorem test_wit_poolCfg :
    ((wCmd (wLb) (wPk 0x0401 (tgt cTUN 0) [0x1000, 0, 0, 0, 0, 0]) : State).takes 0x0401 (wPk 0x0401 (tgt cTUN 0) [0x1000, 0, 0, 0, 0, 0] : Packet)) ∧ ((runEff effPoolCfg (wPk 0x0401 (tgt cTUN 0) [0x1000, 0, 0, 0, 0, 0] : Packet) (wCmd (wLb) (wPk 0x0401 (tgt cTUN 0) [0x1000, 0, 0, 0, 0, 0]) : State).take).2.status = 0) := by decide +kernel

/-- The conditions of the queueCfg clause are met together. -/
theorem test_wit_queueCfg :
    ((wCmd (wLb) (wPk 0x0402 (tgt cPORT 5) [1, 0, 0]) : State).takes 0x0402 (wPk 0x0402 (tgt cPORT 5) [1, 0, 0] : Packet)) ∧ ((runEff effQueueCfg (wPk 0x0402 (tgt cPORT 5) [1, 0, 0] : Packet) (wCmd (wLb) (wPk 0x0402 (tgt cPORT 5) [1, 0, 0]) : State).take).2.status = 0) := by decide +kernel

/-- The conditions of the schedCfg clause are met together. -/
theorem test_wit_schedCfg :
    ((wCmd (wOn) (wPk 0x0403 (tgt cPORT 5) [1, 7]) : State).takes 0x0403 (wPk 0x0403 (tgt cPORT 5) [1, 7] : Packet)) ∧ ((runEff effSchedCfg (wPk 0x0403 (tgt cPORT 5) [1, 7] : Packet) (wCmd (wOn) (wPk 0x0403 (tgt cPORT 5) [1, 7]) : State).take).2.status = 0) := by decide +kernel

/-- The conditions of the shaperCfg clause are met together. -/
theorem test_wit_shaperCfg :
    ((wCmd (wOn) (wPk 0x0404 (tgt cPORT 5) [0x10000, 0, 0, 0, 0, 0]) : State).takes 0x0404 (wPk 0x0404 (tgt cPORT 5) [0x10000, 0, 0, 0, 0, 0] : Packet)) ∧ ((runEff effShaperCfg (wPk 0x0404 (tgt cPORT 5) [0x10000, 0, 0, 0, 0, 0] : Packet) (wCmd (wOn) (wPk 0x0404 (tgt cPORT 5) [0x10000, 0, 0, 0, 0, 0]) : State).take).2.status = 0) := by decide +kernel

/-- The conditions of the wredCfg clause are met together. -/
theorem test_wit_wredCfg :
    ((wCmd (wOn) (wPk 0x0405 (tgt cPORT 5) [1, 0, 0, 0, 0, 0, 0, 0]) : State).takes 0x0405 (wPk 0x0405 (tgt cPORT 5) [1, 0, 0, 0, 0, 0, 0, 0] : Packet)) ∧ ((runEff effWredCfg (wPk 0x0405 (tgt cPORT 5) [1, 0, 0, 0, 0, 0, 0, 0] : Packet) (wCmd (wOn) (wPk 0x0405 (tgt cPORT 5) [1, 0, 0, 0, 0, 0, 0, 0]) : State).take).2.status = 0) := by decide +kernel

/-- The conditions of the pfcWdCfg clause are met together. -/
theorem test_wit_pfcWdCfg :
    ((wCmd (wPort pUP) (wPk 0x0406 (tgt cPORT 5) [1, 0, 0]) : State).takes 0x0406 (wPk 0x0406 (tgt cPORT 5) [1, 0, 0] : Packet)) ∧ ((runEff effPfcWdCfg (wPk 0x0406 (tgt cPORT 5) [1, 0, 0] : Packet) (wCmd (wPort pUP) (wPk 0x0406 (tgt cPORT 5) [1, 0, 0]) : State).take).2.status = 0) := by decide +kernel

/-- The conditions of the qholdCfg clause are met together. -/
theorem test_wit_qholdCfg :
    ((wCmd (wOn) (wPk 0x0407 (tgt cPORT 5) [7]) : State).takes 0x0407 (wPk 0x0407 (tgt cPORT 5) [7] : Packet)) ∧ ((runEff effQholdCfg (wPk 0x0407 (tgt cPORT 5) [7] : Packet) (wCmd (wOn) (wPk 0x0407 (tgt cPORT 5) [7]) : State).take).2.status = 0) := by decide +kernel

/-- The conditions of the spillCfg clause are met together. -/
theorem test_wit_spillCfg :
    ((wCmd (wOn) (wPk 0x0408 (tgt cCELLAR 3) [2, 1]) : State).takes 0x0408 (wPk 0x0408 (tgt cCELLAR 3) [2, 1] : Packet)) ∧ ((runEff effSpillCfg (wPk 0x0408 (tgt cCELLAR 3) [2, 1] : Packet) (wCmd (wOn) (wPk 0x0408 (tgt cCELLAR 3) [2, 1]) : State).take).2.status = 0) := by decide +kernel

/-- The conditions of the hwmRead clause are met together. -/
theorem test_wit_hwmRead :
    ((wCmd (wOn) (wPk 0x0409 (tgt cPORT 5) [1]) : State).takes 0x0409 (wPk 0x0409 (tgt cPORT 5) [1] : Packet)) ∧ ((runEff effHwmRead (wPk 0x0409 (tgt cPORT 5) [1] : Packet) (wCmd (wOn) (wPk 0x0409 (tgt cPORT 5) [1]) : State).take).2.status = 0) := by decide +kernel

/-- The conditions of the telemStreamCfg clause are met together. -/
theorem test_wit_telemStreamCfg :
    ((wCmd (wOn) (wPk 0x0501 (0) [1, 0x10005, 0, 0]) : State).takes 0x0501 (wPk 0x0501 (0) [1, 0x10005, 0, 0] : Packet)) ∧ ((runEff effTelemStreamCfg (wPk 0x0501 (0) [1, 0x10005, 0, 0] : Packet) (wCmd (wOn) (wPk 0x0501 (0) [1, 0x10005, 0, 0]) : State).take).2.status = 0) := by decide +kernel

/-- The conditions of the sapFlag clause are met together. -/
theorem test_wit_sapFlag :
    ((wCmd (wOn) (wPk 0x0502 (tgt cPIPE 3) [0x10000, 7]) : State).takes 0x0502 (wPk 0x0502 (tgt cPIPE 3) [0x10000, 7] : Packet)) ∧ ((runEff effSapFlag (wPk 0x0502 (tgt cPIPE 3) [0x10000, 7] : Packet) (wCmd (wOn) (wPk 0x0502 (tgt cPIPE 3) [0x10000, 7]) : State).take).2.status = 0) := by decide +kernel

/-- The conditions of the telemRead clause are met together. -/
theorem test_wit_telemRead :
    ((wCmd (wOn) (wPk 0x0503 (tgt cPIPE 3) [0, 0, 1]) : State).takes 0x0503 (wPk 0x0503 (tgt cPIPE 3) [0, 0, 1] : Packet)) ∧ ((runEff effTelemRead (wPk 0x0503 (tgt cPIPE 3) [0, 0, 1] : Packet) (wCmd (wOn) (wPk 0x0503 (tgt cPIPE 3) [0, 0, 1]) : State).take).2.status = 0) := by decide +kernel

/-- The conditions of the tagCfg clause are met together. -/
theorem test_wit_tagCfg :
    ((wCmd (wOn) (wPk 0x0504 (tgt cPIPE 3) [0x801]) : State).takes 0x0504 (wPk 0x0504 (tgt cPIPE 3) [0x801] : Packet)) ∧ ((runEff effTagCfg (wPk 0x0504 (tgt cPIPE 3) [0x801] : Packet) (wCmd (wOn) (wPk 0x0504 (tgt cPIPE 3) [0x801]) : State).take).2.status = 0) := by decide +kernel

/-- The conditions of the ioamCfg clause are met together. -/
theorem test_wit_ioamCfg :
    ((wCmd (wOn) (wPk 0x0505 (tgt cPIPE 3) [1]) : State).takes 0x0505 (wPk 0x0505 (tgt cPIPE 3) [1] : Packet)) ∧ ((runEff effIoamCfg (wPk 0x0505 (tgt cPIPE 3) [1] : Packet) (wCmd (wOn) (wPk 0x0505 (tgt cPIPE 3) [1]) : State).take).2.status = 0) := by decide +kernel

/-- The conditions of the perfCfg clause are met together. -/
theorem test_wit_perfCfg :
    ((wCmd (wOn) (wPk 0x0506 (tgt cPIPE 3) [1]) : State).takes 0x0506 (wPk 0x0506 (tgt cPIPE 3) [1] : Packet)) ∧ ((runEff effPerfCfg (wPk 0x0506 (tgt cPIPE 3) [1] : Packet) (wCmd (wOn) (wPk 0x0506 (tgt cPIPE 3) [1]) : State).take).2.status = 0) := by decide +kernel

/-- The conditions of the perfRead clause are met together. -/
theorem test_wit_perfRead :
    ((wCmd (wOn) (wPk 0x0507 (tgt cPIPE 3) []) : State).takes 0x0507 (wPk 0x0507 (tgt cPIPE 3) [] : Packet)) ∧ ((runEff effPerfRead (wPk 0x0507 (tgt cPIPE 3) [] : Packet) (wCmd (wOn) (wPk 0x0507 (tgt cPIPE 3) []) : State).take).2.status = 0) := by decide +kernel

/-- The conditions of the gristGroupOpen clause are met together. -/
theorem test_wit_gristGroupOpen :
    ((wCmd (wSlots) (wPk 0x0601 (tgt cGRIST 0x100) [7, 0x20008, 0x10000, 1, 0, 0, 0, 0]) : State).takes 0x0601 (wPk 0x0601 (tgt cGRIST 0x100) [7, 0x20008, 0x10000, 1, 0, 0, 0, 0] : Packet)) ∧ ((runEff effGristGroupOpen (wPk 0x0601 (tgt cGRIST 0x100) [7, 0x20008, 0x10000, 1, 0, 0, 0, 0] : Packet) (wCmd (wSlots) (wPk 0x0601 (tgt cGRIST 0x100) [7, 0x20008, 0x10000, 1, 0, 0, 0, 0]) : State).take).2.status = 0) := by decide +kernel

/-- The conditions of the gristGroupClose clause are met together. -/
theorem test_wit_gristGroupClose :
    ((wCmd (wGrp wGroup) (wPk 0x0602 (tgt cGRIST 0x100) [0x1000007]) : State).takes 0x0602 (wPk 0x0602 (tgt cGRIST 0x100) [0x1000007] : Packet)) ∧ ((runEff effGristGroupClose (wPk 0x0602 (tgt cGRIST 0x100) [0x1000007] : Packet) (wCmd (wGrp wGroup) (wPk 0x0602 (tgt cGRIST 0x100) [0x1000007]) : State).take).2.status = 0) := by decide +kernel

/-- The conditions of the gristGroupStatus clause are met together. -/
theorem test_wit_gristGroupStatus :
    ((wCmd (wGrp wGroup) (wPk 0x0603 (tgt cGRIST 0x100) [7]) : State).takes 0x0603 (wPk 0x0603 (tgt cGRIST 0x100) [7] : Packet)) ∧ ((runEff effGristGroupStatus (wPk 0x0603 (tgt cGRIST 0x100) [7] : Packet) (wCmd (wGrp wGroup) (wPk 0x0603 (tgt cGRIST 0x100) [7]) : State).take).2.status = 0) := by decide +kernel

/-- The conditions of the pwrHint clause are met together. -/
theorem test_wit_pwrHint :
    ((wCmd (wHint) (wPk 0x0701 (tgt cPWR 0) [0x30001, 0, 0]) : State).takes 0x0701 (wPk 0x0701 (tgt cPWR 0) [0x30001, 0, 0] : Packet)) ∧ ((runEff effPwrHint (wPk 0x0701 (tgt cPWR 0) [0x30001, 0, 0] : Packet) (wCmd (wHint) (wPk 0x0701 (tgt cPWR 0) [0x30001, 0, 0]) : State).take).2.status = 0) := by decide +kernel

/-- The conditions of the pwrOpp clause are met together. -/
theorem test_wit_pwrOpp :
    ((wCmd (wOn) (wPk 0x0702 (tgt cPWR 0) [0x300100]) : State).takes 0x0702 (wPk 0x0702 (tgt cPWR 0) [0x300100] : Packet)) ∧ ((runEff effPwrOpp (wPk 0x0702 (tgt cPWR 0) [0x300100] : Packet) (wCmd (wOn) (wPk 0x0702 (tgt cPWR 0) [0x300100]) : State).take).2.status = 0) := by decide +kernel

/-- The conditions of the pwrCap clause are met together. -/
theorem test_wit_pwrCap :
    ((wCmd (wOn) ({ wPk 0x0703 (tgt cPWR 0) [0x3E80050] with env := [1200] }) : State).takes 0x0703 ({ wPk 0x0703 (tgt cPWR 0) [0x3E80050] with env := [1200] } : Packet)) ∧ ((runEff effPwrCap ({ wPk 0x0703 (tgt cPWR 0) [0x3E80050] with env := [1200] } : Packet) (wCmd (wOn) ({ wPk 0x0703 (tgt cPWR 0) [0x3E80050] with env := [1200] }) : State).take).2.status = 0) := by decide +kernel

/-- The conditions of the pwrStatus clause are met together. -/
theorem test_wit_pwrStatus :
    ((wCmd (wOn) (wPk 0x0704 (tgt cPWR 0) []) : State).takes 0x0704 (wPk 0x0704 (tgt cPWR 0) [] : Packet)) ∧ ((runEff effPwrStatus (wPk 0x0704 (tgt cPWR 0) [] : Packet) (wCmd (wOn) (wPk 0x0704 (tgt cPWR 0) []) : State).take).2.status = 0) := by decide +kernel

/-- The conditions of the pwrPriv clause are met together. -/
theorem test_wit_pwrPriv :
    ((wCmd (wOn) (wPk 0x0705 (tgt cPWR 0) [0x10000, 5]) : State).takes 0x0705 (wPk 0x0705 (tgt cPWR 0) [0x10000, 5] : Packet)) ∧ ((runEff effPwrPriv (wPk 0x0705 (tgt cPWR 0) [0x10000, 5] : Packet) (wCmd (wOn) (wPk 0x0705 (tgt cPWR 0) [0x10000, 5]) : State).take).2.status = 0) := by decide +kernel

/-- The conditions of the clkSwitch clause are met together. -/
theorem test_wit_clkSwitch :
    ((wCmd (wSwitch) (wPk 0x0801 (tgt cCLK 0x20) [2]) : State).takes 0x0801 (wPk 0x0801 (tgt cCLK 0x20) [2] : Packet)) ∧ ((runEff effClkSwitch (wPk 0x0801 (tgt cCLK 0x20) [2] : Packet) (wCmd (wSwitch) (wPk 0x0801 (tgt cCLK 0x20) [2]) : State).take).2.status = 0) := by decide +kernel

/-- The conditions of the clkTrim clause are met together. -/
theorem test_wit_clkTrim :
    ((wCmd (wOn) (wPk 0x0802 (tgt cCLK 1) [0x70002]) : State).takes 0x0802 (wPk 0x0802 (tgt cCLK 1) [0x70002] : Packet)) ∧ ((runEff effClkTrim (wPk 0x0802 (tgt cCLK 1) [0x70002] : Packet) (wCmd (wOn) (wPk 0x0802 (tgt cCLK 1) [0x70002]) : State).take).2.status = 0) := by decide +kernel

/-- The conditions of the clkStatus clause are met together. -/
theorem test_wit_clkStatus :
    ((wCmd (wOn) (wPk 0x0803 (tgt cCLK 0x20) []) : State).takes 0x0803 (wPk 0x0803 (tgt cCLK 0x20) [] : Packet)) ∧ ((runEff effClkStatus (wPk 0x0803 (tgt cCLK 0x20) [] : Packet) (wCmd (wOn) (wPk 0x0803 (tgt cCLK 0x20) []) : State).take).2.status = 0) := by decide +kernel

/-- The conditions of the fltAck clause are met together. -/
theorem test_wit_fltAck :
    ((wCmd (wOn) (wPk 0x0901 (tgt cFLT 0) []) : State).takes 0x0901 (wPk 0x0901 (tgt cFLT 0) [] : Packet)) ∧ ((runEff effFltAck (wPk 0x0901 (tgt cFLT 0) [] : Packet) (wCmd (wOn) (wPk 0x0901 (tgt cFLT 0) []) : State).take).2.status = 0) := by decide +kernel

/-- The conditions of the fltHistory clause are met together. -/
theorem test_wit_fltHistory :
    ((wCmd (wOn) (wPk 0x0902 (tgt cFLT 0) [0]) : State).takes 0x0902 (wPk 0x0902 (tgt cFLT 0) [0] : Packet)) ∧ ((runEff effFltHistory (wPk 0x0902 (tgt cFLT 0) [0] : Packet) (wCmd (wOn) (wPk 0x0902 (tgt cFLT 0) [0]) : State).take).2.status = 0) := by decide +kernel

/-- The conditions of the fltMask clause are met together. -/
theorem test_wit_fltMask :
    ((wCmd (wOn) (wPk 0x0903 (tgt cFLT 0) [0, 7, 1]) : State).takes 0x0903 (wPk 0x0903 (tgt cFLT 0) [0, 7, 1] : Packet)) ∧ ((runEff effFltMask (wPk 0x0903 (tgt cFLT 0) [0, 7, 1] : Packet) (wCmd (wOn) (wPk 0x0903 (tgt cFLT 0) [0, 7, 1]) : State).take).2.status = 0) := by decide +kernel

/-- The conditions of the fltInject clause are met together. -/
theorem test_wit_fltInject :
    ((wCmd (wM mTEST) (wPk 0x0904 (tgt cBOUGH 1) [1, 3, 5]) : State).takes 0x0904 (wPk 0x0904 (tgt cBOUGH 1) [1, 3, 5] : Packet)) ∧ ((runEff effFltInject (wPk 0x0904 (tgt cBOUGH 1) [1, 3, 5] : Packet) (wCmd (wM mTEST) (wPk 0x0904 (tgt cBOUGH 1) [1, 3, 5]) : State).take).2.status = 0) := by decide +kernel

/-- The conditions of the fwBegin clause are met together. -/
theorem test_wit_fwBegin :
    ((wCmd (wOn) (wPk 0x0A01 (tgt cSVC 2) wHdrWords) : State).takes 0x0A01 (wPk 0x0A01 (tgt cSVC 2) wHdrWords : Packet)) ∧ ((runEff effFwBegin (wPk 0x0A01 (tgt cSVC 2) wHdrWords : Packet) (wCmd (wOn) (wPk 0x0A01 (tgt cSVC 2) wHdrWords) : State).take).2.status = 0) := by decide +kernel

/-- The conditions of the fwVerify clause are met together. -/
theorem test_wit_fwVerify :
    ((wCmd (wVer) (wPk 0x0A03 (tgt cSVC 2) (List.replicate 64 0)) : State).takes 0x0A03 (wPk 0x0A03 (tgt cSVC 2) (List.replicate 64 0) : Packet)) ∧ (indirect (wPk 0x0A03 (tgt cSVC 2) (List.replicate 64 0) : Packet) = false) ∧ ((wPk 0x0A03 (tgt cSVC 2) (List.replicate 64 0) : Packet).late = false) ∧ ((wCmd (wVer) (wPk 0x0A03 (tgt cSVC 2) (List.replicate 64 0)) : State).take.fld SVC_FW_STATUS.SESSION = 1) ∧ (blockMissing ((wCmd (wVer) (wPk 0x0A03 (tgt cSVC 2) (List.replicate 64 0)) : State).take.fwSlot (wCmd (wVer) (wPk 0x0A03 (tgt cSVC 2) (List.replicate 64 0)) : State).take.idleSlot) = none) ∧ (envAt (wPk 0x0A03 (tgt cSVC 2) (List.replicate 64 0) : Packet) 0 = 0) := by decide +kernel

/-- The conditions of the fwActivate clause are met together. -/
theorem test_wit_fwActivate :
    ((wCmd (wOn) (wPk 0x0A04 (tgt cSVC 2) [0]) : State).takes 0x0A04 (wPk 0x0A04 (tgt cSVC 2) [0] : Packet)) ∧ ((runEff effFwActivate (wPk 0x0A04 (tgt cSVC 2) [0] : Packet) (wCmd (wOn) (wPk 0x0A04 (tgt cSVC 2) [0]) : State).take).2.status = 0) := by decide +kernel

/-- The conditions of the fwInfo clause are met together. -/
theorem test_wit_fwInfo :
    ((wCmd (wOn) (wPk 0x0A05 (tgt cSVC 2) []) : State).takes 0x0A05 (wPk 0x0A05 (tgt cSVC 2) [] : Packet)) ∧ ((runEff effFwInfo (wPk 0x0A05 (tgt cSVC 2) [] : Packet) (wCmd (wOn) (wPk 0x0A05 (tgt cSVC 2) []) : State).take).2.status = 0) := by decide +kernel

/-- The conditions of the progLoad clause are met together. -/
theorem test_wit_progLoad :
    ((wCmd (wCust) (wPk 0x0B01 (tgt cBOUGH 1) []) : State).takes 0x0B01 (wPk 0x0B01 (tgt cBOUGH 1) [] : Packet)) ∧ ((runEff effProgLoad (wPk 0x0B01 (tgt cBOUGH 1) [] : Packet) (wCmd (wCust) (wPk 0x0B01 (tgt cBOUGH 1) []) : State).take).2.status = 0) := by decide +kernel

/-- The conditions of the progPatch clause are met together. -/
theorem test_wit_progPatch :
    ((wCmd (wCust) (wPk 0x0B02 (tgt cBOUGH 1) [0, 0]) : State).takes 0x0B02 (wPk 0x0B02 (tgt cBOUGH 1) [0, 0] : Packet)) ∧ ((runEff effProgPatch (wPk 0x0B02 (tgt cBOUGH 1) [0, 0] : Packet) (wCmd (wCust) (wPk 0x0B02 (tgt cBOUGH 1) [0, 0]) : State).take).2.status = 0) := by decide +kernel

/-- The conditions of the storeModeSet clause are met together. -/
theorem test_wit_storeModeSet :
    ((wCmd (wM mSTEEPING) (wPk 0x0B03 (tgt cBOUGH 1) [1]) : State).takes 0x0B03 (wPk 0x0B03 (tgt cBOUGH 1) [1] : Packet)) ∧ ((runEff effStoreModeSet (wPk 0x0B03 (tgt cBOUGH 1) [1] : Packet) (wCmd (wM mSTEEPING) (wPk 0x0B03 (tgt cBOUGH 1) [1]) : State).take).2.status = 0) := by decide +kernel

/-- The conditions of the progActivate clause are met together. -/
theorem test_wit_progActivate :
    ((wCmd (wOn) (wPk 0x0B04 (tgt cBOUGH 1) [3]) : State).takes 0x0B04 (wPk 0x0B04 (tgt cBOUGH 1) [3] : Packet)) ∧ ((runEff effProgActivate (wPk 0x0B04 (tgt cBOUGH 1) [3] : Packet) (wCmd (wOn) (wPk 0x0B04 (tgt cBOUGH 1) [3]) : State).take).2.status = 0) := by decide +kernel

/-- The conditions of the progRead clause are met together. -/
theorem test_wit_progRead :
    ((wCmd (wOn) (wPk 0x0B05 (tgt cBOUGH 1) [1, 0]) : State).takes 0x0B05 (wPk 0x0B05 (tgt cBOUGH 1) [1, 0] : Packet)) ∧ ((runEff effProgRead (wPk 0x0B05 (tgt cBOUGH 1) [1, 0] : Packet) (wCmd (wOn) (wPk 0x0B05 (tgt cBOUGH 1) [1, 0]) : State).take).2.status = 0) := by decide +kernel

/-- The conditions of the unitGraft clause are met together. -/
theorem test_wit_unitGraft :
    ((wCmd (wPort pUP) (wPk 0x0C01 (tgt cLANE 5) [1]) : State).takes 0x0C01 (wPk 0x0C01 (tgt cLANE 5) [1] : Packet)) ∧ ((runEff effUnitGraft (wPk 0x0C01 (tgt cLANE 5) [1] : Packet) (wCmd (wPort pUP) (wPk 0x0C01 (tgt cLANE 5) [1]) : State).take).2.status = 0) := by decide +kernel

/-- The conditions of the unitRestore clause are met together. -/
theorem test_wit_unitRestore :
    ((wCmd (wPort pUP |>.setUst (tgt cLANE 5) uGRAFT 2) (wPk 0x0C02 (tgt cLANE 5) [0]) : State).takes 0x0C02 (wPk 0x0C02 (tgt cLANE 5) [0] : Packet)) ∧ ((runEff effUnitRestore (wPk 0x0C02 (tgt cLANE 5) [0] : Packet) (wCmd (wPort pUP |>.setUst (tgt cLANE 5) uGRAFT 2) (wPk 0x0C02 (tgt cLANE 5) [0]) : State).take).2.status = 0) := by decide +kernel

/-- The conditions of the unitRetire clause are met together. -/
theorem test_wit_unitRetire :
    ((wCmd (wPort pUP) (wPk 0x0C03 (tgt cLANE 5) [1]) : State).takes 0x0C03 (wPk 0x0C03 (tgt cLANE 5) [1] : Packet)) ∧ ((runEff effUnitRetire (wPk 0x0C03 (tgt cLANE 5) [1] : Packet) (wCmd (wPort pUP) (wPk 0x0C03 (tgt cLANE 5) [1]) : State).take).2.status = 0) := by decide +kernel

/-- The conditions of the unitState clause are met together. -/
theorem test_wit_unitState :
    ((wCmd (wPort pUP) (wPk 0x0C04 (tgt cLANE 5) []) : State).takes 0x0C04 (wPk 0x0C04 (tgt cLANE 5) [] : Packet)) ∧ ((runEff effUnitState (wPk 0x0C04 (tgt cLANE 5) [] : Packet) (wCmd (wPort pUP) (wPk 0x0C04 (tgt cLANE 5) []) : State).take).2.status = 0) := by decide +kernel

/-- The conditions of the dozeCfg clause are met together. -/
theorem test_wit_dozeCfg :
    ((wCmd (wOn) (wPk 0x0C05 (tgt cPIPE 3) [100]) : State).takes 0x0C05 (wPk 0x0C05 (tgt cPIPE 3) [100] : Packet)) ∧ ((runEff effDozeCfg (wPk 0x0C05 (tgt cPIPE 3) [100] : Packet) (wCmd (wOn) (wPk 0x0C05 (tgt cPIPE 3) [100]) : State).take).2.status = 0) := by decide +kernel

/-- A state and operands that meet the conditions of StepRunsFrontCommand. -/
theorem test_wit_StepRunsFrontCommand :
    State.reset.pending = [] := by decide +kernel

/-- A state and operands that meet the conditions of RegisterOffsetsDecode. -/
theorem test_wit_RegisterOffsetsDecode :
    7 < Reg.elems .ROOT_STATUS ∧ (Reg.ROOT_STATUS = .CLK_PLL → isPll 7 = true) ∧ isWide (Reg.info .TX_BYTES) = true := by decide +kernel

/-- A state and operands that meet the conditions of RegisterOffsetsDecode. -/
theorem test_wit_RegisterOffsetsDecode_none :
    6 % 4 ≠ 0 ∨ 2 ^ 26 ≤ 6 := by decide +kernel

/-- A state and operands that meet the conditions of BusErrors. -/
theorem test_wit_BusErrors_none :
    wBoot0.busUp 1 = true ∧ wBoot0.busWaits 1 0x34 = false ∧ regAt 0x34 = none := by decide +kernel

/-- A state and operands that meet the conditions of BusErrors. -/
theorem test_wit_BusErrors_shape :
    wBoot0.busUp 0 = false ∧ wOn.busUp 0 = true ∧ wOn.busWaits 0 0x400000 = false ∧ regAt 0x400000 = some ⟨.CMD_CTL, 0, false⟩ ∧ ([1, 2] : List Word).length ≠ 1 := by decide +kernel

/-- A state and operands that meet the conditions of BusErrors. -/
theorem test_wit_BusErrors_domain :
    wBoot0.busUp 1 = true ∧ wBoot0.busWaits 1 0x400000 = false ∧ regAt 0x400000 = some ⟨.CMD_CTL, 0, false⟩ ∧ (1 = 0 → ([1] : List Word).length = 1 ∧ true = true) ∧ wBoot0.domOn (regDomain .CMD_CTL 0) = false := by decide +kernel

/-- A state and operands that meet the conditions of PlainWrites. -/
theorem test_wit_PlainWrites :
    wBoot0.lands 1 .GLB_SCRATCH 0 ∧ Reg.ownWrite .GLB_SCRATCH = false := by decide +kernel

/-- A state and operands that meet the conditions of MaskedWrites. -/
theorem test_wit_MaskedWrites :
    (Reg.info .GPIO_OUT).mw = true := by decide +kernel

/-- A state and operands that meet the conditions of MaskedWrites. -/
theorem test_wit_MaskedWrites_lands :
    wBoot0.lands 1 .GPIO_OUT 0 ∧ (7 : Word).toNat / 65536 = 0 := by decide +kernel

/-- A state and operands that meet the conditions of ReadClears. -/
theorem test_wit_ReadClears :
    wOn.busUp 1 = true ∧ wOn.busWaits 1 (regOffset .TELEM_EVENT 0) = false ∧ wOn.busCheck 1 (regOffset .TELEM_EVENT 0) 1 false true = .inl ⟨.TELEM_EVENT, 0, false⟩ ∧ regAt (regOffset .TELEM_EVENT 0) = some ⟨.TELEM_EVENT, 0, false⟩ ∧ (Reg.info .TELEM_EVENT).rc ≠ 0 ∧ tabGet wOn.hiLatch (latchKey 1 .TELEM_EVENT 0) none = none := by decide +kernel

/-- A state and operands that meet the conditions of PairedReads. -/
theorem test_wit_PairedReads :
    pairHi .TELEM_TOD_LO = some .TELEM_TOD_HI ∧ tabGet (wOn.readHit 1 ⟨.TELEM_TOD_LO, 0, false⟩).1.hiLatch (latchKey 1 .TELEM_TOD_HI 0) none = some 0 := by decide +kernel

/-- A state and operands that meet the conditions of PairedReads. -/
theorem test_wit_PairedReads_live :
    pairHi .TELEM_TOD_LO = some .TELEM_TOD_HI ∧ tabGet wOn.hiLatch (latchKey 1 .TELEM_TOD_HI 0) none = none := by decide +kernel

/-- A state and operands that meet the conditions of ResetControl. -/
theorem test_wit_ResetControl_bad :
    wBoot0.lands 1 .GLB_RESET_CTL 0 ∧ bitsAt (0x12340001 : Word) 16 16 ≠ 0xC1A5 := by decide +kernel

/-- A state and operands that meet the conditions of ResetControl. -/
theorem test_wit_ResetControl :
    wBoot0.lands 1 .GLB_RESET_CTL 0 ∧ bitsAt (0xC1A50003 : Word) 16 16 = 0xC1A5 := by decide +kernel

/-- A state and operands that meet the conditions of AcceptanceOrder. -/
theorem test_wit_AcceptanceOrder :
    let p := { wPk 0 0 [] with ver := 2 }; p.opcode = 0 ∧ (wCmd wOn p).ready p = true ∧ (fenceFlag p && !((wCmd wOn p).take.cmd.jobs.isEmpty && (wCmd wOn p).take.cmd.heldReps.isEmpty)) = false ∧ p.ver ≠ 1 := by decide +kernel

/-- A state and operands that meet the conditions of AcceptanceOrder. -/
theorem test_wit_AcceptanceOrder_header :
    let p := { wPk 0 0 [] with rsvB := 1 }; (wCmd wOn p).ready p = true ∧ p.ver = 1 ∧ p.rsvB ≠ 0 := by decide +kernel

/-- A state and operands that meet the conditions of AcceptanceOrder. -/
theorem test_wit_AcceptanceOrder_length :
    let p := wPk 0 0 [5]; (wCmd wOn p).ready p = true ∧ headerOk p = true ∧ (wCmd wOn p).take.mode < 6 ∧ indirect p = false ∧ p.plen ≠ 0 := by decide +kernel

/-- A state and operands that meet the conditions of AcceptanceOrder. -/
theorem test_wit_AcceptanceOrder_target :
    let p := wPk 0 0x1001 []; (wCmd wOn p).ready p = true ∧ headerOk p = true ∧ p.plen = 0 ∧ p.target < 65536 ∧ p.target ≠ 0 := by decide +kernel

/-- A state and operands that meet the conditions of AcceptanceOrder. -/
theorem test_wit_AcceptanceOrder_busy :
    let p := wPk 0 0 []; let s := { wOn with cmd.jobs := [⟨wPk 2 0 [4], .running⟩] }; (wCmd s p).ready p = true ∧ headerOk p = true ∧ p.target = 0 ∧ (wCmd s p).take.cmd.jobs.head? = some ⟨wPk 2 0 [4], .running⟩ := by decide +kernel

/-- A state and operands that meet the conditions of NopChangesNothing. -/
theorem test_wit_NopChangesNothing :
    let p := wPk 0 0 []; (wCmd wOn p).takes 0x0000 p ∧ indirect p = false ∧ p.late = false := by decide +kernel

/-- A state and operands that meet the conditions of FenceWaits. -/
theorem test_wit_FenceWaits :
    let p := wPk 4 0 []; let s := { wOn with cmd.jobs := [⟨wPk 2 0 [4], .running⟩] }; (wCmd s p).ready p = true ∧ (wCmd s p).take.cmd.jobs ≠ [] ∧ p.opcode = 0x0004 := by decide +kernel

/-- A state and operands that meet the conditions of FenceWaits. -/
theorem test_wit_FenceWaits_flag :
    let p := { wPk 0 0 [] with flags := 1 }; let s := { wOn with cmd.jobs := [⟨wPk 2 0 [4], .running⟩] }; (wCmd s p).ready p = true ∧ (wCmd s p).take.cmd.jobs ≠ [] ∧ p.opcode = 0x0000 ∧ fenceFlag p = true := by decide +kernel

/-- A state and operands that meet the conditions of FenceWaits. -/
theorem test_wit_FenceWaits_blocked :
    (wOn.block (wPk 4 0 []) .fence).cmd.blocked ≠ none := by decide +kernel

/-- A state and operands that meet the conditions of CompletionEntries. -/
theorem test_wit_CompletionEntries :
    let s := wOn.setReg .CMD_CQ_SIZE 0 16; indirect (wPk 0 0 []) = false ∧ 0 < s.cqSize ∧ s.cqSize ≤ 65536 := by decide +kernel

/-- A state and operands that meet the conditions of NoReplyKeepsQuiet. -/
theorem test_wit_NoReplyKeepsQuiet :
    let p := { wPk 0 0 [] with flags := 8 }; noReply p = true ∧ (ok).status = 0 ∧ indirect p = false := by decide +kernel

/-- A state and operands that meet the conditions of NoReplyKeepsQuiet. -/
theorem test_wit_NoReplyKeepsQuiet_other :
    let p := { wPk 0 0 [] with flags := 8 }; noReply p = true ∧ (badPar 0).status ≠ 0 ∧ (badPar 0).status ≠ 0x8000 ∧ p.chan = 1 ∧ (badPar 0).anyDetail = false := by decide +kernel

/-- A state and operands that meet the conditions of ReadingCommandsChangeNothing. -/
theorem test_wit_Reading_nop :
    (wCmd (wOn) (wPk 0x0000 (0) [])).takes 0x0000 (wPk 0x0000 (0) []) := by decide +kernel

/-- A state and operands that meet the conditions of ReadingCommandsChangeNothing. -/
theorem test_wit_Reading_identify :
    (wCmd (wOn) (wPk 0x0001 (0) [])).takes 0x0001 (wPk 0x0001 (0) []) := by decide +kernel

/-- A state and operands that meet the conditions of ReadingCommandsChangeNothing. -/
theorem test_wit_Reading_getStatus :
    (wCmd (wOn) (wPk 0x0005 (0) [])).takes 0x0005 (wPk 0x0005 (0) []) := by decide +kernel

/-- A state and operands that meet the conditions of ReadingCommandsChangeNothing. -/
theorem test_wit_Reading_portStatus :
    (wCmd (wPort pUP) (wPk 0x0103 (tgt cPORT 5) [])).takes 0x0103 (wPk 0x0103 (tgt cPORT 5) []) := by decide +kernel

/-- A state and operands that meet the conditions of ReadingCommandsChangeNothing. -/
theorem test_wit_Reading_laneFom :
    (wCmd (wOn) (wPk 0x0107 (tgt cLANE 5) [])).takes 0x0107 (wPk 0x0107 (tgt cLANE 5) []) := by decide +kernel

/-- A state and operands that meet the conditions of ReadingCommandsChangeNothing. -/
theorem test_wit_Reading_clsRead :
    (wCmd (wOn) (wPk 0x0302 (tgt cPIPE 3) [0])).takes 0x0302 (wPk 0x0302 (tgt cPIPE 3) [0]) := by decide +kernel

/-- A state and operands that meet the conditions of ReadingCommandsChangeNothing. -/
theorem test_wit_Reading_meterRead :
    (wCmd (wOn) (wPk 0x0305 (tgt cPIPE 3) [0x10005])).takes 0x0305 (wPk 0x0305 (tgt cPIPE 3) [0x10005]) := by decide +kernel

/-- A state and operands that meet the conditions of ReadingCommandsChangeNothing. -/
theorem test_wit_Reading_perfRead :
    (wCmd (wOn) (wPk 0x0507 (tgt cPIPE 3) [])).takes 0x0507 (wPk 0x0507 (tgt cPIPE 3) []) := by decide +kernel

/-- A state and operands that meet the conditions of ReadingCommandsChangeNothing. -/
theorem test_wit_Reading_gristGroupStatus :
    (wCmd (wGrp wGroup) (wPk 0x0603 (tgt cGRIST 0x100) [7])).takes 0x0603 (wPk 0x0603 (tgt cGRIST 0x100) [7]) := by decide +kernel

/-- A state and operands that meet the conditions of ReadingCommandsChangeNothing. -/
theorem test_wit_Reading_pwrStatus :
    (wCmd (wOn) (wPk 0x0704 (tgt cPWR 0) [])).takes 0x0704 (wPk 0x0704 (tgt cPWR 0) []) := by decide +kernel

/-- A state and operands that meet the conditions of ReadingCommandsChangeNothing. -/
theorem test_wit_Reading_clkStatus :
    (wCmd (wOn) (wPk 0x0803 (tgt cCLK 0x20) [])).takes 0x0803 (wPk 0x0803 (tgt cCLK 0x20) []) := by decide +kernel

/-- A state and operands that meet the conditions of ReadingCommandsChangeNothing. -/
theorem test_wit_Reading_fltHistory :
    (wCmd (wOn) (wPk 0x0902 (tgt cFLT 0) [0])).takes 0x0902 (wPk 0x0902 (tgt cFLT 0) [0]) := by decide +kernel

/-- A state and operands that meet the conditions of ReadingCommandsChangeNothing. -/
theorem test_wit_Reading_fwInfo :
    (wCmd (wOn) (wPk 0x0A05 (tgt cSVC 2) [])).takes 0x0A05 (wPk 0x0A05 (tgt cSVC 2) []) := by decide +kernel

/-- A state and operands that meet the conditions of ReadingCommandsChangeNothing. -/
theorem test_wit_Reading_progRead :
    (wCmd (wOn) (wPk 0x0B05 (tgt cBOUGH 1) [1, 0])).takes 0x0B05 (wPk 0x0B05 (tgt cBOUGH 1) [1, 0]) := by decide +kernel

/-- A state and operands that meet the conditions of ReadingCommandsChangeNothing. -/
theorem test_wit_Reading_unitState :
    (wCmd (wPort pUP) (wPk 0x0C04 (tgt cLANE 5) [])).takes 0x0C04 (wPk 0x0C04 (tgt cLANE 5) []) := by decide +kernel

/-- A state and operands that meet the conditions of RefusedCommandsChangeNothing. -/
theorem test_wit_Refused :
    let p := wPk 0x0504 (tgt cPIPE 3) [2]; (wCmd wOn p).takes 0x0504 p ∧ (runEff effTagCfg p (wCmd wOn p).take).2.status ≠ 0 := by decide +kernel

/-- A state and operands that meet the conditions of ModeChanges. -/
theorem test_wit_ModeChanges :
    let p := wPk 2 0 [4]; (wCmd wOn p).takes 0x0002 p ∧ indirect p = false ∧ p.late = false ∧ par p 0 = wd 4 ∧ (wCmd wOn p).take.flt.fatal = false ∧ (wCmd wOn p).take.life.down = false ∧ (wCmd wOn p).take.mode = 3 := by decide +kernel

/-- A state and operands that meet the conditions of ModeChanges. -/
theorem test_wit_ModeChanges_same :
    let p := wPk 2 0 [3]; (wCmd wOn p).takes 0x0002 p ∧ par p 0 = wd 3 ∧ (wCmd wOn p).take.mode = 3 := by decide +kernel

/-- A state and operands that meet the conditions of ModeChanges. -/
theorem test_wit_ModeChanges_refused :
    let p := wPk 2 0 [5]; (wCmd wOn p).takes 0x0002 p ∧ par p 0 = wd 5 ∧ (wCmd wOn p).take.mode = 3 := by decide +kernel

/-- A state and operands that meet the conditions of StatusReads. -/
theorem test_wit_StatusReads_clk :
    let p := wPk 0x0803 (tgt cCLK 0x20) []; (wCmd wOn p).takes 0x0803 p ∧ indirect p = false ∧ p.late = false ∧ isPll (tInst p.target) = true := by decide +kernel

/-- A state and operands that meet the conditions of StatusReads. -/
theorem test_wit_StatusReads_src :
    let p := wPk 0x0803 (tgt cCLK 9) []; (wCmd wOn p).takes 0x0803 p ∧ tInst p.target = 5 + 4 := by decide +kernel

/-- A state and operands that meet the conditions of StatusReads. -/
theorem test_wit_StatusReads_src0 :
    let p := wPk 0x0803 (tgt cCLK 3) []; (wCmd wOn p).takes 0x0803 p ∧ tInst p.target = 3 := by decide +kernel

/-- A state and operands that meet the conditions of StatusReads. -/
theorem test_wit_StatusReads_pwr :
    let p := wPk 0x0704 (tgt cPWR 0x60) []; (wCmd wOn p).takes 0x0704 p ∧ tInst p.target = pwrInst 26 := by decide +kernel

/-- A state and operands that meet the conditions of StatusReads. -/
theorem test_wit_StatusReads_pwr0 :
    let p := wPk 0x0704 (tgt cPWR 0) []; (wCmd wOn p).takes 0x0704 p ∧ tInst p.target = 0 := by decide +kernel

/-- A state and operands that meet the conditions of StatusReads. -/
theorem test_wit_StatusReads_fw :
    let p := wPk 0x0A05 (tgt cSVC 2) []; (wCmd wOn p).takes 0x0A05 p ∧ indirect p = false ∧ p.late = false := by decide +kernel

/-- A state and operands that meet the conditions of SnapshotCopies. -/
theorem test_wit_SnapshotCopies :
    let p := wPk 3 0 []; (wCmd wOn p).takes 0x0003 p ∧ indirect p = false ∧ p.late = false ∧ tabWf (fun _ => 0) (wCmd wOn p).ctr = true := by decide +kernel

/-- A state and operands that meet the conditions of FaultEventsCollected. -/
theorem test_wit_FaultEventsCollected :
    (State.reset.flt.waiting.filter (fun w => w.ev.src == 3)).length < 4 ∧ State.reset.flt.hist.length < 32 := by decide +kernel

/-- A state and operands that meet the conditions of FaultEventsCollected. -/
theorem test_wit_FaultEventsCollected_full :
    let e : FltEv := { src := 3, code := 1, cls := 0, target := 0, detail := 0, inj := false }; let s := (((State.reset.deliver e).deliver e).deliver e).deliver e; 4 ≤ (s.flt.waiting.filter (fun w => w.ev.src == e.src)).length := by decide +kernel

/-- A state and operands that meet the conditions of RetirementIsRecorded. -/
theorem test_wit_RetirementIsRecorded :
    tCls (tgt cPIPE 9) ≠ tCls (tgt cPIPE 8) ∨ tInst (tgt cPIPE 9) ≠ tInst (tgt cPIPE 8) := by decide +kernel

/-- A state and operands that meet the conditions of ImagesPassTheirChecks. -/
theorem test_wit_ImagesPassTheirChecks :
    trailOk ([] : List Nat) = false := by decide +kernel

/-- A block whose check value is its CRC-32C passes. -/
theorem test_block_check (ws : List Word) : blockOk { data := ws, check := wd (crc32c (wordBytes ws)) } = true := by
  have h : crc32c (wordBytes ws) < 4294967296 := crc32c_lt (wordBytes ws)
  simp only [blockOk, wd, BitVec.toNat_ofNat, Nat.reducePow, Nat.mod_eq_of_lt h, beq_self_eq_true]

/-- The session without the command. -/
def wSess0 : State := { wSess with cmd.seqRuns := [], life.boot := 0 }

/-- FW_BLOCK with a block of 16,384 words and its check value is taken and succeeds in an open session. -/
theorem test_fwBlock_taken (ws : List Word) (h : ws.length = 16384) :
    let p := wPk 0x0A02 (tgt cSVC 2) (wBlkOf ws)
    (wCmd wSess p).takes 0x0A02 p ∧ (runEff effFwBlock p (wCmd wSess p).take).2.status = 0 := by
  intro p
  have hl : p.plen = 16386 := by simp [p, wPk, wBlkOf, h]
  have hi : indirect p = false := by simp [p, indirect, wPk, nbit]
  have hp (i : Nat) : par p i = (wBlkOf ws).getD i 0 := by unfold par; rw [hi]; rfl
  have hb : blockOk { data := parWords p 1 16384, check := par p 16385 } = true := by
    have e1 : parWords p 1 16384 = ws := by
      apply List.ext_getElem
      · simp [parWords, h]
      · intro i h1 h2
        simp [parWords, hp, wBlkOf, Nat.add_comm 1 i, List.getElem?_append, h2]
    have e2 : par p 16385 = wd (crc32c (wordBytes ws)) := by simp [hp, wBlkOf, h]
    rw [e1, e2]; exact test_block_check ws
  have hr : (wCmd wSess p).ready p = true := by
    show (_ && (frameWords p == frameWords p && _)) = true
    rw [beq_self_eq_true]
    show (wSess0.life.boot == 0 && !wSess0.cmd.pause && wSess0.cmd.blocked.isNone && !wSess0.pllStopped 4 && (true && true)) = true
    decide +kernel
  have ht : (wCmd wSess p).take = wSess0 := by
    have e : (wCmd wSess p).cmd.seqRuns = [.svc (frameWords p) false] := by simp only [wCmd]
    unfold State.take; rw [e]; simp only [wCmd, wSess0]
  have h0 : par p 0 = 0 := by rw [hp]; rfl
  have h1 : onlyBits p 0 0x7F = true := by unfold onlyBits; rw [h0]; decide +kernel
  have h2 : parF p 0 0 7 = 0 := by unfold parF; rw [h0]; decide +kernel
  have ha : accept wSess0 p = none := by
    have ho : opInfo p.opcode = some ⟨0x0A02, [⟨13, 2, 2, false⟩], modesUP, false, 16386, 16386⟩ := by
      show opInfo 0x0A02 = _; decide +kernel
    have hm : wSess0.mode = 3 := by decide +kernel
    have hd : headerOk p = true := by unfold headerOk; rw [hi, show p.rsvB = 0 from rfl, show p.rsvC = 0 from rfl, show p.flags = 0 from rfl, show p.chan = 1 from rfl]; decide
    have hk : lenOk ⟨0x0A02, [⟨13, 2, 2, false⟩], modesUP, false, 16386, 16386⟩ p = true := by
      unfold lenOk; rw [hi, hl]; rfl
    have hg : targetOk ⟨0x0A02, [⟨13, 2, 2, false⟩], modesUP, false, 16386, 16386⟩ p.target = true := by
      show targetOk _ (tgt cSVC 2) = true; decide +kernel
    have hv : wSess0.privOk p = true := rfl
    unfold accept
    rw [if_neg (show ¬ p.ver ≠ 1 from fun c => c rfl)]
    have hj : wSess0.cmd.jobs = [] := by decide +kernel
    simp only [ho, hm, hd, hk, hg, hv, hj, List.find?_nil]
    rfl
  have hw : wSess0.mustWait p = false := by
    unfold State.mustWait
    rw [show p.target = tgt cSVC 2 from rfl, show p.opcode = 0x0A02 from rfl]
    have : (wSess0.unit (tgt cSVC 2)).held = false := by decide +kernel
    rw [this]; rfl
  have hf : ((fenceFlag p || 0x0A02 == 0x0004 || 0x0A02 == 0x0A04) && !(wSess0.cmd.jobs.isEmpty && wSess0.cmd.heldReps.isEmpty)) = false := by
    rw [show fenceFlag p = false by simp [p, fenceFlag, wPk, nbit]]; rfl
  have hs : (runEff effFwBlock p wSess0).2.status = 0 := by
    have h3 : wSess0.fld SVC_FW_STATUS.SESSION = 1 := by decide +kernel
    have h4 : ¬ hdrBlocks (wSess0.fwSlot wSess0.idleSlot).hdr ≤ 0 := by decide +kernel
    have h5 : envAt p 0 = 0 := rfl
    have e : effFwBlock p wSess0 = ((wSess0.flashFails 0 (127 * wSess0.idleSlot + 1 + 0)).putBlock wSess0.idleSlot 0
        { data := parWords p 1 16384, check := par p 16385 }, ok) := by
      simp only [effFwBlock, h1, h2, h3, h5, hb]
      simp only [h4, if_false]; rfl
    unfold runEff
    rw [show descCheck p = none by unfold descCheck; rw [hi]; rfl, e]
    have hq : resultsFit p ok = true := by unfold resultsFit resultSpace; rw [hi]; rfl
    simp only [show p.late = false from rfl, Bool.false_and, hq]
    rfl
  unfold State.takes
  rw [ht]
  exact ⟨⟨rfl, hr, hf, ha, hw, rfl⟩, hs⟩

/-- The conditions of the fwBlock clause are met together. -/
theorem test_wit_fwBlock :
    ∃ (s : State) (p : Packet), s.takes 0x0A02 p ∧ (runEff effFwBlock p s.take).2.status = 0 :=
  ⟨_, _, test_fwBlock_taken (List.replicate 16384 0) List.length_replicate⟩


/-- A step that answers a next state, as OtpNeverGoesBack asks. -/
theorem test_wit_OtpNeverGoesBack : step State.reset = .next State.reset.tick := rfl

end Sys2Proof.Machine
end

section
/-! PROOFS. What a command that is taken and accepted does: its effect and its reply, with the checks all commands share (R44, R45, R49 to R51). -/
namespace Sys2Proof.Machine

/-! ## Commands that are taken and accepted (R49, R50) -/

/-- A command that is taken, accepted, not slow and made to wait by nothing has its effect and is answered. -/
theorem State.command_answered {s : State} {code : Nat} {p : Packet} {eff : Eff} (h : s.takes code p) :
    s.command code eff p = s.take.answered p (runEff eff p s.take) := by
  obtain ⟨_, _, _, _, _, hslow⟩ := id h
  rw [State.command_takes eff h, State.start_answered hslow]

/-- The row of an opcode answers the state that `State.command_answered` gives. -/
theorem next_answered {s : State} {code : Nat} {p : Packet} {eff : Eff} (h : s.takes code p) :
    (.next (s.command code eff p) : Host.Outcome State Fault Refusal) = .next (s.take.answered p (runEff eff p s.take)) :=
  congrArg _ (State.command_answered h)

/-- An effect's result stands where no shared check refuses: no INDIRECT, in time, and the results fit (R44, R45, R51). -/
theorem runEff_of_direct {eff : Eff} {p : Packet} {s : State} (hi : indirect p = false) (hl : p.late = false)
    (hfit : resultsFit p (eff p s).2 = true) : runEff eff p s = eff p s := by
  simp [runEff, descCheck, hi, hl, hfit]

/-- Without INDIRECT, twelve result words fit on either channel (R45). -/
theorem resultsFit_of_direct {p : Packet} {r : Rep} (hi : indirect p = false) (hr : r.results.length ≤ 12) : resultsFit p r = true := by
  by_cases hc : p.chan = 0 <;> simp [resultsFit, resultSpace, hi, hc, hr]

/-- A taken command without INDIRECT, in time and with a short final result has its effect and is answered with its own reply. -/
theorem next_direct {s t : State} {code : Nat} {p : Packet} {eff : Eff} {r : Rep} (h : s.takes code p) (hi : indirect p = false)
    (hl : p.late = false) (he : eff p s.take = (t, r)) (hr : r.later = false) (hn : r.results.length ≤ 12) :
    (.next (s.command code eff p) : Host.Outcome State Fault Refusal) = .next (t.reply p r) := by
  have hfit : resultsFit p (eff p s.take).2 = true := by rw [he]; exact resultsFit_of_direct hi hn
  rw [State.command_answered h, runEff_of_direct hi hl hfit, he, State.answered, hr]
  rfl

/-! ## Effects that only answer, and refusals that change nothing (R45, R49) -/

/-- A result of an effect met in state `s` that is an answer and nothing else: the state is kept and the reply is final. -/
def AnswersOnly (s : State) (q : State × Rep) : Prop := q.1 = s ∧ q.2.later = false

/-- A result of an effect met in state `s` that, where it is a refusal, is an answer and nothing else. -/
def RefusalKeeps (s : State) (q : State × Rep) : Prop := q.2.status ≠ 0 → AnswersOnly s q

theorem AnswersOnly.final {s : State} {r : Rep} (h : r.later = false) : AnswersOnly s (s, r) := ⟨rfl, h⟩

theorem AnswersOnly.ite {s : State} {c : Prop} [Decidable c] {a b : State × Rep} (ha : AnswersOnly s a) (hb : AnswersOnly s b) :
    AnswersOnly s (if c then a else b) := by
  split <;> assumption

/-- A check that answers, before what comes where it passes. -/
theorem AnswersOnly.check {s : State} {c : Prop} [Decidable c] {r : Rep} {b : State × Rep} (hr : r.later = false) (hb : AnswersOnly s b) :
    AnswersOnly s (if c then (s, r) else b) := .ite (.final hr) hb

theorem AnswersOnly.refusalKeeps {s : State} {q : State × Rep} (h : AnswersOnly s q) : RefusalKeeps s q := fun _ => h

theorem RefusalKeeps.refused {s : State} {r : Rep} (h : r.later = false) : RefusalKeeps s (s, r) := fun _ => ⟨rfl, h⟩

/-- Whatever an effect did, its OK is no refusal. -/
theorem RefusalKeeps.done {s t : State} {r : Rep} (h : r.status = 0) : RefusalKeeps s (t, r) := fun hr => absurd h hr

theorem RefusalKeeps.ite {s : State} {c : Prop} [Decidable c] {a b : State × Rep} (ha : RefusalKeeps s a) (hb : RefusalKeeps s b) :
    RefusalKeeps s (if c then a else b) := by
  split <;> assumption

/-- A check that refuses, before what comes where it passes. -/
theorem RefusalKeeps.check {s : State} {c : Prop} [Decidable c] {r : Rep} {b : State × Rep} (hr : r.later = false) (hb : RefusalKeeps s b) :
    RefusalKeeps s (if c then (s, r) else b) := .ite (.refused hr) hb

/-- What the INDIRECT checks refuse is final. -/
theorem descCheck_final {p : Packet} {r : Rep} (h : descCheck p = some r) : r.later = false := by
  unfold descCheck at h
  split_ifs at h
  all_goals cases h; rfl

/-- The checks all commands share refuse a command, which then changes nothing, or leave its own result as it is (R44, R45, R51). -/
theorem runEff_cases (eff : Eff) (p : Packet) (s : State) : runEff eff p s = eff p s ∨ AnswersOnly s (runEff eff p s) := by
  unfold runEff
  split
  case h_1 r hr => exact .inr (.final (descCheck_final hr))
  case h_2 =>
    dsimp only
    split
    · exact .inr (.final rfl)
    · split
      · exact .inr (.final rfl)
      · exact .inl rfl

theorem runEff_answersOnly {eff : Eff} {p : Packet} {s : State} (h : AnswersOnly s (eff p s)) : AnswersOnly s (runEff eff p s) :=
  (runEff_cases eff p s).elim (fun e => e ▸ h) id

theorem runEff_refusalKeeps {eff : Eff} {p : Packet} {s : State} (h : RefusalKeeps s (eff p s)) : RefusalKeeps s (runEff eff p s) :=
  (runEff_cases eff p s).elim (fun e => e ▸ h) AnswersOnly.refusalKeeps

/-- A result that is an answer and nothing else is sent, and nothing else happens. -/
theorem State.answered_of_answersOnly {s : State} {p : Packet} {q : State × Rep} (h : AnswersOnly s q) :
    s.answered p q = s.reply p q.2 := by
  obtain ⟨hs, hl⟩ := h
  unfold State.answered
  rw [hl, hs]; rfl

/-- A taken command whose effect only answers changes nothing but the sequence. -/
theorem next_answersOnly {eff : Eff} (he : ∀ p s, AnswersOnly s (eff p s)) {s : State} {code : Nat} {p : Packet} (h : s.takes code p) :
    ∃ r, (.next (s.command code eff p) : Host.Outcome State Fault Refusal) = .next (s.take.reply p r) :=
  ⟨_, congrArg _ ((State.command_answered h).trans (State.answered_of_answersOnly (runEff_answersOnly (he p s.take))))⟩

/-- A taken command that its own checks refuse is answered with that refusal, and changes nothing but the sequence. -/
theorem next_refused {eff : Eff} (he : ∀ p s, RefusalKeeps s (eff p s)) {s : State} {code : Nat} {p : Packet} (h : s.takes code p)
    (hs : (runEff eff p s.take).2.status ≠ 0) :
    (.next (s.command code eff p) : Host.Outcome State Fault Refusal) = .next (s.take.reply p (runEff eff p s.take).2) :=
  congrArg _ ((State.command_answered h).trans (State.answered_of_answersOnly (runEff_refusalKeeps (he p s.take) hs)))

end Sys2Proof.Machine
end

section
/-! PROOFS. The commands of R60 complete: the effect of the opcode on the state with the command taken, and its reply. -/
namespace Sys2Proof.Machine

/-! ## Commands complete, family by family (R50, R60) -/

/-- Settles O21: each row is `State.command` of its opcode's effect; after SET_MODE the domains go down where it asked for that. -/
theorem moduleCommands : Obligations.ModuleCommands := by
  unfold Obligations.ModuleCommands
  refine ⟨?nop, ?identify, ?setMode, ?snapshot, ?fenceCmd, ?getStatus⟩
  case setMode => exact fun _ _ h _ => congrArg (fun t : State => Host.Outcome.next t.goDown) (State.command_answered h)
  all_goals exact fun _ _ h _ => next_answered h

/-- Settles O22: each row is `State.command` of its opcode's effect, and `State.command_answered` says what that does. -/
theorem portCommands : Obligations.PortCommands := by
  unfold Obligations.PortCommands
  and_intros
  all_goals exact fun _ _ h _ => next_answered h

/-- Settles O23: each row is `State.command` of its opcode's effect, and `State.command_answered` says what that does. -/
theorem tableCommands : Obligations.TableCommands := by
  unfold Obligations.TableCommands
  and_intros
  all_goals exact fun _ _ h _ => next_answered h

/-- Settles O24: each row is `State.command` of its opcode's effect, and `State.command_answered` says what that does. -/
theorem classifierCommands : Obligations.ClassifierCommands := by
  unfold Obligations.ClassifierCommands
  and_intros
  all_goals exact fun _ _ h _ => next_answered h

/-- Settles O25: each row is `State.command` of its opcode's effect, and `State.command_answered` says what that does. -/
theorem bufferCommands : Obligations.BufferCommands := by
  unfold Obligations.BufferCommands
  and_intros
  all_goals exact fun _ _ h _ => next_answered h

/-- Settles O26: each row is `State.command` of its opcode's effect, and `State.command_answered` says what that does. -/
theorem telemetryCommands : Obligations.TelemetryCommands := by
  unfold Obligations.TelemetryCommands
  and_intros
  all_goals exact fun _ _ h _ => next_answered h

/-- Settles O27: each row is `State.command` of its opcode's effect, and `State.command_answered` says what that does. -/
theorem gristCommands : Obligations.GristCommands := by
  unfold Obligations.GristCommands
  and_intros
  all_goals exact fun _ _ h _ => next_answered h

/-- Settles O28: each row is `State.command` of its opcode's effect, and `State.command_answered` says what that does. -/
theorem powerCommands : Obligations.PowerCommands := by
  unfold Obligations.PowerCommands
  and_intros
  all_goals exact fun _ _ h _ => next_answered h

/-- Settles O29: each row is `State.command` of its opcode's effect, and `State.command_answered` says what that does. -/
theorem clockCommands : Obligations.ClockCommands := by
  unfold Obligations.ClockCommands
  and_intros
  all_goals exact fun _ _ h _ => next_answered h

/-- Settles O30: each row is `State.command` of its opcode's effect, and `State.command_answered` says what that does. -/
theorem faultCommands : Obligations.FaultCommands := by
  unfold Obligations.FaultCommands
  and_intros
  all_goals exact fun _ _ h _ => next_answered h

/-- An FW_VERIFY whose image is whole and whose read gave no error answers the first check of R515 that fails. -/
theorem effFwVerify_refused {p : Packet} {s : State} {c : Nat} (hses : s.fld SVC_FW_STATUS.SESSION = 1)
    (hmiss : blockMissing (s.fwSlot s.idleSlot) = none) (henv : envAt p 0 = 0)
    (hc : s.sigCause (s.fwSlot s.idleSlot) (wordBytes (parWords p 0 64)) = some c) :
    effFwVerify p s = (s, refuse eSIGNATURE c) := by
  simp [effFwVerify, hses, hmiss, henv, hc]

/-- An FW_VERIFY whose image is whole and passes every check of R515 makes the slot VALID. -/
theorem effFwVerify_verified {p : Packet} {s : State} (hses : s.fld SVC_FW_STATUS.SESSION = 1)
    (hmiss : blockMissing (s.fwSlot s.idleSlot) = none) (henv : envAt p 0 = 0)
    (hc : s.sigCause (s.fwSlot s.idleSlot) (wordBytes (parWords p 0 64)) = none) :
    effFwVerify p s = (s.verified s.idleSlot (wordBytes (parWords p 0 64)), ok [wd s.idleSlot]) := by
  simp [effFwVerify, hses, hmiss, henv, hc]

/-- Settles O31: FW_VERIFY by the outcome of R515's checks, every other row as `State.command_answered` has it. -/
theorem firmwareCommands : Obligations.FirmwareCommands := by
  unfold Obligations.FirmwareCommands
  refine ⟨?fwBegin, ?fwBlock, ?fwVerify, ?fwActivate, ?fwInfo⟩
  case fwVerify =>
    intro s p h hi hl hses hmiss henv
    cases hc : s.take.sigCause (s.take.fwSlot s.take.idleSlot) (wordBytes (parWords p 0 64)) with
    | some c => exact next_direct h hi hl (effFwVerify_refused hses hmiss henv hc) rfl (Nat.zero_le _)
    | none => exact next_direct h hi hl (effFwVerify_verified hses hmiss henv hc) rfl (by simp [ok])
  all_goals exact fun _ _ h _ => next_answered h

/-- Settles O32: each row is `State.command` of its opcode's effect, and `State.command_answered` says what that does. -/
theorem storeCommands : Obligations.StoreCommands := by
  unfold Obligations.StoreCommands
  and_intros
  all_goals exact fun _ _ h _ => next_answered h

/-- Settles O33: each row is `State.command` of its opcode's effect, and `State.command_answered` says what that does. -/
theorem unitCommands : Obligations.UnitCommands := by
  unfold Obligations.UnitCommands
  and_intros
  all_goals exact fun _ _ h _ => next_answered h

end Sys2Proof.Machine
end

section
/-! PROOFS. Commands that only read answer and change nothing (R49). -/
namespace Sys2Proof.Machine

/-! ## Commands that only read -/

/-- What the port checks of R548 refuse is final. -/
theorem State.needPort_final {s : State} {p : Packet} {r : Rep} (h : s.needPort p = some r) : r.later = false := by
  simp only [State.needPort] at h
  split_ifs at h
  all_goals cases h; rfl

theorem effPortStatus_answersOnly (p : Packet) (s : State) : AnswersOnly s (effPortStatus p s) := by
  unfold effPortStatus
  split
  case h_1 r hr => exact .final (State.needPort_final hr)
  case h_2 => exact .final rfl

theorem effClsRead_answersOnly (p : Packet) (s : State) : AnswersOnly s (effClsRead p s) := .check rfl (.final rfl)

theorem effMeterRead_answersOnly (p : Packet) (s : State) : AnswersOnly s (effMeterRead p s) := .check rfl (.final rfl)

theorem effUnitState_answersOnly (p : Packet) (s : State) : AnswersOnly s (effUnitState p s) := .check rfl (.final rfl)

theorem effGristGroupStatus_answersOnly (p : Packet) (s : State) : AnswersOnly s (effGristGroupStatus p s) := by
  refine .check rfl (.check rfl (.check rfl ?_))
  split
  · exact .final rfl
  · exact .final rfl

theorem effClkStatus_answersOnly (p : Packet) (s : State) : AnswersOnly s (effClkStatus p s) := by
  refine .check rfl ?_
  split
  · exact .final rfl
  · exact .final rfl

theorem effProgRead_answersOnly (p : Packet) (s : State) : AnswersOnly s (effProgRead p s) :=
  .check rfl (.check rfl (.check rfl (.ite (.check rfl (.final rfl)) (.check rfl (.final rfl)))))

/-- Settles O49: the effect of each of these opcodes answers and leaves the state it met. -/
theorem readingCommandsChangeNothing : Obligations.ReadingCommandsChangeNothing := by
  unfold Obligations.ReadingCommandsChangeNothing
  refine ⟨?nop, ?identify, ?getStatus, ?portStatus, ?laneFom, ?clsRead, ?meterRead, ?perfRead, ?gristGroupStatus, ?pwrStatus,
    ?clkStatus, ?fltHistory, ?fwInfo, ?progRead, ?unitState⟩
  case portStatus => exact fun _ _ => next_answersOnly effPortStatus_answersOnly
  case clsRead => exact fun _ _ => next_answersOnly effClsRead_answersOnly
  case meterRead => exact fun _ _ => next_answersOnly effMeterRead_answersOnly
  case gristGroupStatus => exact fun _ _ => next_answersOnly effGristGroupStatus_answersOnly
  case clkStatus => exact fun _ _ => next_answersOnly effClkStatus_answersOnly
  case progRead => exact fun _ _ => next_answersOnly effProgRead_answersOnly
  case unitState => exact fun _ _ => next_answersOnly effUnitState_answersOnly
  all_goals exact fun _ _ => next_answersOnly fun _ _ => .final rfl

end Sys2Proof.Machine
end

section
/-! PROOFS. A command refused by its own checks changes nothing (R45, R49): each effect below refuses before it changes anything. -/
namespace Sys2Proof.Machine

/-! ## Effects whose refusals change nothing -/

theorem effLaneCfg_refusalKeeps (p : Packet) (s : State) : RefusalKeeps s (effLaneCfg p s) := by
  unfold effLaneCfg
  dsimp only
  split
  case h_1 => exact .refused rfl
  case h_2 => exact .check rfl (.done rfl)

theorem effLaneTest_refusalKeeps (p : Packet) (s : State) : RefusalKeeps s (effLaneTest p s) := by
  unfold effLaneTest
  split
  case h_1 => exact .refused rfl
  case h_2 => exact .check rfl (.check rfl (.done rfl))

theorem effPfcCfg_refusalKeeps (p : Packet) (s : State) : RefusalKeeps s (effPfcCfg p s) := by
  unfold effPfcCfg
  split
  case h_1 r hr => exact .refused (State.needPort_final hr)
  case h_2 =>
    dsimp only
    split
    · exact .refused rfl
    · exact .done rfl

theorem effPtpCfg_refusalKeeps (p : Packet) (s : State) : RefusalKeeps s (effPtpCfg p s) := by
  refine .ite (.check rfl (.check rfl (.done rfl))) ?_
  split
  case h_1 r hr => exact .refused (State.needPort_final hr)
  case h_2 => exact .check rfl (.done rfl)

theorem effTblProfile_refusalKeeps (p : Packet) (s : State) : RefusalKeeps s (effTblProfile p s) := by
  refine .check rfl (.check rfl (.check rfl ?_))
  split
  · exact .refused rfl
  · exact .check rfl (.ite (.done rfl) (.done rfl))

theorem effTblLock_refusalKeeps (p : Packet) (s : State) : RefusalKeeps s (effTblLock p s) :=
  .check rfl (.ite (.done rfl) (.check rfl (.check rfl (.done rfl))))

theorem effHashCfg_refusalKeeps (p : Packet) (s : State) : RefusalKeeps s (effHashCfg p s) := by
  refine .check rfl (.check rfl (.check rfl ?_))
  split
  · exact .refused rfl
  · exact .done rfl

theorem effClsWrite_refusalKeeps (p : Packet) (s : State) : RefusalKeeps s (effClsWrite p s) := by
  refine .check rfl ?_
  dsimp only
  split
  · exact .refused rfl
  · split
    · exact .refused rfl
    · exact .done rfl

theorem effMeterCfg_refusalKeeps (p : Packet) (s : State) : RefusalKeeps s (effMeterCfg p s) := by
  refine .check rfl (.check rfl (.check rfl ?_))
  split
  · exact .refused rfl
  · exact .done rfl

theorem effQueueCfg_refusalKeeps (p : Packet) (s : State) : RefusalKeeps s (effQueueCfg p s) := by
  unfold effQueueCfg
  split
  · exact .refused rfl
  · exact .check rfl (.done rfl)

theorem effSchedCfg_refusalKeeps (p : Packet) (s : State) : RefusalKeeps s (effSchedCfg p s) := by
  unfold effSchedCfg
  dsimp only
  split
  · exact .refused rfl
  · exact .check rfl (.done rfl)

theorem effShaperCfg_refusalKeeps (p : Packet) (s : State) : RefusalKeeps s (effShaperCfg p s) := by
  unfold effShaperCfg
  dsimp only
  split
  · exact .refused rfl
  · exact .check rfl (.check rfl (.ite (.done rfl) (.done rfl)))

theorem effWredCfg_refusalKeeps (p : Packet) (s : State) : RefusalKeeps s (effWredCfg p s) := by
  unfold effWredCfg
  split
  · exact .refused rfl
  · exact .done rfl

theorem effHwmRead_refusalKeeps (p : Packet) (s : State) : RefusalKeeps s (effHwmRead p s) := .check rfl (.done rfl)

theorem effSapFlag_refusalKeeps (p : Packet) (s : State) : RefusalKeeps s (effSapFlag p s) :=
  .check rfl (.check rfl (.check rfl (.done rfl)))

theorem effTagCfg_refusalKeeps (p : Packet) (s : State) : RefusalKeeps s (effTagCfg p s) := .check rfl (.done rfl)

theorem effIoamCfg_refusalKeeps (p : Packet) (s : State) : RefusalKeeps s (effIoamCfg p s) := by
  unfold effIoamCfg
  split
  · exact .refused rfl
  · exact .done rfl

theorem effPerfCfg_refusalKeeps (p : Packet) (s : State) : RefusalKeeps s (effPerfCfg p s) := by
  refine .check rfl (.check rfl ?_)
  split
  · exact .refused rfl
  · exact .done rfl

theorem effGristGroupClose_refusalKeeps (p : Packet) (s : State) : RefusalKeeps s (effGristGroupClose p s) := by
  refine .check rfl ?_
  split
  · exact .refused rfl
  · refine .check rfl ?_
    dsimp only
    split
    · exact .done rfl
    · exact .done rfl

theorem effPwrOpp_refusalKeeps (p : Packet) (s : State) : RefusalKeeps s (effPwrOpp p s) := .check rfl (.ite (.done rfl) (.done rfl))

theorem effPwrCap_refusalKeeps (p : Packet) (s : State) : RefusalKeeps s (effPwrCap p s) := .check rfl (.check rfl (.done rfl))

theorem effPwrPriv_refusalKeeps (p : Packet) (s : State) : RefusalKeeps s (effPwrPriv p s) := by
  refine .check rfl (.check rfl ?_)
  split
  · exact .refused rfl
  · exact .ite (.done rfl) (.done rfl)

theorem effClkSwitch_refusalKeeps (p : Packet) (s : State) : RefusalKeeps s (effClkSwitch p s) :=
  .check rfl (.check rfl (.check rfl (.check rfl (.check rfl (.ite (.done rfl) (.ite (.ite (.done rfl) (.done rfl)) (.done rfl)))))))

theorem effFltMask_refusalKeeps (p : Packet) (s : State) : RefusalKeeps s (effFltMask p s) :=
  .check rfl (.check rfl (.ite (.check rfl (.done rfl)) (.check rfl (.done rfl))))

theorem effFltInject_refusalKeeps (p : Packet) (s : State) : RefusalKeeps s (effFltInject p s) :=
  .check rfl (.ite (.check rfl (.check rfl (.done rfl))) (.check rfl (.check rfl (.check rfl (.done rfl)))))

theorem effFwVerify_refusalKeeps (p : Packet) (s : State) : RefusalKeeps s (effFwVerify p s) := by
  refine .check rfl ?_
  split
  · exact .refused rfl
  · refine .check rfl ?_
    split
    · exact .refused rfl
    · exact .done rfl

theorem effFwActivate_refusalKeeps (p : Packet) (s : State) : RefusalKeeps s (effFwActivate p s) :=
  .check rfl (.ite (.done rfl) (.check rfl (.done rfl)))

theorem effProgLoad_refusalKeeps (p : Packet) (s : State) : RefusalKeeps s (effProgLoad p s) := by
  refine .check rfl (.check rfl (.check rfl ?_))
  split
  · exact .refused rfl
  · exact .refused rfl
  · exact .refused rfl
  · exact .done rfl

theorem effProgPatch_refusalKeeps (p : Packet) (s : State) : RefusalKeeps s (effProgPatch p s) := by
  refine .check rfl (.check rfl (.check rfl (.check rfl ?_)))
  split
  · exact .refused rfl
  · exact .ite (.done rfl) (.done rfl)

theorem effStoreModeSet_refusalKeeps (p : Packet) (s : State) : RefusalKeeps s (effStoreModeSet p s) :=
  .check rfl (.check rfl (.check rfl (.ite (.done rfl) (.ite (.done rfl) (.done rfl)))))

theorem effDozeCfg_refusalKeeps (p : Packet) (s : State) : RefusalKeeps s (effDozeCfg p s) := .check rfl (.done rfl)

/-- Settles O50: no refusal of these effects comes after a change, and the shared checks come before the effect. -/
theorem refusedCommandsChangeNothing : Obligations.RefusedCommandsChangeNothing :=
  ⟨fun _ _ => next_refused fun _ _ => .refused rfl,
   fun _ _ => next_refused fun _ _ => .done rfl,
   fun _ _ => next_refused effLaneCfg_refusalKeeps,
   fun _ _ => next_refused effLaneTest_refusalKeeps,
   fun _ _ => next_refused effPfcCfg_refusalKeeps,
   fun _ _ => next_refused effPtpCfg_refusalKeeps,
   fun _ _ => next_refused effTblProfile_refusalKeeps,
   fun _ _ => next_refused effTblLock_refusalKeeps,
   fun _ _ => next_refused effHashCfg_refusalKeeps,
   fun _ _ => next_refused effClsWrite_refusalKeeps,
   fun _ _ => next_refused effMeterCfg_refusalKeeps,
   fun _ _ => next_refused effQueueCfg_refusalKeeps,
   fun _ _ => next_refused effSchedCfg_refusalKeeps,
   fun _ _ => next_refused effShaperCfg_refusalKeeps,
   fun _ _ => next_refused effWredCfg_refusalKeeps,
   fun _ _ => next_refused effHwmRead_refusalKeeps,
   fun _ _ => next_refused effSapFlag_refusalKeeps,
   fun _ _ => next_refused effTagCfg_refusalKeeps,
   fun _ _ => next_refused effIoamCfg_refusalKeeps,
   fun _ _ => next_refused effPerfCfg_refusalKeeps,
   fun _ _ => next_refused effGristGroupClose_refusalKeeps,
   fun _ _ => next_refused effPwrOpp_refusalKeeps,
   fun _ _ => next_refused effPwrCap_refusalKeeps,
   fun _ _ => next_refused effPwrPriv_refusalKeeps,
   fun _ _ => next_refused effClkSwitch_refusalKeeps,
   fun _ _ => next_refused effFltMask_refusalKeeps,
   fun _ _ => next_refused effFltInject_refusalKeeps,
   fun _ _ => next_refused effFwVerify_refusalKeeps,
   fun _ _ => next_refused effFwActivate_refusalKeeps,
   fun _ _ => next_refused effProgLoad_refusalKeeps,
   fun _ _ => next_refused effProgPatch_refusalKeeps,
   fun _ _ => next_refused effStoreModeSet_refusalKeeps,
   fun _ _ => next_refused effDozeCfg_refusalKeeps⟩

end Sys2Proof.Machine
end

section
/-! PROOFS. The acceptance checks of R49 in order, and NOP (R61). -/
namespace Sys2Proof.Machine

/-! ## The acceptance checks (R49)

Each step refuses what the steps before it pass; stated of an opcode that the ROM loader answers too, so that RECOVERY refuses nothing
at step 2. -/

section AcceptanceSteps
variable {s : State} {p : Packet} {r : OpInfo}

theorem accept_version (hv : p.ver ≠ 1) : accept s p = some (refuse eOPCODE (p.ver % 256)) := by
  unfold accept; rw [if_pos hv]

variable (hv : p.ver = 1) (hrow : opInfo p.opcode = some r) (hrom : romOpcode p.opcode = true)
include hv hrow hrom

theorem accept_header (hh : headerOk p = false) : accept s p = some (refuse ePARAM 0xFFFFFFFF) := by
  simp [accept, hv, hrow, hrom, hh]

variable (hh : headerOk p = true) (hm : s.mode ∈ r.modes)
include hh hm

theorem accept_length (hl : lenOk r p = false) : accept s p = some (refuse eLEN (lenDetail r.lenMin r.lenMax)) := by
  simp [accept, hv, hrow, hrom, hh, hm, hl]

variable (hl : lenOk r p = true)
include hl

theorem accept_target (ht : targetOk r p.target = false) : accept s p = some (refuse eTARGET (p.target % 65536)) := by
  simp [accept, hv, hrow, hrom, hh, hm, hl, ht]

theorem accept_busy {j : Job} (ht : targetOk r p.target = true) (hp : s.privOk p = true)
    (hj : s.cmd.jobs.find? (fun j => conflicts j.pkt.target p.target) = some j) :
    accept s p = some (refuse eBUSY (j.pkt.tag % 65536 + (if j.pkt.chan = 0 then 0 else 1) * 65536)) := by
  simp [accept, hv, hrow, hrom, hh, hm, hl, ht, hp, hj]

end AcceptanceSteps

/-- The header passes step 3 where the reserved bits are zero and INDIRECT comes on the rings only (R42, R43). -/
theorem headerOk_iff (p : Packet) :
    headerOk p = true ↔ p.rsvB = 0 ∧ p.rsvC = 0 ∧ p.flags / 16 % 16 = 0 ∧ ¬ (indirect p = true ∧ p.chan ≠ 0) := by
  simp [headerOk, and_assoc, or_iff_not_imp_left]

/-- A command without INDIRECT whose row takes no parameters passes step 5 with PLEN 0 only. -/
theorem lenOk_zero {r : OpInfo} {p : Packet} (hlo : r.lenMin = 0) (hhi : r.lenMax = 0) (hi : indirect p = false) :
    lenOk r p = true ↔ p.plen = 0 := by
  unfold lenOk
  simp only [hi, hlo, hhi, Bool.false_eq_true, if_false, Bool.and_eq_true, Bool.or_eq_true, decide_eq_true_eq]
  omega

/-! ## NOP (R61) -/

/-- The row of NOP in R60. -/
def nopRow : OpInfo :=
  { code := 0x0000, tgts := [⟨0, 0, 0, false⟩], modes := [0, 1, 2, 3, 4, 5], async := false, lenMin := 0, lenMax := 0 }

theorem opInfo_nop : opInfo 0x0000 = some nopRow := rfl

theorem mem_nopRow_modes {m : Nat} (h : m < 6) : m ∈ nopRow.modes := by
  unfold nopRow; interval_cases m <;> decide

/-- Of the 16-bit TARGETs NOP takes GLB alone. -/
theorem targetOk_nopRow {t : Nat} (h : t < 65536) : targetOk nopRow t = true ↔ t = 0 := by
  have ht : t = 0 ↔ tCls t = 0 ∧ tInst t = 0 := by unfold tCls tInst; omega
  rw [ht]
  constructor
  · intro h
    obtain ⟨hc, hi, _⟩ : 0 = tCls t ∧ tInst t = 0 ∧ listed (tCls t) (tInst t) = true := by simpa [targetOk, nopRow] using h
    exact ⟨hc.symm, hi⟩
  · rintro ⟨hc, hi⟩
    simp [targetOk, nopRow, hc, hi, listed]

/-- Every TARGET conflicts with GLB (R54). -/
theorem conflicts_glb (a : Nat) : conflicts a 0 = true := by
  simp [conflicts, conflict1, tCls]

theorem find_conflicts_glb (js : List Job) : js.find? (fun j => conflicts j.pkt.target 0) = js.head? := by
  cases js <;> simp [conflicts_glb]

theorem State.privOk_nop {s : State} {p : Packet} (ho : p.opcode = 0) : s.privOk p = true := by
  simp [State.privOk, ho]

/-- A NOP that is taken, made to wait by no FENCE and refused by R49 is answered with that refusal, and nothing else happens. -/
theorem next_nop_refused {s : State} {p : Packet} {r : Rep} (ho : p.opcode = 0) (hr : s.ready p = true)
    (hf : (fenceFlag p && !(s.take.cmd.jobs.isEmpty && s.take.cmd.heldReps.isEmpty)) = false) (ha : accept s.take p = some r) :
    exec (.nop p) s = .next (s.take.reply p r) :=
  congrArg _ (State.command_refused (.inl ho) hr (by simpa [ho] using hf) ha)

/-- Settles O44: for NOP each step of R49 that can fail refuses what the steps before it pass. -/
theorem acceptanceOrder : Obligations.AcceptanceOrder := by
  unfold Obligations.AcceptanceOrder
  intro s p ho hr hf
  have hrow : opInfo p.opcode = some nopRow := by rw [ho, opInfo_nop]
  have hrom : romOpcode p.opcode = true := by rw [ho]; rfl
  refine ⟨?version, ?header, ?length, ?target, ?busy⟩
  case version => exact fun hv => next_nop_refused ho hr hf (accept_version hv)
  case header =>
    intro hv hh
    rw [← headerOk_iff, Bool.not_eq_true] at hh
    exact next_nop_refused ho hr hf (accept_header hv hrow hrom hh)
  case length =>
    intro hv hh hm hi hl
    have hlen : lenOk nopRow p = false := by
      rw [← Bool.not_eq_true, lenOk_zero rfl rfl hi]; exact hl
    exact next_nop_refused ho hr hf (accept_length hv hrow hrom hh (mem_nopRow_modes hm) hlen)
  case target =>
    intro hv hh hm hi hl h16 h0
    have hlen : lenOk nopRow p = true := (lenOk_zero rfl rfl hi).2 hl
    have ht : targetOk nopRow p.target = false := by
      rw [← Bool.not_eq_true, targetOk_nopRow h16]; exact h0
    rw [← Nat.mod_eq_of_lt h16]
    exact next_nop_refused ho hr hf (accept_target hv hrow hrom hh (mem_nopRow_modes hm) hlen ht)
  case busy =>
    intro j hv hh hm hi hl h0 hj
    have hlen : lenOk nopRow p = true := (lenOk_zero rfl rfl hi).2 hl
    have ht : targetOk nopRow p.target = true := by rw [h0]; rfl
    refine next_nop_refused ho hr hf
      (accept_busy hv hrow hrom hh (mem_nopRow_modes hm) hlen ht (State.privOk_nop ho) ?_)
    rw [h0, find_conflicts_glb, hj]

/-- Settles O45: NOP's effect is none, and its reply has no results. -/
theorem nopChangesNothing : Obligations.NopChangesNothing :=
  ⟨opInfo_nop, fun _ _ h hi hl => next_direct h hi hl rfl rfl (Nat.zero_le _)⟩

end Sys2Proof.Machine
end

section
/-! PROOFS. Replies: completion entries, CQ_TAIL and PHASE, and what NO_REPLY keeps back (R37, R43, R46). -/
namespace Sys2Proof.Machine

/-! ## Completion entries (R37, R46) -/

theorem State.regsKept_trans {s t u : State} {l : List Reg} (h : s.regsKept t l) (h' : t.regsKept u l) : s.regsKept u l :=
  fun q i hq => (h' q i hq).trans (h q i hq)

theorem State.regsKept_mono {s t : State} {l l' : List Reg} (h : s.regsKept t l) (hl : l ⊆ l') : s.regsKept t l' :=
  fun q i hq => h q i (fun c => hq (hl c))

theorem State.fld_of_regsKept {s t : State} {l : List Reg} (h : s.regsKept t l) (f : Fld) (i : Nat) (hf : f.reg ∉ l) :
    t.fld f i = s.fld f i := by
  unfold State.fld; rw [h f.reg i hf]

theorem State.msix_cmd (s : State) (v : Nat) : (s.msix v).cmd = s.cmd := by
  rcases s.msix_cases v with e | e <;> rw [e] <;> rfl

theorem State.cqIrq_regsKept (s : State) : s.regsKept s.cqIrq [.MSIX_PBA] := by
  unfold State.cqIrq
  split
  · exact (State.msix_frame { s with cmd.irqCnt := 0 } 0).2
  · exact fun _ _ _ => rfl

theorem State.cqIrq_phase (s : State) : s.cqIrq.cmd.phase = s.cmd.phase := by
  unfold State.cqIrq
  split
  · rw [State.msix_cmd]
  · rfl

theorem State.mem_out_msix {s : State} {o : Out} (v : Nat) (h : o ∈ s.out) : o ∈ (s.msix v).out := by
  rcases s.msix_cases v with e | e <;> rw [e]
  · exact h
  · exact List.mem_cons_of_mem _ h

theorem State.mem_out_cqIrq {s : State} {o : Out} (h : o ∈ s.out) : o ∈ s.cqIrq.out := by
  unfold State.cqIrq
  split
  · exact State.mem_out_msix 0 h
  · exact h

/-- An entry stands in the CQ and the tail is past it: no interrupt and no CQ_FULL yet. -/
def State.enterCq (s : State) (p : Packet) (r : Rep) : State :=
  let t := s.fld CMD_CQ_TAIL.TAIL
  let t' := (t + 1) % s.cqSize
  let s := (s.emit (.completion (s.cqAddr t) (cqWords p r s.cmd.phase (s.fld CMD_SQ_HEAD.HEAD)))).setFld CMD_CQ_TAIL.TAIL 0 t'
  { s with cmd.phase := if t' = 0 then !s.cmd.phase else s.cmd.phase }

theorem State.putResults_direct {s : State} {p : Packet} (r : Rep) (hi : indirect p = false) : s.putResults p r = s := by
  simp [State.putResults, hi]

/-- Without a result buffer, writing an entry enters it, counts it toward vector 0 and shows CQ_FULL. -/
theorem State.writeCq_eq {s : State} {p : Packet} (r : Rep) (hi : indirect p = false) :
    s.writeCq p r = (s.enterCq p r).coalesce.showFull := by
  have hp : s.putResults p r = s := State.putResults_direct r hi
  have hif : ∀ (c : Prop) [Decidable c] (t : State), (if c then { t with cmd.phase := !t.cmd.phase } else t) =
      { t with cmd.phase := if c then !t.cmd.phase else t.cmd.phase } := by
    intro c _ t
    split <;> rfl
  unfold State.writeCq State.enterCq
  rw [hp]
  exact congrArg (fun t => State.showFull (State.coalesce t)) (hif _ _)

theorem State.enterCq_regsKept (s : State) (p : Packet) (r : Rep) : s.regsKept (s.enterCq p r) [.CMD_CQ_TAIL] :=
  fun q _ hq => State.reg_setFld_other (s.emit _) _ _ _ (by simpa [CMD_CQ_TAIL.TAIL] using hq)

theorem State.enterCq_tail {s : State} (p : Packet) (r : Rep) (h0 : 0 < s.cqSize) (h1 : s.cqSize ≤ 65536) :
    (s.enterCq p r).fld CMD_CQ_TAIL.TAIL = (s.fld CMD_CQ_TAIL.TAIL + 1) % s.cqSize :=
  (State.fld_setFld_self (s.emit _) CMD_CQ_TAIL.TAIL 0 _ (by decide)).trans
    (Nat.mod_eq_of_lt (Nat.lt_of_lt_of_le (Nat.mod_lt _ h0) h1))

theorem State.coalesce_regsKept (s : State) : s.regsKept s.coalesce [.MSIX_PBA] := by
  unfold State.coalesce; exact State.cqIrq_regsKept _

theorem State.coalesce_showFull_phase (s : State) : s.coalesce.showFull.cmd.phase = s.cmd.phase := by
  unfold State.coalesce; exact State.cqIrq_phase _

theorem State.mem_out_coalesce_showFull {s : State} {o : Out} (h : o ∈ s.out) : o ∈ s.coalesce.showFull.out := by
  unfold State.coalesce; exact State.mem_out_cqIrq h

/-- Counting an entry and showing CQ_FULL changes no other register. -/
theorem State.coalesce_showFull_regsKept (s : State) : s.regsKept s.coalesce.showFull [.CMD_STATUS, .MSIX_PBA] :=
  State.regsKept_trans (State.regsKept_mono s.coalesce_regsKept (by simp))
    (State.regsKept_mono (State.showFull_frame s.coalesce).2 (by simp))

/-- Words 4 to 15 of an entry are the inline results (R46). -/
theorem cqWords_result {p : Packet} (r : Rep) (phase : Bool) (sqHead : Nat) (hi : indirect p = false) {i : Nat} (h : i < 12) :
    (cqWords p r phase sqHead).getD (4 + i) 0 = r.results.getD i 0 := by
  simp [cqWords, hi, Nat.add_comm 4 i, h]

/-- Settles O47: the entry is entered at CQ_TAIL; counting it and showing CQ_FULL touch CMD_STATUS and MSIX_PBA only. -/
theorem completionEntries : Obligations.CompletionEntries := by
  unfold Obligations.CompletionEntries
  intro s p r hi h0 h1
  rw [State.writeCq_eq r hi]
  have hk := (s.enterCq p r).coalesce_showFull_regsKept
  refine ⟨?tail, ?phase, ?entry, ?regs⟩
  case tail =>
    rw [State.fld_of_regsKept hk _ _ (by decide)]
    exact State.enterCq_tail p r h0 h1
  case phase => exact (s.enterCq p r).coalesce_showFull_phase
  case entry =>
    exact ⟨cqWords p r s.cmd.phase (s.fld CMD_SQ_HEAD.HEAD), by simp [cqWords], State.mem_out_coalesce_showFull (List.mem_cons_self ..),
      rfl, rfl, rfl, rfl, fun i => cqWords_result r _ _ hi⟩
  case regs =>
    exact State.regsKept_trans (State.regsKept_mono (s.enterCq_regsKept p r) (by simp)) (State.regsKept_mono hk (by simp))

/-! ## Replies kept back (R43) -/

theorem State.settleRun_cqTail (s : State) : s.settleRun.fld CMD_CQ_TAIL.TAIL = s.fld CMD_CQ_TAIL.TAIL :=
  State.fld_of_regsKept s.settleRun_frame.2 _ _ (by decide)

/-- With NO_REPLY an OK or PENDING reply writes its results to the result buffer of a ring command, and no more (R43, R45). -/
theorem State.reply_kept {s : State} {p : Packet} {r : Rep} (hn : noReply p = true) (h : r.status = 0 ∨ r.status = 0x8000) :
    s.reply p r = (if p.chan = 0 then s.putResults p r else s).settleRun := by
  have hs : (r.status == 0 || r.status == ePENDING) = true := by simpa using h
  unfold State.reply
  rw [hn, hs]
  rfl

theorem State.putResults_cqTail (s : State) (p : Packet) (r : Rep) :
    (s.putResults p r).fld CMD_CQ_TAIL.TAIL = s.fld CMD_CQ_TAIL.TAIL := by
  unfold State.putResults; split <;> rfl

/-- A reply that NO_REPLY does not keep back, with its DETAIL given, goes to the service port as one frame. -/
theorem State.reply_svc {s : State} {p : Packet} {r : Rep} (h0 : r.status ≠ 0) (h1 : r.status ≠ 0x8000) (hc : p.chan = 1)
    (hd : r.anyDetail = false) : s.reply p r = (s.emit (.usbReply (svcReplyWords p r))).settleRun := by
  have hs : (r.status == 0 || r.status == ePENDING) = false := by simp [h0, h1]
  unfold State.reply State.send
  rw [hs, hd, hc, Bool.and_false]
  rfl

/-- Settles O48: a reply kept back reaches a result buffer at most, any other reply of the service port is one frame. -/
theorem noReplyKeepsQuiet : Obligations.NoReplyKeepsQuiet := by
  unfold Obligations.NoReplyKeepsQuiet
  intro s p r hn
  refine ⟨?quiet, ?tail, ?sent⟩
  case quiet =>
    intro h hq
    rw [State.reply_kept hn h, State.settleRun_out]
    split
    case isTrue hc => rw [State.putResults_direct r (hq.resolve_left (fun hne => hne hc))]
    case isFalse => rfl
  case tail =>
    intro h
    rw [State.reply_kept hn h, State.settleRun_cqTail]
    split
    case isTrue => exact s.putResults_cqTail p r
    case isFalse => rfl
  case sent =>
    intro h0 h1 hc hd
    rw [State.reply_svc h0 h1 hc hd, State.settleRun_out]
    rfl

end Sys2Proof.Machine
end

section
/-! PROOFS. The events of the command rings, the service port and the packet rings (R34 to R41, R64 to R70). -/
namespace Sys2Proof.Machine

/-! ## The command rings (R36 to R41) -/

/-- No vector is raised while IRQ_EN is 0 (R41). -/
theorem State.cqIrq_disabled {s : State} (h : s.flag CMD_CTL.IRQ_EN = false) : s.cqIrq = s := by
  simp [State.cqIrq, State.irqDue, h]

/-- A write of a register that lands is an outcome of that register's own write. -/
theorem next_lands {s : State} {chan : Nat} {r : Reg} {i : Nat} {w : Word} {t : State} (h : s.lands chan r i) (ht : s.poke chan r i w = t) :
    (.next (s.busWrite chan (regOffset r i) [w] true) : Host.Outcome State Fault Refusal) = .next t :=
  congrArg _ ((State.busWrite_lands w h).trans ht)

/-- A field written with zero reads as no flag. -/
theorem State.flag_setFld_zero (s : State) (f : Fld) (i : Nat) (h : f.lo + f.w ≤ 32) : (s.setFld f i 0).flag f i = false := by
  simp [State.flag, State.fld_setFld_self _ _ _ _ h]

theorem State.irqOff_cqIrq (s : State) : (s.setFld CMD_CTL.IRQ_EN 0 0).cqIrq = s.setFld CMD_CTL.IRQ_EN 0 0 :=
  State.cqIrq_disabled (State.flag_setFld_zero s _ _ (by decide))

/-- A doorbell of a running ring, in range, on an empty sequence: every entry now held joins it (R36). -/
theorem State.writeSqTail_empty {s : State} {w : Word} (hen : s.flag CMD_CTL.EN = true) (hlt : bitsAt w 0 16 < s.sqSize)
    (hruns : s.cmd.seqRuns = []) :
    s.writeSqTail w = { s.setFld CMD_SQ_TAIL.TAIL 0 (bitsAt w 0 16) with
      cmd.seqRuns := appendSq (ringHeld (bitsAt w 0 16) (s.fld CMD_SQ_HEAD.HEAD) s.sqSize) [] } := by
  have hheld : s.sqHeld = 0 := by simp [State.sqHeld, hruns, sumN]
  unfold State.writeSqTail
  rw [if_neg (by simp [hen]), if_neg (Nat.not_le.mpr hlt)]
  simp [hheld, hruns]

/-- Settles O18: a ring register that lands is its own write; every other row is one branch of its meaning. -/
theorem ringEvents : Obligations.RingEvents := by
  unfold Obligations.RingEvents
  refine ⟨?sqDoorbell, ?cqHead, ?enable, ?disable, ?fetchError, ?pendingComplete, ?fenceWaitEnd, ?heldRelease, ?replyRelease,
    ?coalTimeout, ?svcFrame, ?svcDisconnect⟩
  case sqDoorbell => exact fun s v h hen hlt hruns => next_lands h (State.writeSqTail_empty hen hlt hruns)
  case cqHead =>
    intro s v h hrun hlt
    refine next_lands h ?_
    rw [State.poke_CMD_CQ_HEAD, State.writeCqHead, if_neg (by simp [hrun]), if_neg (Nat.not_le.mpr hlt)]
  case enable =>
    intro s h hen hsq hcq
    refine next_lands h ?_
    rw [State.poke_CMD_CTL]
    unfold State.writeCmdCtl
    rw [show bitsAt (wd (1 + 2 * b2n false)) 1 1 = 0 from rfl, State.irqOff_cqIrq]
    simp only [hen, hsq, hcq]
    rfl
  case disable =>
    intro s h
    refine next_lands h ?_
    rw [State.poke_CMD_CTL]
    unfold State.writeCmdCtl
    rw [show bitsAt (wd (2 * b2n false)) 1 1 = 0 from rfl, State.irqOff_cqIrq]
    rfl
  case fetchError =>
    intro s n rest hruns hen hbl hpause
    refine congrArg Host.Outcome.next ?_
    simp [hruns, hen, hbl, hpause]
  case pendingComplete =>
    intro s i env j hboot hj hst
    refine congrArg Host.Outcome.next ?_
    simp [hboot, hj, hst]
  case fenceWaitEnd =>
    intro s b hb hwhy hjobs hreps
    refine congrArg Host.Outcome.next ?_
    simp [hb, hwhy, hjobs, hreps]
  case heldRelease =>
    intro s b hb hwhy hwait hlost
    have hl : lostUnit { s with cmd.blocked := none } b.pkt = false := hlost
    refine congrArg Host.Outcome.next ?_
    simp [hb, hwhy, hwait, State.resumeHeld, hl]
  case replyRelease =>
    intro s r hrun hreps hfull
    refine congrArg Host.Outcome.next ?_
    simp [hrun, hreps, State.releaseReps, hfull]
  case coalTimeout =>
    intro s hirq hcnt htime
    have hdue : s.irqDue = true := by simp [State.irqDue, hirq, hcnt, htime]
    exact congrArg Host.Outcome.next (if_pos hdue)
  case svcFrame =>
    intro s ws hboot hpause hframe hdom
    refine congrArg Host.Outcome.next ?_
    simp [hboot, hpause, hframe, hdom]
  case svcDisconnect =>
    intro s hruns hjobs hbl
    have hs : { s with cmd.seqRuns := [], cmd.jobs := [], cmd.blocked := none } = s := by
      rw [← hruns, ← hjobs, ← hbl]
    refine congrArg Host.Outcome.next ?_
    simp only [hruns, hjobs, hbl, List.map_nil, Option.map_none]
    rw [hs]

/-! ## The packet rings (R67 to R70) -/

/-- A tail write of an enabled packet ring, in range, moves the tail (R67). -/
theorem State.writePktTail_moves {s : State} {tail size : Fld} {i : Nat} {w : Word} (hen : s.flag PKT_CTL.EN = true)
    (hlt : bitsAt w 0 16 < s.fld size i) : s.writePktTail tail size i w = s.setFld tail i (bitsAt w 0 16) := by
  rw [State.writePktTail, if_neg (by simp [hen]), if_neg (Nat.not_le.mpr hlt)]

/-- Settles O19: a ring register that lands is its own write; every other row is one branch of its meaning. -/
theorem packetDmaEvents : Obligations.PacketDmaEvents := by
  unfold Obligations.PacketDmaEvents
  refine ⟨?enable, ?disable, ?txDoorbell, ?rxDoorbell, ?txFrame, ?rxDeliver, ?dmaError, ?coalTimeout⟩
  case enable =>
    intro s h hen hok
    refine next_lands h ?_
    rw [State.poke_PKT_CTL]
    unfold State.writePktCtl
    rw [if_pos (by rfl), if_neg (by simp [hen]), if_pos hok]
  case disable =>
    intro s h
    refine next_lands h ?_
    rw [State.poke_PKT_CTL]
    unfold State.writePktCtl
    rw [if_neg (by decide)]
  case txDoorbell =>
    intro s r v hr h hen hlt
    refine (congrArg Host.Outcome.next (if_pos hr)).trans (next_lands h ?_)
    rw [State.poke_PKT_TX_TAIL, State.writePktTail_moves hen hlt]
  case rxDoorbell =>
    intro s r v hr h hen hlt
    refine (congrArg Host.Outcome.next (if_pos hr)).trans (next_lands h ?_)
    rw [State.poke_PKT_RX_TAIL, State.writePktTail_moves hen hlt]
  case txFrame =>
    intro s r entry bytes hrun hen hnext hok hfit
    refine congrArg Host.Outcome.next ?_
    rw [if_neg (by simp [hrun, hen, hnext]), if_pos hok, if_neg (Nat.not_lt.mpr hfit)]
  case rxDeliver =>
    intro s i r addrs rest hout hrun hread
    refine congrArg Host.Outcome.next ?_
    simp [hout, hrun, hread]
  case dmaError =>
    intro s r hrun hr hheld
    refine congrArg Host.Outcome.next ?_
    rw [if_neg (by simp [hrun])]
    exact if_pos ⟨hr, hheld⟩
  case coalTimeout =>
    intro s r hr hirq hcnt htime
    have hdue : s.pktIrqDue r = true := by simp [State.pktIrqDue, hirq, hcnt, htime]
    exact congrArg Host.Outcome.next ((if_pos hr).trans (if_pos hdue))

end Sys2Proof.Machine
end

section
/-! PROOFS. A step runs the command in front, and every command answers a next state. -/
namespace Sys2Proof.Machine

/-- Settles O34: a step is one match on the queue, and no word spells a command. -/
theorem stepRunsFrontCommand : Obligations.StepRunsFrontCommand := by
  refine ⟨fun _ _ _ => rfl, fun s hs => ?_, fun _ _ _ => rfl⟩
  unfold step
  rw [hs]

theorem execTallyPass_next (s : State) : ∃ t, execTallyPass s = .next t := by
  unfold execTallyPass
  split
  · exact ⟨_, rfl⟩
  · exact ⟨_, rfl⟩

theorem execBankLeaveService_next (l : Nat) (s : State) : ∃ t, execBankLeaveService l s = .next t := by
  unfold execBankLeaveService
  split
  · exact ⟨_, rfl⟩
  · split
    · exact ⟨_, rfl⟩
    · exact ⟨_, rfl⟩

/-- Settles O35: every meaning is one next state, or, for two rows, a next state in each of its branches. -/
theorem everyCommandAnswers : Obligations.EveryCommandAnswers := by
  intro c s
  cases c
  case tallyPass => exact execTallyPass_next s
  case bankLeaveService l => exact execBankLeaveService_next l s
  all_goals exact ⟨_, rfl⟩

end Sys2Proof.Machine
end

section
/-! PROOFS. The register map decodes (R72, R73): an element's offset names that element and no other register. -/
namespace Sys2Proof.Machine

/-! ## The list of registers -/

theorem Reg.ctorIdx_lt (r : Reg) : r.ctorIdx < 353 := by cases r <;> decide

/-- The register list holds every register, in the order of the table. -/
theorem Reg.all_eq : Reg.all = (List.range 353).map Reg.ofNat := by decide +kernel

theorem Reg.mem_all (r : Reg) : r ∈ Reg.all := by
  rw [Reg.all_eq, List.mem_map]
  exact ⟨r.ctorIdx, List.mem_range.mpr r.ctorIdx_lt, Reg.ofNat_ctorIdx r⟩

/-- What a check of the whole list finds holds of every register. -/
theorem Reg.forall_of_all {f : Reg → Bool} (h : Reg.all.all f = true) (r : Reg) : f r = true :=
  List.all_eq_true.mp h r r.mem_all

/-! ## Arrays: the element an offset lies in -/

/-- The elements of an array of these dimensions. -/
def dimCount (d : List (Nat × Nat)) : Nat := d.foldl (fun a x => a * x.1) 1

theorem dimCount_nil : dimCount [] = 1 := rfl

theorem foldl_dims (l : List (Nat × Nat)) (a : Nat) : l.foldl (fun a x => a * x.1) a = a * dimCount l := by
  induction l generalizing a with
  | nil => exact (Nat.mul_one a).symm
  | cons y l ih =>
    have h : dimCount (y :: l) = 1 * y.1 * dimCount l := ih (1 * y.1)
    rw [List.foldl_cons, ih, h, Nat.one_mul, Nat.mul_assoc]

theorem dimCount_cons (x : Nat × Nat) (t : List (Nat × Nat)) : dimCount (x :: t) = x.1 * dimCount t := by
  rw [← Nat.one_mul x.1]; exact foldl_dims t (1 * x.1)

/-- The bytes from an array's base to the end of its last element, elements of `len` bytes. -/
def dimExtent (len : Nat) : List (Nat × Nat) → Nat
  | [] => len
  | (c, st) :: t => (c - 1) * st + dimExtent len t

/-- Every dimension's stride has room for what lies inside it. -/
def dimsFit (len : Nat) : List (Nat × Nat) → Bool
  | [] => true
  | (_, st) :: t => decide (dimExtent len t ≤ st) && dimsFit len t

/-- A place inside an element lies below the array's extent. -/
theorem spanIdx_lt_extent {len : Nat} {d : List (Nat × Nat)} {x a i y : Nat} (h : spanIdx d x a = some (i, y)) (hy : y < len) :
    x < dimExtent len d := by
  induction d generalizing x a with
  | nil => cases h; exact hy
  | cons e t ih =>
    obtain ⟨c, st⟩ := e
    simp only [spanIdx] at h
    split at h
    case isTrue hc =>
      have hr := ih h
      have hk : st * (x / st) ≤ (c - 1) * st := by
        rw [Nat.mul_comm]; exact Nat.mul_le_mul_right st (Nat.le_sub_one_of_lt hc)
      have hx := Nat.div_add_mod x st
      simp only [dimExtent]
      omega
    case isFalse => cases h

theorem dimOffset_cons (c st : Nat) (t : List (Nat × Nat)) (i : Nat) :
    dimOffset ((c, st) :: t) i = i / dimCount t % c * st + dimOffset t (i % dimCount t) := rfl

theorem dimOffset_add_lt {len : Nat} {d : List (Nat × Nat)} {i y : Nat} (hi : i < dimCount d) (hy : y < len) :
    dimOffset d i + y < dimExtent len d := by
  induction d generalizing i with
  | nil => simpa [dimOffset, dimExtent] using hy
  | cons e t ih =>
    obtain ⟨c, st⟩ := e
    rw [dimCount_cons] at hi
    have hpos : 0 < dimCount t := Nat.pos_of_ne_zero (fun h => by simp [h] at hi)
    have hk : i / dimCount t < c := Nat.div_lt_of_lt_mul (by rw [Nat.mul_comm]; exact hi)
    have hr := ih (Nat.mod_lt i hpos)
    have hst : i / dimCount t * st ≤ (c - 1) * st := Nat.mul_le_mul_right st (Nat.le_sub_one_of_lt hk)
    rw [dimOffset_cons, Nat.mod_eq_of_lt hk]
    simp only [dimExtent]
    omega

/-- The offset of an array's element, with a place inside the element, gives the element and the place back. -/
theorem spanIdx_dimOffset {len : Nat} {d : List (Nat × Nat)} {i y : Nat} (hfit : dimsFit len d = true) (hi : i < dimCount d)
    (hy : y < len) (a : Nat) : spanIdx d (dimOffset d i + y) a = some (a * dimCount d + i, y) := by
  induction d generalizing i a with
  | nil =>
    have h0 : i = 0 := by rw [dimCount_nil] at hi; omega
    simp [spanIdx, dimOffset, dimCount_nil, h0]
  | cons e t ih =>
    obtain ⟨c, st⟩ := e
    simp only [dimsFit, Bool.and_eq_true, decide_eq_true_eq] at hfit
    obtain ⟨hroom, hfit⟩ := hfit
    rw [dimCount_cons] at hi
    have hpos : 0 < dimCount t := Nat.pos_of_ne_zero (fun h => by simp [h] at hi)
    have hk : i / dimCount t < c := Nat.div_lt_of_lt_mul (by rw [Nat.mul_comm]; exact hi)
    have hlt : dimOffset t (i % dimCount t) + y < st :=
      Nat.lt_of_lt_of_le (dimOffset_add_lt (Nat.mod_lt i hpos) hy) hroom
    have hst : 0 < st := Nat.zero_lt_of_lt hlt
    have hoff : dimOffset ((c, st) :: t) i + y = dimOffset t (i % dimCount t) + y + i / dimCount t * st := by
      rw [dimOffset_cons, Nat.mod_eq_of_lt hk]; omega
    have hdiv : (dimOffset ((c, st) :: t) i + y) / st = i / dimCount t := by
      rw [hoff, Nat.add_mul_div_right _ _ hst, Nat.div_eq_of_lt hlt, Nat.zero_add]
    have hmod : (dimOffset ((c, st) :: t) i + y) % st = dimOffset t (i % dimCount t) + y := by
      rw [hoff, Nat.add_mul_mod_self_right, Nat.mod_eq_of_lt hlt]
    simp only [spanIdx]
    rw [hdiv, hmod, if_pos hk, ih hfit (Nat.mod_lt i hpos), dimCount_cons]
    have hsplit := Nat.div_add_mod i (dimCount t)
    congr 2
    calc (a * c + i / dimCount t) * dimCount t + i % dimCount t
        = a * (c * dimCount t) + (dimCount t * (i / dimCount t) + i % dimCount t) := by ring
      _ = a * (c * dimCount t) + i := by rw [hsplit]

/-! ## Arrays that share no byte -/

/-- Two stretches of bytes, each given by its start and its length, do not meet. -/
def bytesClear (b₁ e₁ b₂ e₂ : Nat) : Bool := (b₁ + e₁).ble b₂ || (b₂ + e₂).ble b₁

/-- Two arrays, from `b₁` and `b₂`, have no byte of an element in common: their extents do not meet; or they step alike, one index of
both fits into the step, and what lies inside it has no byte in common. -/
def dimsApart (b₁ l₁ b₂ l₂ : Nat) : List (Nat × Nat) → List (Nat × Nat) → Bool
  | (c₁, st₁) :: t₁, (c₂, st₂) :: t₂ =>
    bytesClear b₁ (dimExtent l₁ ((c₁, st₁) :: t₁)) b₂ (dimExtent l₂ ((c₂, st₂) :: t₂)) ||
    (st₁.beq st₂ && (b₁ + dimExtent l₁ t₁).ble (b₂ + st₁) && (b₂ + dimExtent l₂ t₂).ble (b₁ + st₁) &&
      dimsApart b₁ l₁ b₂ l₂ t₁ t₂)
  | d₁, d₂ => bytesClear b₁ (dimExtent l₁ d₁) b₂ (dimExtent l₂ d₂)

theorem bytesClear_ne {b₁ e₁ b₂ e₂ x₁ x₂ : Nat} (h : bytesClear b₁ e₁ b₂ e₂ = true) (h₁ : x₁ < e₁) (h₂ : x₂ < e₂) :
    b₁ + x₁ ≠ b₂ + x₂ := by
  simp only [bytesClear, Bool.or_eq_true, Nat.ble_eq] at h
  omega

/-- Steps of one stride that give the same place, from two windows inside one stride, are the same step. -/
theorem step_eq {st k₁ k₂ y₁ y₂ : Nat} (h : st * k₁ + y₁ = st * k₂ + y₂) (h₁ : y₁ < y₂ + st) (h₂ : y₂ < y₁ + st) : k₁ = k₂ := by
  rcases Nat.lt_trichotomy k₁ k₂ with hlt | heq | hgt
  · have := Nat.mul_le_mul_left st (Nat.succ_le_of_lt hlt)
    rw [Nat.mul_succ] at this; omega
  · exact heq
  · have := Nat.mul_le_mul_left st (Nat.succ_le_of_lt hgt)
    rw [Nat.mul_succ] at this; omega

theorem dimsApart_ne {b₁ l₁ b₂ l₂ : Nat} {d₁ d₂ : List (Nat × Nat)} {x₁ x₂ a₁ a₂ i₁ i₂ y₁ y₂ : Nat}
    (h : dimsApart b₁ l₁ b₂ l₂ d₁ d₂ = true) (h₁ : spanIdx d₁ x₁ a₁ = some (i₁, y₁)) (hy₁ : y₁ < l₁)
    (h₂ : spanIdx d₂ x₂ a₂ = some (i₂, y₂)) (hy₂ : y₂ < l₂) : b₁ + x₁ ≠ b₂ + x₂ := by
  induction d₁ generalizing d₂ x₁ x₂ a₁ a₂ with
  | nil =>
    have h : bytesClear b₁ (dimExtent l₁ []) b₂ (dimExtent l₂ d₂) = true := by cases d₂ <;> exact h
    exact bytesClear_ne h (spanIdx_lt_extent h₁ hy₁) (spanIdx_lt_extent h₂ hy₂)
  | cons e₁ t₁ ih =>
    obtain ⟨c₁, st₁⟩ := e₁
    cases d₂ with
    | nil => exact bytesClear_ne h (spanIdx_lt_extent h₁ hy₁) (spanIdx_lt_extent h₂ hy₂)
    | cons e₂ t₂ =>
      obtain ⟨c₂, st₂⟩ := e₂
      simp only [dimsApart, Bool.or_eq_true, Bool.and_eq_true, Nat.ble_eq, Nat.beq_eq] at h
      rcases h with h | ⟨⟨⟨rfl, hw₁⟩, hw₂⟩, hin⟩
      · exact bytesClear_ne h (spanIdx_lt_extent h₁ hy₁) (spanIdx_lt_extent h₂ hy₂)
      · simp only [spanIdx] at h₁ h₂
        split at h₁
        case isFalse => cases h₁
        split at h₂
        case isFalse => cases h₂
        have hb₁ := spanIdx_lt_extent h₁ hy₁
        have hb₂ := spanIdx_lt_extent h₂ hy₂
        have hne := ih hin h₁ h₂
        have hx₁ := Nat.div_add_mod x₁ st₁
        have hx₂ := Nat.div_add_mod x₂ st₁
        intro heq
        have hk : x₁ / st₁ = x₂ / st₁ :=
          step_eq (st := st₁) (y₁ := b₁ + x₁ % st₁) (y₂ := b₂ + x₂ % st₁) (by omega) (by omega) (by omega)
        rw [hk] at hx₁
        omega

/-! ## The registers' arrays -/

/-- The bytes of one element of a register. -/
def Reg.len (r : Reg) : Nat := if isWide r.info then 8 else 4

/-- The dimensions of the Tun store's copy of a control-store register (R225). -/
def altDims (c : Nat) : List (Nat × Nat) := if c = 1 then [] else [(c, 4)]

/-- An offset lies in an element of an array of `r`'s elements from base `b`. -/
def Reg.CoversAt (r : Reg) (b : Nat) (d : List (Nat × Nat)) (off : Nat) : Prop :=
  ∃ x i y, off = b + x ∧ spanIdx d x 0 = some (i, y) ∧ y < r.len

/-- Two registers have no byte in common. -/
def Reg.apart (r q : Reg) : Bool :=
  bytesClear r.info.base (dimExtent r.len r.info.dims) q.info.base (dimExtent q.len q.info.dims) ||
  dimsApart r.info.base r.len q.info.base q.len r.info.dims q.info.dims

/-- A register's copy in the Tun store lies clear of an array. -/
def Reg.altApart (q r : Reg) : Bool :=
  match q.info.alt with
  | none => true
  | some (b, c) => bytesClear r.info.base (dimExtent r.len r.info.dims) b (dimExtent q.len (altDims c))

/-- Each register of a list is apart from those after it. -/
def regsApart : List Reg → Bool
  | [] => true
  | r :: t => t.all (fun q => r.apart q) && regsApart t

/-- What lies inside each dimension fits into its stride, elements are aligned to words, and the last ends at 64 MiB at most. -/
def Reg.placed (r : Reg) : Bool :=
  dimsFit r.len r.info.dims && r.info.base % 4 == 0 && r.info.dims.all (fun d => d.2 % 4 == 0) &&
  (r.info.base + dimExtent r.len r.info.dims).ble (2 ^ 26)

theorem Reg.all_placed : Reg.all.all Reg.placed = true := by decide +kernel

theorem Reg.all_altApart : Reg.all.all (fun q => Reg.all.all (fun r => q.altApart r)) = true := by decide +kernel

theorem Reg.all_apart : regsApart Reg.all = true := by decide +kernel

theorem regsApart_pairs {l : List Reg} (h : regsApart l = true) {r q : Reg} (hr : r ∈ l) (hq : q ∈ l) (hne : r ≠ q) :
    r.apart q = true ∨ q.apart r = true := by
  induction l with
  | nil => cases hr
  | cons a t ih =>
    simp only [regsApart, Bool.and_eq_true, List.all_eq_true] at h
    obtain ⟨ha, ht⟩ := h
    rcases List.mem_cons.mp hr with rfl | hr'
    · exact .inl (ha q ((List.mem_cons.mp hq).resolve_left (Ne.symm hne)))
    · rcases List.mem_cons.mp hq with rfl | hq'
      · exact .inr (ha r hr')
      · exact ih ht hr' hq'

theorem Reg.not_covers_of_apart {r q : Reg} (h : r.apart q = true) {off : Nat} (hr : r.CoversAt r.info.base r.info.dims off)
    (hq : q.CoversAt q.info.base q.info.dims off) : False := by
  obtain ⟨x₁, i₁, y₁, e₁, h₁, hy₁⟩ := hr
  obtain ⟨x₂, i₂, y₂, e₂, h₂, hy₂⟩ := hq
  refine absurd (e₁.symm.trans e₂) ?_
  simp only [Reg.apart, Bool.or_eq_true] at h
  rcases h with h | h
  · exact bytesClear_ne h (spanIdx_lt_extent h₁ hy₁) (spanIdx_lt_extent h₂ hy₂)
  · exact dimsApart_ne h h₁ hy₁ h₂ hy₂

/-- An offset lies in an element of one register at most. -/
theorem Reg.covers_unique {r q : Reg} {off : Nat} (hr : r.CoversAt r.info.base r.info.dims off)
    (hq : q.CoversAt q.info.base q.info.dims off) : r = q := by
  by_contra hne
  rcases regsApart_pairs Reg.all_apart r.mem_all q.mem_all hne with h | h
  · exact Reg.not_covers_of_apart h hr hq
  · exact Reg.not_covers_of_apart h hq hr

/-- No offset of a register's elements lies in a copy of the Tun store. -/
theorem Reg.not_covers_alt {r q : Reg} {off b c : Nat} (hr : r.CoversAt r.info.base r.info.dims off) (ha : q.info.alt = some (b, c)) :
    ¬ q.CoversAt b (altDims c) off := by
  rintro ⟨x₂, i₂, y₂, e₂, h₂, hy₂⟩
  obtain ⟨x₁, i₁, y₁, e₁, h₁, hy₁⟩ := hr
  have h : q.altApart r = true := Reg.forall_of_all (Reg.forall_of_all Reg.all_altApart q) r
  simp only [Reg.altApart, ha] at h
  exact bytesClear_ne h (spanIdx_lt_extent h₁ hy₁) (spanIdx_lt_extent h₂ hy₂) (e₁.symm.trans e₂)

/-! ## Which register an offset reaches -/

/-- A word of an element lies inside it. -/
theorem wordOf_lt {r : Reg} {x : Nat × Nat} {w : Nat × Bool} (h : wordOf r.info x = some w) : x.2 < r.len := by
  unfold wordOf at h
  unfold Reg.len
  split_ifs at h with h0 hw
  · split <;> omega
  · simp only [Bool.and_eq_true, beq_iff_eq] at hw
    rw [if_pos hw.1]; omega

theorem covers_of_span {r : Reg} {b off : Nat} {d : List (Nat × Nat)} {w : Nat × Bool} (hb : b ≤ off)
    (h : (spanIdx d (off - b) 0).bind (wordOf r.info) = some w) : r.CoversAt b d off := by
  obtain ⟨⟨i, y⟩, hs, hw⟩ := Option.bind_eq_some_iff.mp h
  exact ⟨off - b, i, y, by omega, hs, wordOf_lt hw⟩

/-- An offset that reaches a register lies in an element of its array or of its copy in the Tun store. -/
theorem Reg.covers_of_hit {q : Reg} {off : Nat} {w : Nat × Bool} (h : q.hit off = some w) :
    q.CoversAt q.info.base q.info.dims off ∨ ∃ b c, q.info.alt = some (b, c) ∧ q.CoversAt b (altDims c) off := by
  unfold Reg.hit at h
  dsimp only at h
  split at h
  case h_1 x hx =>
    split at hx
    case isTrue hb => exact .inl (covers_of_span hb hx)
    case isFalse => cases hx
  case h_2 =>
    split at h
    case h_1 => cases h
    case h_2 b c ha =>
      split at h
      case isTrue hb =>
        obtain ⟨w', hw', _⟩ := Option.map_eq_some_iff.mp h
        exact .inr ⟨b, c, ha, covers_of_span hb hw'⟩
      case isFalse => cases h

theorem Reg.hit_eq_none {r q : Reg} {off : Nat} (hr : r.CoversAt r.info.base r.info.dims off) (hne : q ≠ r) : q.hit off = none := by
  by_contra hn
  obtain ⟨w, hw⟩ := Option.ne_none_iff_exists'.mp hn
  rcases Reg.covers_of_hit hw with hq | ⟨b, c, ha, hq⟩
  · exact hne (Reg.covers_unique hq hr)
  · exact Reg.not_covers_alt hr ha hq

/-- A search finds what one element of the list gives, where no other element gives anything. -/
theorem findSome?_of_unique {α β : Type} {l : List α} {f : α → Option β} {a : α} {b : β} (ha : a ∈ l) (hb : f a = some b)
    (hn : ∀ x ∈ l, x ≠ a → f x = none) : l.findSome? f = some b := by
  induction l with
  | nil => cases ha
  | cons x t ih =>
    rw [List.findSome?_cons]
    by_cases hx : x = a
    · rw [hx, hb]
    · rw [hn x (List.mem_cons_self ..) hx]
      exact ih ((List.mem_cons.mp ha).resolve_left (Ne.symm hx)) (fun y hy => hn y (List.mem_cons_of_mem _ hy))

/-- A place of an element of a register, in bytes from its base. -/
theorem Reg.span_offset {r : Reg} {i y : Nat} (hi : i < r.elems) (hy : y < r.len) :
    spanIdx r.info.dims (regOffset r i + y - r.info.base) 0 = some (i, y) := by
  have hp := Reg.forall_of_all Reg.all_placed r
  simp only [Reg.placed, Bool.and_eq_true] at hp
  obtain ⟨⟨⟨hfit, _⟩, _⟩, _⟩ := hp
  have hx : regOffset r i + y - r.info.base = dimOffset r.info.dims i + y := by unfold regOffset; omega
  rw [hx, spanIdx_dimOffset hfit hi hy, Nat.zero_mul, Nat.zero_add]

theorem Reg.covers_offset {r : Reg} {i y : Nat} (hi : i < r.elems) (hy : y < r.len) :
    r.CoversAt r.info.base r.info.dims (regOffset r i + y) :=
  ⟨regOffset r i + y - r.info.base, i, y, by unfold regOffset; omega, Reg.span_offset hi hy, hy⟩

theorem Reg.hit_offset {r : Reg} {i y : Nat} {w : Nat × Bool} (hi : i < r.elems) (hy : y < r.len) (hw : wordOf r.info (i, y) = some w) :
    r.hit (regOffset r i + y) = some w := by
  have hle : r.info.base ≤ regOffset r i + y := by unfold regOffset; omega
  unfold Reg.hit
  simp only [if_pos hle, Reg.span_offset hi hy, Option.bind_some, hw]

theorem dimOffset_aligned {d : List (Nat × Nat)} (h : d.all (fun x => x.2 % 4 == 0) = true) (i : Nat) : dimOffset d i % 4 = 0 := by
  induction d generalizing i with
  | nil => rfl
  | cons e t ih =>
    obtain ⟨c, st⟩ := e
    simp only [List.all_cons, Bool.and_eq_true, beq_iff_eq] at h
    have hst : i / dimCount t % c * st % 4 = 0 := by rw [Nat.mul_mod, h.1, Nat.mul_zero, Nat.zero_mod]
    have ht := ih h.2 (i % dimCount t)
    rw [dimOffset_cons]
    omega

/-- An element's offset is that of a word of BAR0. -/
theorem Reg.offset_aligned {r : Reg} {i y : Nat} (hi : i < r.elems) (hy : y < r.len) (hy4 : y % 4 = 0) :
    ¬ ((regOffset r i + y) % 4 ≠ 0 ∨ 2 ^ 26 ≤ regOffset r i + y) := by
  have hp := Reg.forall_of_all Reg.all_placed r
  simp only [Reg.placed, Bool.and_eq_true, beq_iff_eq, Nat.ble_eq] at hp
  obtain ⟨⟨⟨_, hb⟩, hd⟩, htop⟩ := hp
  have hlt := dimOffset_add_lt (d := r.info.dims) hi hy
  have hal := dimOffset_aligned hd i
  unfold regOffset
  omega

/-- An offset inside an element of a register reaches that element (R72). -/
theorem regAt_word {r : Reg} {i y : Nat} {hi : Bool} (hlt : i < r.elems) (hpll : r = .CLK_PLL → isPll i = true) (hy : y < r.len)
    (hy4 : y % 4 = 0) (hw : wordOf r.info (i, y) = some (i, hi)) : regAt (regOffset r i + y) = some ⟨r, i, hi⟩ := by
  unfold regAt
  rw [if_neg (Reg.offset_aligned hlt hy hy4)]
  refine findSome?_of_unique r.mem_all ?_ ?_
  · rw [Reg.hit_offset hlt hy hw, Option.bind_some, if_neg (by rintro ⟨hr, hf⟩; rw [hpll hr] at hf; cases hf)]
  · intro q _ hne
    rw [Reg.hit_eq_none (Reg.covers_offset hlt hy) hne, Option.bind_none]

/-- The offset of an element reaches that element. -/
theorem regAt_regOffset {r : Reg} {i : Nat} (hlt : i < r.elems) (hpll : r = .CLK_PLL → isPll i = true) :
    regAt (regOffset r i) = some ⟨r, i, false⟩ :=
  regAt_word hlt hpll (y := 0) (by unfold Reg.len; split <;> decide) rfl rfl

/-- Settles O37: no two registers share a byte, so the search finds the one register whose array has the element. -/
theorem registerOffsetsDecode : Obligations.RegisterOffsetsDecode := by
  unfold Obligations.RegisterOffsetsDecode
  refine ⟨fun r i hlt hpll => ⟨regAt_regOffset hlt hpll, fun hw => ?_⟩, fun off h => ?_⟩
  · exact regAt_word hlt hpll (y := 4) (by simp [Reg.len, hw]) rfl (by simp [wordOf, hw])
  · exact if_pos h

end Sys2Proof.Machine
end

section
/-! PROOFS. Register accesses: what a write and a read of a register do by its access type (R74 to R81), the commit of a PAIRED group
(R86, R87) and the two resets of GLB_RESET_CTL (R90, R91). -/
namespace Sys2Proof.Machine

/-! ## Masks and words -/

/-- A bit of a masked merge is the data's where the mask has a one, else the old word's. -/
theorem getLsbD_merge (x w m : Word) (b : Nat) :
    ((x &&& ~~~m) ||| (w &&& m)).getLsbD b = if m.getLsbD b then w.getLsbD b else x.getLsbD b := by
  have hx : 32 ≤ b → x.getLsbD b = false := x.getLsbD_of_ge b
  have hm : 32 ≤ b → m.getLsbD b = false := m.getLsbD_of_ge b
  by_cases hb : b < 32 <;> cases h : m.getLsbD b <;> simp_all

theorem merge_zero (x w : Word) : (x &&& ~~~(wd 0)) ||| (w &&& wd 0) = x :=
  BitVec.eq_of_getLsbD_eq (fun b _ => by rw [getLsbD_merge]; simp [wd])

/-- Bit `b` of a word's upper half, as a number, is bit `b + 16` of the word. -/
theorem getLsbD_upper (w : Word) {b : Nat} (hb : b < 16) : (wd (w.toNat / 65536)).getLsbD b = w.getLsbD (b + 16) := by
  unfold wd
  rw [BitVec.getLsbD_ofNat, decide_eq_true (by omega), Bool.true_and, show 65536 = 2 ^ 16 from rfl, Nat.testBit_div_two_pow]
  rfl

/-- A word's upper half, as a number, has no bit from 16 on. -/
theorem getLsbD_upper_ge (w : Word) {b : Nat} (hb : 16 ≤ b) : (wd (w.toNat / 65536)).getLsbD b = false := by
  have hlt : w.toNat / 65536 < 2 ^ b :=
    Nat.lt_of_lt_of_le (by have := w.isLt; omega) (Nat.pow_le_pow_right (by decide) hb)
  unfold wd
  rw [BitVec.getLsbD_ofNat, Nat.testBit_lt_two_pow hlt, Bool.and_false]

/-! ## Writes by access type (R78, R80) -/

/-- A register that is not of type MW takes the data at its RW bits (R78). -/
theorem State.writePlain_rw {r : Reg} (h : r.info.mw = false) (s : State) (i : Nat) (w : Word) :
    s.writePlain r i w = s.setReg r i ((s.reg r i &&& ~~~(wd r.info.rw)) ||| (w &&& wd r.info.rw)) := by
  simp [State.writePlain, h]

/-- A register of type MW takes the data at the bits that its upper half selects (R80). -/
theorem State.writePlain_mw {r : Reg} (h : r.info.mw = true) (s : State) (i : Nat) (w : Word) :
    s.writePlain r i w = s.setReg r i ((s.reg r i &&& ~~~(wd (w.toNat / 65536))) ||| (w &&& wd (w.toNat / 65536))) := by
  simp [State.writePlain, h]

theorem State.reg_writePlain_ne (s : State) {r q : Reg} {i j : Nat} (w : Word) (h : q ≠ r ∨ j ≠ i) :
    (s.writePlain r i w).reg q j = s.reg q j :=
  s.reg_setReg_ne _ (h.imp_left (fun hq he => hq (Reg.ctorIdx_inj he)))

/-- Without behaviour of its own a register takes the last branch of `State.poke`, and there of `State.pokeRing`. -/
theorem State.poke_of_not_ownWrite {r : Reg} (h : r.ownWrite = false) (s : State) (chan i : Nat) (w : Word) :
    s.poke chan r i w = s.writePlain r i w := by
  unfold State.poke
  split
  case h_16 =>
    unfold State.pokeRing
    split
    case h_27 => rfl
    all_goals cases h
  all_goals cases h

/-- The registers of type MW are GPIO_OUT and GPIO_OE, whose writes move pins. -/
def Reg.mwIsGpio (r : Reg) : Bool := !r.info.mw || decide (r = .GPIO_OUT ∨ r = .GPIO_OE)

theorem Reg.gpio_of_mw {r : Reg} (h : r.info.mw = true) : r = .GPIO_OUT ∨ r = .GPIO_OE := by
  have hr := Reg.forall_of_all (f := Reg.mwIsGpio) (by decide +kernel) r
  simpa [Reg.mwIsGpio, h] using hr

theorem Reg.mw_of_not_ownWrite {r : Reg} (h : r.ownWrite = false) : r.info.mw = false := by
  by_contra hm
  rcases Reg.gpio_of_mw (Bool.eq_true_of_not_eq_false hm) with rfl | rfl <;> cases h

/-- Settles O39: such a write is one by access type, and its register is not of type MW. -/
theorem plainWrites : Obligations.PlainWrites := by
  unfold Obligations.PlainWrites
  intro s chan r i w hl hown
  have hpoke := (State.busWrite_lands w hl).trans (State.poke_of_not_ownWrite hown s chan i w)
  refine ⟨s.writePlain r i w, congrArg Host.Outcome.next hpoke, rfl, fun b => ?_, fun q j hq => State.reg_writePlain_ne s w hq⟩
  rw [State.writePlain_rw (Reg.mw_of_not_ownWrite hown), State.reg_setReg_self, getLsbD_merge]

/-! ## Masked writes (R80) -/

/-- What a write of a GPIO register sends moves no register. -/
theorem State.writeGpio_regs (s : State) (r : Reg) (w : Word) (q : Reg) (j : Nat) :
    (s.writeGpio r w).reg q j = (s.writePlain r 0 w).reg q j :=
  eachIn_frame (fun t : State => t.reg q j) _ _ _ (fun _ _ => rfl)

theorem State.reg_writePlain_mask_zero {r : Reg} (hm : r.info.mw = true) {w : Word} (hw : w.toNat / 65536 = 0) (s : State) (i : Nat)
    (q : Reg) (j : Nat) : (s.writePlain r i w).reg q j = s.reg q j := by
  have he : s.writePlain r i w = s.setReg r i (s.reg r i) := by
    rw [State.writePlain_mw hm, hw]; exact congrArg (s.setReg r i) (merge_zero _ w)
  by_cases hq : q = r ∧ j = i
  · rw [he, hq.1, hq.2, State.reg_setReg_self]
  · exact s.reg_writePlain_ne w (not_and_or.mp hq)

/-- A mask of zero moves no pin (R80). -/
theorem State.writeGpio_mask_zero {r : Reg} (hm : r.info.mw = true) {w : Word} (hw : w.toNat / 65536 = 0) (s : State) :
    s.writeGpio r w = s.writePlain r 0 w := by
  have hpin : ∀ n, (s.writePlain r 0 w).gpioDriven n = s.gpioDriven n := by
    intro n
    unfold State.gpioDriven
    rw [State.reg_writePlain_mask_zero hm hw, State.reg_writePlain_mask_zero hm hw]
  unfold State.writeGpio
  simp [hpin, eachIn]

theorem State.poke_of_mw {r : Reg} (h : r.info.mw = true) (s : State) (chan i : Nat) (w : Word) : s.poke chan r i w = s.writeGpio r w := by
  rcases Reg.gpio_of_mw h with rfl | rfl <;> rfl

/-- Settles O40: an MW register is one of the two GPIO registers, whose write merges its low half under its upper half. -/
theorem maskedWrites : Obligations.MaskedWrites := by
  unfold Obligations.MaskedWrites
  refine ⟨fun s chan r w hm hl => ?_, fun r i hm => ?_⟩
  · refine ⟨s.writeGpio r w, congrArg Host.Outcome.next ((State.busWrite_lands w hl).trans (State.poke_of_mw hm s chan 0 w)),
      fun q j hq => ?_, fun b hb => ?_, fun b hb => ?_, fun hw => ?_⟩
    · rw [State.writeGpio_regs]; exact State.reg_writePlain_ne s w (.inl (by simpa using hq))
    · rw [State.writeGpio_regs, State.writePlain_mw hm, State.reg_setReg_self, getLsbD_merge, getLsbD_upper w hb]
    · rw [State.writeGpio_regs, State.writePlain_mw hm, State.reg_setReg_self, getLsbD_merge, getLsbD_upper_ge w hb]; rfl
    · rw [State.writeGpio_mask_zero hm hw]
      exact ⟨rfl, fun q j _ => State.reg_writePlain_mask_zero hm hw s 0 q j⟩
  · rcases Reg.gpio_of_mw hm with rfl | rfl <;> exact Nat.zero_lt_succ 65535

/-! ## Reads (R78, R79) -/

/-- The state after a read of a word of `r`, before its RC bits are cleared: the HI half of a pair is latched. -/
def State.latchPair (s : State) (chan : Nat) (r : Reg) (i : Nat) : State :=
  match pairHi r with
  | some q => s.setLatch (latchKey chan q i) (some (s.viewWord ⟨q, i, false⟩))
  | none => s

theorem State.latchPair_out (s : State) (chan : Nat) (r : Reg) (i : Nat) : (s.latchPair chan r i).out = s.out := by
  unfold State.latchPair; split <;> rfl

theorem State.reg_latchPair (s : State) (chan : Nat) (r : Reg) (i : Nat) (q : Reg) (j : Nat) :
    (s.latchPair chan r i).reg q j = s.reg q j := by
  unfold State.latchPair; split <;> rfl

/-- A read with no latched half in the way returns the live word and clears the register's RC bits (R78, R79, R81). -/
theorem State.readHit_live {s : State} {chan i : Nat} {r : Reg} (hr : r ≠ .PWR_EVENT)
    (hl : tabGet s.hiLatch (latchKey chan r i) none = none) :
    s.readHit chan ⟨r, i, false⟩ = (if r.info.rc = 0 then s.latchPair chan r i
      else (s.latchPair chan r i).setReg r i (s.reg r i &&& ~~~(wd r.info.rc)), s.viewWord ⟨r, i, false⟩) := by
  unfold State.readHit State.latchPair
  simp only [hl, Option.getD_none, Option.isSome_none, if_neg hr]
  cases pairHi r <;> rfl

/-- Settles O41: the live word goes to the reader, and the RC bits are masked out of the register. -/
theorem readClears : Obligations.ReadClears := by
  unfold Obligations.ReadClears
  intro s chan r i hc hup hwait hcheck hat hrc hr hl
  have hread := State.busRead_hit hc hup hwait hcheck hat
  rw [State.readHit_live hr hl, if_neg hrc] at hread
  refine ⟨_, congrArg Host.Outcome.next hread, ?out, ?bits, ?others⟩
  case out =>
    exact congrArg (_ :: ·) (s.latchPair_out chan r i)
  case bits =>
    intro b hb
    rw [State.reg_emit, State.reg_setReg_self]
    simp [hb]
  case others =>
    intro q j hq
    rw [State.reg_emit, State.reg_setReg_ne _ _ (hq.imp_left (fun hn he => hn (Reg.ctorIdx_inj he))), State.reg_latchPair]

/-! ## GLB_RESET_CTL (R90, R91) -/

/-- Settles O43: GLB_RESET_CTL's own write looks at the key, then at ACTION. -/
theorem resetControl : Obligations.ResetControl := by
  unfold Obligations.ResetControl
  intro s chan w hl
  have hp := (State.busWrite_lands w hl).trans (State.poke_GLB_RESET_CTL s chan 0 w)
  exact ⟨fun hkey => congrArg Host.Outcome.next (hp.trans (if_pos hkey)),
    fun hkey => congrArg Host.Outcome.next (hp.trans (if_neg (not_not.mpr hkey)))⟩

/-! ## The rows of the register interface -/

theorem State.busCheck_glbId (s : State) : s.busCheck 1 0 1 false true = .inl ⟨.GLB_ID, 0, false⟩ := by
  have hat : regAt 0 = some ⟨.GLB_ID, 0, false⟩ := regAt_regOffset (r := .GLB_ID) (by decide) (by decide)
  have hdom : s.domOn (regDomain .GLB_ID 0) = true := rfl
  have hrom : romBlock 0 = true := rfl
  unfold State.busCheck
  rw [hat]
  simp [hdom, hrom]

/-- Settles O20: a read or write that reaches its register is that register's own; every other row is one branch of its meaning. -/
theorem registerEvents : Obligations.RegisterEvents := by
  unfold Obligations.RegisterEvents
  refine ⟨?write, ?rcRead, ?pairLoRead, ?svcRead, ?svcWrite, ?pairCommit, ?pairApply, ?warm, ?cold⟩
  case write => exact fun s w h => next_lands h (s.poke_GLB_SCRATCH 1 0 w)
  case rcRead =>
    intro s hup hwait hcheck hl
    have hat : regAt (regOffset .TELEM_EVENT) = some ⟨.TELEM_EVENT, 0, false⟩ := regAt_regOffset (by decide) (by decide)
    have hread := State.busRead_hit (.inr rfl) hup hwait hcheck hat
    rw [State.readHit_live (by decide) hl] at hread
    exact congrArg Host.Outcome.next hread
  case pairLoRead =>
    intro s hup hwait hcheck hl
    have hat : regAt (regOffset .TELEM_PPS_IN_LO) = some ⟨.TELEM_PPS_IN_LO, 0, false⟩ := regAt_regOffset (by decide) (by decide)
    have hread := State.busRead_hit (.inr rfl) hup hwait hcheck hat
    rw [State.readHit_live (by decide) hl] at hread
    refine congrArg Host.Outcome.next ?_
    rw [hat]
    exact hread
  case svcRead =>
    intro s hup hwait hl
    have hat : regAt 0 = some ⟨.GLB_ID, 0, false⟩ := regAt_regOffset (r := .GLB_ID) (by decide) (by decide)
    have hread := State.busRead_hit (.inr rfl) hup hwait s.busCheck_glbId hat
    rw [State.readHit_live (by decide) hl] at hread
    refine congrArg Host.Outcome.next ?_
    rw [if_neg (by simp [hup])]
    exact (if_pos rfl).trans hread
  case svcWrite =>
    intro s w h
    obtain ⟨hup, _, _⟩ := id h
    refine (congrArg Host.Outcome.next ?_).trans (next_lands h (s.poke_GLB_SCRATCH 1 0 w))
    rw [if_neg (by simp [hup])]
    exact if_pos rfl
  case pairCommit =>
    intro s b v hb hdom hgo
    refine congrArg Host.Outcome.next ?_
    rw [if_neg (not_or.mpr ⟨by omega, by rw [if_pos hb, hdom]; decide⟩), State.writeCommit, if_neg (by simp [hgo]), if_pos hb]
  case pairApply =>
    intro s c hc
    refine congrArg Host.Outcome.next ?_
    simp [State.tunApply, hc]
  case warm => exact fun s h => next_lands h rfl
  case cold => exact fun s h => next_lands h rfl

end Sys2Proof.Machine
end

section
/-! PROOFS. SNAPSHOT (R82, R83): the copy of the live counters, and its reply. -/
namespace Sys2Proof.Machine

/-! ## Taking a command (R34) -/

/-- Taking a command moves the sequence and CMD_SQ_HEAD, and nothing else. -/
theorem State.take_frame (s : State) :
    s.take = { s with regs := s.take.regs, cmd := s.take.cmd } ∧ s.regsKept s.take [.CMD_SQ_HEAD] := by
  unfold State.take
  split
  · exact ⟨rfl, fun q i hq => State.reg_setFld_other _ _ _ _ (by simpa [CMD_SQ_HEAD.HEAD] using hq)⟩
  · exact ⟨rfl, fun _ _ _ => rfl⟩
  · exact ⟨rfl, fun _ _ _ => rfl⟩

theorem State.take_tod (s : State) : s.take.tod = s.tod := (congrArg State.tod s.take_frame.1).trans rfl
theorem State.take_ctr (s : State) : s.take.ctr = s.ctr := (congrArg State.ctr s.take_frame.1).trans rfl
theorem State.take_snapVis (s : State) : s.take.snapVis = s.snapVis := (congrArg State.snapVis s.take_frame.1).trans rfl

theorem State.fld_take (s : State) (f : Fld) (i : Nat) (hf : f.reg ≠ .CMD_SQ_HEAD) : s.take.fld f i = s.fld f i :=
  State.fld_of_regsKept s.take_frame.2 f i (by simpa using hf)

theorem State.domOn_take (s : State) (n : Nat) : s.take.domOn n = s.domOn n := by
  unfold State.domOn
  rw [State.fld_take s _ _ (by decide)]

/-! ## Copying a table (R83) -/

theorem keyLt_irrefl (k : Key) : keyLt k k = false := by simp [keyLt]

theorem tabGet_of_tabAbove {α : Type} {k : Key} {t : Tab α} (h : tabAbove k t = true) (d : α) : tabGet t k d = d := by
  induction t with
  | nil => rfl
  | cons e t ih =>
    obtain ⟨k', v⟩ := e
    simp only [tabAbove, Bool.and_eq_true] at h
    have hne : k' ≠ k := by rintro rfl; rw [keyLt_irrefl] at h; exact absurd h.1 (by decide)
    rw [tabGet, if_neg hne, ih h.2]

/-- A table kept at some keys only reads as unlisted at the others. -/
theorem tabGet_filter {α : Type} (f : Key → Bool) (t : Tab α) (k : Key) (d : α) :
    tabGet (t.filter (fun e => f e.1)) k d = if f k = true then tabGet t k d else d := by
  induction t with
  | nil => simp [tabGet]
  | cons e t ih =>
    obtain ⟨k', v⟩ := e
    by_cases hf : f k' = true <;> by_cases hk : k' = k
    · subst hk; simp [hf, tabGet]
    · simp [hf, tabGet, hk, ih]
    · subst hk; simp [hf, ih]
    · simp [hf, tabGet, hk, ih]

/-- Writing every entry of a canonical table `t` that passes a test over a table: at keys that pass, what `t` lists goes before. -/
theorem tabGet_overlay (f : Key → Bool) {t : Tab Nat} (h : tabWf (fun _ => 0) t = true) (acc : Tab Nat) (k : Key) :
    tabGet (t.foldl (fun (t : Tab Nat) e => if f e.1 then tabSet t e.1 e.2 0 else t) acc) k 0 =
      if f k = true then tabGet t k (tabGet acc k 0) else tabGet acc k 0 := by
  induction t generalizing acc with
  | nil => simp [tabGet]
  | cons e t ih =>
    obtain ⟨k', v⟩ := e
    simp only [tabWf, Bool.and_eq_true] at h
    obtain ⟨⟨habove, _⟩, hwf⟩ := h
    rw [List.foldl_cons, ih hwf]
    by_cases hk : k' = k
    · subst hk
      by_cases hf : f k' = true
      · simp [hf, tabGet, tabGet_of_tabAbove habove]
      · simp [hf]
    · have hacc : tabGet (if f k' then tabSet acc k' v 0 else acc) k 0 = tabGet acc k 0 := by
        split
        · exact tabGet_tabSet_ne acc v 0 0 (Ne.symm hk)
        · rfl
      rw [hacc, tabGet, if_neg hk]

/-- The copy holds the live value of a counter whose domain is on, and the earlier copy of any other. -/
theorem State.tabGet_snapCopy {s : State} (h : tabWf (fun _ => 0) s.ctr = true) (k : Key) :
    tabGet s.snapCopy k 0 = if s.domOn (ctrDomain k) = true then tabGet s.ctr k 0 else tabGet s.snapVis k 0 := by
  unfold State.snapCopy
  rw [tabGet_overlay (fun k => s.domOn (ctrDomain k)) h, tabGet_filter (fun k => !s.domOn (ctrDomain k))]
  by_cases hd : s.domOn (ctrDomain k) = true <;> simp [hd]

/-! ## SNAPSHOT's effect (R82) -/

theorem snapshot_seq (p : Packet) (s : State) :
    (effSnapshot p s).1.fld GLB_SNAP_SEQ.SEQ = (s.fld GLB_SNAP_SEQ.SEQ + 1) % 2 ^ 32 := by
  unfold effSnapshot
  dsimp only
  rw [State.fld, State.reg_setReg_other _ _ _ _ (by decide), State.reg_setReg_other _ _ _ _ (by decide)]
  refine (State.fld_setFld_self _ _ _ _ (by decide)).trans ?_
  exact Nat.mod_mod _ _

theorem snapshot_time (p : Packet) (s : State) :
    (effSnapshot p s).1.reg .GLB_SNAP_TIME_LO = lo32 s.tod ∧ (effSnapshot p s).1.reg .GLB_SNAP_TIME_HI = hi32 s.tod := by
  unfold effSnapshot
  dsimp only
  refine ⟨?_, State.reg_setReg_self _ _ _ _⟩
  rw [State.reg_setReg_other _ _ _ _ (by decide), State.reg_setReg_self]

theorem snapshot_reply (p : Packet) (s : State) :
    (effSnapshot p s).2 = ok [wd ((s.fld GLB_SNAP_SEQ.SEQ + 1) % 2 ^ 32), lo32 s.tod, hi32 s.tod]
      (snapDomains.filter (fun n => !s.domOn n)).length := rfl

/-- Settles O56: the effect on the state with the command taken, whose counters, domains and time of day are those before. -/
theorem snapshotCopies : Obligations.SnapshotCopies := by
  unfold Obligations.SnapshotCopies
  intro s p h hi hl hwf
  have hseq := s.fld_take GLB_SNAP_SEQ.SEQ 0 (by decide)
  have htime := snapshot_time p s.take
  rw [State.take_tod] at htime
  have hreply := snapshot_reply p s.take
  simp only [hseq, State.take_tod, State.domOn_take] at hreply
  refine ⟨(effSnapshot p s.take).1, next_direct h hi hl (Prod.ext rfl hreply) rfl (by simp [ok]), fun k => ?_, s.take_ctr,
    s.take_snapVis, ?_, htime.1, htime.2⟩
  · have hcopy := State.tabGet_snapCopy (s := s.take) (by rw [State.take_ctr]; exact hwf) k
    rwa [State.domOn_take, State.take_ctr, State.take_snapVis] at hcopy
  · rw [snapshot_seq, hseq]

end Sys2Proof.Machine
end

section
/-! PROOFS. What the buffer, scheduler and telemetry commands leave unchanged: each effect is a chain of writes and loops over writes. -/
namespace Sys2Proof.Machine

/-! ## Frames -/

/-- Some components of the state: `take s t` is `s` with these as they are in `t`. -/
structure Scope where
  take : State → State → State
  self : ∀ s, take s s = s
  last : ∀ s t u, take (take s t) u = take s u

/-- A scope that the register table belongs to. -/
structure RegScope extends Scope where
  regs : ∀ (s : State) (x : Tab Word), { s with regs := x } = take s { s with regs := x }

/-- From `s` to `t` nothing changes but the components of a scope, and no register but those of `l`. -/
def Framed (k : Scope) (l : List Reg) (s t : State) : Prop := t = k.take s t ∧ s.regsKept t l

theorem Framed.refl {k : Scope} {l : List Reg} {s : State} : Framed k l s s := ⟨(k.self s).symm, fun _ _ _ => rfl⟩

theorem Framed.trans {k : Scope} {l : List Reg} {s t u : State} (h : Framed k l s t) (h' : Framed k l t u) : Framed k l s u := by
  obtain ⟨ht, hl⟩ := h
  obtain ⟨hu, hl'⟩ := h'
  refine ⟨?_, State.regsKept_trans hl hl'⟩
  calc u = k.take t u := hu
    _ = k.take (k.take s t) u := congrArg (k.take · u) ht
    _ = k.take s u := k.last s t u

/-- A loop stays in the frame that each of its turns stays in. -/
theorem Framed.eachIn {α : Type} {k : Scope} {l : List Reg} {f : State → α → State} (hf : ∀ s a, Framed k l s (f s a)) (xs : List α)
    (s : State) : Framed k l s (eachIn xs s f) :=
  eachIn_keeps (Framed k l s) xs s f (fun t a ht => ht.trans (hf t a)) .refl

theorem Framed.ite {k : Scope} {l : List Reg} {s t u : State} {c : Prop} [Decidable c] (ht : Framed k l s t) (hu : Framed k l s u) :
    Framed k l s (if c then t else u) := by
  split <;> assumption

/-- A change made under a condition. -/
theorem Framed.when {k : Scope} {l : List Reg} {s t u : State} {c : Prop} [Decidable c] (ht : Framed k l s t) (hu : Framed k l t u) :
    Framed k l s (if c then u else t) := .ite (ht.trans hu) ht

/-- A check that refuses, before what comes where it passes. -/
theorem Framed.check {k : Scope} {l : List Reg} {s : State} {c : Prop} [Decidable c] {r : Rep} {q : State × Rep}
    (hq : Framed k l s q.1) : Framed k l s (if c then (s, r) else q).1 := by
  split
  · exact .refl
  · exact hq

/-- A word check that refuses, before what comes where it passes. -/
theorem Framed.checkWord {k : Scope} {l : List Reg} {s : State} {bad : Option Nat} {q : State × Rep} (hq : Framed k l s q.1) :
    Framed k l s (match bad with | some i => (s, badPar i) | none => q).1 := by
  split
  · exact .refl
  · exact hq

theorem Framed.setReg {k : RegScope} {l : List Reg} {s t : State} {r : Reg} {i : Nat} {w : Word} (hl : r ∈ l)
    (h : Framed k.toScope l s t) : Framed k.toScope l s (t.setReg r i w) :=
  h.trans ⟨k.regs t _, fun _ _ hq => t.reg_setReg_other _ _ _ (fun e => hq (e ▸ hl))⟩

theorem Framed.setFld {k : RegScope} {l : List Reg} {s t : State} {f : Fld} {i v : Nat} (hl : f.reg ∈ l)
    (h : Framed k.toScope l s t) : Framed k.toScope l s (t.setFld f i v) := h.setReg hl

/-! ## Queue settings (R308, R316) -/

/-- The registers. -/
def regScope : RegScope := ⟨⟨fun s t => { s with regs := t.regs }, fun _ => rfl, fun _ _ _ => rfl⟩, fun _ _ => rfl⟩

/-- The registers that QUEUE_CFG may change. -/
abbrev queueCfgRegs : List Reg := [.TUN_ING_HR, .TUN_ING_USED, .TUN_POOL_USED, .TUN_Q_CFG0, .TUN_Q_CFG1]

theorem State.chargeIng_framed (s : State) (f : TFrame) (n : Nat) (up : Bool) :
    Framed regScope.toScope queueCfgRegs s (s.chargeIng f n up) := by
  unfold State.chargeIng
  split
  · exact .refl
  · exact .when (.setFld (by decide) .refl) (.setFld (by decide) .refl)

theorem State.setQueueCfg_framed (s : State) (q : Nat) (w1 w2 : Word) :
    Framed regScope.toScope queueCfgRegs s (s.setQueueCfg q w1 w2) := by
  have hdown := Framed.eachIn (fun s f => State.chargeIng_framed s f (chargedCells f) false) (s.chargedFrames q) s
  refine Framed.trans ?_ (.eachIn (fun s f => s.chargeIng_framed f (chargedCells f) true) _ _)
  exact .setFld (by decide) (.setReg (by decide) (.setReg (by decide) (.setFld (by decide) hdown)))

theorem effQueueCfg_framed (p : Packet) (s : State) : Framed regScope.toScope queueCfgRegs s (effQueueCfg p s).1 :=
  .checkWord (.check (.eachIn (fun s q => s.setQueueCfg_framed q _ _) _ _))

theorem effQholdCfg_framed (p : Packet) (s : State) : Framed regScope.toScope [.TUN_PORT_HOLD] s (effQholdCfg p s).1 :=
  .check (.eachIn (fun _ _ => .setFld (by decide) .refl) _ _)

/-! ## Scheduler settings (R345, R346, R353, R357, R359) -/

theorem effSchedCfg_framed (p : Packet) (s : State) : Framed regScope.toScope [.SCHED_Q_CFG] s (effSchedCfg p s).1 :=
  .checkWord (.check (.eachIn (fun _ _ => .setFld (by decide) .refl) _ _))

/-- The registers and the queues' shaping. -/
def queueScope : RegScope :=
  ⟨⟨fun s t => { s with regs := t.regs, squeues := t.squeues }, fun _ => rfl, fun _ _ _ => rfl⟩, fun _ _ => rfl⟩

/-- The registers, the ports' shaping and the queues'. -/
def shapingScope : RegScope :=
  ⟨⟨fun s t => { s with regs := t.regs, sports := t.sports, squeues := t.squeues }, fun _ => rfl, fun _ _ _ => rfl⟩, fun _ _ => rfl⟩

/-- Writing a queue's shaping stays in a scope that it belongs to. -/
theorem Framed.setSqueue {k : Scope} {l : List Reg} {s t : State} {q : Nat} {v : SQueue}
    (hk : ∀ (t : State) (x : Tab SQueue), { t with squeues := x } = k.take t { t with squeues := x }) (h : Framed k l s t) :
    Framed k l s (t.setSqueue q v) := h.trans ⟨hk t _, fun _ _ _ => rfl⟩

theorem Framed.setSport {l : List Reg} {s t : State} {i : Nat} {v : SPort} (h : Framed shapingScope.toScope l s t) :
    Framed shapingScope.toScope l s (t.setSport i v) := h.trans ⟨rfl, fun _ _ _ => rfl⟩

theorem effShaperCfg_framed (p : Packet) (s : State) :
    Framed shapingScope.toScope [.SCHED_P_CFG, .SCHED_P_MAX, .SCHED_Q_MAX, .SCHED_Q_MIN] s (effShaperCfg p s).1 := by
  refine .checkWord (.check (.check ?_))
  split
  · exact .eachIn (fun _ _ => .setFld (by decide) (.setFld (by decide) (.setSqueue (fun _ _ => rfl) .refl))) _ _
  · exact .eachIn (fun _ _ => .setFld (by decide) (.setFld (by decide) (.setSport .refl))) _ _

theorem effWredCfg_framed (p : Packet) (s : State) :
    Framed queueScope.toScope [.SCHED_Q_CFG, .SCHED_Q_WRED_AVG] s (effWredCfg p s).1 :=
  .checkWord (.eachIn (fun _ _ => .setSqueue (fun _ _ => rfl) (.setFld (by decide) (.setFld (by decide) (.setFld (by decide)
    (.setFld (by decide) .refl))))) _ _)

/-- The registers that PFC_WD_CFG may change. -/
abbrev pfcWdRegs : List Reg := [.SCHED_EVENT, .SCHED_P_TH, .SCHED_Q_CFG, .SCHED_Q_STATE]

theorem State.wdNormal_framed (s : State) (q : Nat) : Framed shapingScope.toScope pfcWdRegs s (s.wdNormal q) :=
  .ite .refl (.setSqueue (fun _ _ => rfl) (.setFld (f := SCHED_EVENT.WD_RESTORE) (by decide) (.setFld (by decide) .refl)))

theorem effPfcTh_framed (p : Packet) (ps : List Nat) (s : State) : Framed shapingScope.toScope pfcWdRegs s (effPfcTh p ps s).1 :=
  .check (.check (.eachIn (fun _ _ => .setSport (.setReg (by decide) .refl)) _ _))

theorem effPfcWd_framed (p : Packet) (ps : List Nat) (s : State) : Framed shapingScope.toScope pfcWdRegs s (effPfcWd p ps s).1 := by
  unfold effPfcWd
  dsimp only
  refine .check (.check (.eachIn (fun t q => ?_) _ _))
  have hset : ∀ v, Framed shapingScope.toScope pfcWdRegs t
      (((t.setFld SCHED_Q_CFG.WD_EN q (b2n (parF p 1 0 1 == 1))).setFld SCHED_Q_CFG.ACTION q (parF p 1 1 1)).setSqueue q v) :=
    fun v => .setSqueue (fun _ _ => rfl) (.setFld (by decide) (.setFld (by decide) .refl))
  split
  · exact hset _
  · exact (hset _).trans (State.wdNormal_framed _ q)

theorem effPfcWdCfg_framed (p : Packet) (s : State) : Framed shapingScope.toScope pfcWdRegs s (effPfcWdCfg p s).1 := by
  unfold effPfcWdCfg
  dsimp only
  split
  case h_1 => exact .refl
  case h_2 =>
    refine .check (.check ?_)
    split
    · exact effPfcTh_framed p _ s
    · exact effPfcWd_framed p _ s

theorem effHwmRead_framed (p : Packet) (s : State) :
    Framed regScope.toScope [.SCHED_Q_HWM_CELLS, .SCHED_Q_HWM_SOJ] s (effHwmRead p s).1 :=
  .check (.ite (.eachIn (fun _ _ => .setReg (by decide) (.setReg (by decide) .refl)) _ _) .refl)

/-! ## The plan (R307) -/

/-- The fault path, the registers and the Tun. -/
def planScope : RegScope :=
  ⟨⟨fun s t => { s with flt := t.flt, regs := t.regs, tun := t.tun }, fun _ => rfl, fun _ _ _ => rfl⟩, fun _ _ => rfl⟩

/-- The registers that POOL_CFG may change. -/
abbrev poolCfgRegs : List Reg := [.FLT_SRC_CNT, .TUN_HR_CFG, .TUN_HR_PG, .TUN_PAIR_STATUS, .TUN_POOL_CFG]

theorem Framed.applyPlan {l : List Reg} {s t : State} {sample : List Nat} (h : Framed planScope.toScope l s t) :
    Framed planScope.toScope l s (t.applyPlan sample) := h.trans ⟨rfl, fun _ _ _ => rfl⟩

theorem Framed.showTunPair {s t : State} {g r : Nat} (h : Framed planScope.toScope poolCfgRegs s t) :
    Framed planScope.toScope poolCfgRegs s (t.showTunPair g (some r)) :=
  .setFld (f := TUN_PAIR_STATUS.RESULT) (by decide) (.setFld (by decide) (.setFld (by decide) h))

/-- Raising an event changes the fault path and FLT_SRC_CNT at most (R492). -/
theorem Framed.raise {s t : State} (h : Framed planScope.toScope poolCfgRegs s t) (code cls target detail : Nat) (inj : Bool) :
    Framed planScope.toScope poolCfgRegs s (t.raise code cls target detail inj) := by
  refine h.trans ⟨?_, State.regsKept_mono (t.raise_frame code cls target detail inj).2 (by decide)⟩
  unfold State.raise
  rcases t.deliver_cases _ with he | he
  all_goals rw [he]; rfl

theorem Framed.tunMismatch {s t : State} {g : Nat} (h : Framed planScope.toScope poolCfgRegs s t) :
    Framed planScope.toScope poolCfgRegs s (t.tunMismatch g) :=
  .raise (.setFld (f := TUN_PAIR_STATUS.MISMATCH) (by decide) h) _ _ _ _ _

theorem effPoolCfg_framed (p : Packet) (s : State) : Framed planScope.toScope poolCfgRegs s (effPoolCfg p s).1 := by
  refine .checkWord (.check ?_)
  dsimp only
  have hstaged : Framed planScope.toScope poolCfgRegs s
      ((eachIn (List.range 4) s (fun s i => s.setFld TUN_POOL_CFG.SIZE i (parF p i 0 21))).setFld TUN_HR_CFG.SIZE 0 (parF p 4 0 21)) :=
    .setFld (by decide) (.eachIn (fun _ _ => .setFld (by decide) .refl) _ _)
  split
  · exact .setFld (by decide) (.showTunPair (.applyPlan hstaged))
  · exact .tunMismatch (.showTunPair hstaged)

/-! ## Telemetry settings (R368, R370, R374, R381, R384) -/

/-- The partitions' telemetry settings. -/
def partScope : Scope := ⟨fun s t => { s with parts := t.parts }, fun _ => rfl, fun _ _ _ => rfl⟩

/-- The live counters and the sketches. -/
def sketchScope : Scope := ⟨fun s t => { s with ctr := t.ctr, sketch := t.sketch }, fun _ => rfl, fun _ _ _ => rfl⟩

/-- The live counters, the intervals, the pipes and the registers. -/
def perfScope : RegScope :=
  ⟨⟨fun s t => { s with ctr := t.ctr, perfInt := t.perfInt, pipes := t.pipes, regs := t.regs }, fun _ => rfl, fun _ _ _ => rfl⟩,
    fun _ _ => rfl⟩

theorem State.setPart_framed (s : State) (i : Nat) (v : PipePart) : Framed partScope [] s (s.setPart i v) := ⟨rfl, fun _ _ _ => rfl⟩

theorem effSapFlag_framed (p : Packet) (s : State) : Framed partScope [] s (effSapFlag p s).1 :=
  .check (.check (.check (.eachIn (fun s i => s.setPart_framed i _) _ _)))

theorem effTagCfg_framed (p : Packet) (s : State) : Framed partScope [] s (effTagCfg p s).1 :=
  .check (.eachIn (fun s i => s.setPart_framed i _) _ _)

theorem effIoamCfg_framed (p : Packet) (s : State) : Framed partScope [] s (effIoamCfg p s).1 :=
  .checkWord (.eachIn (fun s i => s.setPart_framed i _) _ _)

theorem effTelemSketch_framed (p : Packet) (s : State) : Framed sketchScope [] s (effTelemSketch p s).1 :=
  .check (.check (.ite ⟨rfl, fun _ _ _ => rfl⟩ .refl))

theorem State.setHist_framed (s : State) (i v : Nat) : Framed sketchScope [] s (s.setCnt .TELEM_Q_HIST i v) :=
  ⟨rfl, fun _ _ _ => rfl⟩

theorem effTelemHist_framed (p : Packet) (s : State) : Framed sketchScope [] s (effTelemHist p s).1 :=
  .check (.ite (.eachIn (fun s i => s.setHist_framed i 0) _ _) .refl)

theorem effTelemRead_framed (p : Packet) (s : State) : Framed sketchScope [] s (effTelemRead p s).1 := by
  refine .check (.check (.check ?_))
  split
  · exact effTelemSketch_framed p s
  · exact effTelemHist_framed p s

/-- The registers that PERF_CFG may change. -/
abbrev perfCfgRegs : List Reg := [.BPERF_SEL, .BPERF_STATUS, .PERF_SEL, .PERF_STATUS, .PPERF_SEL, .PPERF_STATUS]

/-- The registers of a counter set (R382). -/
theorem setOfTarget_regs (t : Nat) : (setOfTarget t).1.ev.reg ∈ perfCfgRegs ∧ (setOfTarget t).1.run.reg ∈ perfCfgRegs := by
  unfold setOfTarget
  dsimp only
  split
  all_goals exact ⟨by simp [pipeSet, boughSet, tunSet, PPERF_SEL.EVENT, BPERF_SEL.EVENT, PERF_SEL.EVENT],
    by simp [pipeSet, boughSet, tunSet, PPERF_STATUS.RUN, BPERF_STATUS.RUN, PERF_STATUS.RUN]⟩

theorem Framed.setCnt {l : List Reg} {s t : State} {r : Reg} {i v : Nat} (h : Framed perfScope.toScope l s t) :
    Framed perfScope.toScope l s (t.setCnt r i v) := h.trans ⟨rfl, fun _ _ _ => rfl⟩

theorem Framed.perfInt {l : List Reg} {s t : State} {x : Tab Nat} (h : Framed perfScope.toScope l s t) :
    Framed perfScope.toScope l s { t with perfInt := x } := h.trans ⟨rfl, fun _ _ _ => rfl⟩

theorem Framed.freezePerf {l : List Reg} {s t : State} {p : Nat} (h : Framed perfScope.toScope l s t) :
    Framed perfScope.toScope l s (t.freezePerf p) := h.trans ⟨rfl, fun _ _ _ => rfl⟩

theorem effPerfCfg_framed (p : Packet) (s : State) : Framed perfScope.toScope perfCfgRegs s (effPerfCfg p s).1 := by
  obtain ⟨hev, hrun⟩ := setOfTarget_regs p.target
  refine .check (.check (.checkWord ?_))
  dsimp only
  exact .when (.setFld hrun (.perfInt (.when (.eachIn (fun _ _ => .setReg hev .refl) _ _) (.eachIn (fun _ _ => .setCnt .refl) _ _))))
    (.freezePerf .refl)

/-- SNAPSHOT changes the counters' copies and the three registers of its strobe (R82). -/
theorem effSnapshot_regsKept (p : Packet) (s : State) :
    s.regsKept (effSnapshot p s).1 [.GLB_SNAP_SEQ, .GLB_SNAP_TIME_HI, .GLB_SNAP_TIME_LO] := by
  intro q i hq
  simp only [List.mem_cons, List.not_mem_nil, or_false, not_or] at hq
  obtain ⟨hseq, hhi, hlo⟩ := hq
  unfold effSnapshot
  dsimp only
  rw [State.reg_setReg_other _ _ _ _ hhi, State.reg_setReg_other _ _ _ _ hlo]
  exact State.reg_setFld_other _ _ _ _ hseq

/-- Settles O52: the frame of each effect. -/
theorem bufferAndTelemetryCommandFrames : Obligations.BufferAndTelemetryCommandFrames := by
  unfold Obligations.BufferAndTelemetryCommandFrames
  refine ⟨effQueueCfg_framed, effSchedCfg_framed, effShaperCfg_framed, effWredCfg_framed, effPfcWdCfg_framed, effQholdCfg_framed,
    effHwmRead_framed, effPoolCfg_framed, fun p s => (effSapFlag_framed p s).1, fun p s => (effTagCfg_framed p s).1,
    fun p s => (effIoamCfg_framed p s).1, fun p s => (effTelemRead_framed p s).1, effPerfCfg_framed,
    fun p s => ⟨rfl, effSnapshot_regsKept p s⟩⟩

end Sys2Proof.Machine
end

section
/-! PROOFS. What the port, lane, table and classifier commands leave unchanged: the parts they share, each in its own scope, widened to the
scope of the command. -/
namespace Sys2Proof.Machine

/-! ## Widening a frame -/

/-- A scope lies within another: what the larger one keeps, the smaller one keeps. -/
def Scope.Within (k k' : Scope) : Prop := ∀ s t, k'.take s (k.take s t) = k.take s t

/-- A frame holds in every larger scope and with every longer list of registers. -/
theorem Framed.widen {k k' : Scope} {l l' : List Reg} {s t : State} (h : Framed k l s t) (hk : k.Within k') (hl : l ⊆ l') :
    Framed k' l' s t := by
  obtain ⟨ht, hr⟩ := h
  refine ⟨?_, State.regsKept_mono hr hl⟩
  calc t = k.take s t := ht
    _ = k'.take s (k.take s t) := (hk s t).symm
    _ = k'.take s t := congrArg (k'.take s) ht.symm

/-- A change that stays in a smaller frame, after what came before it. -/
theorem Framed.next {k k' : Scope} {l l' : List Reg} {s t u : State} (hk : k.Within k') (hl : l ⊆ l') (h : Framed k' l' s t)
    (h' : Framed k l t u) : Framed k' l' s u := h.trans (h'.widen hk hl)

/-- A change made unless a condition holds. -/
theorem Framed.unless {k : Scope} {l : List Reg} {s t u : State} {c : Prop} [Decidable c] (ht : Framed k l s t) (hu : Framed k l t u) :
    Framed k l s (if c then t else u) := .ite ht (ht.trans hu)

/-- A fold whose accumulator carries a state stays in the frame that each of its turns stays in. -/
theorem Framed.foldl {α β : Type} {k : Scope} {l : List Reg} {f : State × β → α → State × β} (hf : ∀ a x, Framed k l a.1 (f a x).1)
    (xs : List α) (a : State × β) : Framed k l a.1 (xs.foldl f a).1 :=
  List.foldlRecOn xs f (motive := fun b => Framed k l a.1 b.1) .refl (fun _ hb x _ => hb.trans (hf _ x))

section
variable {k : RegScope} {l : List Reg} {s t : State} {f : Fld} {i n : Nat}

theorem Framed.ev (hl : f.reg ∈ l) (h : Framed k.toScope l s t) : Framed k.toScope l s (t.ev f i) := h.setFld hl
theorem Framed.maxFld (hl : f.reg ∈ l) (h : Framed k.toScope l s t) : Framed k.toScope l s (t.maxFld f i n) := h.setFld hl

end

/-! ## One component at a time -/

/-- The lanes. -/
def laneScope : Scope := ⟨fun s t => { s with lanes := t.lanes }, fun _ => rfl, fun _ _ _ => rfl⟩
/-- The twigs. -/
def twigScope : Scope := ⟨fun s t => { s with twigs := t.twigs }, fun _ => rfl, fun _ _ _ => rfl⟩
/-- The ports. -/
def portScope : Scope := ⟨fun s t => { s with ports := t.ports }, fun _ => rfl, fun _ _ _ => rfl⟩
/-- What has been sent. -/
def outScope : Scope := ⟨fun s t => { s with out := t.out }, fun _ => rfl, fun _ _ _ => rfl⟩
/-- The live counters. -/
def ctrScope : Scope := ⟨fun s t => { s with ctr := t.ctr }, fun _ => rfl, fun _ _ _ => rfl⟩
/-- The fault path and the registers. -/
def raiseScope : Scope := ⟨fun s t => { s with regs := t.regs, flt := t.flt }, fun _ => rfl, fun _ _ _ => rfl⟩
/-- What has been sent and the registers. -/
def msixScope : Scope := ⟨fun s t => { s with regs := t.regs, out := t.out }, fun _ => rfl, fun _ _ _ => rfl⟩
/-- The units and the registers. -/
def unitScope : Scope := ⟨fun s t => { s with regs := t.regs, units := t.units }, fun _ => rfl, fun _ _ _ => rfl⟩

section
variable {k : Scope} {l : List Reg} {s t : State} {i n : Nat}

theorem Framed.setLane {v : Lane} (hk : laneScope.Within k) (h : Framed k l s t) : Framed k l s (t.setLane i v) :=
  .next (k := laneScope) (l := []) hk (List.nil_subset l) h ⟨rfl, fun _ _ _ => rfl⟩

theorem Framed.setTwig {v : Twig} (hk : twigScope.Within k) (h : Framed k l s t) : Framed k l s (t.setTwig i v) :=
  .next (k := twigScope) (l := []) hk (List.nil_subset l) h ⟨rfl, fun _ _ _ => rfl⟩

theorem Framed.setPort {v : Port} (hk : portScope.Within k) (h : Framed k l s t) : Framed k l s (t.setPort i v) :=
  .next (k := portScope) (l := []) hk (List.nil_subset l) h ⟨rfl, fun _ _ _ => rfl⟩

theorem Framed.emit {o : Out} (hk : outScope.Within k) (h : Framed k l s t) : Framed k l s (t.emit o) :=
  .next (k := outScope) (l := []) hk (List.nil_subset l) h ⟨rfl, fun _ _ _ => rfl⟩

theorem Framed.count {r : Reg} (hk : ctrScope.Within k) (h : Framed k l s t) : Framed k l s (t.setCnt r i n) :=
  .next (k := ctrScope) (l := []) hk (List.nil_subset l) h ⟨rfl, fun _ _ _ => rfl⟩

theorem Framed.bump {r : Reg} (hk : ctrScope.Within k) (h : Framed k l s t) : Framed k l s (t.bump r i n) := h.count hk

/-- An event raised may be dropped and counted in FLT_SRC_CNT (R492). -/
theorem Framed.event {code cls target detail : Nat} {inj : Bool} (hk : raiseScope.Within k) (hl : [.FLT_SRC_CNT] ⊆ l)
    (h : Framed k l s t) : Framed k l s (t.raise code cls target detail inj) :=
  .next (k := raiseScope) hk hl h (t.raise_frame code cls target detail inj)

/-- A vector raised may stay pending (R41). -/
theorem Framed.msix (hk : msixScope.Within k) (hl : [.MSIX_PBA] ⊆ l) (h : Framed k l s t) : Framed k l s (t.msix i) :=
  .next (k := msixScope) hk hl h (t.msix_frame i)

theorem Framed.setUst {u c : Nat} (hk : unitScope.Within k)
    (hl : [.PIPE_STATUS, .TUN_BANK_STATUS, .GRIST_E_STATUS, .CELLAR_CH_STATUS] ⊆ l) (h : Framed k l s t) :
    Framed k l s (t.setUst i u c) := .next (k := unitScope) hk hl h (t.setUst_frame i u c)

end

/-! ## Lane settings (R93, R112, R123, R438) -/

/-- The lanes, the registers and the twigs. -/
def laneCfgScope : RegScope :=
  ⟨⟨fun s t => { s with lanes := t.lanes, regs := t.regs, twigs := t.twigs }, fun _ => rfl, fun _ _ _ => rfl⟩, fun _ _ => rfl⟩

theorem State.setTwigSetting_framed (s : State) (t setting : Nat) :
    Framed laneCfgScope.toScope [.CLK_PLL] s (s.setTwigSetting t setting) :=
  .unless .refl (.ite (.setTwig (fun _ _ => rfl) .refl) (.when (.setTwig (fun _ _ => rfl) .refl) (.setFld (by decide) .refl)))

theorem effLaneCfg_framed (p : Packet) (s : State) : Framed laneCfgScope.toScope [.CLK_PLL] s (effLaneCfg p s).1 :=
  .checkWord (.check (.when (.setLane (fun _ _ => rfl) .refl) (State.setTwigSetting_framed _ _ _)))

/-- The lanes and the registers. -/
def eyeScope : RegScope :=
  ⟨⟨fun s t => { s with lanes := t.lanes, regs := t.regs }, fun _ => rfl, fun _ _ _ => rfl⟩, fun _ _ => rfl⟩

theorem effEyeScan_framed (p : Packet) (s : State) : Framed eyeScope.toScope [.LANE_STATUS] s (effEyeScan p s).1 := by
  refine .checkWord (.check (.check (.check (.check ?_))))
  split
  · exact .setFld (by decide) (.setLane (fun _ _ => rfl) .refl)
  · exact .refl

/-- The lanes, the pipes and the twigs. -/
def dozeScope : Scope :=
  ⟨fun s t => { s with lanes := t.lanes, pipes := t.pipes, twigs := t.twigs }, fun _ => rfl, fun _ _ _ => rfl⟩

theorem effDozeCfg_framed (p : Packet) (s : State) : Framed dozeScope [] s (effDozeCfg p s).1 := by
  refine .check (.eachIn (fun t i => ?_) _ _)
  split
  · exact ⟨rfl, fun _ _ _ => rfl⟩
  · exact .setTwig (fun _ _ => rfl) .refl
  · exact .setLane (fun _ _ => rfl) .refl

/-! ## Port settings (R144, R148, R149) -/

theorem effPfcCfg_framed (p : Packet) (s : State) : Framed portScope [] s (effPfcCfg p s).1 := by
  unfold effPfcCfg
  split
  · exact .refl
  · exact .checkWord (.eachIn (fun _ _ => .setPort (fun _ _ => rfl) .refl) _ _)

/-- What has been sent, the ports and the SyncE outputs. -/
def ptpScope : Scope :=
  ⟨fun s t => { s with out := t.out, ports := t.ports, synce := t.synce }, fun _ => rfl, fun _ _ _ => rfl⟩

theorem State.showSynce_framed (s : State) : Framed ptpScope [] s s.showSynce := by
  have hdrive : ∀ (t : State) (y : SyncE) (o : Out), Framed ptpScope [] t ({ t with synce := y }.emit o) :=
    fun _ _ _ => ⟨rfl, fun _ _ _ => rfl⟩
  exact .unless (.unless .refl (hdrive _ _ _)) (hdrive _ _ _)

theorem effPtpCfg_framed (p : Packet) (s : State) : Framed ptpScope [] s (effPtpCfg p s).1 := by
  have hset : ∀ y : SyncE, Framed ptpScope [] s { s with synce := y } := fun _ => ⟨rfl, fun _ _ _ => rfl⟩
  unfold effPtpCfg
  split
  · exact .check (.check ((hset _).trans (State.showSynce_framed _)))
  · split
    · exact .refl
    · exact .check (.setPort (fun _ _ => rfl) .refl)

end Sys2Proof.Machine
end

section
/-! PROOFS. What PORT_ENABLE leaves unchanged (R136 to R138). -/
namespace Sys2Proof.Machine

/-! ## PORT_ENABLE (R138) -/

/-- All that PORT_ENABLE may change. -/
def portEnableScope : RegScope where
  take s t := { s with
    ctr := t.ctr, flt := t.flt, lanes := t.lanes, out := t.out, ports := t.ports, regs := t.regs, sports := t.sports,
    squeues := t.squeues, synce := t.synce, twigs := t.twigs, units := t.units }
  self _ := rfl
  last _ _ _ := rfl
  regs _ _ := rfl

/-- The registers that PORT_ENABLE may change. -/
abbrev portEnableRegs : List Reg :=
  [.BOUGH_LINK_CHG0, .BOUGH_LINK_CHG1, .BOUGH_PAIR_STATUS, .CELLAR_CH_STATUS, .CLK_PLL, .FLT_SRC_CNT, .GRIST_E_STATUS, .LANE_STATUS,
    .LANE_TRAIN_TIME, .MSIX_PBA, .PIPE_STATUS, .PORT_EVENT, .PORT_STATUS, .TUN_BANK_STATUS, .TUN_PORT_HOLD]

/-- Nothing changes but what PORT_ENABLE may change. -/
abbrev PortFramed (s t : State) : Prop := Framed portEnableScope.toScope portEnableRegs s t

section
variable {s t : State} {i : Nat}

/-! ### A lane's link state (R95 to R100) -/

theorem Framed.showTx {old : LaneTx} (h : PortFramed s t) : PortFramed s (t.showTx i old) := .unless h (.emit (fun _ _ => rfl) .refl)

theorem Framed.showLanes (h : PortFramed s t) : PortFramed s ((t.showLanesUp i).showLpi i) :=
  .unless (.setFld (by decide) h) (.setFld (by decide) (.setFld (by decide) .refl))

theorem Framed.idleBegins {was : Bool} (h : PortFramed s t) : PortFramed s (t.idleBegins i was) := .when h (.setTwig (fun _ _ => rfl) .refl)

theorem Framed.showSynce (h : PortFramed s t) : PortFramed s t.showSynce := .next (fun _ _ => rfl) (by decide) h t.showSynce_framed

/-- A move to another link state, stage by stage (the values left unnamed are the lane's record, copied with a change). -/
theorem Framed.setLState {ls cause : Nat} (h : PortFramed s t) : PortFramed s (t.setLState i ls cause) := by
  refine h.trans ?_
  unfold State.setLState
  extract_lets tx was _ timed left moved _ stopped _ hunting locked frozen _ held told _ shown
  have hmoved : PortFramed t moved :=
    .setFld (by decide) (.when (.unless .refl (.setLane (fun _ _ => rfl) .refl)) (.setFld (by decide) .refl))
  have hhunting : PortFramed moved hunting :=
    .when (.when .refl (.setLane (fun _ _ => rfl) .refl)) (.setLane (fun _ _ => rfl) .refl)
  have hfrozen : PortFramed hunting frozen := .setFld (by decide) (.setFld (by decide) .refl)
  have htold : PortFramed frozen told := .showTx (.when .refl (.setLane (fun _ _ => rfl) .refl))
  have hshown : PortFramed told shown := by
    unfold shown
    split
    · exact .showLanes (.when .refl (.setLane (fun _ _ => rfl) .refl))
    · exact .refl
  have hpath : PortFramed t shown := hmoved.trans (hhunting.trans (hfrozen.trans (htold.trans hshown)))
  exact .showSynce (.idleBegins (.unless hpath (.setUst (fun _ _ => rfl) (by decide) .refl)))

theorem Framed.laneEnable (h : PortFramed s t) : PortFramed s (t.laneEnable i) :=
  .when h (.setLState (.setFld (by decide) (.setLane (fun _ _ => rfl) .refl)))

theorem Framed.laneDown {cause : Nat} (h : PortFramed s t) : PortFramed s (t.laneDown i cause) :=
  .when h (.setLState (.setLane (fun _ _ => rfl) .refl))

/-! ### A port's state (R136, R137) -/

theorem Framed.linkChanged (h : PortFramed s t) : PortFramed s (t.linkChanged i) := by
  refine .msix (fun _ _ => rfl) (by decide) (.setFld ?_ h)
  split
  · exact List.mem_cons_self
  · exact List.mem_cons_of_mem _ List.mem_cons_self

theorem Framed.linkDown (h : PortFramed s t) : PortFramed s (t.linkDown i) := .linkChanged (.bump (fun _ _ => rfl) (.ev (by decide) h))

theorem Framed.linkUp (h : PortFramed s t) : PortFramed s (t.linkUp i) := .linkChanged (.ev (by decide) h)

theorem Framed.wdRun (h : PortFramed s t) : PortFramed s (t.wdRun i) := by
  refine h.trans (.eachIn (fun u q => ?_) _ _)
  dsimp only
  split
  · exact .refl
  · exact ⟨rfl, fun _ _ _ => rfl⟩

theorem Framed.setPState {st : Nat} (h : PortFramed s t) : PortFramed s (t.setPState i st) := by
  refine h.trans ?_
  unfold State.setPState
  extract_lets old _ timed moved _ wentDown _ changed
  have hmoved : PortFramed t moved := .setFld (by decide) (.unless .refl (.setPort (fun _ _ => rfl) .refl))
  have hchanged : PortFramed moved changed := by
    unfold changed
    split
    · exact .trans (.setPort (fun _ _ => rfl) (.linkDown .refl)) ⟨rfl, fun _ _ _ => rfl⟩
    · split
      · exact .wdRun (.setFld (by decide) (.setPort (fun _ _ => rfl) (.linkUp .refl)))
      · exact .refl
  exact (hmoved.trans hchanged).trans (.eachIn (fun _ _ => .when .refl (.setUst (fun _ _ => rfl) (by decide) .refl)) _ _)

theorem Framed.localFault (h : PortFramed s t) : PortFramed s (t.localFault i) :=
  .unless h (.emit (fun _ _ => rfl) (.ev (by decide) (.setFld (by decide) (.unless .refl (.setPort (fun _ _ => rfl) .refl)))))

theorem Framed.portOn (h : PortFramed s t) : PortFramed s (t.portOn i) :=
  .when (.setPort (fun _ _ => rfl) h) (.trans (.localFault (.setPState .refl)) (.eachIn (fun _ _ => .laneEnable .refl) _ _))

theorem Framed.portOff {cause : Nat} (h : PortFramed s t) : PortFramed s (t.portOff i cause) :=
  .trans (.setFld (by decide) (.setFld (by decide) (.setFld (by decide) (.setFld (by decide) (.setPState (.setPort (fun _ _ => rfl) h))))))
    (.eachIn (fun _ _ => .laneDown .refl) _ _)

theorem Framed.pairMismatch {b g : Nat} (h : PortFramed s t) : PortFramed s (t.pairMismatch b g) :=
  .event (fun _ _ => rfl) (by decide) (.ev (by decide) h)

theorem State.portEnableOne_framed (s : State) (i : Nat) : PortFramed s (s.portEnableOne i) :=
  .ite (.portOn .refl) (.ite (.pairMismatch .refl) (.portOn (.next (fun _ _ => rfl) (by decide) .refl (s.setTwigSetting_framed _ _))))

theorem effPortEnable_framed (p : Packet) (s : State) : PortFramed s (effPortEnable p s).1 := by
  unfold effPortEnable
  split
  · exact .refl
  · exact .check (.check (.eachIn (fun t i => .ite (t.portEnableOne_framed i) (.portOff .refl)) _ _))

end

end Sys2Proof.Machine
end

section
/-! PROOFS. What the commands on table entries leave unchanged (R244 to R248, R252, R286, R287). -/
namespace Sys2Proof.Machine

/-! ## Entries (R238) -/

/-- The live counters, the group entries written, the registers and the entries. -/
def entryScope : RegScope :=
  ⟨⟨fun s t => { s with ctr := t.ctr, grpNew := t.grpNew, regs := t.regs, tbl := t.tbl }, fun _ => rfl, fun _ _ _ => rfl⟩, fun _ _ => rfl⟩

/-- The registers that a write of an entry may change. -/
abbrev entryRegs : List Reg := [.BPERF_STATUS, .TBL_OCC]

theorem State.perfAdd_framed (s : State) (b i n : Nat) : Framed entryScope.toScope entryRegs s (s.perfAdd (boughSet b) i n) :=
  .when (.count (fun _ _ => rfl) .refl) (.setFld (k := entryScope) List.mem_cons_self .refl)

theorem State.perf_framed (s : State) (b code n : Nat) : Framed entryScope.toScope entryRegs s (s.perf (boughSet b) code n) :=
  .unless .refl (.eachIn (fun t i => .when .refl (t.perfAdd_framed b i n)) _ _)

theorem State.maint_framed (s : State) (b n : Nat) : Framed entryScope.toScope entryRegs s (s.maint b n) := s.perf_framed b 0x102 n

theorem State.occ_framed (s : State) (b id : Nat) (up : Bool) : Framed entryScope.toScope entryRegs s (s.occ b id up) :=
  .when .refl (.setFld (by decide) .refl)

theorem State.setEntry_framed (s : State) (b id slot e : Nat) : Framed entryScope.toScope entryRegs s (s.setEntry b id slot e) := by
  unfold State.setEntry
  extract_lets k was now written counted
  have hwritten : Framed entryScope.toScope entryRegs s written := ⟨rfl, fun _ _ _ => rfl⟩
  have hnoted : Framed entryScope.toScope entryRegs written
      (if id = 24 then { written with grpNew := tabSet written.grpNew (b, slot) true false } else written) :=
    .when .refl ⟨rfl, fun _ _ _ => rfl⟩
  exact hwritten.trans (hnoted.trans (.trans (State.maint_framed _ b 1) (.unless .refl (State.occ_framed _ b id now))))

/-- Writing an entry stays in every frame that covers entries and what follows them. -/
theorem Framed.setEntry {k : Scope} {l : List Reg} {s t : State} {b id slot e : Nat} (hk : entryScope.Within k)
    (hl : entryRegs ⊆ l) (h : Framed k l s t) : Framed k l s (t.setEntry b id slot e) :=
  .next hk hl h (t.setEntry_framed b id slot e)

theorem Framed.clearEntry {k : Scope} {l : List Reg} {s t : State} {b id slot : Nat} (hk : entryScope.Within k)
    (hl : entryRegs ⊆ l) (h : Framed k l s t) : Framed k l s (t.clearEntry b id slot) :=
  h.setEntry hk hl

theorem effEcmpGroupSet_framed (p : Packet) (s : State) : Framed entryScope.toScope entryRegs s (effEcmpGroupSet p s).1 :=
  .check (.check (.check (.checkWord (.eachIn (fun _ _ => .eachIn (fun _ _ => .setEntry (fun _ _ => rfl) (by decide) .refl) _ _) _ _))))

theorem effEcmpMemberSet_framed (p : Packet) (s : State) : Framed entryScope.toScope entryRegs s (effEcmpMemberSet p s).1 :=
  .check (.check (.check (.checkWord (.eachIn (fun _ _ => .eachIn (fun _ _ => .setEntry (fun _ _ => rfl) (by decide) .refl) _ _) _ _))))

/-! ## Reads that meet parity errors (R243, R252, R501) -/

/-- The boughs' table settings and records. -/
def tablesScope : Scope := ⟨fun s t => { s with tables := t.tables }, fun _ => rfl, fun _ _ _ => rfl⟩
/-- The fault path. -/
def fltScope : Scope := ⟨fun s t => { s with flt := t.flt }, fun _ => rfl, fun _ _ _ => rfl⟩

theorem Framed.setTables1 {k : Scope} {l : List Reg} {s t : State} {b : Nat} {v : TblRec} (hk : tablesScope.Within k)
    (h : Framed k l s t) : Framed k l s (t.setTables1 b v) :=
  .next (k := tablesScope) (l := []) hk (List.nil_subset l) h ⟨rfl, fun _ _ _ => rfl⟩

theorem Framed.unplant {k : Scope} {l : List Reg} {s t : State} {e : Planted} (hk : fltScope.Within k)
    (h : Framed k l s t) : Framed k l s (t.unplant e) :=
  .next (k := fltScope) (l := []) hk (List.nil_subset l) h ⟨rfl, fun _ _ _ => rfl⟩

theorem Framed.wellLine {k : Scope} {l : List Reg} {s t : State} {b id line : Nat} (hk : fltScope.Within k)
    (h : Framed k l s t) : Framed k l s (t.wellLine b id line) :=
  .next (k := fltScope) (l := []) hk (List.nil_subset l) h ⟨rfl, fun _ _ _ => rfl⟩

/-- All that a read of a table may change. -/
def lookupScope : RegScope where
  take s t := { s with
    ctr := t.ctr, flt := t.flt, freeCtr := t.freeCtr, grpNew := t.grpNew, regs := t.regs, tables := t.tables, tbl := t.tbl }
  self _ := rfl
  last _ _ _ := rfl
  regs _ _ := rfl

/-- The registers that a read of a table may change. -/
abbrev lookupRegs : List Reg := [.BPERF_STATUS, .FLT_SRC_CNT, .TBL_EVENT, .TBL_LEARN_FIFO, .TBL_OCC]

/-- Nothing changes but what a read of a table may change. -/
abbrev ReadFramed (s t : State) : Prop := Framed lookupScope.toScope lookupRegs s t

theorem State.record_framed (s : State) (b ty id src slot bytes entry : Nat) : ReadFramed s (s.record b ty id src slot bytes entry) :=
  .unless .refl (.ite (.ev (by decide) (.bump (fun _ _ => rfl) (.setTables1 (fun _ _ => rfl) .refl)))
    (.maxFld (by decide) (.setFld (by decide) (.setTables1 (fun _ _ => rfl) .refl))))

theorem State.lineRepeat_framed (s : State) (b id slot : Nat) : ReadFramed s (s.lineRepeat b id slot) := by
  have hnoted : ReadFramed s (s.notePerm (tgt cBOUGH b) (lineMech id (s.lineOf b id slot)) true) := ⟨rfl, fun _ _ _ => rfl⟩
  refine .unless hnoted ?_
  dsimp only
  split
  · exact .event (fun _ _ => rfl) (by decide) (.wellLine (fun _ _ => rfl) (.setTables1 (fun _ _ => rfl) ⟨rfl, fun _ _ _ => rfl⟩))
  · exact .event (fun _ _ => rfl) (by decide) (.setTables1 (fun _ _ => rfl) ⟨rfl, fun _ _ _ => rfl⟩)

theorem State.parityMet_framed (s : State) (b id slot src : Nat) : ReadFramed s (s.parityMet b id slot src) := by
  unfold State.parityMet
  extract_lets k t bad at0 parts counted recorded raised cleared
  have hcounted : ReadFramed s counted := .trans (.ev (by decide) (.bump (fun _ _ => rfl) .refl)) ⟨rfl, fun _ _ _ => rfl⟩
  have hraised : ReadFramed counted raised := .event (fun _ _ => rfl) (by decide) (State.record_framed _ _ _ _ _ _ _ _)
  have hcleared : ReadFramed raised cleared :=
    .when .refl (.eachIn (fun _ _ => .unplant (fun _ _ => rfl) (.clearEntry (fun _ _ => rfl) (by decide) .refl)) _ _)
  exact hcounted.trans (hraised.trans (hcleared.trans (State.lineRepeat_framed _ _ _ _)))

theorem State.readSlots_framed (s : State) (b id : Nat) (slots : List Nat) (src : Nat) : ReadFramed s (s.readSlots b id slots src).1 := by
  refine Framed.foldl (fun a x => ?_) slots (s, none)
  split
  · exact a.1.parityMet_framed b id x src
  · exact .refl

theorem State.readMaint_framed (s : State) (b id : Nat) (slots : List Nat) (src : Nat) : ReadFramed s (s.readMaint b id slots src).1 :=
  .trans (.next (fun _ _ => rfl) (by decide) .refl (s.maint_framed b _)) (State.readSlots_framed _ _ _ _ _)

theorem State.emLookup_framed (s : State) (b id key src : Nat) : ReadFramed s (s.emLookup b id key src).1 :=
  s.readSlots_framed b id _ src

theorem State.lpmProbe_framed (s : State) (b id addr vrf src : Nat) (lens : List Nat) :
    ReadFramed s (s.lpmProbe b id addr vrf src lens).1 := by
  induction lens generalizing s with
  | nil => exact .refl
  | cons len rest ih => exact (s.emLookup_framed b id _ src).trans (ih _)

theorem State.lookupAll_framed (s : State) (b id : Nat) (longest : Bool) (keys : List Nat) :
    ReadFramed s (s.lookupAll b id longest keys).1 := by
  induction keys generalizing s with
  | nil => exact .refl
  | cons key rest ih =>
    refine .trans ?_ (ih _)
    split
    · exact s.lpmProbe_framed b id _ _ 8 _
    · exact s.emLookup_framed b id key 8

theorem effTblLookup_framed (p : Packet) (s : State) : ReadFramed s (effTblLookup p s).1 :=
  .check (.check (.checkWord (s.lookupAll_framed _ _ _ _)))

/-! ## Placement and removal (R236, R237, R241, R245, R246) -/

/-- All that the commands that insert and delete may change. -/
def insertScope : RegScope where
  take s t := { s with
    ctr := t.ctr, flt := t.flt, freeCtr := t.freeCtr, grpNew := t.grpNew, regs := t.regs, tables := t.tables, tbl := t.tbl,
    tblFilter := t.tblFilter, tblLens := t.tblLens }
  self _ := rfl
  last _ _ _ := rfl
  regs _ _ := rfl

/-- Nothing changes but what the commands that insert and delete may change. -/
abbrev InsertFramed (s t : State) : Prop := Framed insertScope.toScope lookupRegs s t

theorem State.prefixUse_framed (s : State) (b id key : Nat) (up : Bool) : InsertFramed s (s.prefixUse b id key up) := by
  have hstep : ∀ (t : State) (f : Tab Nat), InsertFramed t { t with tblFilter := f } := fun _ _ => ⟨rfl, fun _ _ _ => rfl⟩
  have hlens : ∀ (t : State) (n : Tab Nat), InsertFramed t { t with tblLens := n } := fun _ _ => ⟨rfl, fun _ _ _ => rfl⟩
  exact .when (.trans (.eachIn (fun t _ => hstep t _) _ _) (hlens _ _)) (hstep _ _)

theorem State.moveChain_framed (s : State) (b id : Nat) (path : List Nat) : ReadFramed s (s.moveChain b id path) := by
  induction path generalizing s with
  | nil => exact .refl
  | cons y rest ih =>
    cases rest with
    | nil => exact .refl
    | cons x rest => exact .trans (.clearEntry (fun _ _ => rfl) (by decide) (.setEntry (fun _ _ => rfl) (by decide) .refl)) (ih _)

theorem State.makeRoom_framed (s : State) (b id key src : Nat) : ReadFramed s (s.makeRoom b id key src).1 := by
  unfold State.makeRoom
  dsimp only
  split
  · exact .refl
  · split
    · exact .next (fun _ _ => rfl) (by decide) ((s.readMaint_framed b id _ src).trans (State.moveChain_framed _ _ _ _))
        (State.perf_framed _ _ _ _)
    · exact s.readMaint_framed b id _ src

theorem State.place_framed (s : State) (b id e evict src : Nat) : InsertFramed s (s.place b id e evict src).1 := by
  have hroom : InsertFramed s (s.makeRoom b id (entryKey (s.tblKind b id) e) src).1 :=
    .next (fun _ _ => rfl) (by decide) .refl (s.makeRoom_framed b id _ src)
  unfold State.place
  dsimp only
  split
  case h_1 t x ht =>
    rw [ht] at hroom
    exact .setEntry (fun _ _ => rfl) (by decide) hroom
  case h_2 t ht =>
    rw [ht] at hroom
    split
    · exact hroom
    · split
      · exact hroom
      · have hdrawn : InsertFramed t (if evict = 1 then t.drawn else t) := .when .refl ⟨rfl, fun _ _ _ => rfl⟩
        refine hroom.trans (.setEntry (fun _ _ => rfl) (by decide) (.when ?_ (State.prefixUse_framed _ _ _ _ _)))
        exact .next (fun _ _ => rfl) (by decide) (.bump (fun _ _ => rfl) hdrawn) (State.record_framed _ _ _ _ _ _ _ _)

theorem State.insertOne_framed (s : State) (b id e : Nat) (evict : Bool) : InsertFramed s (s.insertOne b id e evict).1 := by
  unfold State.insertOne
  extract_lets k key read
  have hread : InsertFramed s read := .next (fun _ _ => rfl) (by decide) .refl (s.readMaint_framed b id _ 8)
  refine hread.trans ?_
  clear_value read
  split
  · split
    · exact .refl
    · exact .setEntry (fun _ _ => rfl) (by decide) .refl
  · split
    · exact .refl
    · have hplace := read.place_framed b id e (if evict then 2 else 0) 8
      split
      case h_1 t ht => rw [ht] at hplace; exact hplace
      case h_2 t x ht => rw [ht] at hplace; exact .when hplace (t.prefixUse_framed b id key true)

theorem State.insertAll_framed (s : State) (b id : Nat) (evict : Bool) (es : List Nat) : InsertFramed s (s.insertAll b id evict es).1 := by
  refine Framed.foldl (fun a e => ?_) es (s, 0)
  split
  · exact a.1.insertOne_framed b id e evict
  · exact .refl

theorem State.readKeys_framed (s : State) (bs : List Nat) (id : Nat) (keys : List Nat) (src : Nat) :
    InsertFramed s (s.readKeys bs id keys src) :=
  .eachIn (fun t b => .next (fun _ _ => rfl) (by decide) .refl (t.readMaint_framed b id _ src)) _ _

theorem effTblInsert_framed (p : Packet) (s : State) : InsertFramed s (effTblInsert p s).1 := by
  refine .check (.check (.checkWord ?_))
  split
  · exact .refl
  · refine (s.readKeys_framed _ _ _ 8).trans (.check (Framed.foldl (fun a b => ?_) _ (_, 0)))
    split
    · exact a.1.insertAll_framed b _ _ _
    · exact .refl

theorem State.deleteOne_framed (s : State) (b id key : Nat) : InsertFramed s (s.deleteOne b id key).1 := by
  unfold State.deleteOne
  extract_lets read
  have hread : InsertFramed s read := .next (fun _ _ => rfl) (by decide) .refl (s.readMaint_framed b id _ 8)
  refine hread.trans ?_
  clear_value read
  split
  · exact .when (.clearEntry (fun _ _ => rfl) (by decide) .refl) (State.prefixUse_framed _ _ _ _ _)
  · exact .refl

theorem State.deleteAll_framed (a : State × Nat) (b id : Nat) (keys : List Nat) :
    InsertFramed a.1 (keys.foldl (fun (a : State × Nat) key => ((a.1.deleteOne b id key).1, a.2 + b2n (a.1.deleteOne b id key).2)) a).1 := by
  refine Framed.foldl (fun a key => ?_) keys a
  exact a.1.deleteOne_framed b id key

theorem effTblDelete_framed (p : Packet) (s : State) : InsertFramed s (effTblDelete p s).1 :=
  .check (.check (.checkWord (.check (Framed.foldl (fun a b => State.deleteAll_framed a b _ _) _ (s, 0)))))

end Sys2Proof.Machine
end

section
/-! PROOFS. What the other table commands and the classifier's leave unchanged (R229, R244, R248, R261, R269, R288), and O51. -/
namespace Sys2Proof.Machine

/-! ## Profiles, learning and locks (R229, R244, R248) -/

/-- All that TBL_PROFILE may change. -/
def profileScope : RegScope where
  take s t := { s with
    flowlets := t.flowlets, flt := t.flt, regs := t.regs, tables := t.tables, tbl := t.tbl, tblFilter := t.tblFilter,
    tblLens := t.tblLens, tblLocks := t.tblLocks }
  self _ := rfl
  last _ _ _ := rfl
  regs _ _ := rfl

/-- The registers that TBL_PROFILE may change. -/
abbrev profileRegs : List Reg := [.TBL_OCC, .TBL_SEED, .TBL_STATUS]

theorem State.profile1_framed (s : State) (b profile seed : Nat) (caps : List Nat) :
    Framed profileScope.toScope profileRegs s (s.profile1 b profile seed caps) := by
  unfold State.profile1
  extract_lets keep _ emptied _ sized counted shown
  have hemptied : Framed profileScope.toScope profileRegs s emptied := ⟨rfl, fun _ _ _ => rfl⟩
  have hsized : Framed profileScope.toScope profileRegs s sized := .setTables1 (fun _ _ => rfl) hemptied
  have hcounted : Framed profileScope.toScope profileRegs sized counted := .eachIn (fun _ _ => .setReg (by decide) .refl) _ _
  have hshown : Framed profileScope.toScope profileRegs counted shown := .setFld (by decide) (.setFld (by decide) .refl)
  exact hsized.trans (hcounted.trans (hshown.trans (.setFld (by decide) (.setReg (by decide) .refl))))

theorem effTblProfile_framed (p : Packet) (s : State) : Framed profileScope.toScope profileRegs s (effTblProfile p s).1 := by
  refine .check (.check (.check ?_))
  split
  · exact .refl
  · refine .check ?_
    split
    · exact .eachIn (fun _ _ => .setFld (by decide) .refl) _ _
    · exact .eachIn (fun t b => t.profile1_framed b _ _ _) _ _

theorem effTblLearnCfg_framed (p : Packet) (s : State) : Framed tablesScope [] s (effTblLearnCfg p s).1 :=
  .check (.eachIn (fun _ _ => .setTables1 (fun _ _ => rfl) .refl) _ _)

/-- The page locks. -/
def lockScope : Scope := ⟨fun s t => { s with tblLocks := t.tblLocks }, fun _ => rfl, fun _ _ _ => rfl⟩

theorem effTblLock_framed (p : Packet) (s : State) : Framed lockScope [] s (effTblLock p s).1 := by
  have hset : ∀ (t : State) (x : Tab Bool), Framed lockScope [] t { t with tblLocks := x } := fun _ _ => ⟨rfl, fun _ _ _ => rfl⟩
  exact .check (.check (.check (.check (.eachIn (fun t _ => hset t _) _ _))))

/-! ## Hash settings (R288) -/

/-- All that HASH_CFG may change. -/
def hashScope : RegScope where
  take s t := { s with grpNew := t.grpNew, regs := t.regs, slotBytes := t.slotBytes, spreads := t.spreads }
  self _ := rfl
  last _ _ _ := rfl
  regs _ _ := rfl

/-- The registers that HASH_CFG may change. -/
abbrev hashRegs : List Reg := [.PS_PIN_SEED, .PS_SEED]

theorem Framed.setSpreadB {s t : State} {b : Nat} {v : SpreadRec} (h : Framed hashScope.toScope hashRegs s t) :
    Framed hashScope.toScope hashRegs s (t.setSpreadB b v) := h.trans ⟨rfl, fun _ _ _ => rfl⟩

theorem State.hashSet_framed (s : State) (p : Packet) (b : Nat) : Framed hashScope.toScope hashRegs s (s.hashSet p b) := by
  unfold State.hashSet
  dsimp only
  split
  · exact .setReg (by decide) (.setSpreadB .refl)
  · exact .setSpreadB .refl
  · exact .eachIn (fun _ _ => .when .refl (.setSpreadB (.setReg (by decide) .refl))) _ _
  · exact .setSpreadB .refl
  · exact .trans (.setSpreadB .refl) ⟨rfl, fun _ _ _ => rfl⟩

theorem effHashCfg_framed (p : Packet) (s : State) : Framed hashScope.toScope hashRegs s (effHashCfg p s).1 :=
  .check (.check (.check (.checkWord (.eachIn (fun t b => t.hashSet_framed p b) _ _))))

/-! ## The classifier (R261, R269) -/

/-- The fault path, the registers and the TCAMs. -/
def clsScope : RegScope :=
  ⟨⟨fun s t => { s with flt := t.flt, regs := t.regs, tcam := t.tcam }, fun _ => rfl, fun _ _ _ => rfl⟩, fun _ _ => rfl⟩

/-- The registers that CLS_WRITE may change. -/
abbrev clsRegs : List Reg := [.CLS_MISS, .CLS_STATUS]

theorem State.setTcam_framed (s : State) (part i : Nat) (e : TcamEnt) : Framed clsScope.toScope clsRegs s (s.setTcam part i e) := by
  have hset : ∀ x : Tab TcamEnt, Framed clsScope.toScope clsRegs s { s with tcam := x } := fun _ => ⟨rfl, fun _ _ _ => rfl⟩
  exact .unless (hset _) (.setFld (by decide) .refl)

theorem State.clsApply_framed (s : State) (part : Nat) (r : ClsRec) : Framed clsScope.toScope clsRegs s (s.clsApply part r) := by
  unfold State.clsApply
  split
  · exact .unplant (fun _ _ => rfl) (.unplant (fun _ _ => rfl) (s.setTcam_framed part _ _))
  · exact s.setTcam_framed part _ _
  · exact .unplant (fun _ _ => rfl) (s.setTcam_framed part _ _)
  · exact .setFld (by decide) .refl

theorem State.clsAll_framed (s : State) (part : Nat) (rs : List ClsRec) : Framed clsScope.toScope clsRegs s (s.clsAll part rs).1 := by
  induction rs generalizing s with
  | nil => exact .refl
  | cons r rest ih =>
    unfold State.clsAll
    split
    · exact (s.clsApply_framed part r).trans (ih _)
    · exact .refl

theorem effClsWrite_framed (p : Packet) (s : State) : Framed clsScope.toScope clsRegs s (effClsWrite p s).1 := by
  refine .check (.checkWord ?_)
  dsimp only
  split
  · exact .refl
  · exact s.clsAll_framed _ _

/-- All that CLS_TREE_LOAD may change. -/
def treeScope : RegScope where
  take s t := { s with ctr := t.ctr, flt := t.flt, grpNew := t.grpNew, pframes := t.pframes, regs := t.regs, tbl := t.tbl }
  self _ := rfl
  last _ _ _ := rfl
  regs _ _ := rfl

/-- The registers that CLS_TREE_LOAD may change. -/
abbrev treeRegs : List Reg := [.BPERF_STATUS, .CLS_EVENT, .CLS_STATUS, .TBL_OCC]

theorem State.putNodes_framed (s : State) (part half start : Nat) (ns : List Nat) :
    Framed treeScope.toScope treeRegs s (s.putNodes part half start ns) :=
  .eachIn (fun _ _ => .wellLine (fun _ _ => rfl) (.setEntry (fun _ _ => rfl) (by decide) .refl)) _ _

theorem State.clsSettle_framed (s : State) (part : Nat) : Framed treeScope.toScope treeRegs s (s.clsSettle part) :=
  .unless .refl (.ev (by decide) (.setFld (by decide) .refl))

theorem State.clsSwitch_framed (s : State) (part mode depth : Nat) : Framed treeScope.toScope treeRegs s (s.clsSwitch part mode depth) := by
  unfold State.clsSwitch
  extract_lets turned started mark marked
  have hturned : Framed treeScope.toScope treeRegs s turned := .when .refl (.setFld (by decide) (.setFld (by decide) .refl))
  have hstarted : Framed treeScope.toScope treeRegs turned started := .setFld (by decide) (.setFld (by decide) .refl)
  have hmarked : Framed treeScope.toScope treeRegs started marked := ⟨rfl, fun _ _ _ => rfl⟩
  exact hturned.trans (hstarted.trans (hmarked.trans (State.clsSettle_framed _ part)))

theorem State.treeApply_framed (s : State) (p : Packet) : Framed treeScope.toScope treeRegs s (s.treeApply p).1 := by
  unfold State.treeApply
  extract_lets part mode half n written
  have hwritten : Framed treeScope.toScope treeRegs s written := s.putNodes_framed _ _ _ _
  split
  · exact hwritten
  · split
    · split
      · exact .ev (by decide) .refl
      · exact hwritten.trans (State.clsSwitch_framed _ _ _ _)
    · exact hwritten.trans (State.clsSwitch_framed _ _ _ _)

theorem effClsTreeLoad_framed (p : Packet) (s : State) : Framed treeScope.toScope treeRegs s (effClsTreeLoad p s).1 := by
  refine .check (.check (.check (.checkWord ?_)))
  dsimp only
  split
  · exact .setFld (by decide) .refl
  · exact s.treeApply_framed p

/-- The meters. -/
def meterScope : Scope := ⟨fun s t => { s with meters := t.meters }, fun _ => rfl, fun _ _ _ => rfl⟩

theorem State.setMeter_framed (s : State) (part i : Nat) (v : Meter) : Framed meterScope [] s (s.setMeter part i v) :=
  ⟨rfl, fun _ _ _ => rfl⟩

theorem effMeterCfg_framed (p : Packet) (s : State) : Framed meterScope [] s (effMeterCfg p s).1 :=
  .check (.check (.check (.checkWord (.eachIn (fun _ part => .eachIn (fun t _ => t.setMeter_framed part _ _) _ _) _ _))))

/-- Settles O51: the frame of each effect. -/
theorem portAndTableCommandFrames : Obligations.PortAndTableCommandFrames := by
  unfold Obligations.PortAndTableCommandFrames
  refine ⟨effLaneCfg_framed, effEyeScan_framed, fun p s => (effDozeCfg_framed p s).1, fun p s => (effPfcCfg_framed p s).1,
    fun p s => (effPtpCfg_framed p s).1, effPortEnable_framed, effTblProfile_framed, effTblInsert_framed, effTblDelete_framed,
    effTblLookup_framed, fun p s => (effTblLearnCfg_framed p s).1, fun p s => (effTblLock_framed p s).1, effEcmpGroupSet_framed,
    effEcmpMemberSet_framed, effHashCfg_framed, effClsWrite_framed, effClsTreeLoad_framed, fun p s => (effMeterCfg_framed p s).1⟩

end Sys2Proof.Machine
end

section
/-! PROOFS. The lane bring-up events (R95 to R105): each row is one branch of its meaning. -/
namespace Sys2Proof.Machine

/-! ## A lane's record and its link state -/

/-- A lane's record reads as last written. -/
@[simp] theorem State.lane_setLane_self (s : State) (l : Nat) (v : Lane) : (s.setLane l v).lane l = v :=
  tabGet_tabSet_self _ _ _ _

/-- Writing a lane's record leaves the link states alone. -/
@[simp] theorem State.lstate_setLane (s : State) (i l : Nat) (v : Lane) : (s.setLane i v).lstate l = s.lstate l := rfl

/-- Showing energy leaves the link state alone. -/
@[simp] theorem State.lstate_setSig (s : State) (l v : Nat) : (s.setFld LANE_STATUS.SIG l v).lstate l = s.lstate l :=
  s.fld_setFld_disj v rfl (by decide) (by decide)

/-! ## Training (R96, R101 to R103) -/

/-- Energy on a lane in DETECT: TRAIN where its rate trains, else HUNT (R96). -/
theorem execLaneSignalDetect_detect {s : State} {l : Nat} (hl : s.linkable l = true) (hst : s.lstate l = lDETECT) :
    execLaneSignalDetect l s = .next (if (s.setFld LANE_STATUS.SIG l 1).trains l then (s.setFld LANE_STATUS.SIG l 1).enterTrain l
      else (s.setFld LANE_STATUS.SIG l 1).enterHunt l) := by
  refine congrArg Host.Outcome.next ?_
  rw [if_neg (by simp [hl])]
  exact if_pos ((s.lstate_setSig l 1).trans hst)

/-- Energy lost on a lane in DETECT, TRAIN, HUNT or UP: DETECT, from UP with a loss of lock (R96). -/
theorem execLaneSignalLoss_linked {s : State} {l : Nat} (hl : s.linkable l = true) (hlo : 1 ≤ s.lstate l) (hhi : s.lstate l ≤ 4) :
    execLaneSignalLoss l s = .next (if s.lstate l = lUP then
        (((s.setFld LANE_STATUS.SIG l 0).lockLost l).setLState l lDETECT 1).laneFault l
      else (s.setFld LANE_STATUS.SIG l 0).setLState l lDETECT 1) := by
  refine congrArg Host.Outcome.next ?_
  rw [if_neg (by simp [hl])]
  dsimp only
  rw [State.lstate_setSig, if_pos ⟨hlo, hhi⟩]
  by_cases hup : s.lstate l = lUP
  · simp [hup]
  · simp [hup]

/-- The end of a phase on a lane in TRAIN is one of three: IEEE 802.3 training, the countdown of T6, or a phase of T0 to T5. -/
theorem execLaneTrainPhaseEnd_train {s : State} {l : Nat} (eq : List Int) (hl : s.linkable l = true) (hst : s.lstate l = lTRAIN) :
    execLaneTrainPhaseEnd ⟨l, eq⟩ s = .next (
      let ph := s.fld LANE_STATUS.TRAIN_PHASE l
      if s.rateOf l ≠ 6 then (s.trainAdapt l eq).enterHunt l
      else if ph = 6 then (s.countdown l).enterHunt l
      else if s.phaseMayEnd l then
        let t := (if ph = 4 then s.trainAdapt l eq else s).setFld LANE_STATUS.TRAIN_PHASE l (ph + 1)
        t.setLane l { t.lane l with trainer := (t.lane l).trainer.begin (ph + 1) t.now }
      else s) := congrArg Host.Outcome.next (if_pos ⟨hl, hst⟩)

/-- What a lane that hunts sees is a lock on one of its lanes: it is UP once all have locked (R96, R100). -/
theorem execLaneLock_hunt {s : State} {l sub num : Nat} {seen : List Nat} (hl : s.linkable l = true) (hst : s.lstate l = lHUNT)
    (hseen : s.lockSeen l seen = true) :
    execLaneLock l ⟨sub, num, seen⟩ false s =
      .next (if (s.subLock l sub num).allLocked l then (s.subLock l sub num).hunted l else s.subLock l sub num) := by
  refine congrArg Host.Outcome.next ?_
  rw [if_neg (by simp [hl])]
  dsimp only
  rw [if_pos hst, if_neg Bool.false_ne_true, if_neg (by simp [hseen])]

/-- What a lane that wakes sees is a lock on one of its lanes: it is UP again once all have locked (R96). -/
theorem execLaneLock_wake {s : State} {l sub num : Nat} {seen : List Nat} (hl : s.linkable l = true) (hst : s.lstate l = lWAKE)
    (hseen : s.lockSeen l seen = true) :
    execLaneLock l ⟨sub, num, seen⟩ false s =
      .next (if (s.subLock l sub num).allLocked l then (s.subLock l sub num).setLState l lUP 1 else s.subLock l sub num) := by
  refine congrArg Host.Outcome.next ?_
  rw [if_neg (by simp [hl])]
  dsimp only
  rw [if_neg (by simp [hst]), if_pos hst, if_neg (by simp [hseen])]

/-- Settles O1: each event of a lane that meets its conditions is one branch of its meaning. -/
theorem laneTrainingEvents : Obligations.LaneTrainingEvents := by
  unfold Obligations.LaneTrainingEvents
  refine ⟨?calPass, ?calFail, ?detectHunt, ?detectTrain, ?lossHunt, ?lossUp, ?goodFrame, ?badMarker, ?ieeeEnd, ?t1End, ?t6End,
    ?trainTimeout, ?lockHunt, ?lockWake, ?huntTimeout, ?lockLoss, ?retry⟩
  case calPass => exact fun s l hu => congrArg (fun t : State => Host.Outcome.next t.steepCheck) (if_pos hu)
  case calFail => exact fun s l hu => congrArg (fun t : State => Host.Outcome.next t.steepCheck) (if_pos hu)
  case detectHunt =>
    intro s l hl hst ht
    exact (execLaneSignalDetect_detect hl hst).trans (congrArg Host.Outcome.next (if_neg (by simp [ht])))
  case detectTrain =>
    intro s l hl hst ht
    exact (execLaneSignalDetect_detect hl hst).trans (congrArg Host.Outcome.next (if_pos ht))
  case lossHunt =>
    intro s l hl hst
    exact (execLaneSignalLoss_linked hl (by rw [hst]; decide) (by rw [hst]; decide)).trans (congrArg Host.Outcome.next (if_neg (by simp [hst])))
  case lossUp =>
    intro s l hl hst
    exact (execLaneSignalLoss_linked hl (by rw [hst]; decide) hst.le).trans (congrArg Host.Outcome.next (if_pos hst))
  case goodFrame =>
    intro s l info hl hst ht hrate hcrc hver
    refine congrArg Host.Outcome.next ?_
    simp [hl, hst, ht, hrate, hcrc, hver]
  case badMarker =>
    intro s l info hl hst ht hrate
    refine congrArg Host.Outcome.next ?_
    simp [hl, hst, ht, hrate]
  case ieeeEnd =>
    intro s l eq hl hst hrate
    exact (execLaneTrainPhaseEnd_train eq hl hst).trans (congrArg Host.Outcome.next (if_pos hrate))
  case t1End =>
    intro s l eq hl hst hrate hph hvalid
    have hmay : s.phaseMayEnd l = true := by simp [State.phaseMayEnd, hph, hvalid]
    refine (execLaneTrainPhaseEnd_train eq hl hst).trans (congrArg Host.Outcome.next ?_)
    dsimp only
    rw [if_neg (not_not_intro hrate), hph, if_neg (by decide), if_pos hmay, if_neg (by decide)]
  case t6End =>
    intro s l eq hl hst hrate hph
    refine (execLaneTrainPhaseEnd_train eq hl hst).trans (congrArg Host.Outcome.next ?_)
    simp [hrate, hph]
  case trainTimeout => exact fun s l hl hst hlate => congrArg Host.Outcome.next (if_pos ⟨hl, hst, hlate⟩)
  case lockHunt =>
    intro s l sub num seen hl hst hseen hall
    exact (execLaneLock_hunt hl hst hseen).trans (congrArg Host.Outcome.next (if_pos hall))
  case lockWake =>
    intro s l sub num seen hl hst hseen hall
    exact (execLaneLock_wake hl hst hseen).trans (congrArg Host.Outcome.next (if_pos hall))
  case huntTimeout => exact fun s l hl hst htime => congrArg Host.Outcome.next (if_pos ⟨hl, hst, htime⟩)
  case lockLoss => exact fun s l seen hl hst hloss => congrArg Host.Outcome.next (if_pos ⟨hl, hst, hloss⟩)
  case retry =>
    intro s l p hl hst hretry htime hport hen
    refine congrArg Host.Outcome.next (if_pos ⟨hl, hst, hretry, htime, ?_⟩)
    rw [hport]
    exact hen

end Sys2Proof.Machine
end

section
/-! PROOFS. The events of lanes in use (R106 to R111, R115 to R122): each row is one branch of its meaning. -/
namespace Sys2Proof.Machine

/-! ## Windows and safe points (R106, R107) -/

/-- Moving the receive taps leaves the link states alone. -/
@[simp] theorem State.lstate_tapsTrack (s : State) (l : Nat) (moves : List Int) (i : Nat) : (s.tapsTrack l moves).lstate i = s.lstate i := by
  unfold State.tapsTrack
  split
  · rfl
  · rfl

/-- A safe point that a lane in UP may use, with adaptation running: re-adaptation takes it before background adaptation (R106 to R108). -/
theorem execLaneSafePoint_up {s : State} {l : Nat} (which : Nat) (up : Bool) (hl : s.linkable l = true) (hst : s.lstate l = lUP)
    (hdue : (s.lane l).safeDue = true) (hfree : s.flag LANE_STATUS.FROZEN l = false) :
    execLaneSafePoint l which up s = .next (
      let t := s.setLane l { s.lane l with safeDue := false }
      if s.flag LANE_STATUS.READAPT l then t.readaptPoint l which up
      else if (s.lane l).act.adaptBg then t.eqStep l which up
      else t) := by
  have hflag : ∀ f v, (s.setLane l v).flag f l = s.flag f l := fun _ _ => rfl
  refine congrArg Host.Outcome.next ?_
  rw [if_pos ⟨hl, .inl hst, hdue⟩]
  simp [hflag, hfree, hst]

/-! ## Low-power idle (R118 to R122) -/

/-- A port in steep idle wakes by a burst (R121). -/
theorem State.wakePort_steep {s : State} {p : Nat} (h : s.steepIdle p = true) :
    s.wakePort p = (eachIn (s.lanesOf p) s (fun s l => s.wakeLane l)).burst p := if_pos h

/-- A wake request to a lane in QUIET whose twig's PLL runs: the lane wakes, or, in steep idle, its port by a burst (R96, R121). -/
theorem execLaneWakeRequest_quiet {s : State} {l : Nat} (hl : s.linkable l = true) (hst : s.lstate l = lQUIET)
    (hdeep : s.ust (tgt cLANE l) ≠ uDEEP) :
    execLaneWakeRequest l s = .next (match s.portOf l, (s.lane l).steepIdle with
      | some p, true => (eachIn (s.lanesOf p) s (fun s l => s.wakeLane l)).burst p
      | _, _ => s.wakeLane l) := congrArg Host.Outcome.next (if_pos ⟨hl, hst, hdeep⟩)

/-- Settles O2: each event that meets its conditions is one branch of its meaning. -/
theorem laneUpkeepEvents : Obligations.LaneUpkeepEvents := by
  unfold Obligations.LaneUpkeepEvents
  refine ⟨?fomUp, ?fomTrain, ?safeAdapt, ?safeReadapt, ?lpiEntry, ?steepEntry, ?steepEidle, ?steepBurst, ?wakeLane, ?wakePort,
    ?steepStale, ?wakeLimit, ?burstLimit, ?deepDoze, ?pllWake, ?checkerLock, ?checkerLoss⟩
  case fomUp =>
    intro s l a mse moves hl hst
    refine congrArg Host.Outcome.next ?_
    rw [if_neg (by simp [hl])]
    dsimp only
    rw [if_pos (.inl hst), if_pos (by rw [State.lstate_tapsTrack]; exact hst)]
  case fomTrain =>
    intro s l a mse moves hl hst hrate
    refine congrArg Host.Outcome.next ?_
    rw [if_neg (by simp [hl])]
    dsimp only
    rw [if_neg (by simp [hst]), if_pos ⟨hst, hrate⟩]
  case safeAdapt =>
    intro s l which up hl hst hdue hfree hbg hre
    refine (execLaneSafePoint_up which up hl hst hdue hfree).trans (congrArg Host.Outcome.next ?_)
    dsimp only
    rw [if_neg (by simp [hre]), if_pos hbg]
  case safeReadapt =>
    intro s l which up hl hst hdue hfree hre
    exact (execLaneSafePoint_up which up hl hst hdue hfree).trans (congrArg Host.Outcome.next (if_pos hre))
  case lpiEntry => exact fun s l hl hst heee => congrArg Host.Outcome.next (if_pos ⟨hl, hst, heee⟩)
  case steepEntry => exact fun s p hok hup => congrArg Host.Outcome.next (if_pos ⟨hok, hup⟩)
  case steepEidle => exact fun s p hok hup => congrArg Host.Outcome.next (if_pos ⟨hok, hup⟩)
  case steepBurst => exact fun s p h => congrArg Host.Outcome.next ((if_pos h).trans (State.wakePort_steep h))
  case wakeLane =>
    intro s l hl hst hdeep hidle
    refine (execLaneWakeRequest_quiet hl hst hdeep).trans (congrArg Host.Outcome.next ?_)
    rw [hidle]
    cases s.portOf l
    · rfl
    · rfl
  case wakePort =>
    intro s l p hl hst hdeep hport hidle
    refine (execLaneWakeRequest_quiet hl hst hdeep).trans (congrArg Host.Outcome.next ?_)
    rw [hidle, hport]
  case steepStale =>
    intro s p h hstale
    exact congrArg Host.Outcome.next ((if_pos (by simp [h, hstale])).trans (State.wakePort_steep h))
  case wakeLimit =>
    intro s l p hl hst hidle hport
    refine congrArg Host.Outcome.next ?_
    rw [if_pos ⟨hl, hst, .inl hidle⟩, if_neg (by simp [hidle])]
    dsimp only
    rw [hport]
  case burstLimit =>
    intro s l hl hst hidle htime hport
    refine congrArg Host.Outcome.next ?_
    rw [if_pos ⟨hl, hst, .inr htime⟩, if_pos hidle]
    have hlane : (s.ev LANE_EVENT.STEEP_FAIL l).lane l = s.lane l := rfl
    dsimp only
    rw [hlane, hport]
  case deepDoze =>
    intro s w us hdeep htime hidle hpll htwig
    refine congrArg Host.Outcome.next (if_pos ⟨?_, hidle, hpll, ?_, ?_⟩)
    · rw [hdeep]
      exact decide_eq_true htime
    · rw [htwig]
      decide
    · rw [htwig]
      decide
  case pllWake =>
    intro s w htwig hpll hsrc
    exact congrArg Host.Outcome.next ((if_neg (by simp [htwig])).trans (if_pos (.inr ⟨hpll, hsrc⟩)))
  case checkerLock => exact fun s l rx hst hchk hfed hlocks => congrArg Host.Outcome.next (if_pos ⟨hst, hchk, hfed, hlocks⟩)
  case checkerLoss => exact fun s l bits errs hlock hloses => congrArg Host.Outcome.next (if_pos ⟨hlock, hloses⟩)

end Sys2Proof.Machine
end

section
/-! PROOFS. The events of a port (R136 to R142, R145, R150): each row is one branch of its meaning. -/
namespace Sys2Proof.Machine

/-! ## Faults (R137) -/

/-- A port's record reads as last written. -/
@[simp] theorem State.port_setPort_self (s : State) (p : Nat) (v : Port) : (s.setPort p v).port p = v :=
  tabGet_tabSet_self _ _ _ _

/-- The beginning of a fault leaves a port's HOLDOFF alone: only the moment is noted. -/
@[simp] theorem State.holdoff_faultBegins (s : State) (p : Nat) : ((s.faultBegins p).port p).holdoff = (s.port p).holdoff := by
  unfold State.faultBegins
  split
  case isTrue => rfl
  case isFalse => rw [State.port_setPort_self]

/-- A remote fault that begins: the MAC sends idle, and where HOLDOFF is 0 the port is in FAULT at once (R137). -/
theorem execPortFaultStart_remote {s : State} {p : Nat} (hst : pTRAINING ≤ s.pstate p) (hrf : s.flag PORT_STATUS.RF p = false) :
    execPortFaultStart p true s = .next (
      let t := (((s.faultBegins p).setFld PORT_STATUS.RF p 1).ev PORT_EVENT.REMOTE_FAULT p).emit (.signal "idle" p 1)
      if (s.port p).holdoff = 0 then t.portFault p else t) := by
  have hold : (((((s.faultBegins p).setFld PORT_STATUS.RF p 1).ev PORT_EVENT.REMOTE_FAULT p).emit (.signal "idle" p 1)).port p).holdoff
      = (s.port p).holdoff := s.holdoff_faultBegins p
  refine congrArg Host.Outcome.next ?_
  rw [if_neg (Nat.not_lt.mpr hst), if_pos rfl, if_neg (by simp [hrf])]
  dsimp only
  rw [hold]

/-! ## Received frames (R140) -/

/-- A frame that a port in UP receives whole and with the right FCS is counted; a pause or PFC frame acts, any other goes to the twig's
FIFO with its time of arrival (R140, R145, R146). -/
theorem execRxFrame_sound {s : State} {p : Nat} {bytes : List Nat} (hp : p < 512) (hup : s.pstate p = pUP)
    (hrun : s.boughStopped (p / 64) = false) (hmin : 64 ≤ bytes.length) (hmax : bytes.length ≤ (s.port p).maxFrame)
    (hfcs : fcsField bytes = fcsOf (bytes.take (bytes.length - 4)))
    (hstomp : fcsField bytes ≠ 2 ^ 32 - 1 - fcsOf (bytes.take (bytes.length - 4))) :
    execRxFrame p bytes false s = .next (
      let kept := bytes.take (s.port p).maxFrame
      let t := (s.bump .RX_FRAMES p).bump .RX_BYTES p kept.length
      match controlOp bytes with
      | some op => (t.bump .RX_CTRL p).rxControl p op bytes
      | none => t.twigAdmit
          { port := p, bytes := kept, bad := false, ts := ((s.tod : Int) + signedOf 16 (s.port p).inAdj).toNat, since := s.now }) := by
  have hbig : decide ((s.port p).maxFrame < bytes.length) = false := decide_eq_false (Nat.not_lt.mpr hmax)
  have hstomped : (fcsField bytes == 2 ^ 32 - 1 - fcsOf (bytes.take (bytes.length - 4))) = false := beq_false_of_ne hstomp
  have hright : (fcsField bytes != fcsOf (bytes.take (bytes.length - 4))) = false := by rw [hfcs, bne_self_eq_false]
  refine congrArg Host.Outcome.next ?_
  rw [if_neg (not_or.mpr ⟨Nat.not_le.mpr hp, not_not_intro hup⟩), if_neg (by simp [hrun]), if_neg (Nat.not_lt.mpr hmin)]
  dsimp only
  rw [hbig, hstomped, hright]
  rfl

/-- Settles O3: each event that meets its conditions is one branch of its meaning. -/
theorem portEvents : Obligations.PortEvents := by
  unfold Obligations.PortEvents
  refine ⟨?aligned, ?alignTimeout, ?alignRetry, ?remoteFault, ?localFault, ?holdoff, ?faultClear, ?pfcTimer, ?pauseTimer, ?lpiIdle,
    ?rxFrame, ?rxRunt, ?tsPop⟩
  case aligned =>
    intro s p hst hup hrf hheld hdup
    refine congrArg Host.Outcome.next ?_
    rw [if_pos ⟨hst, hup, hrf⟩, if_neg (by simp [hheld]), if_neg (by simp [hdup])]
  case alignTimeout => exact fun s p hst hretry htime => congrArg Host.Outcome.next (if_pos ⟨hst, hretry, htime⟩)
  case alignRetry => exact fun s p hst hretry htime => congrArg Host.Outcome.next (if_pos ⟨hst, hretry, htime⟩)
  case remoteFault =>
    intro s p hst hrf hhold
    exact (execPortFaultStart_remote hst hrf).trans (congrArg Host.Outcome.next (if_neg hhold))
  case localFault =>
    exact fun s p hst => congrArg Host.Outcome.next ((if_neg (Nat.not_lt.mpr hst)).trans (if_neg Bool.false_ne_true))
  case holdoff => exact fun s p hlf htime => congrArg Host.Outcome.next (if_pos ⟨.inl hlf, htime⟩)
  case faultClear =>
    intro s p hst hst' hfine
    refine congrArg Host.Outcome.next ((if_neg ?_).trans (if_pos ⟨.inl hst', hfine⟩))
    rw [hst]
    decide
  case pfcTimer =>
    exact fun s p k hk htime => congrArg Host.Outcome.next ((if_neg (Nat.ne_of_lt hk)).trans (if_pos htime))
  case pauseTimer => exact fun s p htime => congrArg Host.Outcome.next ((if_pos rfl).trans (if_pos htime))
  case lpiIdle =>
    exact fun s p hst hidle hempty heee => congrArg Host.Outcome.next ((if_pos ⟨hst, hidle, hempty⟩).trans (if_pos heee))
  case rxFrame =>
    intro s p bytes hp hup hrun hmin hmax hfcs hstomp hdata
    refine (execRxFrame_sound hp hup hrun hmin hmax hfcs hstomp).trans (congrArg Host.Outcome.next ?_)
    dsimp only
    rw [hdata]
  case rxRunt =>
    intro s p bytes e hp hup hrun hshort
    refine congrArg Host.Outcome.next ?_
    rw [if_neg (not_or.mpr ⟨Nat.not_le.mpr hp, not_not_intro hup⟩), if_neg (by simp [hrun]), if_pos hshort]
  case tsPop =>
    intro s p hp hbus hwait hcheck
    exact (congrArg Host.Outcome.next (if_pos hp)).trans
      (next_lands ⟨hbus, hwait, hcheck⟩ ((s.poke_PORT_TS_POP 1 p 1).trans (if_pos (by decide))))

end Sys2Proof.Machine
end

section
/-! PROOFS. The events of the root links (R151 to R165): each row is one branch of its meaning. -/
namespace Sys2Proof.Machine

/-! ## Flits (R158) -/

/-- A direction that sends has its next flit arrive, unless it is UP and its receiver is full (R158, R301). -/
theorem execFlitRx_accepts {s : State} {c : Nat} {dn : Bool} (body crc : Nat) (hrun : s.dirRuns c dn = true)
    (hroom : dn = false → s.upFull c = false) :
    execFlitRx c dn body crc s = .next (
      let n := s.nextFlit c dn
      let x := n.1.flitErr c dn (body % 2 ^ 480 + crc * 2 ^ 480)
      let t := x.1.flitIn c dn n.2.1 (n.2.1.elim 0 (n.1.sentUnits c dn)) (Nat.xor n.2.2 x.2.1) x.2.2
      if dn then t.dnCame c else t.upCame c) := by
  have hnotFull : ¬ (dn = false ∧ s.upFull c = true ∧ (s.nextFlit c dn).2.1 ≠ none) := by
    rintro ⟨hup, hfull, -⟩
    rw [hroom hup] at hfull
    exact Bool.false_ne_true hfull
  exact congrArg Host.Outcome.next ((if_neg (by simp [hrun])).trans (if_neg hnotFull))

/-! ## The resequencing buffer (R164) -/

/-- A port whose one waiting frame lies past a gap that has stood for 250 µs skips the gap (R164). -/
theorem execReseqGapSkip_single {s : State} {p n : Nat} {d : DnFrame} (hreseq : (s.rootBough (egBough p)).reseq = [d])
    (hport : d.outPort = p) (hgap : (d.pseq + 65536 - s.nextPseq p) % 65536 = n) (hn : n ≠ 0) (hlate : d.since + 250 * usNs ≤ s.now) :
    execReseqGapSkip p s = .next (
      let v := s.rootBough (egBough p)
      (s.setRootBough (egBough p) { v with nextSeq := tabSet v.nextSeq (p, 0) ((s.nextPseq p + n) % 65536) 0 }).bump
        .ROOT_RESEQ_SKIP (egBough p)) := by
  have hmine : [d].filter (fun d => d.outPort == p) = [d] := List.filter_cons_of_pos (beq_iff_eq.mpr hport)
  refine congrArg Host.Outcome.next ?_
  dsimp only
  rw [hreseq, hmine, List.map_singleton, hgap]
  exact if_neg (by simp [hn, hlate])

/-- Settles O4: each event that meets its conditions is one branch of its meaning. -/
theorem rootEvents : Obligations.RootEvents := by
  unfold Obligations.RootEvents
  refine ⟨?flitUp, ?flitDn, ?nakRepeat, ?clkLoss, ?laneSwap, ?swapEnd, ?deskewPass, ?deskewFail, ?train, ?mapChange, ?fence, ?fin,
    ?endWait, ?gapSkip⟩
  case flitUp => exact fun s c body crc hrun hroom => execFlitRx_accepts body crc hrun fun _ => hroom
  case flitDn => exact fun s c body crc hrun => execFlitRx_accepts body crc hrun fun h => absurd h (by decide)
  case nakRepeat => exact fun s c hcarry hnak htime => congrArg Host.Outcome.next (if_pos ⟨hcarry, hnak, htime⟩)
  case clkLoss => exact fun s c dn hcarry => congrArg Host.Outcome.next (if_pos hcarry)
  case laneSwap =>
    intro s c dn hcarry hst hrx hswaps
    refine congrArg Host.Outcome.next ?_
    rw [if_pos ⟨hcarry, hrx, hswaps⟩, if_neg hst]
  case swapEnd =>
    intro s c fl hst hon htime hother
    refine congrArg Host.Outcome.next ((if_pos ⟨hst, hon, htime⟩).trans ?_)
    exact congrArg (fun t => eachIn (fl.filter (fun l => l == 64 || l == 65)) t (fun (s : State) l => s.lanePermanent c false l))
      (if_neg (ne_true_of_eq_false hother))
  case deskewPass => exact fun s c sp dn => congrArg Host.Outcome.next (if_neg (by simp))
  case deskewFail => exact fun s c sp dn hcarry hsp hfree => congrArg Host.Outcome.next (if_pos ⟨hcarry, hsp, hfree, rfl⟩)
  case train =>
    intro s c fu fd hwake hok
    refine congrArg Host.Outcome.next ((if_neg (not_not_intro hwake)).trans ?_)
    exact congrArg (fun t : State => t.startSpread (c / 16)) (if_pos hok)
  case mapChange =>
    intro s b r rest m hidle hasked hrun hwait
    refine congrArg Host.Outcome.next ?_
    simp only [hidle, hasked] at hrun ⊢
    rw [hrun]
    exact if_neg hwait
  case fence =>
    intro s c e rest m hpos hlist hrun hepoch
    refine congrArg Host.Outcome.next ((if_neg hpos).trans ?_)
    rw [hlist, hrun]
    exact if_pos hepoch
  case fin =>
    intro s c rest m hpos hlist hrun
    refine congrArg Host.Outcome.next ((if_neg hpos).trans ?_)
    rw [hlist, hrun]
  case endWait =>
    intro s b m hrun htime hkind
    refine congrArg Host.Outcome.next ?_
    rw [hrun]
    exact (if_neg (Nat.not_lt.mpr htime)).trans (if_neg fun h => h.1 hkind)
  case gapSkip => exact fun s p n d hreseq hport hgap hn hlate => execReseqGapSkip_single hreseq hport hgap hn hlate

end Sys2Proof.Machine
end

section
/-! PROOFS. The events of the scheduler and of PFC (R164, R339, R340, R354 to R357): each row is one branch of its meaning. -/
namespace Sys2Proof.Machine

/-! ## The watchdog (R356) -/

/-- The check of a queue in NORMAL that holds frames which a cause keeps from leaving, and that was stuck at the last check: it trips once
a cause has held for DETECT (R356). -/
theorem execPfcWdCheck_stuck {s : State} {q x : Nat} (hen : s.flag SCHED_Q_CFG.WD_EN q = true) (hdue : (s.squeue q).chk ≤ s.now)
    (hnormal : s.fld SCHED_Q_STATE.WD q = 0) (hframes : (s.tqueue q).frames ≠ []) (hcause : s.wdCauses q ≠ 0)
    (hstuck : (s.squeue q).stuck = some x) :
    execPfcWdCheck q s = .next (
      let v := { s.squeue q with chk := s.now + msNs }
      let held := Nat.land v.cause (s.wdCauses q)
      let t := s.setSqueue q v
      if held = 0 then t.setSqueue q { v with stuck := some s.now, cause := s.wdCauses q }
      else if x + v.detect * msNs ≤ s.now then t.wdTrip q (wdCause held)
      else t.setSqueue q { v with cause := held }) := by
  refine congrArg Host.Outcome.next ((if_neg (by simp [hen, hdue])).trans ((if_pos hnormal).trans ((if_neg ?_).trans ?_)))
  · exact not_or.mpr ⟨hframes, hcause⟩
  · dsimp only
    rw [hstuck]
    rfl

/-- Settles O10: each event that meets its conditions is one branch of its meaning. -/
theorem schedulerEvents : Obligations.SchedulerEvents := by
  unfold Obligations.SchedulerEvents
  refine ⟨?pick, ?ack, ?xoff, ?refresh, ?watchdog⟩
  case pick =>
    intro s p rd br hmode hquad hown hlpi
    refine congrArg Host.Outcome.next ((if_neg ?_).trans (if_neg (by simp [hlpi])))
    simp [hmode, hquad, hown]
  case ack =>
    intro s c d rest hlist hgot hack hread
    refine congrArg Host.Outcome.next ?_
    rw [hlist]
    exact if_neg (by simp [hgot, hack, hread])
  case xoff => exact fun s p hp => congrArg Host.Outcome.next (if_neg (Nat.not_le.mpr hp))
  case refresh =>
    intro s p hp hup htime hmode hheld
    refine congrArg Host.Outcome.next ((if_neg ?_).trans (if_pos ⟨hmode, hheld⟩))
    exact not_or.mpr ⟨Nat.not_le.mpr hp, not_or.mpr ⟨not_not_intro hup, Nat.not_lt.mpr htime⟩⟩
  case watchdog =>
    intro s q x hen hdue hnormal hframes hcause hstuck hheld htime
    exact (execPfcWdCheck_stuck hen hdue hnormal hframes hcause hstuck).trans
      (congrArg Host.Outcome.next ((if_neg hheld).trans (if_pos htime)))

end Sys2Proof.Machine
end

section
/-! PROOFS. The events of a pipe (R141, R169, R171, R180, R182, R184, R187 to R190, R500, R501): each row is one branch of its meaning. -/
namespace Sys2Proof.Machine

/-! ## Frame entry and egress (R169, R184) -/

/-- A running pipe that neither stalls nor waits for a switch takes the frame of the next ready source; one of a bad length goes no
further (R169, R170). -/
theorem execPipeFrameEntry_takes {s t : State} {p slot w : Nat} {x : Source} {f : InFrame} (tail : Nat) (hruns : s.pipeRuns p = true)
    (hopen : s.intakeOpen = true) (hstall : s.pipeStalls p = false) (hswitch : s.switchHolds p = false)
    (hsource : s.nextSource p slot = some x) (htake : s.takeFrom x = (t, some (f, w))) :
    execPipeFrameEntry p slot tail s = .next (
      let t := t.setPipe p { t.pipe p with fed := t.now, usNow := (t.pipe p).idle }
      if badLength f then t.lenDrop p else t.enterPipe p w tail f) := by
  refine congrArg Host.Outcome.next ((if_neg (by simp [hruns, hopen, hstall, hswitch])).trans ?_)
  rw [hsource]
  dsimp only
  rw [htake]

/-- A running pipe that serves a port whose MAC starts frames sends the port's next frame through egress (R184). -/
theorem execEgressProcess_sends {s t : State} {p pp : Nat} {f : DnFrame} (sent : Nat) (hpipe : s.egressPipe p = some pp)
    (hmac : s.macReady p = true) (hswitch : s.switchHolds pp = false)
    (hnext : s.nextDn p ((s.rootBough (egBough p)).reseq.length + 1) = (t, some f)) :
    execEgressProcess p sent s = .next (t.egressFrame pp (egTwig p) p f sent) := by
  refine congrArg Host.Outcome.next ?_
  rw [hpipe]
  refine (if_neg (by simp [hmac, hswitch])).trans ?_
  rw [hnext]

/-! ## The classifier's result (R180) -/

/-- The result that stage 6 needs next is taken even by a full reorder buffer, and the clocks the pipe stalled for it are counted. -/
theorem State.resultReturns_next {s : State} {p n : Nat} {f : PFrame}
    (hfind : (s.pframesOf p).find? (fun g => g.n == n && g.cls.isNone) = some f)
    (hnext : ((s.pframesOf p).find? (fun g => !g.ran)).any (fun g => g.n == n) = true) :
    s.resultReturns p n =
      let t := (s.perf (pipeSet p) 0x005).countStall p (s.stallClocks p f)
      let t := t.setPframes p ((t.pframesOf p).map (fun g => if g.n = n then { g with cls := some g.found, before := false } else g))
      let t := (t.clsSettle f.twig).showReorder p
      (t.releaseFrames p [] (t.pframesOf p)).showReorder p := by
  unfold State.resultReturns
  rw [hfind]
  dsimp only
  rw [hnext]
  exact if_neg (fun h => Bool.false_ne_true h.2.symm)

/-! ## Fostering (R188 to R190) -/

/-- A pipe that leaves by a graft passes its twigs on once it is empty; where it waited for no earlier fostering, no wait is told. The
fosterings near it that came later begin to wait now, and the pipe ends in GRAFT (R31, R188). -/
theorem execPipeFosterStart_graft {s : State} {p : Nat} (hleave : (s.pipe p).leave = 1) (hempty : s.pframesOf p = [])
    (hfirst : s.fosterQueue p = []) (hwait : ((s.pipe p).began - (s.pipe p).since) / usNs = 0) :
    execPipeFosterStart p s = .next (
      let t := eachIn (List.range 64) ((s.passTwigs p).setPipe p { s.pipe p with leave := 0 }) (fun t q =>
        let w := t.pipe q
        if nearPipes p q = true ∧ w.leave ≠ 0 ∧ w.leave ≠ 4 ∧ (s.pipe p).since ≤ w.since then t.setPipe q { w with began := t.now } else t)
      (t.setUst (tgt cPIPE p) uGRAFT 2).finish 0x0C01 (fun k => k.target == tgt cPIPE p) (ok [wd uGRAFT])) := by
  refine congrArg Host.Outcome.next ((if_neg (by simp [hleave, hempty, hfirst])).trans ((if_pos hleave).trans ?_))
  rw [if_pos hwait]

/-- A restored pipe takes its twig back from the pipe that serves it, once that one holds none of the twig's frames (R190). -/
theorem execPipeFosterHandback_served {s : State} {p : Nat} (hleave : (s.pipe p).leave = 4)
    (hvalid : s.flag PIPE_STATUS.SERVED_VALID p = true)
    (hgone : (s.pframesOf (s.fld PIPE_STATUS.SERVED_BY p)).any (fun g => g.twig == p) = false) :
    execPipeFosterHandback p s = .next (
      let f := s.fld PIPE_STATUS.SERVED_BY p
      let t := (s.setFld PIPE_STATUS.FOSTER_VALID f 0).ev PIPE_EVENT.FOSTER_END f
      let t := ((t.setFld PIPE_STATUS.OWN p 1).setFld PIPE_STATUS.SERVED_BY p p).setFld PIPE_STATUS.SERVED_VALID p 1
      ((t.setPipe p { t.pipe p with leave := 0 }).setUst (tgt cPIPE p) uACTIVE 2).finish 0x0C02
        (fun k => k.target == tgt cPIPE p) (ok [wd uACTIVE])) := by
  refine congrArg Host.Outcome.next ((if_neg (not_not_intro hleave)).trans ((if_neg (by simp [hgone])).trans ?_))
  rw [if_pos hvalid]

/-- Settles O5: each event that meets its conditions is one branch of its meaning. -/
theorem pipeEvents : Obligations.PipeEvents := by
  unfold Obligations.PipeEvents
  refine ⟨?frameEntry, ?clsResult, ?dispose, ?egress, ?dozeEntry, ?wake, ?fosterStart, ?fosterHandback, ?noProgress⟩
  case frameEntry =>
    intro s p slot tail x t f w hruns hopen hstall hswitch hsource htake hlength
    exact (execPipeFrameEntry_takes tail hruns hopen hstall hswitch hsource htake).trans
      (congrArg Host.Outcome.next (if_neg (by simp [hlength])))
  case clsResult =>
    exact fun s p n f hfind hnext => congrArg Host.Outcome.next ((if_pos (.inl rfl)).trans (State.resultReturns_next hfind hnext))
  case dispose =>
    intro s p f rest excess hframes hran
    refine congrArg Host.Outcome.next ?_
    rw [hframes]
    exact if_pos hran
  case egress => exact fun s p sent pp t f hpipe hmac hswitch hnext => execEgressProcess_sends sent hpipe hmac hswitch hnext
  case dozeEntry =>
    exact fun s p hst hus hidle hswitch htime => congrArg Host.Outcome.next (if_pos ⟨hst, hus, hidle, hswitch, htime⟩)
  case wake => exact fun s p hidle _ => congrArg Host.Outcome.next (if_neg (by simp [hidle]))
  case fosterStart => exact fun s p hleave hempty hfirst hwait => execPipeFosterStart_graft hleave hempty hfirst hwait
  case fosterHandback =>
    rintro s p f hleave rfl hvalid hgone
    exact execPipeFosterHandback_served hleave hvalid hgone
  case noProgress => exact fun s p hst hframes htime => congrArg Host.Outcome.next (if_pos ⟨hst, hframes, htime⟩)

end Sys2Proof.Machine
end

section
/-! PROOFS. What the Grist, power and clock commands leave unchanged (R396, R453, R454, R469, R481, R482). -/
namespace Sys2Proof.Machine

/-! ## Grist groups (R396) -/

/-- The Grist and the registers. -/
def gristScope : RegScope :=
  ⟨⟨fun s t => { s with grist := t.grist, regs := t.regs }, fun _ => rfl, fun _ _ _ => rfl⟩, fun _ _ => rfl⟩

/-- The registers that GRIST_GROUP_OPEN may change. -/
abbrev groupOpenRegs : List Reg := [.GRIST_E_STATUS, .GRIST_G_STATUS, .GRIST_SCRATCH]

theorem Framed.setGrist {l : List Reg} {s t : State} {v : GristSt} (h : Framed gristScope.toScope l s t) :
    Framed gristScope.toScope l s { t with grist := v } := h.trans ⟨rfl, fun _ _ _ => rfl⟩

theorem State.setGroup_framed (s : State) (g : Nat) (v : Option GGroup) : Framed gristScope.toScope groupOpenRegs s (s.setGroup g v) :=
  .setGrist (.eachIn (fun _ _ => .setGrist .refl) _ _)

theorem effGristGroupOpen_framed (p : Packet) (s : State) : Framed gristScope.toScope groupOpenRegs s (effGristGroupOpen p s).1 := by
  refine .check (.check ?_)
  split
  · exact .refl
  · split
    · exact .refl
    · split
      · exact .refl
      · refine .check (.check (.check ?_))
        have hopened := s.setGroup_framed (parF p 0 0 20) (some (groupOf p))
        exact .trans (.setFld (by decide) (.setFld (by decide) hopened.setGrist)) (.eachIn (fun _ _ => .setFld (by decide) .refl) _ _)

/-! ## Power (R469, R481 to R483) -/

/-- The power settings and the registers. -/
def pwrScope : RegScope :=
  ⟨⟨fun s t => { s with pwr := t.pwr, regs := t.regs }, fun _ => rfl, fun _ _ _ => rfl⟩, fun _ _ => rfl⟩

theorem Framed.setPwr {l : List Reg} {s t : State} {v : PwrSt} (h : Framed pwrScope.toScope l s t) :
    Framed pwrScope.toScope l s { t with pwr := v } := h.trans ⟨rfl, fun _ _ _ => rfl⟩

theorem State.startMove_framed (s : State) (q : Nat) : Framed pwrScope.toScope [.PWR_QUAD] s (s.startMove q) :=
  .unless .refl (.setPwr (.setFld (by decide) .refl))

theorem State.retarget_framed (s : State) (q : Nat) : Framed pwrScope.toScope [.PWR_QUAD] s (s.retarget q) :=
  .when .refl (.trans (.setFld (by decide) (.setFld (by decide) (.setFld (by decide) .refl))) (State.startMove_framed _ q))

/-- Resolving every quadrant's target changes PWR_QUAD and the running steps at most (R473, R476). -/
theorem Framed.retargetAll {l : List Reg} {s t : State} (hl : [.PWR_QUAD] ⊆ l) (h : Framed pwrScope.toScope l s t) :
    Framed pwrScope.toScope l s t.retargetAll :=
  .next (fun _ _ => rfl) hl h (.eachIn (fun t q => t.retarget_framed q) _ _)

theorem effPwrOpp_framed (p : Packet) (s : State) : Framed pwrScope.toScope [.PWR_QUAD] s (effPwrOpp p s).1 := by
  refine .check ?_
  split
  · exact .retargetAll (List.Subset.refl _) (.setPwr .refl)
  · exact .retargetAll (List.Subset.refl _) (.setPwr .refl)

theorem State.endRises_framed (s : State) : Framed regScope.toScope [.PWR_CAP_CUR, .PWR_QUAD] s s.endRises :=
  .eachIn (fun _ _ => .when .refl (.setFld (by decide) .refl)) _ _

theorem effPwrCap_framed (p : Packet) (s : State) : Framed regScope.toScope [.PWR_CAP_CUR, .PWR_QUAD] s (effPwrCap p s).1 :=
  .check (.check (.setFld (by decide) (.setFld (by decide) (.when .refl s.endRises_framed))))

theorem effPwrPriv_framed (p : Packet) (s : State) : Framed pwrScope.toScope [.PWR_QUAD, .PWR_STAT] s (effPwrPriv p s).1 := by
  refine .check (.check ?_)
  split
  · exact .refl
  · exact .check (.retargetAll (by decide) (.setFld (by decide) (.setPwr .refl)))

/-! ## Clocks (R453 to R455) -/

/-- The clocks and the registers. -/
def clkScope : RegScope :=
  ⟨⟨fun s t => { s with clk := t.clk, regs := t.regs }, fun _ => rfl, fun _ _ _ => rfl⟩, fun _ _ => rfl⟩

theorem Framed.setPll {l : List Reg} {s t : State} {i : Nat} {v : PllRec} (h : Framed clkScope.toScope l s t) :
    Framed clkScope.toScope l s (t.setPll i v) := h.trans ⟨rfl, fun _ _ _ => rfl⟩

theorem effClkSwitch_framed (p : Packet) (s : State) : Framed clkScope.toScope [.CLK_PLL] s (effClkSwitch p s).1 := by
  refine .check (.check (.check (.check (.check ?_))))
  have hchain : Framed clkScope.toScope [.CLK_PLL] s (s.setFld CLK_PLL.CHAIN_EN (tInst p.target) (parF p 0 8 1)) :=
    .setFld (by decide) .refl
  dsimp only
  split
  · exact hchain
  · split
    · split
      · exact hchain.setPll
      · exact .setFld (by decide) hchain
    · exact .setFld (by decide) (.setFld (by decide) hchain.setPll)

/-- The registers that CLK_TRIM may change. -/
abbrev trimRegs : List Reg := [.CLK_EVENT, .CLK_SRC, .CLK_TRIM_CTL]

theorem autoFld_reg (osc : Nat) : (autoFld osc).reg = .CLK_TRIM_CTL := by unfold autoFld; split <;> rfl

theorem State.setTrimErr_framed (s : State) (osc : Nat) (ppm : Int) : Framed clkScope.toScope trimRegs s (s.setTrimErr osc ppm) :=
  .ite ⟨rfl, fun _ _ _ => rfl⟩ ⟨rfl, fun _ _ _ => rfl⟩

/-- A step moves the trim code, or meets its end and sets TRIM_LIMIT. -/
theorem State.trimStep_framed (s : State) (osc : Nat) (ppm : Int) : Framed clkScope.toScope trimRegs s (s.trimStep osc ppm) :=
  have hlimit : Framed clkScope.toScope trimRegs s (s.ev CLK_EVENT.TRIM_LIMIT) := .ev (by decide) .refl
  .ite .refl (.ite (.ite hlimit (.setFld (by decide) .refl)) (.ite hlimit (.setFld (by decide) .refl)))

theorem State.trimNow_framed (s : State) (osc : Nat) (es : List Int) : Framed clkScope.toScope trimRegs s (s.trimNow osc es) := by
  induction es generalizing s with
  | nil => exact .refl
  | cons e rest ih => exact .unless (s.setTrimErr_framed osc e) (.trans (State.trimStep_framed _ osc e) (ih _))

theorem effClkTrim_framed (p : Packet) (s : State) : Framed clkScope.toScope trimRegs s (effClkTrim p s).1 := by
  refine .check (.check (.check ?_))
  exact .trans (.setFld (by rw [autoFld_reg]; decide) .refl)
    (.ite (.setFld (by decide) .refl) (.ite (State.trimNow_framed _ _ _) (.setFld (by decide) .refl)))

end Sys2Proof.Machine
end

section
/-! PROOFS. What the fault and firmware commands leave unchanged (R505 to R508, R518 to R522). -/
namespace Sys2Proof.Machine

/-! ## Faults (R505 to R508) -/

theorem effFltAck_framed (p : Packet) (s : State) : Framed regScope.toScope [.FLT_STATUS] s (effFltAck p s).1 :=
  .when .refl (.setFld (by decide) .refl)

theorem effFltMask_framed (p : Packet) (s : State) :
    Framed regScope.toScope [.FLT_CLASS_CTL, .FLT_PIN_MASK_HI, .FLT_PIN_MASK_LO] s (effFltMask p s).1 := by
  refine .check (.check ?_)
  split
  · exact .check (.setReg (by decide) (.setReg (by decide) .refl))
  · exact .check (.setReg (by decide) .refl)

/-- The fault path, the free values' counter and the registers. -/
def injectScope : RegScope :=
  ⟨⟨fun s t => { s with flt := t.flt, freeCtr := t.freeCtr, regs := t.regs }, fun _ => rfl, fun _ _ _ => rfl⟩, fun _ _ => rfl⟩

theorem effFltInject_framed (p : Packet) (s : State) : Framed injectScope.toScope [.FLT_SRC_CNT] s (effFltInject p s).1 := by
  refine .check ?_
  split
  · exact .check (.check (.event (fun _ _ => rfl) (List.Subset.refl _) .refl))
  · exact .check (.check (.check ⟨rfl, fun _ _ _ => rfl⟩))

/-! ## Firmware (R518 to R522) -/

/-- The firmware's slots and records, and the registers. -/
def fwScope : RegScope :=
  ⟨⟨fun s t => { s with fw := t.fw, regs := t.regs }, fun _ => rfl, fun _ _ _ => rfl⟩, fun _ _ => rfl⟩

/-- The fault path, the firmware's slots and records, and the registers. -/
def flashScope : RegScope :=
  ⟨⟨fun s t => { s with flt := t.flt, fw := t.fw, regs := t.regs }, fun _ => rfl, fun _ _ _ => rfl⟩, fun _ _ => rfl⟩

/-- The registers that a write of the flash may change. -/
abbrev flashRegs : List Reg := [.FLT_SRC_CNT, .SVC_FW_EVENT, .SVC_FW_STATUS]

theorem State.setFwSlot_framed (s : State) (n : Nat) (v : FwSlot) : Framed fwScope.toScope [.SVC_FW_STATUS] s (s.setFwSlot n v) := by
  have hslot : ∀ x : FwSt, Framed fwScope.toScope [.SVC_FW_STATUS] s { s with fw := x } := fun _ => ⟨rfl, fun _ _ _ => rfl⟩
  exact .setFld (by split <;> decide) (hslot _)

theorem State.putHeader_framed (s : State) (n : Nat) (h : List Nat) : Framed fwScope.toScope [.SVC_FW_STATUS] s (s.putHeader n h) :=
  .setFld (by decide) (s.setFwSlot_framed n _)

theorem State.putBlock_framed (s : State) (n i : Nat) (b : FwBlock) : Framed fwScope.toScope [.SVC_FW_STATUS] s (s.putBlock n i b) :=
  .setFld (by decide) (s.setFwSlot_framed n _)

theorem State.flashFails_framed (s : State) (n sector : Nat) : Framed flashScope.toScope flashRegs s (s.flashFails n sector) :=
  .eachIn (fun _ _ => .event (fun _ _ => rfl) (by decide) (.ev (by decide) .refl)) _ _

theorem effFwBegin_framed (p : Packet) (s : State) : Framed flashScope.toScope flashRegs s (effFwBegin p s).1 := by
  unfold effFwBegin
  dsimp only
  split
  · exact .refl
  · refine .check (.check ?_)
    have hfails := s.flashFails_framed (envAt p 0) (127 * s.idleSlot)
    split
    · exact hfails
    · exact .setFld (by decide) (.next (fun _ _ => rfl) (by decide) hfails (State.putHeader_framed _ _ _))

theorem effFwBlock_framed (p : Packet) (s : State) : Framed flashScope.toScope flashRegs s (effFwBlock p s).1 := by
  refine .check (.check (.check (.check ?_)))
  have hfails := s.flashFails_framed (envAt p 0) (127 * s.idleSlot + 1 + parF p 0 0 7)
  split
  · exact hfails
  · exact .next (fun _ _ => rfl) (by decide) hfails (State.putBlock_framed _ _ _ _)

theorem State.verified_framed (s : State) (n : Nat) (t : List Nat) : Framed fwScope.toScope [.SVC_FW_STATUS] s (s.verified n t) :=
  .setFld (by decide) (.setFld (by decide) (s.setFwSlot_framed n _))

theorem effFwVerify_framed (p : Packet) (s : State) : Framed fwScope.toScope [.SVC_FW_STATUS] s (effFwVerify p s).1 := by
  refine .check ?_
  split
  · exact .refl
  · refine .check ?_
    split
    · exact .refl
    · exact s.verified_framed _ _

/-- The commands, the firmware's slots and records, the life cycle and the registers. -/
def activateScope : RegScope :=
  ⟨⟨fun s t => { s with cmd := t.cmd, fw := t.fw, life := t.life, regs := t.regs }, fun _ => rfl, fun _ _ _ => rfl⟩, fun _ _ => rfl⟩

theorem State.writeRec_framed (s : State) (active : Nat) (trial : Option Nat) :
    Framed fwScope.toScope [.SVC_FW_STATUS] s (s.writeRec active trial) :=
  .setFld (by decide) (.ite ⟨rfl, fun _ _ _ => rfl⟩ ⟨rfl, fun _ _ _ => rfl⟩)

theorem State.activate_framed (s : State) (a : FwAct) : Framed activateScope.toScope [.SVC_FW_STATUS] s (s.activate a) :=
  .trans (.next (fun _ _ => rfl) (List.Subset.refl _) .refl (s.writeRec_framed _ _)) ⟨rfl, fun _ _ _ => rfl⟩

theorem effFwActivate_framed (p : Packet) (s : State) : Framed activateScope.toScope [.SVC_FW_STATUS] s (effFwActivate p s).1 :=
  .check (.check (.check (s.activate_framed _)))

end Sys2Proof.Machine
end

section
/-! PROOFS. What the commands of the control stores leave unchanged (R216 to R220), and O53. -/
namespace Sys2Proof.Machine

/-! ## Programs (R216 to R218) -/

/-- The fault path and the stores' words: a word written is good again, planted errors in it are gone. -/
def wordScope : Scope :=
  ⟨fun s t => { s with flt := t.flt, ucode := t.ucode, ucodeBad := t.ucodeBad }, fun _ => rfl, fun _ _ _ => rfl⟩

theorem Framed.setStoreWord {k : Scope} {l : List Reg} {s t : State} {st a w : Nat} (hk : wordScope.Within k) (h : Framed k l s t) :
    Framed k l s (t.setStoreWord st a w) :=
  .next (k := wordScope) (l := []) hk (List.nil_subset l) h ⟨rfl, fun _ _ _ => rfl⟩

/-- The stores' words and programs, the fault path and the registers. -/
def progScope : RegScope where
  take s t := { s with flt := t.flt, prog := t.prog, regs := t.regs, ucode := t.ucode, ucodeBad := t.ucodeBad }
  self _ := rfl
  last _ _ _ := rfl
  regs _ _ := rfl

theorem State.setProgUnit_framed (s : State) (st bank ty i : Nat) (ws : List Word) :
    Framed progScope.toScope [.UC_STATUS] s (s.setProgUnit st bank ty i ws) := ⟨rfl, fun _ _ _ => rfl⟩

theorem State.writeSection_framed (s : State) (st : Nat) (x : ProgSection) :
    Framed progScope.toScope [.UC_STATUS] s (s.writeSection st x) := by
  have hwords := Framed.eachIn (k := progScope.toScope) (l := [.UC_STATUS])
    (fun (t : State) i => .setStoreWord (st := st) (a := x.start + i) (w := x.units.getD i 0) (fun _ _ => rfl) (.refl (s := t)))
    (List.range x.units.length) s
  have hbase : Framed progScope.toScope [.UC_STATUS] s (s.setFld (if x.bank = 0 then UC_STATUS.BASE0 else UC_STATUS.BASE1) st 0) :=
    .setFld (by split <;> decide) .refl
  have hunits := hbase.trans (.eachIn (fun t i =>
    t.setProgUnit_framed st x.bank x.ty (x.start + i) (natWords (unitWords x.ty) (x.units.getD i 0))) (List.range x.units.length) _)
  exact .ite hwords (.ite .refl (.when hunits (.setFld (by split <;> decide) .refl)))

theorem effProgLoad_framed (p : Packet) (s : State) : Framed progScope.toScope [.UC_STATUS] s (effProgLoad p s).1 := by
  refine .check (.check (.check ?_))
  split
  case h_4 => exact .eachIn (fun t x => t.writeSection_framed _ x) _ _
  all_goals exact .refl

/-! ## Patches and store modes (R210, R213, R219, R220) -/

/-- The stores' records and the walkers. -/
def matchSetScope : Scope := ⟨fun s t => { s with stores := t.stores, walkers := t.walkers }, fun _ => rfl, fun _ _ _ => rfl⟩

theorem State.preemptWalker_framed (s : State) (st n : Nat) : Framed matchSetScope [] s (s.preemptWalker st n) :=
  .when .refl ⟨rfl, fun _ _ _ => rfl⟩

theorem State.preemptWalkers_framed (s : State) (st : Nat) : Framed matchSetScope [] s (s.preemptWalkers st) :=
  .eachIn (fun t n => t.preemptWalker_framed st n) _ _

theorem State.askSet_framed (s : State) (st : Nat) (l : List Word) : Framed matchSetScope [] s (s.askSet st l) := by
  have hstored : ∀ v, Framed matchSetScope [] s (s.setStore st v) := fun _ => ⟨rfl, fun _ _ _ => rfl⟩
  exact (hstored _).trans (State.preemptWalkers_framed _ st)

/-- The stores' words, records and walkers, and the fault path. -/
def patchScope : Scope where
  take s t := { s with flt := t.flt, stores := t.stores, ucode := t.ucode, ucodeBad := t.ucodeBad, walkers := t.walkers }
  self _ := rfl
  last _ _ _ := rfl

theorem effProgPatch_framed (p : Packet) (s : State) : Framed patchScope [] s (effProgPatch p s).1 := by
  refine .check (.check (.check (.check ?_)))
  split
  · exact .refl
  · exact .check (.next (fun _ _ => rfl) (List.Subset.refl _) (.eachIn (fun _ _ => .setStoreWord (fun _ _ => rfl) .refl) _ _)
      (State.askSet_framed _ _ _))

/-- The registers, the stores' records and the walkers. -/
def storeModeScope : RegScope :=
  ⟨⟨fun s t => { s with regs := t.regs, stores := t.stores, walkers := t.walkers }, fun _ => rfl, fun _ _ _ => rfl⟩, fun _ _ => rfl⟩

theorem State.sealSet_framed (s : State) (st : Nat) : Framed matchSetScope [] s (s.sealSet st) := s.askSet_framed st _

theorem State.dropBank_framed (s : State) (st bank : Nat) : Framed storeModeScope.toScope [.UC_STATUS] s (s.dropBank st bank) :=
  .unless .refl (.setFld (by split <;> decide) .refl)

theorem effStoreModeSet_framed (p : Packet) (s : State) :
    Framed storeModeScope.toScope [.UC_STATUS] s (effStoreModeSet p s).1 := by
  refine .check (.check (.check (.check ?_)))
  split
  · exact .setFld (by decide) .refl
  · have hsealed := Framed.next (k := matchSetScope) (k' := storeModeScope.toScope) (fun _ _ => rfl) (List.nil_subset [.UC_STATUS])
      (.setFld (by decide) .refl) (State.sealSet_framed (s.setFld UC_STATUS.MODE (storeOf p.target) 0) (storeOf p.target))
    exact hsealed.trans (State.dropBank_framed _ _ _)

/-- Settles O53: the frame of each effect. -/
theorem systemCommandFrames : Obligations.SystemCommandFrames := by
  unfold Obligations.SystemCommandFrames
  exact ⟨effGristGroupOpen_framed, effPwrOpp_framed, effPwrCap_framed, effPwrPriv_framed, effClkSwitch_framed, effClkTrim_framed,
    effFltAck_framed, effFltMask_framed, effFltInject_framed, effFwBegin_framed, effFwBlock_framed, effFwVerify_framed,
    effFwActivate_framed, effProgLoad_framed, fun p s => (effProgPatch_framed p s).1, effStoreModeSet_framed⟩

end Sys2Proof.Machine
end

section
/-! PROOFS. The events of the control stores (R195, R205, R206, R210): each row is one branch of its meaning. -/
namespace Sys2Proof.Machine

/-! ## Long routines (R192, R205, R206) -/

/-- The contexts below 4 are walkers of every store. -/
theorem mem_ctxList_of_lt {n : Nat} (st : Nat) (hn : n < 4) : n ∈ ctxList st := by
  unfold ctxList
  split
  all_goals exact List.mem_range.mpr (by omega)

/-- A running walker of a store that is on goes on from its last safe point (R205). -/
theorem execWalkerSafePoint_running {s : State} {st n : Nat} (hst : st ≤ 8) (hn : n < 4) (hon : s.storeOn st = true)
    (hrun : s.ctxState st n = 1) : execWalkerSafePoint st n s = .next (s.walkOn st n).1 := by
  refine congrArg Host.Outcome.next ((if_neg ?_).trans ?_)
  · simp [hon, mem_ctxList_of_lt st hn, Nat.not_lt.mpr hst]
  · have hgoesOn : (if s.ctxState st n = 0 ∧ s.vendorWork st n = true then s.startVendor st n
        else if 4 ≤ n ∧ (s.walker st n).preempt = false then s.resumeCtx st n else s) = s :=
      (if_neg (by simp [hrun])).trans (if_neg (by omega))
    rw [hgoesOn, if_neg (not_not_intro hrun)]
    exact if_neg (by omega)

/-- A walker that comes to a safe point takes the current set there, and a request that is pending (R205, R210). -/
theorem State.walkOn_safe {s : State} {st n a : Nat} (hn : n < 4) (hend : (s.walkRun st n 512 0 (s.ctxPc st n)).2 = .safe a) :
    (s.walkOn st n).1 = (((s.walkRun st n 512 0 (s.ctxPc st n)).1.setCtxPc st n a).takeSet st n).takeRequest st n := by
  unfold State.walkOn
  dsimp only
  rw [hend]
  exact if_neg (by simp [State.issueHeld, Nat.not_le.mpr hn])

/-- A walker that comes to its END word is idle (R205). -/
theorem State.walkOn_done {s : State} {st n : Nat} (hend : (s.walkRun st n 512 0 (s.ctxPc st n)).2 = .done) :
    (s.walkOn st n).1 = (s.walkRun st n 512 0 (s.ctxPc st n)).1.walkState st n 0 := by
  unfold State.walkOn
  dsimp only
  rw [hend]

/-- A running walker that no SAFE word lets go meets the watchdog: a fetch fault of cause 4, FAULTED (R206). -/
theorem State.walkWatchdog_limit {s : State} {st n a : Nat} (hst : st ≤ 8) (hn0 : 0 < n) (hn : n < 4) (hrun : s.ctxState st n = 1)
    (hend : (s.walkRun st n 512 0 (s.ctxPc st n)).2 = .limit a) :
    s.walkWatchdog st n =
      (((s.walkRun st n 512 0 (s.ctxPc st n)).1.ctxFault (s.walkCtx st n) a 4).ev UC_EVENT.SAFE_WDOG st).walkState st n 3 := by
  refine (if_neg (by omega)).trans ?_
  dsimp only
  rw [hend]
  exact if_neg (by omega)

/-! ## Patches (R210) -/

/-- A new set that is asked for becomes current once no context uses the previous one (R210). -/
theorem execPatchSetCurrent_asked {s : State} {st : Nat} {l : List Word} (hasked : (s.store st).nextSet = some l)
    (hunused : s.prevInUse st = false) :
    execPatchSetCurrent st s = .next (
      let v := s.store st
      let t := s.setStore st { v with
        prevSet := s.matchSet st, nextSet := none, prevVend := v.vend, vend := v.nextVend.getD v.vend, nextVend := none }
      let t := eachIn ((List.range (matchCount st)).drop 16) t (fun s n => s.setReg .UC_MATCH (st * 32 + n) (l.getD n 0))
      let t := ((t.setFld UC_STATUS.PATCH_SET st (1 - t.fld UC_STATUS.PATCH_SET st)).ev UC_EVENT.PATCH_DONE st).resumeWalkers st
      t.finish 0x0B02 (fun q => storeOf q.target == st) ok) := by
  refine congrArg Host.Outcome.next ?_
  rw [hasked]
  exact if_neg (by simp [hunused])

/-- Settles O6: each event that meets its conditions is one branch of its meaning. -/
theorem storeEvents : Obligations.StoreEvents := by
  unfold Obligations.StoreEvents
  refine ⟨?safePoint, ?ended, ?watchdog, ?scrub, ?setCurrent⟩
  case safePoint =>
    intro s st n a hst hn hon hrun hend
    exact (execWalkerSafePoint_running hst hn hon hrun).trans (congrArg Host.Outcome.next (State.walkOn_safe hn hend))
  case ended =>
    intro s st n hst hn hon hrun hend
    exact (execWalkerSafePoint_running hst hn hon hrun).trans (congrArg Host.Outcome.next (State.walkOn_done hend))
  case watchdog =>
    intro s st n a hst hn0 hn hrun hend
    exact congrArg Host.Outcome.next ((if_pos hn).trans (State.walkWatchdog_limit hst hn0 hn hrun hend))
  case scrub =>
    intro s st a hhas haddr hgood
    refine congrArg Host.Outcome.next ((if_neg ?_).trans (if_pos ?_))
    · simp [hhas, haddr]
    · simp [hgood]
  case setCurrent => exact fun s st l hasked hunused => execPatchSetCurrent_asked hasked hunused

end Sys2Proof.Machine
end

section
/-! PROOFS. The events of the tables (R239, R240, R242, R243), of the TCAM scrub (R265) and of path spreading (R281, R289): each row is one
branch of its meaning. -/
namespace Sys2Proof.Machine

/-! ## Ageing (R242) -/

/-- The next AGE_TICK of a table is due one tick from now. -/
def State.ageTicked (s : State) (b id : Nat) : State :=
  s.setTables1 b { s.tables1 b with
    ageNext := tabSet (s.tables1 b).ageNext (id, 0) (s.now + nbits (s.learnCfg b id) 16 16 * (10 * msNs)) 0 }

/-- A tick that is due finds the pass before it under way and is late, or starts a pass (R242). -/
theorem execAgeTick_due {s : State} {b id : Nat} (hages : s.ages b id = true)
    (hdue : tabGet (s.tables1 b).ageNext (id, 0) 0 ≤ s.now) :
    execAgeTick b id s = .next (let t := s.ageTicked b id
      if t.ageing b id then
        (t.setTables1 b { t.tables1 b with ageDue := (t.tables1 b).ageDue.filter (· != id) ++ [id] }).ev TBL_EVENT.AGE_SLOW b
      else t.ageStart b id) :=
  congrArg Host.Outcome.next (if_neg (by simp [hages, Nat.not_lt.mpr hdue]))

/-! ## Learn records (R243) -/

/-- Whether a flag is set depends on its register word alone. -/
theorem State.flag_congr {s t : State} {f : Fld} {i : Nat} (h : t.reg f.reg i = s.reg f.reg i) : t.flag f i = s.flag f i := by
  unfold State.flag State.fld
  rw [h]

/-- Showing the records waiting changes TBL_LEARN_FIFO only. -/
theorem State.showRecs_regsKept (s : State) (b : Nat) : s.regsKept (s.showRecs b) [.TBL_LEARN_FIFO] := by
  intro q i hq
  have hne : q ≠ .TBL_LEARN_FIFO := List.ne_of_not_mem_cons hq
  exact (State.reg_setFld_other _ _ _ _ hne).trans (State.reg_setFld_other _ _ _ _ hne)

/-- The oldest record of the FIFO goes to the ring, and TAIL and what the FIFO holds are shown. -/
def State.recWritten (s : State) (b : Nat) (r : LearnRec) (rest : List LearnRec) : State :=
  let v := s.tables1 b
  let n := s.fld TBL_LEARN_TAIL.TAIL b
  let t := s.emit (.hostWrite (s.fld TBL_LEARN_BASE_LO.ADDR b * 128 + s.fld TBL_LEARN_BASE_HI.ADDR b * 2 ^ 32 + 128 * n)
    (recWords r v.seq v.lost v.phase))
  let t := t.setTables1 b { v with
    recs := rest, lost := 0, seq := v.seq + 1, phase := if (n + 1) % s.learnSize b = 0 then !v.phase else v.phase }
  (t.setFld TBL_LEARN_TAIL.TAIL b ((n + 1) % s.learnSize b)).showRecs b

/-- Writing a record changes TBL_LEARN_TAIL and TBL_LEARN_FIFO only. -/
theorem State.recWritten_regsKept (s : State) (b : Nat) (r : LearnRec) (rest : List LearnRec) :
    s.regsKept (s.recWritten b r rest) [.TBL_LEARN_TAIL, .TBL_LEARN_FIFO] := by
  intro q i hq
  obtain ⟨htail, hfifo⟩ := not_or.mp (mt List.mem_cons.mpr hq)
  exact (State.showRecs_regsKept _ b q i hfifo).trans (State.reg_setFld_other _ _ _ _ htail)

section
variable {s : State} {b : Nat} {r : LearnRec} {rest : List LearnRec}

/-- A record that the ring has room for is written; with IRQ_EN 0 no vector follows it (R243). -/
theorem execLearnRecordWrite_room (hrecs : (s.tables1 b).recs = r :: rest) (hen : s.flag TBL_LEARN_CTL.EN b = true)
    (hroom : (s.fld TBL_LEARN_TAIL.TAIL b + 1) % s.learnSize b ≠ s.fld TBL_LEARN_HEAD.HEAD b)
    (hirq : s.flag TBL_LEARN_CTL.IRQ_EN b = false) : execLearnRecordWrite b s = .next (s.recWritten b r rest) := by
  have hquiet : (s.recWritten b r rest).flag TBL_LEARN_CTL.IRQ_EN b = false :=
    (State.flag_congr (s.recWritten_regsKept b r rest .TBL_LEARN_CTL b (by decide))).trans hirq
  unfold execLearnRecordWrite
  rw [hrecs]
  refine congrArg Host.Outcome.next ((if_neg (by simp [hen])).trans ((if_neg hroom).trans (if_neg ?_)))
  exact fun h => ne_true_of_eq_false hquiet (Bool.and_eq_true_iff.mp h).1

/-- A record that the ring has no room for waits (R243). -/
theorem execLearnRecordWrite_full (hrecs : (s.tables1 b).recs = r :: rest) (hen : s.flag TBL_LEARN_CTL.EN b = true)
    (hfull : (s.fld TBL_LEARN_TAIL.TAIL b + 1) % s.learnSize b = s.fld TBL_LEARN_HEAD.HEAD b) :
    execLearnRecordWrite b s = .next (s.ev TBL_EVENT.RING_FULL b) := by
  unfold execLearnRecordWrite
  rw [hrecs]
  exact congrArg Host.Outcome.next ((if_neg (by simp [hen])).trans (if_pos hfull))

end

/-- Settles O7: each event that meets its conditions is one branch of its meaning. -/
theorem learnEvents : Obligations.LearnEvents := by
  unfold Obligations.LearnEvents
  refine ⟨?execute, ?ageStarts, ?ageSlow, ?recWritten, ?ringFull, ?ringEnable, ?scrubClean, ?scrubBad, ?sweep, ?windowEnd⟩
  case execute => exact fun _ _ _ => rfl
  case ageStarts =>
    intro s b id hages hdue hidle
    exact (execAgeTick_due hages hdue).trans (congrArg Host.Outcome.next (if_neg (ne_true_of_eq_false hidle)))
  case ageSlow =>
    intro s b id hages hdue hageing
    exact (execAgeTick_due hages hdue).trans (congrArg Host.Outcome.next (if_pos hageing))
  case recWritten => exact fun _ _ _ _ hrecs hen hroom hirq => execLearnRecordWrite_room hrecs hen hroom hirq
  case ringFull => exact fun _ _ _ _ hrecs hen hfull => execLearnRecordWrite_full hrecs hen hfull
  case ringEnable =>
    intro s b hsize hoff
    exact congrArg Host.Outcome.next ((if_neg (ne_true_of_eq_false hoff)).trans (if_neg (ne_false_of_eq_true hsize)))
  case scrubClean =>
    intro s part i hkey hdata
    exact congrArg Host.Outcome.next (if_neg (by simp [hkey, hdata]))
  case scrubBad => exact fun _ _ _ hbad => congrArg Host.Outcome.next (if_pos hbad)
  case sweep => exact fun _ _ => rfl
  case windowEnd => exact fun _ _ hend => congrArg Host.Outcome.next (if_neg (Nat.not_lt.mpr hend))

end Sys2Proof.Machine
end

section
/-! PROOFS. The events of the shared buffer (R298 to R303, R311, R314, R317 to R321): each row is one branch of its meaning. -/
namespace Sys2Proof.Machine

/-! ## Admission (R299, R301 to R303) -/

/-- A frame that an internal writer without a frame in assembly offers, and that is no Grist packet, meets admission (R302). -/
theorem execFrameAdmit_own {s : State} {r : Nat} {f : UpFrame} {rest : List UpFrame} (hmode : s.mode = mSERVICE)
    (hoffers : s.offersAt r = f :: rest) (hasm : s.asmAt r 1 = none) (hgtag : f.gtag = []) :
    execFrameAdmit r true s = .next (s.admitOwn r f rest) := by
  refine congrArg Host.Outcome.next ((if_neg fun h => h.1 hmode).trans ((if_pos rfl).trans ?_))
  rw [hoffers]
  exact if_neg (by simp [hasm, hgtag])

/-- A frame of a cluster whose first cell has come, with room in the input buffer, is assembled once it is admitted (R301, R302). -/
theorem execFrameAdmit_cluster {s : State} {r i : Nat} {u : UpFrame} {rest : List UpItem} (hmode : s.mode = mSERVICE)
    (hup : s.upList r = .frame u :: rest) (hstays : diverted (upCarried u) = false) (hhead : (upCarried u).head = false)
    (hgone : (upCarried u).gone = false) (hcame : firstCellAt (upCarried u) ≤ (s.rdir r false).rxPos) (hroom : s.inBufAt r < 4)
    (htaken : (s.offer (upCarried u) r).2 = some i) :
    execFrameAdmit r false s = .next ((((s.offer (upCarried u) r).1.setUpList r (.frame { u with head := true } :: rest)).setAsm
      r 0 (some i)).fillInBuf r) := by
  have hmeets : ¬((upCarried u).head = true ∨ (upCarried u).gone = true ∨ (s.rdir r false).rxPos < firstCellAt (upCarried u) ∨
      4 ≤ s.inBufAt r) := by
    simp [hhead, hgone, Nat.not_lt.mpr hcame, Nat.not_le.mpr hroom]
  refine congrArg Host.Outcome.next ((if_neg fun h => h.1 hmode).trans ((if_neg Bool.false_ne_true).trans ?_))
  rw [hup]
  refine (if_neg (ne_true_of_eq_false hstays)).trans ((if_neg hmeets).trans ?_)
  dsimp only
  rw [htaken]

/-! ## A frame's end (R298, R311) -/

section
variable {s : State} {r i : Nat}

/-- A frame of an internal writer ends when its last cell is written. -/
theorem execFrameEofArrive_own (hasm : s.asmAt r 1 = some i) (hwhole : (s.tframe i).total ≤ (s.tframe i).cells.length) :
    execFrameEofArrive r true s = .next ((s.setAsm r 1 none).frameDone i false) := by
  unfold execFrameEofArrive
  rw [show s.asmAt r (b2n true) = some i from hasm]
  exact congrArg Host.Outcome.next ((if_neg (Nat.not_lt.mpr hwhole)).trans (if_pos rfl))

/-- A frame of a cluster ends when its last cell is written and its last unit has come. -/
theorem execFrameEofArrive_cluster {f : UpFrame} {rest : List UpItem} (hasm : s.asmAt r 0 = some i)
    (hwhole : (s.tframe i).total ≤ (s.tframe i).cells.length) (hup : s.upList r = .frame f :: rest)
    (hcame : frameUnits f.bytes ≤ (s.rdir r false).rxPos) :
    execFrameEofArrive r false s = .next (((s.setAsm r 0 none).popUp r).frameDone i f.bad) := by
  unfold execFrameEofArrive
  rw [show s.asmAt r (b2n false) = some i from hasm, hup]
  exact congrArg Host.Outcome.next ((if_neg (Nat.not_lt.mpr hwhole)).trans
    ((if_neg Bool.false_ne_true).trans (if_neg (Nat.not_lt.mpr hcame))))

end

/-! ## Port holds (R314) -/

/-- A port that has gone down, was not held and has a hold time enters HOLD. -/
theorem execPortHoldEnter_hold {s : State} {p : Nat} (hp : p < 512) (hdown : (s.port p).wentDown = true)
    (hrun : s.holdState p = 0) (hqhold : s.fld TUN_PORT_HOLD.QHOLD p ≠ 0) :
    execPortHoldEnter p s = .next (({ (s.setPort p { s.port p with wentDown := false }) with
      tun.holdAt := tabSet s.tun.holdAt (p, 0) s.now 0 }).setFld TUN_PORT_HOLD.STATE p 1) :=
  congrArg Host.Outcome.next ((if_neg (by simp [Nat.not_le.mpr hp, hdown, hrun])).trans (if_neg hqhold))

/-! ## The tally (R317, R318) -/

/-- The cells off the free maps that no list holds: the suspects of a pass. -/
def State.unlistedCells (s : State) : List Nat :=
  (s.tun.used.map (fun e => e.1.1 * 4096 + e.1.2)).filter (fun x => !s.listedCells.contains x)

/-- The queues that a pass counts. -/
def State.talliedQueues (s : State) : List Nat :=
  ((s.tun.queues.map (fun e => e.1.1)) ++ (tabRow s.regs Reg.TUN_Q_LEN.ctorIdx).map Prod.fst).eraseDups

/-- A pass that finds each used cell on a list and each listed cell used counts the queues alone. -/
theorem execTallyPass_sound {s : State} (hen : s.flag TUN_TALLY_CTL.EN = true) (hmigs : s.tun.migs = [])
    (hlisted : s.unlistedCells = []) (hused : s.listedCells.filter (fun x => !s.cellUsed x) = []) :
    execTallyPass s = .next (let t := eachIn s.talliedQueues s State.tallyQueue
      let t := { t with tun.suspects := [] }.setFld TUN_TALLY_STATUS.SUSPECT 0 0
      t.setFld TUN_TALLY_STATUS.PASSES 0 (t.fld TUN_TALLY_STATUS.PASSES + 1)) := by
  unfold State.unlistedCells at hlisted
  refine (if_neg (by simp [hen, hmigs])).trans ?_
  dsimp only
  rw [hlisted, hused]
  rfl

/-! ## A bank that leaves service (R321) -/

/-- A closed bank without a cell in use, closed by UNIT_GRAFT, leaves the plan and is grafted. -/
theorem execBankLeaveService_graft {s : State} {l : Nat} {c : ClosedBank}
    (hclosed : s.tun.closed.find? (fun y => y.lbank == l) = some c) (hfree : s.usedRows l = []) (hgraft : c.graft = true) :
    execBankLeaveService l s = .next (let n := s.physBank l
      let t := { s with tun.closed := s.tun.closed.filter (fun c => c.lbank != l) }
      let t := t.setFld TUN_STATUS.LBANKS 0 (t.fld TUN_STATUS.LBANKS - 1)
      let t := ((t.setFld TUN_BANK_STATUS.MAPPED n 0).ev TUN_EVENT.DEGRADED).planRetest
      let t := (t.setUnit (tgt cBANK n) { t.unit (tgt cBANK n) with role := 0xFFF }).setHeld (tgt cBANK n) false
      (t.setUst (tgt cBANK n) uGRAFT c.cause).finish 0x0C01 (fun q => q.target == tgt cBANK n) (ok [wd uGRAFT])) := by
  unfold execBankLeaveService
  rw [hclosed]
  exact (if_neg (not_not_intro hfree)).trans (congrArg Host.Outcome.next (if_pos hgraft))

/-- Settles O8: each event that meets its conditions is one branch of its meaning. -/
theorem bufferEvents : Obligations.BufferEvents := by
  unfold Obligations.BufferEvents
  refine ⟨?admitOwn, ?admitCluster, ?allocator, ?endOwn, ?endCluster, ?holdEnter, ?holdEnds, ?flushFree, ?tally, ?replace, ?leave⟩
  case admitOwn => exact fun _ _ _ _ hmode hoffers hasm hgtag => execFrameAdmit_own hmode hoffers hasm hgtag
  case admitCluster =>
    exact fun _ _ _ _ _ hmode hup hstays hhead hgone hcame hroom htaken =>
      execFrameAdmit_cluster hmode hup hstays hhead hgone hcame hroom htaken
  case allocator => exact fun _ _ => rfl
  case endOwn => exact fun _ _ _ hasm hwhole => execFrameEofArrive_own hasm hwhole
  case endCluster => exact fun _ _ _ _ _ hasm hwhole hup hcame => execFrameEofArrive_cluster hasm hwhole hup hcame
  case holdEnter => exact fun _ _ hp hdown hrun hqhold => execPortHoldEnter_hold hp hdown hrun hqhold
  case holdEnds => exact fun _ _ hheld hdown hdue => congrArg Host.Outcome.next (if_pos ⟨hheld, hdown, hdue⟩)
  case flushFree => exact fun _ _ => rfl
  case tally => exact fun _ hen hmigs hlisted hused => execTallyPass_sound hen hmigs hlisted hused
  case replace => exact fun _ _ _ => rfl
  case leave => exact fun _ _ _ hclosed hfree hgraft => execBankLeaveService_graft hclosed hfree hgraft

end Sys2Proof.Machine
end

section
/-! PROOFS. The events of the Cellar (R325, R326, R329, R330, R333 to R335): each row is one branch of its meaning. -/
namespace Sys2Proof.Machine

/-! ## Racking (R329) -/

/-- A queue that spills and may rack, with nothing racked and nothing being racked, has a block to rack once sixteen cells stand
behind HEAD. -/
theorem State.rackBlock_due {s : State} {q : Nat} (hspill : s.spilling q = true) (hmay : s.mayRack q = true)
    (hidle : (s.tqueue q).rack = none) (hsplit : (s.tqueue q).split = false)
    (hcells : s.fld CELLAR_Q_CFG1.HEAD q + 16 ≤ (s.flatCells q).length) :
    ¬(s.spilling q = false ∨ s.mayRack q = false ∨ (s.tqueue q).rack.isSome = true ∨
      (s.flatCells q).length < (if (s.tqueue q).split then (s.tqueue q).head + 16 * (s.tqueue q).blocks.length
        else s.fld CELLAR_Q_CFG1.HEAD q) + 16) := by
  simp [hspill, hmay, hidle, hsplit, hcells]

/-- Nothing is done for no element. -/
theorem eachIn_nil {α σ : Type} (s : σ) (f : σ → α → σ) : eachIn [] s f = s := rfl

/-- An access whose bursts all pass, at a channel with no error planted, repeats none (R335). -/
theorem State.edcRetries_zero {s : State} (c : Nat) (hplanted : s.flt.planted = []) : s.edcRetries c 0 = s := by
  simp [State.edcRetries, eachIn_nil, hplanted]

/-- A block that the Cellar has taken: its rows are freed, its cells leave the queue's charge, and it joins RACKED. -/
def State.rackTaken (s : State) (q : Nat) (b : Block) : State :=
  let v := s.tqueue q
  let start := v.head + 16 * v.blocks.length
  let t := (eachIn (((s.flatCells q).drop start).take 16) s State.freeCell).mapCells q start 16 (fun _ _ => nullPtr)
  let t := t.setTqueue q { v with rack := none, blocks := v.blocks ++ [b], bseq := (v.bseq + 1) % 2 ^ 32 }
  let t := t.setFld CELLAR_Q_BLOCKS.BLOCKS q (v.blocks.length + 1)
  let t := t.setCharge q (t.fld TUN_Q_LEN.LEN q - 16) (t.fld TUN_Q_HR.CELLS q)
  ((t.bump .CELLAR_RACKED).perf (tunSet 8) 0x280).starveCheck q

/-- A block whose cells have left the queue meanwhile is given up, and its slot is free. -/
def State.rackGivenUp (s : State) (q : Nat) (b : Block) : State :=
  ((s.freeSlot b.chan b.slot).setTqueue q { s.tqueue q with rack := none }).joinTail q

/-- A write whose cells are read, at a channel that may serve a rack (R334), takes the block or gives it up. -/
theorem execRackWriteDone_served {s : State} {q : Nat} {b : Block} (hrack : (s.tqueue q).rack = some b)
    (hread : s.rackReading q b.chan = false) (hserve : s.mayServe b.chan 1 = true) (hplanted : s.flt.planted = []) :
    execRackWriteDone q 0 s = .next (if (s.tqueue q).split = false ∨
      (s.flatCells q).length < (s.tqueue q).head + 16 * (s.tqueue q).blocks.length + 16 then s.rackGivenUp q b
      else s.rackTaken q b) := by
  refine congrArg Host.Outcome.next ?_
  dsimp only
  rw [hrack]
  refine (if_neg (by simp [hread, hserve])).trans ?_
  rw [State.edcRetries_zero b.chan hplanted]
  rfl

/-! ## Channels (R335) -/

/-- A channel that delivers nothing, while no queue holds cells and none leaves yet, is out of service at once. -/
theorem execCellarChannelDead_noQueues {s : State} {ch : Nat} {x : ChanLeave} (hact : s.ust (tgt cCELLAR ch) = uACTIVE)
    (hleaving : s.cellar.leaving = []) (hqueues : (s.chanLeave ch false 3).tun.queues = [])
    (hfind : (s.chanLeave ch false 3).cellar.leaving.find? (fun y => y.chan == ch) = some x) :
    execCellarChannelDead ch s = .next ((s.chanLeave ch false 3).chanGone { x with graft := false, cause := 3 }) := by
  have hnone : ¬ s.cellar.leaving.any (fun x => x.chan == ch && (x.graft || x.cause != 3)) = true := by
    simp [hleaving]
  have hlost : eachIn ((s.chanLeave ch false 3).tun.queues.map (fun e => e.1.1)) (s.chanLeave ch false 3)
      (fun s q => s.loseBlocks q ch) = s.chanLeave ch false 3 := by
    rw [hqueues, List.map_nil, eachIn_nil]
  refine congrArg Host.Outcome.next ((if_neg (not_not_intro hact)).trans ?_)
  dsimp only
  rw [if_neg hnone, hlost, hfind]

/-! ## The window (R333) -/

/-- GO on an idle window, with a line inside its partition, starts an access. -/
theorem State.winStart_go {s : State} {v : Word} (hgo : bitsAt v 0 1 = 1) (hidle : s.flag CELLAR_WIN_CTL.BUSY = false)
    (hline : s.fld CELLAR_WIN_ADDR.LINE < s.partLines (s.fld CELLAR_WIN_ADDR.PART)) :
    s.winStart v = { s.setFld CELLAR_WIN_CTL.BUSY 0 1 with cellar.win := some (bitsAt v 1 1 == 1) } :=
  (if_neg (by simp [hgo, hidle])).trans (if_neg (Nat.not_le.mpr hline))

/-- The state in which a window access that the channel has served is carried out: the channel's time is taken, the window idle. -/
def State.winServed (s : State) : State :=
  (({ s.extUsed s.winChan with cellar.win := none } : State).setFld CELLAR_WIN_CTL.BUSY 0 0).perf (tunSet 8) 0x284

/-- The extension line that the window names. -/
def State.winLine (s : State) : Nat := s.extLine (s.fld CELLAR_WIN_ADDR.PART) (s.fld CELLAR_WIN_ADDR.LINE)

section
variable {s : State} (hserve : s.mayServe s.winChan 2 = true)
  (hline : s.winServed.fld CELLAR_WIN_ADDR.LINE < s.winServed.partLines (s.winServed.fld CELLAR_WIN_ADDR.PART))
include hserve hline

/-- A write through the window puts the data registers in its line. -/
theorem execCellarWinDone_write (hwin : s.cellar.win = some true) :
    execCellarWinDone 0 s = .next (eachIn (List.range 16) s.winServed
      (fun u n => u.setExtWord s.winLine n (u.reg .CELLAR_WIN_DATA n).toNat)) := by
  unfold execCellarWinDone
  rw [hwin]
  exact congrArg Host.Outcome.next ((if_neg (ne_false_of_eq_true hserve)).trans
    ((if_neg (Nat.not_le.mpr hline)).trans (if_pos rfl)))

/-- A read through the window that meets no error puts its line in the data registers. -/
theorem execCellarWinDone_read (hwin : s.cellar.win = some false) :
    execCellarWinDone 0 s = .next (eachIn (List.range 16) s.winServed
      (fun u n => u.setReg .CELLAR_WIN_DATA n (wd (u.extWord s.winLine n)))) := by
  unfold execCellarWinDone
  rw [hwin]
  exact congrArg Host.Outcome.next ((if_neg (ne_false_of_eq_true hserve)).trans
    ((if_neg (Nat.not_le.mpr hline)).trans (if_neg Bool.false_ne_true)))

end

/-- Settles O9: each event that meets its conditions is one branch of its meaning. -/
theorem cellarEvents : Obligations.CellarEvents := by
  unfold Obligations.CellarEvents
  refine ⟨?rack, ?rackFull, ?racked, ?rackGone, ?issue, ?drawn, ?retrain, ?retire, ?dead, ?winStart, ?winWrite, ?winRead⟩
  case rack =>
    intro s q c hspill hmay hidle hsplit hcells hroom hchan
    refine congrArg Host.Outcome.next ((if_neg (State.rackBlock_due hspill hmay hidle hsplit hcells)).trans
      ((if_neg (Nat.not_le.mpr hroom)).trans ?_))
    rw [hchan]
    simp only [hsplit]
    rfl
  case rackFull =>
    exact fun s q hspill hmay hidle hsplit hcells hfull => congrArg Host.Outcome.next
      ((if_neg (State.rackBlock_due hspill hmay hidle hsplit hcells)).trans (if_pos hfull))
  case racked =>
    intro s q b hrack hread hserve hplanted hsplit hcells
    exact (execRackWriteDone_served hrack hread hserve hplanted).trans
      (congrArg Host.Outcome.next (if_neg (by simp [hsplit, hcells])))
  case rackGone =>
    intro s q b hrack hread hserve hplanted hsplit
    exact (execRackWriteDone_served hrack hread hserve hplanted).trans (congrArg Host.Outcome.next (if_pos (Or.inl hsplit)))
  case issue =>
    intro s q k hsplit hshort hflying hnext hruns
    refine congrArg Host.Outcome.next ((if_neg ?_).trans ?_)
    · simp [hsplit, Nat.not_le.mpr hshort, Nat.not_le.mpr hflying]
    · dsimp only
      rw [hnext]
      exact if_neg (ne_true_of_eq_false hruns)
  case drawn =>
    intro s q bseq b hfind hbank hfree hcluster hserve hplanted
    refine congrArg Host.Outcome.next ?_
    rw [hfind]
    refine (if_neg (by simp [hbank, Nat.not_lt.mpr hfree, hcluster, hserve])).trans ?_
    simp only [State.edcRetries_zero b.chan hplanted, List.range_zero, eachIn_nil, hplanted]
    rfl
  case retrain =>
    intro s ch temp hact hidle
    exact congrArg Host.Outcome.next ((if_neg (by simp [hact, hidle])).trans (if_pos rfl))
  case retire =>
    intro s ch x hfind hslots
    refine congrArg Host.Outcome.next ?_
    rw [hfind]
    exact if_pos hslots
  case dead => exact fun s ch x hact hleaving hqueues hfind => execCellarChannelDead_noQueues hact hleaving hqueues hfind
  case winStart =>
    exact fun s v h hgo hidle hline => next_lands h ((s.poke_CELLAR_WIN_CTL 1 0 v).trans (State.winStart_go hgo hidle hline))
  case winWrite =>
    intro s t hwin hserve ht hline
    subst ht
    exact execCellarWinDone_write hserve hline hwin
  case winRead =>
    intro s t hwin hserve ht hline
    subst ht
    exact execCellarWinDone_read hserve hline hwin

end Sys2Proof.Machine
end

section
/-! PROOFS. The events of telemetry: TOD and its pins (R363), export frames (R376, R377) and performance counter sets (R384): each row is
one branch of its meaning. -/
namespace Sys2Proof.Machine

/-! ## TOD (R363) -/

/-- A set that waits puts the SET value in TOD. -/
theorem State.todApply_set {s : State} (hpend : s.todPend = 1) : s.todApply = { s with tod := s.todValue, todPend := 0 } := by
  simp only [State.todApply, hpend]

/-- A step that waits adds the SET value to TOD, modulo 2^64. -/
theorem State.todApply_step {s : State} (hpend : s.todPend = 2) :
    s.todApply = { s with tod := (s.tod + s.todValue) % 2 ^ 64, todPend := 0 } := by
  simp only [State.todApply, hpend]

/-! ## Export frames lost (R377) -/

/-- Which losses the exporter has yet to learn of does not say whether a flag is set. -/
theorem State.flag_expLost (s : State) (l : List (Nat × Nat × Nat)) (f : Fld) (i : Nat) :
    ({ s with expLost := l } : State).flag f i = s.flag f i :=
  State.flag_congr rfl

/-- The exporter learns of the oldest lost export frame, and an enabled stream takes a gap record for its numbers (R377). -/
theorem execExportFrameLost_oldest {s : State} {i first n : Nat} {rest : List (Nat × Nat × Nat)}
    (hlost : s.expLost = (i, first, n) :: rest) :
    execExportFrameLost s = .next (
      if s.flag TELEM_STR_STATUS.EN i then
        ({ s with expLost := rest } : State).gapAdd i ⟨1, n, s.tod, s.tod, first, (first + n + 2 ^ 32 - 1) % 2 ^ 32, false⟩
      else { s with expLost := rest }) := by
  rw [← s.flag_expLost rest]
  unfold execExportFrameLost
  rw [hlost]

/-- Settles O11: each event that meets its conditions is one branch of its meaning. -/
theorem telemetryEvents : Obligations.TelemetryEvents := by
  unfold Obligations.TelemetryEvents
  refine ⟨?todSet, ?todStep, ?ppsOut, ?ppsIn, ?frameBuild, ?flush, ?lostEnabled, ?lostDisabled, ?intervalEnd⟩
  case todSet => exact fun s hpend => congrArg Host.Outcome.next ((if_pos hpend).trans (State.todApply_set hpend))
  case todStep => exact fun s hpend => congrArg Host.Outcome.next ((if_pos hpend).trans (State.todApply_step hpend))
  case ppsOut => exact fun s hen hsecond hlow => congrArg Host.Outcome.next (if_pos ⟨hen, hsecond, hlow⟩)
  case ppsIn => exact fun s hen => congrArg Host.Outcome.next (if_pos hen)
  case frameBuild => exact fun s i hmay hfull => congrArg Host.Outcome.next (if_pos ⟨hmay, hfull⟩)
  case flush => exact fun s i hmay hdue => congrArg Host.Outcome.next (if_pos ⟨hmay, hdue⟩)
  case lostEnabled =>
    intro s i first n rest hlost hen
    exact (execExportFrameLost_oldest hlost).trans (congrArg Host.Outcome.next (if_pos hen))
  case lostDisabled =>
    intro s i first n rest hlost hoff
    exact (execExportFrameLost_oldest hlost).trans (congrArg Host.Outcome.next (if_neg (ne_true_of_eq_false hoff)))
  case intervalEnd => exact fun s k hrun hset hdue => congrArg Host.Outcome.next (if_pos ⟨hrun, hset, hdue⟩)

end Sys2Proof.Machine
end

section
/-! PROOFS. The events of the Grist engines (R394, R400, R405, R406, R408, R409, R412 to R415): each row is one branch of its meaning. -/
namespace Sys2Proof.Machine

/-! ## Engine groups: timeouts (R406) and emission (R408) -/

section
variable {s : State} {g id x : Nat} {v : GGroup} {k : GChunk} (hgroup : s.group g = some v) (hchunk : chunkOf v id = some k)
  (htimer : k.timer = some x) (hdue : x + 1000 * v.timeout ≤ s.now)
include hgroup hchunk htimer hdue

/-- The timer of a chunk that waits for its ranks runs out: it asks again while it may, then it fails. -/
theorem execGristChunkTimeout_filling (hst : k.st ≠ 2) : execGristChunkTimeout g id s = .next (
    if k.nacks < v.retries then
      (s.setGroup g (some (putChunk v { k with timer := some s.now, nacks := k.nacks + 1 }))).sendNack g v
        { k with timer := some s.now, nacks := k.nacks + 1 } (k.nacks + 1)
    else s.failChunk g id 1) := by
  refine congrArg Host.Outcome.next ?_
  simp only [hgroup, hchunk, Option.filter_some, htimer, decide_eq_true hdue, if_true, if_neg hst]

end

/-! ## Refused results (R408) -/

section
variable {s : State} {slot x l : Nat} {f : UpFrame} (hturned : s.turned slot = some (f, x, l))
include hturned

/-- A refused packet is dropped 1 ms after its first refusal. -/
theorem execGristResultRetry_dropped (hlate : x + msNs ≤ s.now) : execGristResultRetry slot s =
    .next (((s.setTurned slot none).bump .GRIST_RES_DROP (slot / 16)).ev GRIST_G_EVENT.RES_DROP (slot / 16)) := by
  refine congrArg Host.Outcome.next ?_
  rw [hturned]
  exact if_pos hlate

/-- A refused packet that the Tun takes is being written from then on. -/
theorem execGristResultRetry_taken {i : Nat} (hearly : s.now < x + msNs) (hdue : l + 2000 ≤ s.now) (hidle : s.asmAt (2 * slot + 1) 1 = none)
    (htaken : (s.offer f (2 * slot + 1)).2 = some i) : execGristResultRetry slot s =
    .next (((s.offer f (2 * slot + 1)).1.setTurned slot none).setAsm (2 * slot + 1) 1 (some i)) := by
  refine congrArg Host.Outcome.next ?_
  rw [hturned]
  refine (if_neg (Nat.not_le.mpr hearly)).trans ((if_neg (by simp [hdue, hidle])).trans ?_)
  dsimp only
  rw [htaken]

end

/-! ## Engines (R412 to R415) -/

/-- An error of an engine touches a chunk bound to its slot that holds work. -/
theorem execGristChunkReset_bound {s : State} {e cause g id : Nat} {k : GChunk} (hchunk : (s.group g).bind (fun v => chunkOf v id) = some k)
    (hslot : s.slotOf e = some k.slot) (hst : k.st ≠ 0) (hfail : k.fail = 0) (h1 : 1 ≤ cause) (h3 : cause ≤ 3) :
    execGristChunkReset e cause g id s =
      .next ((if cause = 1 then s.seqFetchFault e else s).engineError e cause g id (cause != 1) false) := by
  refine congrArg Host.Outcome.next ?_
  rw [hchunk]
  exact if_pos ⟨hslot, hst, hfail, h1, h3⟩

section
variable {s : State} {e slot : Nat} {l : GLeave} (hleave : s.grist.leave.find? (fun l => l.engine == e) = some l)
  (hslot : s.slotOf e = some slot) (hkind : l.kind ≠ 4)
include hleave hslot hkind

/-- The first free spare takes over the slot of an engine that leaves. -/
theorem execGristEngineTakeover_spare {n : Nat} {ns : List Nat} (hspare : s.spareEngines e = n :: ns) :
    execGristEngineTakeover e true s =
      .next (((((s.moveSlot slot e n).ev GRIST_G_EVENT.TAKEOVER (slot / 16)).gristIrq).engineGone l)) := by
  refine congrArg Host.Outcome.next ?_
  rw [hleave, hslot]
  dsimp only
  rw [if_neg hkind, hspare]
  rfl

/-- With no spare free, the slot of an engine that leaves is lost. -/
theorem execGristSlotLoss_lost (hquiet : l.kind ≠ 3 ∨ l.dest = 0) (hspare : s.spareEngines e = []) :
    execGristSlotLoss e s = .next ((s.slotDrop e slot).engineGone l) := by
  refine congrArg Host.Outcome.next ?_
  rw [hleave, hslot]
  refine (if_neg (by simp [hkind, hspare])).trans ?_
  have hquiet' : ¬(l.kind = 3 ∧ l.dest ≠ 0) := by tauto
  simp only [if_neg hquiet']

end

/-- Settles O12: each event that meets its conditions is one branch of its meaning. -/
theorem gristEvents : Obligations.GristEvents := by
  unfold Obligations.GristEvents
  refine ⟨?contrib, ?asksAgain, ?timesOut, ?emit, ?taken, ?dropped, ?parent, ?closes, ?resets, ?fetchFault, ?takeover, ?lost, ?doze⟩
  case contrib =>
    intro s c f rest v hstaged hkind
    refine congrArg Host.Outcome.next ?_
    rw [hstaged]
    dsimp only
    rw [hkind]
  case asksAgain =>
    intro s g id x v k hgroup hchunk htimer hdue hst hmay
    exact (execGristChunkTimeout_filling hgroup hchunk htimer hdue hst).trans (congrArg Host.Outcome.next (if_pos hmay))
  case timesOut =>
    intro s g id x v k hgroup hchunk htimer hdue hst hno
    exact (execGristChunkTimeout_filling hgroup hchunk htimer hdue hst).trans (congrArg Host.Outcome.next (if_neg (Nat.not_lt.mpr hno)))
  case emit =>
    intro s g v k rest hgroup hchunks hst hheld hsent
    refine congrArg Host.Outcome.next ?_
    rw [hgroup]
    dsimp only
    rw [hchunks]
    exact (if_neg (by simp [hst, hheld])).trans (if_pos hsent)
  case taken => exact fun s slot x l i f hturned hearly hdue hidle htaken => execGristResultRetry_taken hturned hearly hdue hidle htaken
  case dropped => exact fun s slot x l f hturned hlate => execGristResultRetry_dropped hturned hlate
  case parent =>
    intro s c f rest v hstaged hkind
    refine congrArg Host.Outcome.next ?_
    rw [hstaged]
    dsimp only
    rw [hkind]
  case closes =>
    intro s g v k hgroup hclosing habort hdue
    refine congrArg Host.Outcome.next ?_
    simp only [hgroup, Option.bind_some, hclosing]
    exact if_neg (by simp [habort, hdue])
  case resets =>
    intro s e g id k hchunk hslot hst hfail
    exact (execGristChunkReset_bound hchunk hslot hst hfail (by decide) (by decide)).trans
      (congrArg (fun t : State => Host.Outcome.next (t.engineError e 2 g id true false)) (if_neg (by decide)))
  case fetchFault =>
    intro s e g id k hchunk hslot hst hfail
    exact (execGristChunkReset_bound hchunk hslot hst hfail (by decide) (by decide)).trans
      (congrArg (fun t : State => Host.Outcome.next (t.engineError e 1 g id false false)) (if_pos rfl))
  case takeover => exact fun s e slot n l ns hleave hslot hkind hspare => execGristEngineTakeover_spare hleave hslot hkind hspare
  case lost => exact fun s e slot l hleave hslot hkind hquiet hspare => execGristSlotLoss_lost hleave hslot hkind hquiet hspare
  case doze =>
    intro s e slot hslot hact hidle hgroups hstaged hhint
    refine congrArg Host.Outcome.next ?_
    rw [hslot]
    exact if_pos ⟨hact, hidle, by simp [hgroups], hstaged, hhint⟩

end Sys2Proof.Machine
end

section
/-! PROOFS. SET_MODE (R420): the table of changes, what the effect does by it, and the reply, which leaves the domains as they are. -/
namespace Sys2Proof.Machine

/-! ## Replies keep the life of the module (R37, R38, R43) -/

theorem State.cqIrq_life (s : State) : s.cqIrq.life = s.life := by
  unfold State.cqIrq
  split
  · rw [(State.msix_frame _ _).1]
  · rfl

theorem State.coalesce_life (s : State) : s.coalesce.life = s.life := (State.cqIrq_life _).trans rfl

theorem State.putResults_life (s : State) (p : Packet) (r : Rep) : (s.putResults p r).life = s.life := by
  unfold State.putResults; split <;> rfl

theorem State.writeCq_life (s : State) (p : Packet) (r : Rep) : (s.writeCq p r).life = s.life := by
  refine (State.coalesce_life _).trans (Eq.trans ?_ (s.putResults_life p r))
  split <;> rfl

theorem State.send_life (s : State) (p : Packet) (r : Rep) : (s.send p r).life = s.life := by
  unfold State.send
  split
  · split
    · split
      · rfl
      · exact s.writeCq_life p r
    · rfl
  · split <;> rfl

theorem State.settleRun_life (s : State) : s.settleRun.life = s.life := by
  rw [(State.settleRun_frame s).1]

/-- A reply leaves the boot, the resets and a power-down under way alone. -/
theorem State.reply_life (s : State) (p : Packet) (r : Rep) : (s.reply p r).life = s.life := by
  refine (State.settleRun_life _).trans ?_
  split
  · split
    · exact s.putResults_life p r
    · rfl
  · split
    · exact State.send_life s.drawn p _
    · exact s.send_life p r

/-! ## SET_MODE (R420) -/

/-- The domains stay as they are where no change to DORMANT has been accepted. -/
theorem State.goDown_of_not_down {s : State} (h : s.life.down = false) : s.goDown = s := if_neg (ne_true_of_eq_false h)

/-- The table of R420. -/
abbrev modeTable : List (Nat × Nat) := [(0, 2), (0, 1), (2, 3), (2, 5), (2, 0), (3, 4), (4, 3), (4, 2), (4, 5), (4, 0), (5, 2), (5, 0)]

/-- SET_MODE accepts the changes of the table of R420. -/
theorem modeAllowed_iff (old m : Nat) : modeAllowed old m = true ↔ (old, m) ∈ modeTable := by
  unfold modeAllowed
  split <;> simp_all <;> omega

/-- A word that is a mode code has the code in its low bits, and no LIMIT. -/
theorem modeWord_fields : ∀ m < 6, bitsAt (wd m) 0 3 = m ∧ bitsAt (wd m) 8 16 = 0 ∧ (wd m &&& ~~~(BitVec.ofNat 32 0x00FFFF07) == 0) = true := by
  decide

section
variable {s : State} {p : Packet} {m : Nat} (hpar : par p 0 = wd m) (hm : m < 6) (hfatal : s.flt.fatal = false)
include hpar hm hfatal

/-- With a mode code, no LIMIT and no FATAL event, SET_MODE looks at the current mode first. -/
theorem effSetMode_code : effSetMode p s =
    if m = s.mode then (s, ok)
    else if modeAllowed s.mode m = false then (s, refuse eSTATE (s.mode + m * 256))
    else if m = mDORMANT then ({ s with life.down := true }, ok)
    else if m = mRECOVERY then (s.toRecovery, ok)
    else if m = mSERVICE then (s.toService, ok)
    else if m = mTEST then (s.toTest, ok)
    else if m = mDRAIN then ((s.startDrain 0).drainFlush, ok)
    else if s.mode = mDORMANT then (s.startSteep, laterRep)
    else (s.toSteeping, ok) := by
  obtain ⟨hcode, hlimit, hbits⟩ := modeWord_fields m hm
  have hcode' : parF p 0 0 3 = m := by rw [parF, hpar, hcode]
  have hlimit' : parF p 0 8 16 = 0 := by rw [parF, hpar, hlimit]
  have hbits' : onlyBits p 0 0x00FFFF07 = true := by rw [onlyBits, hpar, hbits]
  unfold effSetMode
  simp only [hcode', hlimit', hbits', hfatal]
  rw [if_neg (by simp; omega), if_neg (by simp)]
  rfl

/-- A change of the table has an effect, at once or later. -/
theorem effSetMode_listed (hlist : (s.mode, m) ∈ modeTable) : (effSetMode p s).2 = ok ∨ (effSetMode p s).2 = laterRep := by
  rw [effSetMode_code hpar hm hfatal]
  split
  · exact .inl rfl
  · rw [if_neg (by simp [(modeAllowed_iff _ _).mpr hlist])]
    repeat' split
    all_goals simp

/-- Any change but those of the table is refused, with the current mode and the requested one as DETAIL. -/
theorem effSetMode_unlisted (hne : m ≠ s.mode) (hlist : (s.mode, m) ∉ modeTable) :
    effSetMode p s = (s, refuse eSTATE (s.mode + m * 256)) := by
  have hno : modeAllowed s.mode m = false := eq_false_of_ne_true (fun h => hlist ((modeAllowed_iff _ _).mp h))
  rw [effSetMode_code hpar hm hfatal, if_neg hne, if_pos hno]

end

/-- A SET_MODE that answers without an effect is its reply, and no domain goes off. -/
theorem execSetMode_answers {s : State} {p : Packet} {r : Rep} (h : s.takes 0x0002 p) (hi : indirect p = false) (hl : p.late = false)
    (hdown : s.take.life.down = false) (he : effSetMode p s.take = (s.take, r)) (hr : r.later = false) (hn : r.results.length ≤ 12) :
    execSetMode p s = .next (s.take.reply p r) := by
  have hreply : s.command 0x0002 effSetMode p = s.take.reply p r := Host.Outcome.next.inj (next_direct h hi hl he hr hn)
  have hkept : (s.take.reply p r).life.down = false := by rw [State.reply_life, hdown]
  unfold execSetMode
  rw [hreply, State.goDown_of_not_down hkept]

/-- Settles O54: the three clauses are the three ways SET_MODE's effect goes, by the current mode and the table. -/
theorem modeChanges : Obligations.ModeChanges := by
  unfold Obligations.ModeChanges
  intro s p m h hi hl hpar hm hfatal hdown
  refine ⟨?current, ?listed, ?unlisted⟩
  case current =>
    intro hcur
    exact execSetMode_answers h hi hl hdown ((effSetMode_code hpar hm hfatal).trans (if_pos hcur)) rfl (Nat.zero_le _)
  case listed =>
    intro hlist
    rcases effSetMode_listed hpar hm hfatal hlist with he | he
    all_goals rw [runEff_of_direct hi hl (resultsFit_of_direct hi (by simp [he, ok, laterRep])), he]; rfl
  case unlisted =>
    intro hne hlist
    exact execSetMode_answers h hi hl hdown (effSetMode_unlisted hpar hm hfatal hne hlist) rfl (Nat.zero_le _)

end Sys2Proof.Machine
end

section
/-! PROOFS. The events of start-up and of mode changes (R423 to R426, R429, R430, R436, R466): each row is one branch of its meaning. -/
namespace Sys2Proof.Machine

/-! ## The start of the Malthouse (R423, R516) -/

/-- What the ROM loader's choice makes of the module: RECOVERY, or the slot that runs. -/
def State.booted (u : State) (fresh : Bool) : State :=
  match u.romLoader.2 with
  | none => { ({ u.romLoader.1 with life.boot := 0 } : State).enterRecovery with fw.act := none, cmd.pause := false }
  | some x =>
    let t := (({ u.romLoader.1 with life.boot := 0 } : State).runSlot x.1 x.2).actStarted x (u.slotFails (u.bootRec.trial.getD u.bootRec.active))
    if fresh then t.startMode else t

/-- After a reset the module starts anew; a restart of the Malthouse alone leaves the mode. -/
theorem execBootStart_boot {s : State} (fresh : Bool) (hboot : s.life.boot = if fresh then 1 else 3) :
    execBootStart s = .next ((if fresh then (s.startClocks.showFlash).freshStart else s.startClocks.showFlash).booted fresh) := by
  have hfresh : (s.life.boot == 1) = fresh := by rw [hboot]; cases fresh <;> rfl
  refine congrArg Host.Outcome.next ((if_neg (by rw [hboot]; cases fresh <;> decide)).trans ?_)
  dsimp only
  rw [hfresh]
  rfl

/-- Settles O13: each event that meets its conditions is one branch of its meaning. -/
theorem lifecycleEvents : Obligations.LifecycleEvents := by
  unfold Obligations.LifecycleEvents
  refine ⟨?recovery, ?restart, ?grant, ?powerGood, ?fails, ?trips, ?tested, ?trained, ?drained, ?flushed⟩
  case recovery =>
    intro s hboot hnone
    refine (execBootStart_boot true hboot).trans (congrArg Host.Outcome.next ?_)
    unfold State.booted
    rw [if_pos rfl, hnone]
  case restart =>
    intro s u hboot hu
    refine (execBootStart_boot false hboot).trans (congrArg Host.Outcome.next ?_)
    rw [if_neg Bool.false_ne_true, ← hu]
    unfold State.booted
    cases u.romLoader.2 <;> rfl
  case grant =>
    intro s n pIn vin due rest hsteps hramp hdue hnow hpeak
    subst hdue
    refine congrArg Host.Outcome.next ?_
    rw [hsteps, hramp]
    dsimp only
    rw [if_pos ⟨hnow, hpeak⟩, State.setFld_life, State.setFld_now]
  case powerGood =>
    intro s n mv hramp hpass
    refine congrArg Host.Outcome.next ?_
    dsimp only
    rw [if_pos ⟨hramp, hpass⟩, State.setFld_now, State.setFld_now]
  case fails =>
    intro s n mv hramp hlate h1 h26
    exact congrArg Host.Outcome.next ((if_neg (by simp [hramp, hlate])).trans (if_neg (by simp [h1, h26])))
  case trips =>
    intro s n mv h0 h26 hon
    exact congrArg Host.Outcome.next ((if_neg (by simp [h26, hon])).trans (if_neg (Nat.ne_of_gt h0)))
  case tested =>
    intro s n htest h4
    refine congrArg Host.Outcome.next ((if_neg (by simpa using htest)).trans ?_)
    dsimp only
    rw [if_neg (Nat.not_le.mpr h4)]
    simp only [List.contains_nil, Bool.false_and, List.filter_false]
    rfl
  case trained => exact fun s c hc hwaking => congrArg Host.Outcome.next ((if_neg (by simp [hc, hwaking])).trans (if_pos rfl))
  case drained => exact fun s hto hempty => congrArg Host.Outcome.next (if_pos ⟨hto, hempty⟩)
  case flushed =>
    intro s hto hlate hfull
    refine congrArg Host.Outcome.next ((if_pos ⟨hto, hlate⟩).trans ?_)
    rw [if_neg (ne_true_of_eq_false hfull)]

end Sys2Proof.Machine
end

section
/-! PROOFS. The events of the clocks (R446 to R462): each row is one branch of its meaning. -/
namespace Sys2Proof.Machine

/-! ## Enables (R446, R462) -/

/-- Switching on a source that is OFF starts it (R446). -/
theorem State.writeSrcEn_start {s : State} {n : Nat} (h1 : 1 ≤ n) (h5 : n ≤ 5) (hoff : (s.setFld CLK_SRC.EN n 1).srcState n = kOFF) :
    s.writeSrcEn n 1 = (s.setFld CLK_SRC.EN n 1).setSrc n kSTARTING :=
  (if_neg (by omega)).trans ((if_pos rfl).trans (if_pos hoff))

/-- Switching off a source that no PLL uses stops it (R461). -/
theorem State.writeSrcEn_stop {s : State} {n : Nat} (h1 : 1 ≤ n) (h5 : n ≤ 5) (hfree : s.srcUsed n = false) :
    s.writeSrcEn n 0 = (s.setFld CLK_SRC.EN n 0).setSrc n kOFF :=
  (if_neg (by omega)).trans ((if_neg Nat.zero_ne_one).trans (if_neg (ne_true_of_eq_false hfree)))

/-! ## Monitors (R451) -/

/-- The window of one source: it shows its count, and trips the source where that is READY and the count outside its limits. -/
theorem execClkMonitorWindow_single {s : State} {n c : Nat} (h1 : 1 ≤ n) (h5 : n ≤ 5) (hon : s.srcState n ≠ kOFF) :
    execClkMonitorWindow [(n, c)] s = .next (((s.setFld CLK_SRC.COUNT n (Nat.min 4095 c)).windowSeen n c).tripSources
      (if s.srcState n = kREADY ∧ (c < (windowLimits n).1 ∨ (windowLimits n).2 < c) then [n] else [])) := by
  have hlive : [(n, c)].filter (fun c => decide (1 ≤ c.1) && decide (c.1 ≤ 5) && s.srcState c.1 != kOFF) = [(n, c)] := by
    simp [h1, h5, hon]
  unfold execClkMonitorWindow
  dsimp only
  rw [hlive]
  split
  next htrip => rw [List.filter_cons_of_pos (by simpa using htrip)]; rfl
  next hgood => rw [List.filter_cons_of_neg (by simpa using hgood)]; rfl

/-- Settles O14: each event that meets its conditions is one branch of its meaning. -/
theorem clockEvents : Obligations.ClockEvents := by
  unfold Obligations.ClockEvents
  refine ⟨?enable, ?disable, ?trimWrite, ?chainFalls, ?chainWaits, ?windowGood, ?windowTrips, ?ready, ?startTimeout, ?retry, ?muxHeld,
    ?muxLocked, ?locked, ?lockLoss, ?trim, ?sircGood, ?sircSlow, ?sof⟩
  case enable => exact fun s n h1 h5 hoff => congrArg Host.Outcome.next (State.writeSrcEn_start h1 h5 hoff)
  case disable => exact fun s n h1 h5 hfree => congrArg Host.Outcome.next (State.writeSrcEn_stop h1 h5 hfree)
  case trimWrite => exact fun s n code hn => congrArg Host.Outcome.next (if_pos hn)
  case chainFalls =>
    exact fun s i en hpll hwait hwant => congrArg Host.Outcome.next ((if_pos hpll).trans (if_pos (by simp [hwait, hwant])))
  case chainWaits =>
    exact fun s i en hpll hwait => congrArg Host.Outcome.next ((if_pos hpll).trans (if_neg (by simp [Option.isSome_iff_ne_none.mp hwait])))
  case windowGood =>
    intro s n c h1 h5 hon hlow hhigh
    have hgood : ¬(s.srcState n = kREADY ∧ (c < (windowLimits n).1 ∨ (windowLimits n).2 < c)) :=
      fun ⟨_, hout⟩ => hout.elim (Nat.not_lt.mpr hlow) (Nat.not_lt.mpr hhigh)
    exact (execClkMonitorWindow_single h1 h5 hon).trans (by rw [if_neg hgood])
  case windowTrips =>
    intro s n c h1 h5 hready hout
    exact (execClkMonitorWindow_single h1 h5 (by simp [hready])).trans (by rw [if_pos ⟨hready, hout⟩])
  case ready => exact fun s n h1 h5 hst hwins => congrArg Host.Outcome.next (if_pos ⟨h1, h5, hst, hwins⟩)
  case startTimeout =>
    intro s n h1 h5 hst hdue hnone
    refine congrArg Host.Outcome.next ((if_pos ⟨h1, h5, hst, hdue⟩).trans ?_)
    dsimp only
    rw [hnone]
    rfl
  case retry => exact fun s n h1 h5 hst hen hdue => congrArg Host.Outcome.next (if_pos ⟨h1, h5, hst, hen, hdue⟩)
  case muxHeld =>
    intro s i n hwant hst
    refine congrArg Host.Outcome.next ?_
    rw [hwant]
    simp only [if_neg hst]
  case muxLocked =>
    intro s i n hwant hst
    refine congrArg Host.Outcome.next ?_
    rw [hwant]
    simp only [if_pos hst]
  case locked => exact fun s i hpll hst hdead => congrArg Host.Outcome.next ((if_neg (by simp [hpll, hst, hdead])).trans (if_pos rfl))
  case lockLoss =>
    intro s i u t hpll hst hu ht hfew
    subst hu ht
    exact congrArg Host.Outcome.next ((if_neg (by simp [hpll, hst])).trans (if_neg (Nat.not_le.mpr hfew)))
  case trim => exact fun s osc ppm ho hauto href hdue => congrArg Host.Outcome.next (if_pos ⟨ho, hauto, href, hdue⟩)
  case sircGood => exact fun s n hgood => congrArg Host.Outcome.next (if_pos hgood)
  case sircSlow =>
    exact fun s n hslow hfirst => congrArg Host.Outcome.next
      ((if_neg (Nat.not_le.mpr hslow)).trans (if_neg (ne_true_of_eq_false hfirst)))
  case sof => exact fun s hconn hconf => congrArg Host.Outcome.next (if_pos ⟨hconn, hconf⟩)

end Sys2Proof.Machine
end

section
/-! PROOFS. The events of power (R465, R467, R473 to R485): each row is one branch of its meaning. -/
namespace Sys2Proof.Machine

/-! ## The cap loop (R474) -/

section
variable {s m : State} {vin iin mj : Nat} {ds : List (Nat × Nat)} {above : Bool}

/-- What a tick of the cap loop shows after its actuator step. -/
def State.capShown (s : State) (u : Nat) : State := (((s.capClear u).showLevel).retargetAll.showLim).showAlert

/-- A tick that is due measures, takes its actuator step and shows the result. -/
theorem execCapTick_due (hboot : s.life.boot ≠ 2) (hdue : s.pwr.tickAt ≤ s.now)
    (hm : m = ({ s with pwr.tickAt := s.now + usNs } : State).capMeasure vin iin mj ds) :
    execCapTick vin iin mj ds above s = .next
      ((if m.capNow * 1000 < m.uPower ds ∨ above = true then ({ m with pwr.lastU := m.uPower ds } : State).retargetAll.capEngage
        else if m.uPower ds < 950 * m.capNow then ({ m with pwr.lastU := m.uPower ds } : State).retargetAll.capBelow
        else ({ m with pwr.lastU := m.uPower ds } : State).retargetAll).capShown (m.uPower ds)) := by
  subst hm
  exact congrArg Host.Outcome.next (if_neg (by simp [hboot, hdue]))

end

/-! ## Droop (R477, R478) -/

/-- Which domains are on is not shown in another register. -/
theorem State.domOn_setFld (s : State) {f : Fld} (i v n : Nat) (hf : Reg.PWR_DOM_V ≠ f.reg) : (s.setFld f i v).domOn n = s.domOn n := by
  unfold State.domOn
  rw [State.fld_setFld_ne s (g := PWR_DOM_V.STATE) v (Or.inl (fun e => hf (Reg.ctorIdx_inj e)))]

section
variable {s : State} {n mv clocks q : Nat} (hdet : hasDroop n = true) (hon : s.domOn n = true) (hcalm : s.pwr.tripped.contains n = false)
  (hlow : mv + s.dth n < s.vSet n)
include hdet hon hcalm hlow

/-- A droop in a quadrant that is on limits its issue rate and freezes its steps. -/
theorem execDroopTrip_quad (hquad : droopQuad n = some q) (hqon : s.domOn (domQuad q) = true) {t : State}
    (ht : t = ({ s with pwr.tripped := n :: s.pwr.tripped }.bump .PWR_DROOP_CNT).ev PWR_EVENT.DROOP) :
    execDroopTrip ⟨n, mv⟩ s = .next
      ((({ t with pwr.limDrp := t.pwr.limDrp.set q 4, pwr.calmAt := t.pwr.calmAt.set q none } : State).setFld PWR_QUAD.FROZEN q 1).ev
        PWR_EVENT.DROOP_FREEZE).showLim := by
  subst ht
  refine congrArg Host.Outcome.next ((if_pos ⟨hdet, hon, hcalm, hlow⟩).trans ?_)
  dsimp only
  rw [hquad]
  exact congrArg State.showLim (if_pos ((State.domOn_setFld _ _ _ _ (by decide)).trans hqon))

/-- A droop of a domain without a quadrant is counted and shown. -/
theorem execDroopTrip_single (hquad : droopQuad n = none) :
    execDroopTrip ⟨n, mv⟩ s = .next (({ s with pwr.tripped := n :: s.pwr.tripped }.bump .PWR_DROOP_CNT).ev PWR_EVENT.DROOP) := by
  refine congrArg Host.Outcome.next ((if_pos ⟨hdet, hon, hcalm, hlow⟩).trans ?_)
  dsimp only
  rw [hquad]

end

/-- A quadrant's recovery, once its own domain and its Grist group's are above their thresholds. -/
theorem execDroopRecover_quad {s : State} {n clocks q : Nat} (htrip : s.pwr.tripped.contains n = true) (hquad : droopQuad n = some q)
    (hown : (s.pwr.tripped.filter (· != n)).contains (domQuad q) = false)
    (hgrist : (s.pwr.tripped.filter (· != n)).contains (domGrist q) = false) :
    execDroopRecover n clocks s = .next
      (({ s with pwr.tripped := s.pwr.tripped.filter (· != n), pwr.calmAt := s.pwr.calmAt.set q (some s.now) } : State).perf
        (tunSet q) 0x187 clocks) := by
  refine congrArg Host.Outcome.next ((if_pos htrip).trans ?_)
  dsimp only
  rw [hquad]
  exact congrArg (State.perf · (tunSet q) 0x187 clocks) (if_neg (ne_true_of_eq_false (congrArg₂ or hown hgrist)))

/-! ## Estimates and temperatures (R479, R480, R484) -/

/-- A window that ends in a powered domain shows its band, compares or refreshes, and shows its band again. -/
theorem execEstWindow_due {s t : State} {n e m : Nat} {whole cut : Bool} (hn : n ≤ 26) (hon : s.domOn n = true)
    (hdue : tabGet s.pwr.estAt (n, 0) 0 ≤ s.now)
    (ht : t = ({ s with pwr.estAt := tabSet s.pwr.estAt (n, 0) (s.now + msNs) 0 } : State).showCal n (loadBand n m)) :
    execEstWindow n e m whole cut s = .next
      ((if (whole && !cut && !t.calValid n) = true then
          (t.retake n (loadBand n m) { t.cal n with recal := Nat.min 1 (t.cal n).recal }).ev PWR_EVENT.BAND_REFRESH
        else if (cut || decide (m < 10)) = true then t else t.estCompare n e m).showCal n (loadBand n m)) := by
  subst ht
  exact congrArg Host.Outcome.next (if_neg (by simp [hn, hon, hdue]))

/-- Settles O15: each event that meets its conditions is one branch of its meaning. -/
theorem powerEvents : Obligations.PowerEvents := by
  unfold Obligations.PowerEvents
  refine ⟨fun _ => rfl, fun _ => rfl, fun _ => rfl, fun _ => rfl, ?recover, fun _ _ => rfl, ?tick, ?tickOver, ?unmet, ?oppStep,
    ?droopQuad, ?droopSingle, ?recoverQuad, ?recoverSingle, ?estimate, ?refresh, ?thermal, fun _ => rfl, ?hintOn, ?hintOff⟩
  case recover => exact fun s hlow => congrArg Host.Outcome.next (if_pos hlow)
  case tick =>
    intro s vin iin mj ds hboot hdue hunder
    refine (execCapTick_due hboot hdue rfl).trans (congrArg Host.Outcome.next (congrArg (State.capShown · _) (if_neg ?_)))
    simp [hunder]
  case tickOver =>
    intro s vin iin mj ds above hboot hdue hover
    exact (execCapTick_due hboot hdue rfl).trans (congrArg Host.Outcome.next (congrArg (State.capShown · _) (if_pos (Or.inl hover))))
  case unmet => exact fun s hlong hnot => congrArg Host.Outcome.next (if_pos ⟨hlong, hnot⟩)
  case oppStep => exact fun s q hq hon hlocked => congrArg Host.Outcome.next (if_pos ⟨hq, hon, hlocked⟩)
  case droopQuad => exact fun s n mv q hdet hon hcalm hlow hquad hqon => execDroopTrip_quad hdet hon hcalm hlow hquad hqon rfl
  case droopSingle => exact fun s n mv hdet hon hcalm hlow hquad => execDroopTrip_single hdet hon hcalm hlow hquad
  case recoverQuad => exact fun s n clocks q htrip hquad hown hgrist => execDroopRecover_quad htrip hquad hown hgrist
  case recoverSingle =>
    intro s n clocks htrip hquad
    refine congrArg Host.Outcome.next ((if_pos htrip).trans ?_)
    dsimp only
    rw [hquad]
  case estimate =>
    intro s n e m t hn hon hdue ht hload
    exact (execEstWindow_due hn hon hdue ht).trans (congrArg Host.Outcome.next (congrArg (State.showCal · n _) ((if_neg (by simp)).trans
      (if_neg (by simpa using hload)))))
  case refresh =>
    intro s n e m t hn hon hdue ht hbad
    exact (execEstWindow_due hn hon hdue ht).trans (congrArg Host.Outcome.next (congrArg (State.showCal · n _) (if_pos (by simp [hbad]))))
  case thermal =>
    intro s n x t hn hon hcool ht
    subst ht
    refine congrArg Host.Outcome.next ((if_neg (by simp [hn, hon])).trans ?_)
    exact congrArg (fun u : State => (u.retargetAll.showLim).showAlert) (if_neg (fun h => hcool h.1))
  case hintOn => exact fun s id hany => congrArg Host.Outcome.next (if_pos hany)
  case hintOff => exact fun s id hany => congrArg Host.Outcome.next (if_pos hany)

end Sys2Proof.Machine
end

section
/-! PROOFS. The events of the fault collector and the Malthouse's own faults (R492 to R498, R502): each row is one branch of its meaning.
-/
namespace Sys2Proof.Machine

/-- Settles O16: each event that meets its conditions is one branch of its meaning. -/
theorem faultEvents : Obligations.FaultEvents := by
  unfold Obligations.FaultEvents
  refine ⟨?collect, ?pulseEnd, ?histSel, ?lockstep, ?watchdog⟩
  case collect =>
    intro s w hnext
    refine congrArg Host.Outcome.next ?_
    rw [hnext]
  case pulseEnd => exact fun s hend => congrArg Host.Outcome.next (if_neg (Nat.not_lt.mpr hend))
  case histSel => exact fun _ _ _ => rfl
  case lockstep =>
    intro s pc hboot honce
    refine congrArg Host.Outcome.next ((if_neg (not_not_intro hboot)).trans ?_)
    simp only [decide_eq_false (Nat.not_le.mpr honce), Bool.false_eq_true, if_false]
  case watchdog => exact fun s hboot => congrArg Host.Outcome.next (if_neg (not_not_intro hboot))

end Sys2Proof.Machine
end

section
/-! PROOFS. The events of firmware and of the pins (R516 to R518, R524, R528, R534 to R543): each row is one branch of its meaning. -/
namespace Sys2Proof.Machine

/-! ## Check-in (R517, R518) -/

/-- A check-in names the slot ACTIVE, takes the image's base programs, at once in a mode without domains, and settles its activation. -/
theorem execFwCheckin_trial {s t u : State} {n : Nat} (hboot : s.life.boot = 0) (htrial : s.flag SVC_FW_STATUS.TRIAL = true)
    (hn : s.fld SVC_FW_STATUS.RUN_SLOT = n)
    (ht : t = { ((s.writeRec n none).setFld SVC_FW_STATUS.TRIAL 0 0).setFld SVC_FW_STATUS.CHECKIN_MS 0 0 with cmd.pause := false })
    (hu : u = if t.modeUp then t.changeBases (s.fwSlot n).hdr
      else { t with fw.baseId := hdrWord (s.fwSlot n).hdr 16, fw.tunId := hdrWord (s.fwSlot n).hdr 20 }) :
    execFwCheckin s = .next ({ u with fw.act := u.fw.act.map (fun (a : FwAct) => { a with fate := 3 }) } : State).actSettle := by
  subst hn
  refine congrArg Host.Outcome.next ((if_neg (by simp [hboot, htrial])).trans ?_)
  extract_lets n h checked shown cmd t' fw u'
  have hshown : t = { shown with cmd.pause := false } := ht
  clear_value shown
  have ht' : t' = t := hshown.symm
  have hu' : u' = u := by rw [hu, ← ht']
  clear_value u'
  subst hu'
  rfl

/-- An image's identifiers and its activation are kept apart. -/
theorem State.imageIds_act (s : State) (base tun : Nat) (f : FwAct → FwAct) :
    ({ ({ s with fw.baseId := base, fw.tunId := tun } : State) with
      fw.act := ({ s with fw.baseId := base, fw.tunId := tun } : State).fw.act.map f } : State) =
    { s with fw.baseId := base, fw.tunId := tun, fw.act := s.fw.act.map f } := rfl

/-! ## DFU (R524) -/

/-- An open download takes its next block: what it completes is written. -/
theorem execDfuDownload_open {s : State} {bytes : List Nat} (hboot : s.life.boot = 0) (husb : s.flag SVC_USB.CONFIGURED = true)
    (hsome : bytes ≠ []) (hlen : bytes.length ≤ 4096) (hopen : s.fld SVC_USB.DFU_STATE = 5) {t u : State}
    (ht : t = (s.setFld SVC_USB.DFU_STATE 0 5).setFld SVC_USB.DFU_STATUS 0 0) (hu : u = t.flashFails 0 (127 * t.dfuSlot + t.fw.parts)) :
    execDfuDownload bytes 0 s = .next (({ u with fw.dfu := u.fw.dfu ++ bytes.map (· % 256) } : State).dfuPart.dfuPart) := by
  subst hu ht
  have hno : (s.fld SVC_USB.DFU_STATE != 5) = false := by simp [hopen]
  refine congrArg Host.Outcome.next ((if_neg (by simp [hboot, husb, hsome, hlen])).trans ?_)
  dsimp only
  rw [hno, if_neg (by simp), if_neg Bool.false_ne_true, if_neg (by decide)]
  rfl

/-- A download that would open a session while a host holds one is refused. -/
theorem execDfuDownload_taken {s : State} {bytes : List Nat} (hboot : s.life.boot = 0) (husb : s.flag SVC_USB.CONFIGURED = true)
    (hsome : bytes ≠ []) (hlen : bytes.length ≤ 4096) (hclosed : s.fld SVC_USB.DFU_STATE ≠ 5) (hsession : s.fld SVC_FW_STATUS.SESSION = 1) :
    execDfuDownload bytes 0 s = .next (s.dfuError 3) :=
  congrArg Host.Outcome.next ((if_neg (by simp [hboot, husb, hsome, hlen])).trans (if_pos ⟨by simp [hclosed], hsession⟩))

section
variable {s : State} (hboot : s.life.boot = 0) (hopen : s.fld SVC_USB.DFU_STATE = 5) (hjobs : s.cmd.jobs = []) (hheld : s.cmd.heldReps = [])
  (hblocked : s.cmd.blocked = none) (hunits : s.units.any (fun e => e.2.held) = false) (htrial : s.flag SVC_FW_STATUS.TRIAL = false)
include hboot hopen hjobs hheld hblocked hunits htrial

/-- With nothing to wait for, the image downloaded is checked: it is whole, and then its signature (R515). -/
theorem execDfuManifest_checked {u : State} (hu : u = if s.fw.dfu.length ≠ 256 ∨ s.fw.parts = 0 ∨ (blockMissing (s.fwSlot s.dfuSlot)).isSome = true
      then s.dfuError 2
      else match s.sigCause (s.fwSlot s.dfuSlot) s.fw.dfu with
        | some 5 => s.dfuError 2
        | some _ => s.dfuError 0x0A
        | none => ({ s.verified s.dfuSlot s.fw.dfu with fw.dfu := [], fw.parts := 0 } : State).dfuRun s.dfuSlot) :
    execDfuManifest s = .next u := by
  subst hu
  exact congrArg Host.Outcome.next (if_neg (by simp [hboot, hopen, hjobs, hheld, hblocked, htrial]; simpa using hunits))

end

/-! ## JTAG (R542) -/

/-- In TEST the boundary-scan instructions are selected by their codes. -/
theorem State.jtagSelect_test {s : State} {code : Nat} (hmode : s.mode = mTEST)
    (hcode : [0x00, 0x02, 0x04, 0x05, 0x08, 0x09].contains code = true) : s.jtagSelect code = code := by
  have hne : code ≠ 1 := by rintro rfl; simp at hcode
  exact (if_neg hne).trans (if_pos ⟨hmode, hcode⟩)

/-- Settles O17: each event that meets its conditions is one branch of its meaning. -/
theorem firmwareAndPinEvents : Obligations.FirmwareAndPinEvents := by
  unfold Obligations.FirmwareAndPinEvents
  refine ⟨?checkinUp, ?checkinDown, ?checkinTimeout, ?download, ?refused, ?manifest, ?short, ?reset, ?release, ?scan, ?idcode, fun _ => rfl,
    ?mirror, ?alert, fun _ => rfl⟩
  case checkinUp =>
    intro s n t hboot htrial hn ht hup
    exact execFwCheckin_trial hboot htrial hn ht (if_pos hup).symm
  case checkinDown =>
    intro s n t hboot htrial hn ht hdown
    exact (execFwCheckin_trial hboot htrial hn ht (if_neg (ne_true_of_eq_false hdown)).symm).trans
      (congrArg (fun u : State => Host.Outcome.next u.actSettle) (t.imageIds_act _ _ _))
  case checkinTimeout =>
    intro s n hboot htrial hlate hn
    subst hn
    exact congrArg Host.Outcome.next (if_neg (by simp [hboot, htrial, hlate]))
  case download => exact fun s bytes hboot husb hsome hlen hopen => execDfuDownload_open hboot husb hsome hlen hopen rfl rfl
  case refused =>
    exact fun s bytes hboot husb hsome hlen hclosed hsession => execDfuDownload_taken hboot husb hsome hlen hclosed hsession
  case manifest =>
    intro s hboot hopen hjobs hheld hblocked hunits htrial hlen hparts hwhole
    exact execDfuManifest_checked hboot hopen hjobs hheld hblocked hunits htrial (if_neg (by simp [hlen, hparts, hwhole])).symm
  case short =>
    intro s hboot hopen hjobs hheld hblocked hunits htrial hlen
    exact execDfuManifest_checked hboot hopen hjobs hheld hblocked hunits htrial (if_pos (Or.inl hlen)).symm
  case reset => exact fun s => congrArg Host.Outcome.next (if_neg (by decide))
  case release => exact fun s pin lv hpin hlow => congrArg Host.Outcome.next (if_pos ⟨hpin, hlow⟩)
  case scan =>
    intro s code hmode hcode hir
    change execJtagInstruction code s = _
    unfold execJtagInstruction
    rw [State.jtagSelect_test hmode hcode]
    exact congrArg Host.Outcome.next (if_neg hir)
  case idcode => exact fun s hir => congrArg Host.Outcome.next (if_pos hir)
  case mirror =>
    intro s code w hboot hentry
    refine congrArg Host.Outcome.next ((if_neg hboot).trans ?_)
    rw [if_pos rfl, hentry]
    rfl
  case alert => exact fun s halert => congrArg Host.Outcome.next (if_pos halert)

end Sys2Proof.Machine
end

section
/-! PROOFS. The OTP never goes back (R515, R522): what every operation of the model leaves of the firmware state, and the two places
that write its OTP. `foo_fw` says that `foo` leaves the firmware state alone, `foo_otp` that it leaves the OTP alone. -/
namespace Sys2Proof.Machine

/-! ## The firmware state and its OTP -/

/-- The state an outcome leads to, and a default where there is none. -/
def nextOf (d : State) : Host.Outcome State Fault Refusal → State
  | .next t => t
  | _ => d

/-- What the OTP holds of the firmware state (R515): the key hashes, MIN_SVN, the revocation bits. -/
def FwSt.otp (f : FwSt) : List Nat × Nat × List Bool := (f.keys, f.minSvn, f.rev)

/-- A write of a register, a counter, a unit or the output leaves the firmware state alone, a branch leaves alone what both of
its sides do. One conjunction, so that `simp` rewrites with it step by step: taken as the definitional equations they are, a
chain of writes sends the kernel into the register table. -/
theorem fw_rules :
    (∀ (s : State) r i w, (s.setReg r i w).fw = s.fw) ∧ (∀ (s : State) f i v, (s.setFld f i v).fw = s.fw) ∧
    (∀ (s : State) f i, (s.ev f i).fw = s.fw) ∧ (∀ (s : State) f i n, (s.satFld f i n).fw = s.fw) ∧
    (∀ (s : State) f i v, (s.maxFld f i v).fw = s.fw) ∧ (∀ (s : State) r i v, (s.setCnt r i v).fw = s.fw) ∧
    (∀ (s : State) r i n, (s.bump r i n).fw = s.fw) ∧ (∀ (s : State) o, (s.emit o).fw = s.fw) ∧ (∀ s : State, s.drawn.fw = s.fw) ∧
    (∀ (s : State) t u, (s.setUnit t u).fw = s.fw) ∧ (∀ (s : State) t h, (s.setHeld t h).fw = s.fw) ∧
    (∀ (s : State) t m inj, (s.notePerm t m inj).fw = s.fw) ∧ (∀ (s : State) e, (s.unplant e).fw = s.fw) ∧
    (∀ (c : Prop) [Decidable c] (s t : State), (if c then s else t).fw = if c then s.fw else t.fw) ∧
    (∀ (α : Type) (c : Prop) [Decidable c] (p q : State × α), (if c then p else q).1 = if c then p.1 else q.1) ∧
    (∀ (c : Prop) [Decidable c] (f : FwSt), (if c then f else f) = f) ∧ ∀ d t, nextOf d (.next t) = t := by
  simp only [State.setReg_fw, State.setFld_fw, State.ev_fw, State.satFld_fw, State.maxFld_fw, State.setCnt_fw, State.bump_fw,
    State.emit_fw, State.drawn_fw, State.setUnit_fw, State.setHeld_fw, State.notePerm_fw, State.unplant_fw, implies_true, true_and,
    ite_self, nextOf, and_true]
  exact ⟨fun c _ s t => apply_ite State.fw c s t, fun _ c _ p q => apply_ite Prod.fst c p q⟩

/-- The fields of the firmware state beside the OTP's do not show in it, and a branch shows what both of its sides do. -/
theorem otp_rules :
    (∀ (f : FwSt) a b c d e g h i j,
      ({ f with slots := a, rec0 := b, rec1 := c, act := d, dfu := e, parts := g, baseId := h, tunId := i, trialAt := j } : FwSt).otp = f.otp) ∧
    (∀ (c : Prop) [Decidable c] (f g : FwSt), (if c then f else g).otp = if c then f.otp else g.otp) ∧
    ∀ (c : Prop) [Decidable c] (x : List Nat × Nat × List Bool), (if c then x else x) = x :=
  ⟨fun _ _ _ _ _ _ _ _ _ _ => by simp only [FwSt.otp], fun c _ f g => apply_ite FwSt.otp c f g, fun _ _ _ => ite_self _⟩

theorem eachIn_fw {α : Type} {f : State → α → State} {l : List α} {s : State} (h : ∀ s a, (f s a).fw = s.fw) :
    (eachIn l s f).fw = s.fw := eachIn_frame State.fw l s f h

theorem foldl_fst_fw {α β : Type} {f : State × β → α → State × β} {l : List α} {p : State × β} (h : ∀ p a, (f p a).1.fw = p.1.fw) :
    (l.foldl f p).1.fw = p.1.fw := eachIn_frame (fun p => p.1.fw) l p f h

theorem eachIn_otp {α : Type} {f : State → α → State} {l : List α} {s : State} (h : ∀ s a, (f s a).fw.otp = s.fw.otp) :
    (eachIn l s f).fw.otp = s.fw.otp := eachIn_frame (fun s => s.fw.otp) l s f h

/-- What holds of an operation's state holds of the state that a match on its result names. -/
theorem fw_of_eq {α : Type} {q : State × α} {s t : State} {a : α} (h : q = (t, a)) (hq : q.1.fw = s.fw) : t.fw = s.fw := by
  rwa [h] at hq

theorem Framed.fw {k : Scope} {l : List Reg} {s t : State} (hk : ∀ s t, (k.take s t).fw = s.fw) (h : Framed k l s t) :
    t.fw = s.fw := (congrArg State.fw h.1).trans (hk s t)

/-! ## Shared operations: unit states, events, interrupts -/

theorem State.showUst_fw (s : State) (t u : Nat) : (s.showUst t u).fw = s.fw := by unfold State.showUst; split <;> simp only [fw_rules]
theorem State.setUst_fw (s : State) (t u cause : Nat) : (s.setUst t u cause).fw = s.fw := by simp only [State.setUst, fw_rules, State.showUst_fw]
theorem State.retire_fw (s : State) (t cause : Nat) : (s.retire t cause).fw = s.fw := by simp only [State.retire, fw_rules, State.setUst_fw]
theorem State.macSend_fw (s : State) (p : Nat) (bytes : List Nat) (stomp : Bool) : (s.macSend p bytes stomp).fw = s.fw := by
  simp only [State.macSend, fw_rules]
theorem State.deliver_fw (s : State) (e : FltEv) : (s.deliver e).fw = s.fw := by simp only [State.deliver, fw_rules]
theorem State.raise_fw (s : State) (code cls target detail : Nat) (inj : Bool) : (s.raise code cls target detail inj).fw = s.fw := by
  simp only [State.raise, State.deliver_fw]
theorem State.tellWait_fw (s : State) (code target waitUs : Nat) : (s.tellWait code target waitUs).fw = s.fw := by simp only [State.tellWait]
theorem State.msix_fw (s : State) (v : Nat) : (s.msix v).fw = s.fw := by simp only [State.msix, fw_rules]

/-! ## Performance counters -/

theorem State.perfAdd_fw (s : State) (p : PerfSet) (i n : Nat) : (s.perfAdd p i n).fw = s.fw := by simp only [State.perfAdd, fw_rules]
theorem State.perf_fw (s : State) (p : PerfSet) (code : Nat) (n : Nat) : (s.perf p code n).fw = s.fw := by
  simp only [State.perf, fw_rules, State.perfAdd_fw, eachIn_fw, implies_true]

/-! ## Records of frames and streams -/

theorem State.setTframe_fw (s : State) (i : Nat) (f : TFrame) : (s.setTframe i f).fw = s.fw := by simp only [State.setTframe]
theorem State.setTqueue_fw (s : State) (q : Nat) (v : TQueue) : (s.setTqueue q v).fw = s.fw := by simp only [State.setTqueue]
theorem State.setStream_fw (s : State) (i : Nat) (v : Stream) : (s.setStream i v).fw = s.fw := by simp only [State.setStream]
theorem State.gapAdd_fw (s : State) (i : Nat) (h : Gap) : (s.gapAdd i h).fw = s.fw := by simp only [State.gapAdd, fw_rules, State.setStream_fw]
theorem State.lostUnnumbered_fw (s : State) (i n : Nat) : (s.lostUnnumbered i n).fw = s.fw := by
  simp only [State.lostUnnumbered, fw_rules, State.gapAdd_fw]
theorem State.showBacklog_fw (s : State) (i : Nat) : (s.showBacklog i).fw = s.fw := by simp only [State.showBacklog, fw_rules]
theorem State.putRecord_fw (s : State) (q : Nat) (rec : List Nat) : (s.putRecord q rec).fw = s.fw := by
  simp only [State.putRecord, fw_rules, State.showBacklog_fw, State.setStream_fw, State.perf_fw, State.lostUnnumbered_fw]
theorem State.recordPick_fw (s : State) (f : TFrame) (soj : Nat) : (s.recordPick f soj).fw = s.fw := by
  simp only [State.recordPick, fw_rules, State.putRecord_fw]
theorem State.recordTrace_fw (s : State) (f : TFrame) : (s.recordTrace f).fw = s.fw := by
  simp only [State.recordTrace, fw_rules, State.putRecord_fw]
theorem State.lostExport_fw (s : State) (f : TFrame) : (s.lostExport f).fw = s.fw := by unfold State.lostExport; split <;> rfl
theorem State.tunDrop_fw (s : State) (f : TFrame) (reason : Nat) : (s.tunDrop f reason).fw = s.fw := by
  simp only [State.tunDrop, fw_rules, State.lostExport_fw, State.putRecord_fw]
theorem State.countSent_fw (s : State) (f : TFrame) (soj : Nat) : (s.countSent f soj).fw = s.fw := by simp only [State.countSent, fw_rules]

/-! ## Replies and the life of a command -/

theorem State.showFull_fw (s : State) : s.showFull.fw = s.fw := by simp only [State.showFull, fw_rules]
theorem State.cqIrq_fw (s : State) : s.cqIrq.fw = s.fw := by simp only [State.cqIrq, fw_rules, State.msix_fw]
theorem State.coalesce_fw (s : State) : s.coalesce.fw = s.fw := by simp only [State.coalesce, State.cqIrq_fw]
theorem State.putResults_fw (s : State) (p : Packet) (r : Rep) : (s.putResults p r).fw = s.fw := by simp only [State.putResults, fw_rules]
theorem State.writeCq_fw (s : State) (p : Packet) (r : Rep) : (s.writeCq p r).fw = s.fw := by
  simp only [State.writeCq, fw_rules, State.showFull_fw, State.coalesce_fw, State.putResults_fw]
theorem State.settleRun_fw (s : State) : s.settleRun.fw = s.fw := by simp only [State.settleRun, fw_rules, State.showFull_fw]
theorem State.send_fw (s : State) (p : Packet) (r : Rep) : (s.send p r).fw = s.fw := by simp only [State.send, fw_rules, State.writeCq_fw]
theorem State.reply_fw (s : State) (p : Packet) (r : Rep) : (s.reply p r).fw = s.fw := by
  simp only [State.reply, fw_rules, State.send_fw, State.settleRun_fw, State.putResults_fw]
theorem State.setJobs_fw (s : State) (js : List Job) : (s.setJobs js).fw = s.fw := by simp only [State.setJobs, fw_rules]
theorem State.addJob_fw (s : State) (p : Packet) (st : JobStage) : (s.addJob p st).fw = s.fw := by
  simp only [State.addJob, State.reply_fw, State.setJobs_fw]
theorem State.block_fw (s : State) (p : Packet) (w : BlockWhy) : (s.block p w).fw = s.fw := by simp only [State.block]
theorem runEff_keeps {β : Type} (g : FwSt → β) {eff : Eff} {p : Packet} {s : State} (h : g (eff p s).1.fw = g s.fw) :
    g (runEff eff p s).1.fw = g s.fw := by
  unfold runEff
  split
  · rfl
  · dsimp only
    split
    · rfl
    · split
      · rfl
      · exact h
theorem State.start_keeps {β : Type} (g : FwSt → β) {eff : Eff} {p : Packet} (h : ∀ s : State, g (eff p s).1.fw = g s.fw) (s : State) :
    g (s.start eff p).fw = g s.fw := by
  have hq := runEff_keeps g (h s)
  unfold State.start
  dsimp only
  repeat' split
  all_goals simp only [State.addJob_fw, State.block_fw, State.reply_fw, hq]
theorem State.letRun_keeps {β : Type} (g : FwSt → β) {eff : Eff} {p : Packet} (h : ∀ s : State, g (eff p s).1.fw = g s.fw) (s : State) :
    g (s.letRun eff p).fw = g s.fw := by
  unfold State.letRun
  repeat' split
  all_goals simp only [State.addJob_fw, State.block_fw, State.reply_fw, State.start_keeps g h]
theorem State.take_fw (s : State) : s.take.fw = s.fw := by unfold State.take; split <;> simp only [fw_rules]
theorem State.command_keeps {β : Type} (g : FwSt → β) {eff : Eff} {p : Packet} (h : ∀ s : State, g (eff p s).1.fw = g s.fw) (s : State)
    (code : Nat) : g (s.command code eff p).fw = g s.fw := by
  unfold State.command
  dsimp only
  repeat' split
  all_goals simp only [State.block_fw, State.letRun_keeps g h, State.take_fw]
theorem State.finishJob_fw (s : State) (code : Nat) (sel : Packet → Bool) (r : Rep) : (s.finishJob code sel r).fw = s.fw := by
  unfold State.finishJob; split <;> simp only [State.reply_fw, State.setJobs_fw]
theorem State.finish_fw (s : State) (code : Nat) (sel : Packet → Bool) (r : Rep) : (s.finish code sel r).fw = s.fw := by
  unfold State.finish; split <;> simp only [fw_rules, State.reply_fw, State.finishJob_fw]

/-! ## Links: lanes, twigs and ports -/

theorem State.setLane_fw (s : State) (l : Nat) (v : Lane) : (s.setLane l v).fw = s.fw := by simp only [State.setLane]
theorem State.setTwig_fw (s : State) (t : Nat) (v : Twig) : (s.setTwig t v).fw = s.fw := by simp only [State.setTwig]
theorem State.setPort_fw (s : State) (p : Nat) (v : Port) : (s.setPort p v).fw = s.fw := by simp only [State.setPort]
theorem State.showLanesUp_fw (s : State) (p : Nat) : (s.showLanesUp p).fw = s.fw := by simp only [State.showLanesUp, fw_rules]
theorem State.showLpi_fw (s : State) (p : Nat) : (s.showLpi p).fw = s.fw := by simp only [State.showLpi, fw_rules]
theorem State.showTx_fw (s : State) (l : Nat) (old : LaneTx) : (s.showTx l old).fw = s.fw := by simp only [State.showTx, fw_rules]
theorem State.showTwigTx_fw (s old : State) (i : Nat) : (s.showTwigTx old i).fw = s.fw := by
  simp only [State.showTwigTx, fw_rules, State.showTx_fw, eachIn_fw, implies_true]
theorem State.showSynce_fw (s : State) : s.showSynce.fw = s.fw := Framed.fw (fun _ _ => rfl) (State.showSynce_framed _)
theorem State.idleBegins_fw (s : State) (t : Nat) (was : Bool) : (s.idleBegins t was).fw = s.fw := by
  simp only [State.idleBegins, fw_rules, State.setTwig_fw]
theorem State.setLState_fw (s : State) (l ls cause : Nat) : (s.setLState l ls cause).fw = s.fw := by
  simp only [State.setLState, fw_rules, State.showSynce_fw, State.setUst_fw, State.idleBegins_fw]
  split <;> simp only [fw_rules, State.setLane_fw, State.showLpi_fw, State.showTx_fw, State.showLanesUp_fw]
theorem State.lockLost_fw (s : State) (l : Nat) : (s.lockLost l).fw = s.fw := by simp only [State.lockLost, fw_rules, State.raise_fw]
theorem State.linkChanged_fw (s : State) (p : Nat) : (s.linkChanged p).fw = s.fw := by simp only [State.linkChanged, fw_rules, State.msix_fw]
theorem State.linkDown_fw (s : State) (p : Nat) : (s.linkDown p).fw = s.fw := by simp only [State.linkDown, fw_rules, State.linkChanged_fw]
theorem State.linkUp_fw (s : State) (p : Nat) : (s.linkUp p).fw = s.fw := by simp only [State.linkUp, fw_rules, State.linkChanged_fw]
theorem State.wdRun_fw (s : State) (p : Nat) : (s.wdRun p).fw = s.fw := by simp only [State.wdRun, fw_rules, eachIn_fw, implies_true]
theorem State.setPState_fw (s : State) (p st : Nat) : (s.setPState p st).fw = s.fw := by
  simp only [State.setPState, fw_rules, State.linkUp_fw, State.setPort_fw, State.linkDown_fw, State.wdRun_fw, State.setUst_fw, eachIn_fw,
    implies_true]
theorem State.laneEnable_fw (s : State) (l : Nat) : (s.laneEnable l).fw = s.fw := by
  simp only [State.laneEnable, fw_rules, State.setLState_fw, State.setLane_fw]
theorem State.laneDown_fw (s : State) (l cause : Nat) : (s.laneDown l cause).fw = s.fw := by
  simp only [State.laneDown, fw_rules, State.setLState_fw, State.setLane_fw]
theorem State.faultBegins_fw (s : State) (p : Nat) : (s.faultBegins p).fw = s.fw := by simp only [State.faultBegins, fw_rules, State.setPort_fw]
theorem State.localFault_fw (s : State) (p : Nat) : (s.localFault p).fw = s.fw := by simp only [State.localFault, fw_rules, State.faultBegins_fw]
theorem State.portFault_fw (s : State) (p : Nat) : (s.portFault p).fw = s.fw := by simp only [State.portFault, fw_rules, State.setPState_fw]
theorem State.portOn_fw (s : State) (p : Nat) : (s.portOn p).fw = s.fw := by
  simp only [State.portOn, fw_rules, State.setPort_fw, State.laneEnable_fw, State.setPState_fw, State.localFault_fw, eachIn_fw, implies_true]
theorem State.portOff_fw (s : State) (p cause : Nat) : (s.portOff p cause).fw = s.fw := by
  simp only [State.portOff, fw_rules, State.setPort_fw, State.laneDown_fw, State.setPState_fw, eachIn_fw, implies_true]
theorem State.localFaultStart_fw (s : State) (p : Nat) : (s.localFaultStart p).fw = s.fw := by
  simp only [State.localFaultStart, fw_rules, State.localFault_fw, State.portFault_fw]
theorem State.portProgress_fw (s : State) (p : Nat) : (s.portProgress p).fw = s.fw := by
  simp only [State.portProgress, fw_rules, State.setPState_fw]
theorem State.lanesDown_fw (s : State) (p cause : Nat) : (s.lanesDown p cause).fw = s.fw := by
  simp only [State.lanesDown, State.laneDown_fw, eachIn_fw, implies_true]
theorem State.setTwigSetting_fw (s : State) (t setting : Nat) : (s.setTwigSetting t setting).fw = s.fw :=
  Framed.fw (fun _ _ => rfl) (State.setTwigSetting_framed _ _ _)
theorem State.takeSetting_fw (s : State) (t : Nat) : (s.takeSetting t).fw = s.fw := by
  unfold State.takeSetting; split <;> simp only [State.setTwig_fw]

/-! ## Lanes -/

theorem State.sendFrame_fw (s : State) (l : Nat) (eidle : Bool) (count : Nat) : (s.sendFrame l eidle count).fw = s.fw := by
  simp only [State.sendFrame, fw_rules, State.setLane_fw]
theorem State.trainSend_fw (s : State) (l : Nat) : (s.trainSend l).fw = s.fw := by
  simp only [State.trainSend, fw_rules, State.setLane_fw, State.sendFrame_fw]
theorem State.applyCfg_fw (s : State) (l : Nat) : (s.applyCfg l).fw = s.fw := by simp only [State.applyCfg, fw_rules, State.setLane_fw]
theorem State.enterTrain_fw (s : State) (l : Nat) : (s.enterTrain l).fw = s.fw := by
  simp only [State.enterTrain, fw_rules, State.setLState_fw, State.setLane_fw, State.trainSend_fw, State.applyCfg_fw]
theorem State.enterHunt_fw (s : State) (l : Nat) : (s.enterHunt l).fw = s.fw := by
  simp only [State.enterHunt, fw_rules, State.setLState_fw, State.applyCfg_fw]
theorem State.attemptFailed_fw (s : State) (l : Nat) : (s.attemptFailed l).fw = s.fw := by
  simp only [State.attemptFailed, fw_rules, State.setLState_fw, State.setLane_fw, State.raise_fw]
theorem State.flipPolarity_fw (s : State) (l : Nat) : (s.flipPolarity l).fw = s.fw := by simp only [State.flipPolarity, fw_rules]
theorem State.laneUp_fw (s : State) (l : Nat) : (s.laneUp l).fw = s.fw := by
  simp only [State.laneUp, fw_rules, State.setLState_fw, State.setLane_fw]
theorem State.laneFault_fw (s : State) (l : Nat) : (s.laneFault l).fw = s.fw := by
  unfold State.laneFault; split <;> simp only [State.localFaultStart_fw]
theorem State.laneCal_fw (s : State) (l : Nat) (pass : Bool) : (s.laneCal l pass).fw = s.fw := by
  simp only [State.laneCal, fw_rules, State.retire_fw, State.showTx_fw, State.setUst_fw]
@[simp] theorem execLaneSignalDetect_fw (l : Nat) (s : State) : (nextOf s (execLaneSignalDetect l s)).fw = s.fw := by
  simp only [execLaneSignalDetect, fw_rules, State.enterHunt_fw, State.enterTrain_fw]
@[simp] theorem execLaneSignalLoss_fw (l : Nat) (s : State) : (nextOf s (execLaneSignalLoss l s)).fw = s.fw := by
  simp only [execLaneSignalLoss, fw_rules, State.setLState_fw, State.laneFault_fw, State.lockLost_fw]
theorem State.answerRequest_fw (s : State) (l info : Nat) : (s.answerRequest l info).fw = s.fw := by
  simp only [State.answerRequest, fw_rules, State.setLane_fw]
theorem State.goodFrame_fw (s : State) (l info : Nat) : (s.goodFrame l info).fw = s.fw := by
  simp only [State.goodFrame, fw_rules, State.setLane_fw, State.trainSend_fw, State.answerRequest_fw]
@[simp] theorem execLaneTrainFrame_fw (l info : Nat) (marker inverted : Bool) (s : State) :
    (nextOf s (execLaneTrainFrame l info marker inverted s)).fw = s.fw := by
  simp only [execLaneTrainFrame, fw_rules, State.setLane_fw, State.trainSend_fw, State.goodFrame_fw, State.flipPolarity_fw, State.attemptFailed_fw]
theorem State.trainAdapt_fw (s : State) (l : Nat) (eq : List Int) : (s.trainAdapt l eq).fw = s.fw := by
  simp only [State.trainAdapt, fw_rules, State.setLane_fw]
theorem State.countdown_fw (s : State) (l : Nat) : (s.countdown l).fw = s.fw := by
  simp only [State.countdown, State.trainSend_fw, eachIn_fw, implies_true]
@[simp] theorem execLaneTrainPhaseEnd_fw (e : TrainEnd) (s : State) : (nextOf s (execLaneTrainPhaseEnd e s)).fw = s.fw := by
  simp only [execLaneTrainPhaseEnd, fw_rules, State.trainAdapt_fw, State.setLane_fw, State.enterHunt_fw, State.countdown_fw]
@[simp] theorem execLaneTrainTimeout_fw (l : Nat) (s : State) : (nextOf s (execLaneTrainTimeout l s)).fw = s.fw := by
  simp only [execLaneTrainTimeout, fw_rules, State.attemptFailed_fw]
theorem State.subLock_fw (s : State) (l sub num : Nat) : (s.subLock l sub num).fw = s.fw := by simp only [State.subLock, State.setLane_fw]
theorem State.hunted_fw (s : State) (l : Nat) : (s.hunted l).fw = s.fw := by
  simp only [State.hunted]
  split <;> simp only [fw_rules, State.laneUp_fw, State.portProgress_fw]
theorem State.slip_fw (s : State) (l : Nat) : (s.slip l).fw = s.fw := by simp only [State.slip, State.setLane_fw]
@[simp] theorem execLaneLock_fw (l : Nat) (m : MarkerSeen) (inverted : Bool) (s : State) : (nextOf s (execLaneLock l m inverted s)).fw = s.fw := by
  simp only [execLaneLock, fw_rules, State.hunted_fw, State.setLState_fw, State.showTx_fw, State.slip_fw, State.laneFault_fw, State.subLock_fw,
    State.flipPolarity_fw]
@[simp] theorem execLaneHuntTimeout_fw (l : Nat) (s : State) : (nextOf s (execLaneHuntTimeout l s)).fw = s.fw := by
  simp only [execLaneHuntTimeout, fw_rules, State.attemptFailed_fw]
@[simp] theorem execLaneLockLoss_fw (e : LossSeen) (s : State) : (nextOf s (execLaneLockLoss e s)).fw = s.fw := by
  simp only [execLaneLockLoss, fw_rules, State.setLState_fw, State.laneFault_fw, State.lockLost_fw]
@[simp] theorem execLaneRetryTimer_fw (l : Nat) (s : State) : (nextOf s (execLaneRetryTimer l s)).fw = s.fw := by
  simp only [execLaneRetryTimer, fw_rules, State.setLState_fw, State.setLane_fw]
theorem State.readaptEnd_fw (s : State) (l : Nat) : (s.readaptEnd l).fw = s.fw := by simp only [State.readaptEnd, fw_rules]
theorem State.fomTests_fw (s : State) (l : Nat) (overlapped : Bool) : (s.fomTests l overlapped).fw = s.fw := by
  simp only [State.fomTests, fw_rules, State.setLane_fw]
theorem State.stepVerdict_fw (s : State) (l : Nat) : (s.stepVerdict l).fw = s.fw := by simp only [State.stepVerdict, fw_rules, State.setLane_fw]
theorem State.fomUp_fw (s : State) (l f : Nat) (overlapped : Bool) : (s.fomUp l f overlapped).fw = s.fw := by
  simp only [State.fomUp, fw_rules, State.fomTests_fw, State.stepVerdict_fw]
theorem State.tapsTrack_fw (s : State) (l : Nat) (moves : List Int) : (s.tapsTrack l moves).fw = s.fw := by
  simp only [State.tapsTrack, fw_rules, State.setLane_fw]
@[simp] theorem execFomWindowEnd_fw (l a : Nat) (m : FomSeen) (s : State) : (nextOf s (execFomWindowEnd l a m s)).fw = s.fw := by
  simp only [execFomWindowEnd, fw_rules, State.setLane_fw, State.tapsTrack_fw, State.fomUp_fw]
theorem State.ctleStep_fw (s : State) (l : Nat) (up : Bool) : (s.ctleStep l up).fw = s.fw := by simp only [State.ctleStep, fw_rules]
theorem State.vgaStep_fw (s : State) (l : Nat) (up : Bool) : (s.vgaStep l up).fw = s.fw := by simp only [State.vgaStep, State.setLane_fw]
theorem State.eqStep_fw (s : State) (l which : Nat) (up : Bool) : (s.eqStep l which up).fw = s.fw := by
  simp only [State.eqStep, fw_rules, State.ctleStep_fw, State.vgaStep_fw]
theorem State.readaptPoint_fw (s : State) (l which : Nat) (up : Bool) : (s.readaptPoint l which up).fw = s.fw := by
  simp only [State.readaptPoint, fw_rules, State.setLane_fw, State.eqStep_fw, State.readaptEnd_fw]
@[simp] theorem execLaneSafePoint_fw (l which : Nat) (up : Bool) (s : State) : (nextOf s (execLaneSafePoint l which up s)).fw = s.fw := by
  simp only [execLaneSafePoint, fw_rules, State.setLane_fw, State.eqStep_fw, State.readaptPoint_fw]
@[simp] theorem execLaneLpiEntry_fw (l : Nat) (s : State) : (nextOf s (execLaneLpiEntry l s)).fw = s.fw := by
  simp only [execLaneLpiEntry, fw_rules]
  repeat' split
  all_goals simp only [fw_rules, State.setLState_fw]
theorem State.eachLaneIn_fw (s : State) (p ls : Nat) {f : State → Nat → State} (h : ∀ s l, (f s l).fw = s.fw) :
    (s.eachLaneIn p ls f).fw = s.fw := by
  simp only [State.eachLaneIn, eachIn_fw, fw_rules, h, implies_true]
theorem State.steepQuiet_fw (s : State) (l : Nat) : (s.steepQuiet l).fw = s.fw := by
  simp only [State.steepQuiet, State.setLState_fw, State.setLane_fw, State.sendFrame_fw]
theorem State.steepEnter_fw (s : State) (p : Nat) : (s.steepEnter p).fw = s.fw := by
  simp only [State.steepEnter, fw_rules, State.eachLaneIn_fw, State.steepQuiet_fw, implies_true]
theorem State.sendBurst_fw (s : State) (l : Nat) : (s.sendBurst l).fw = s.fw := by
  simp only [State.sendBurst, fw_rules, State.setLane_fw, State.sendFrame_fw, eachIn_fw, implies_true]
theorem State.burst_fw (s : State) (p : Nat) : (s.burst p).fw = s.fw := by simp only [State.burst, State.sendBurst_fw, eachIn_fw, implies_true]
@[simp] theorem execSteepEntry_fw (p : Nat) (s : State) : (nextOf s (execSteepEntry p s)).fw = s.fw := by
  simp only [execSteepEntry, fw_rules, State.steepEnter_fw]
@[simp] theorem execSteepEidleRx_fw (p : Nat) (s : State) : (nextOf s (execSteepEidleRx p s)).fw = s.fw := by
  simp only [execSteepEidleRx, fw_rules, State.steepEnter_fw]
theorem State.wakeLane_fw (s : State) (l : Nat) : (s.wakeLane l).fw = s.fw := by simp only [State.wakeLane, fw_rules, State.setLState_fw]
theorem State.wakePort_fw (s : State) (p : Nat) : (s.wakePort p).fw = s.fw := by
  simp only [State.wakePort, fw_rules, State.burst_fw, State.wakeLane_fw, eachIn_fw, implies_true]
@[simp] theorem execSteepBurstRx_fw (p : Nat) (s : State) : (nextOf s (execSteepBurstRx p s)).fw = s.fw := by
  simp only [execSteepBurstRx, fw_rules, State.wakePort_fw]
@[simp] theorem execLaneWakeRequest_fw (l : Nat) (s : State) : (nextOf s (execLaneWakeRequest l s)).fw = s.fw := by
  simp only [execLaneWakeRequest, fw_rules]
  repeat' split
  all_goals simp only [State.burst_fw, State.wakeLane_fw, eachIn_fw, implies_true]
@[simp] theorem execSteepStaleTimer_fw (p : Nat) (s : State) : (nextOf s (execSteepStaleTimer p s)).fw = s.fw := by
  simp only [execSteepStaleTimer, fw_rules, State.wakePort_fw]
@[simp] theorem execLaneWakeLimit_fw (l : Nat) (s : State) : (nextOf s (execLaneWakeLimit l s)).fw = s.fw := by
  simp only [execLaneWakeLimit, fw_rules]
  repeat' split
  all_goals simp only [fw_rules, State.setLState_fw, State.localFaultStart_fw, State.setLane_fw, State.portFault_fw]
@[simp] theorem execTwigDeepDoze_fw (t : Nat) (s : State) : (nextOf s (execTwigDeepDoze t s)).fw = s.fw := by
  simp only [execTwigDeepDoze, fw_rules, State.setUst_fw, eachIn_fw, implies_true]
@[simp] theorem execPrbsCheckerLock_fw (e : CheckerBits) (s : State) : (nextOf s (execPrbsCheckerLock e s)).fw = s.fw := by
  simp only [execPrbsCheckerLock, fw_rules]
@[simp] theorem execPrbsCheckerLockLoss_fw (l bits : Nat) (errs : List Nat) (s : State) :
    (nextOf s (execPrbsCheckerLockLoss l bits errs s)).fw = s.fw := by
  simp only [execPrbsCheckerLockLoss, fw_rules]
theorem State.laneTest1_fw (s : State) (p : Packet) (l : Nat) : (s.laneTest1 p l).fw = s.fw := by
  simp only [State.laneTest1, fw_rules, State.setLState_fw, State.setLane_fw, State.showTx_fw]
theorem effLaneTest_fw (p : Packet) (s : State) : (effLaneTest p s).1.fw = s.fw := by
  unfold effLaneTest; split <;> simp only [fw_rules, State.laneTest1_fw, eachIn_fw, implies_true]
@[simp] theorem execLaneTest_fw (p : Packet) (s : State) : (nextOf s (execLaneTest p s)).fw = s.fw :=
  State.command_keeps (fun f => f) (effLaneTest_fw p) s _
theorem effEyeScan_fw (p : Packet) (s : State) : (effEyeScan p s).1.fw = s.fw := Framed.fw (fun _ _ => rfl) (effEyeScan_framed _ _)
theorem State.eyeScanEnd_fw (s : State) (p : Packet) : (s.eyeScanEnd p).fw = s.fw := by
  simp only [State.eyeScanEnd, fw_rules, State.setLane_fw, State.finish_fw]
@[simp] theorem execEyeScan_fw (p : Packet) (s : State) : (nextOf s (execEyeScan p s)).fw = s.fw :=
  State.command_keeps (fun f => f) (effEyeScan_fw p) s _
theorem effLaneCfg_fw (p : Packet) (s : State) : (effLaneCfg p s).1.fw = s.fw := Framed.fw (fun _ _ => rfl) (effLaneCfg_framed _ _)
@[simp] theorem execLaneCfg_fw (p : Packet) (s : State) : (nextOf s (execLaneCfg p s)).fw = s.fw :=
  State.command_keeps (fun f => f) (effLaneCfg_fw p) s _
theorem effLaneFom_fw (p : Packet) (s : State) : (effLaneFom p s).1.fw = s.fw := by simp only [effLaneFom]
@[simp] theorem execLaneFom_fw (p : Packet) (s : State) : (nextOf s (execLaneFom p s)).fw = s.fw :=
  State.command_keeps (fun f => f) (effLaneFom_fw p) s _

/-! ## Ports -/

theorem State.setPair_fw (s : State) (b : Nat) (c : Option PairCommit) : (s.setPair b c).fw = s.fw := by simp only [State.setPair]
theorem State.pairMismatch_fw (s : State) (b g : Nat) : (s.pairMismatch b g).fw = s.fw := by
  simp only [State.pairMismatch, fw_rules, State.raise_fw]
theorem effPortEnable_fw (p : Packet) (s : State) : (effPortEnable p s).1.fw = s.fw := Framed.fw (fun _ _ => rfl) (effPortEnable_framed _ _)
theorem effPortStatus_fw (p : Packet) (s : State) : (effPortStatus p s).1.fw = s.fw := by unfold effPortStatus; split <;> rfl
theorem effPfcCfg_fw (p : Packet) (s : State) : (effPfcCfg p s).1.fw = s.fw := Framed.fw (fun _ _ => rfl) (effPfcCfg_framed _ _)
theorem effPtpCfg_fw (p : Packet) (s : State) : (effPtpCfg p s).1.fw = s.fw := Framed.fw (fun _ _ => rfl) (effPtpCfg_framed _ _)
@[simp] theorem execPortEnable_fw (p : Packet) (s : State) : (nextOf s (execPortEnable p s)).fw = s.fw :=
    State.command_keeps (fun f => f) (effPortEnable_fw p) s _
@[simp] theorem execPortStatus_fw (p : Packet) (s : State) : (nextOf s (execPortStatus p s)).fw = s.fw :=
    State.command_keeps (fun f => f) (effPortStatus_fw p) s _
@[simp] theorem execPfcCfg_fw (p : Packet) (s : State) : (nextOf s (execPfcCfg p s)).fw = s.fw :=
  State.command_keeps (fun f => f) (effPfcCfg_fw p) s _
@[simp] theorem execPtpCfg_fw (p : Packet) (s : State) : (nextOf s (execPtpCfg p s)).fw = s.fw :=
  State.command_keeps (fun f => f) (effPtpCfg_fw p) s _
theorem State.portTaken_fw (s : State) (p : Nat) : (s.portTaken p).fw = s.fw := by
  simp only [State.portTaken, fw_rules, State.setPState_fw, State.localFault_fw]
@[simp] theorem execPortAligned_fw (p : Nat) (s : State) : (nextOf s (execPortAligned p s)).fw = s.fw := by
  simp only [execPortAligned, fw_rules, State.setPState_fw, State.portTaken_fw]
@[simp] theorem execPortAlignTimeout_fw (p : Nat) (s : State) : (nextOf s (execPortAlignTimeout p s)).fw = s.fw := by
  simp only [execPortAlignTimeout, fw_rules, State.lanesDown_fw, State.setPort_fw]
@[simp] theorem execPortAlignRetry_fw (p : Nat) (s : State) : (nextOf s (execPortAlignRetry p s)).fw = s.fw := by
  simp only [execPortAlignRetry, fw_rules, State.setPort_fw, State.laneEnable_fw, State.setPState_fw, eachIn_fw, implies_true]
@[simp] theorem execPortFaultStart_fw (p : Nat) (remote : Bool) (s : State) : (nextOf s (execPortFaultStart p remote s)).fw = s.fw := by
  simp only [execPortFaultStart, fw_rules, State.localFaultStart_fw, State.faultBegins_fw, State.portFault_fw]
@[simp] theorem execPortHoldoffExpire_fw (p : Nat) (s : State) : (nextOf s (execPortHoldoffExpire p s)).fw = s.fw := by
  simp only [execPortHoldoffExpire, fw_rules, State.portFault_fw]
@[simp] theorem execPortFaultClear_fw (p : Nat) (s : State) : (nextOf s (execPortFaultClear p s)).fw = s.fw := by
  simp only [execPortFaultClear, fw_rules, State.setPState_fw]
@[simp] theorem execPauseTimerExpire_fw (p prio : Nat) (s : State) : (nextOf s (execPauseTimerExpire p prio s)).fw = s.fw := by
  simp only [execPauseTimerExpire, fw_rules, State.setPort_fw]
@[simp] theorem execPortLpiIdle_fw (p : Nat) (s : State) : (nextOf s (execPortLpiIdle p s)).fw = s.fw := by
  simp only [execPortLpiIdle, fw_rules, State.eachLaneIn_fw, State.setLState_fw, State.steepEnter_fw, implies_true]
theorem State.showTs_fw (s : State) (p : Nat) : (s.showTs p).fw = s.fw := by unfold State.showTs; split <;> simp only [fw_rules]
theorem State.pushTs_fw (s : State) (p id t : Nat) : (s.pushTs p id t).fw = s.fw := by
  simp only [State.pushTs, fw_rules, State.setPort_fw, State.showTs_fw]
theorem State.popTs_fw (s : State) (p : Nat) : (s.popTs p).fw = s.fw := by simp only [State.popTs, State.setPort_fw, State.showTs_fw]

/-! ## The root network -/

theorem State.setCluster_fw (s : State) (c : Nat) (v : Cluster) : (s.setCluster c v).fw = s.fw := by simp only [State.setCluster]
theorem State.setRootBough_fw (s : State) (b : Nat) (v : RootBough) : (s.setRootBough b v).fw = s.fw := by simp only [State.setRootBough]
theorem State.setUpList_fw (s : State) (c : Nat) (l : List UpItem) : (s.setUpList c l).fw = s.fw := by simp only [State.setUpList]
theorem State.setDnList_fw (s : State) (c : Nat) (l : List DnFrame) : (s.setDnList c l).fw = s.fw := by simp only [State.setDnList]
theorem State.setRdir_fw (s : State) (c : Nat) (dn : Bool) (d : RootDir) : (s.setRdir c dn d).fw = s.fw := by
  simp only [State.setRdir, State.setCluster_fw]
theorem State.showSpares_fw (s : State) (c : Nat) (dn : Bool) : (s.showSpares c dn).fw = s.fw := by simp only [State.showSpares, fw_rules]
theorem State.moveLane_fw (s : State) (c : Nat) (dn : Bool) (pos spare : Nat) : (s.moveLane c dn pos spare).fw = s.fw := by
  simp only [State.moveLane, fw_rules, State.raise_fw, State.showSpares_fw]
theorem State.clusterTold_fw (s : State) (c : Nat) : (s.clusterTold c).fw = s.fw := by simp only [State.clusterTold, State.raise_fw]
theorem State.clusterLeaves_fw (s : State) (c cause : Nat) (clk : Bool) : (s.clusterLeaves c cause clk).fw = s.fw := by
  simp only [State.clusterLeaves, fw_rules, State.setCluster_fw, State.setRootBough_fw, State.clusterTold_fw]
theorem State.sendCtl_fw (s : State) (c : Nat) (dn : Bool) (payload : Nat) : (s.sendCtl c dn payload).fw = s.fw := by
  simp only [State.sendCtl, State.setRdir_fw]
theorem State.lanePermanent_fw (s : State) (c : Nat) (dn : Bool) (lane : Nat) : (s.lanePermanent c dn lane).fw = s.fw := by
  simp only [State.lanePermanent, fw_rules]
  repeat' split
  all_goals simp only [fw_rules, State.setRdir_fw, State.clusterLeaves_fw, State.sendCtl_fw, State.showSpares_fw]
theorem State.chargeLane_fw (s : State) (c : Nat) (dn : Bool) (lane : Nat) : (s.chargeLane c dn lane).fw = s.fw := by
  simp only [State.chargeLane, fw_rules, State.setRdir_fw, State.lanePermanent_fw]
theorem State.setNak_fw (s : State) (c : Nat) (dn : Bool) : (s.setNak c dn).fw = s.fw := by simp only [State.setNak, State.setRdir_fw]
theorem State.attribute1_fw (s : State) (c : Nat) (dn : Bool) (flit : Nat) (f : FailedFlit) : (s.attribute1 c dn flit f).fw = s.fw := by
  simp only [State.attribute1, fw_rules, State.clusterLeaves_fw, State.chargeLane_fw, eachIn_fw, implies_true]
/-- What an accepted flit does to the failed flits of its SEQ (R158): each is compared with it, and forgotten. -/
theorem State.failedCompared_fw (s : State) (c : Nat) (dn : Bool) (flit : Nat) :
    (eachIn ((s.rdir c dn).failed.filter (fun f => f.seq == nbits flit 3 8))
      (s.setRdir c dn { s.rdir c dn with failed := (s.rdir c dn).failed.filter (fun f => f.seq != nbits flit 3 8) })
      (fun s f => s.attribute1 c dn flit f)).fw = s.fw := by
  simp only [State.attribute1_fw, State.setRdir_fw, eachIn_fw, implies_true]
theorem State.acked_fw (s : State) (c : Nat) (dn : Bool) (ack : Nat) : (s.acked c dn ack).fw = s.fw := by simp only [State.acked, State.setRdir_fw]
theorem State.replay_fw (s : State) (c : Nat) (dn : Bool) : (s.replay c dn).fw = s.fw := by simp only [State.replay, fw_rules, State.setRdir_fw]
theorem State.nextFlit_fw (s : State) (c : Nat) (dn : Bool) : (s.nextFlit c dn).1.fw = s.fw := by
  simp only [State.nextFlit]
  repeat' split
  all_goals simp only [fw_rules, State.setRdir_fw, State.perf_fw]
theorem State.ctlIn_fw (s : State) (c : Nat) (dn : Bool) (flit : Nat) : (s.ctlIn c dn flit).fw = s.fw := by
  unfold State.ctlIn; split <;> simp only [fw_rules, State.setRdir_fw]
theorem State.flitIn_fw (s : State) (c : Nat) (dn : Bool) (seq : Option Nat) (units flit : Nat) (inj : Bool) :
    (s.flitIn c dn seq units flit inj).fw = s.fw := by
  simp only [State.flitIn, fw_rules, State.replay_fw, State.setRdir_fw, State.ctlIn_fw, State.acked_fw, State.perf_fw, State.setNak_fw]
  split
  · split <;> simp only [fw_rules, State.setRdir_fw]
  · split
    · rfl
    · split
      all_goals
        split
        · refine (State.failedCompared_fw _ c dn flit).trans ?_
          simp only [State.replay_fw, State.acked_fw]
        · rfl
@[simp] theorem execNakRepeat_fw (c : Nat) (dn : Bool) (s : State) : (nextOf s (execNakRepeat c dn s)).fw = s.fw := by
  simp only [execNakRepeat, fw_rules, State.setNak_fw]
@[simp] theorem execRootClkLoss_fw (c : Nat) (_dn : Bool) (s : State) : (nextOf s (execRootClkLoss c _dn s)).fw = s.fw := by
  simp only [execRootClkLoss, fw_rules, State.clusterLeaves_fw]
theorem State.popUp_fw (s : State) (c : Nat) : (s.popUp c).fw = s.fw := by
  unfold State.popUp; split <;> simp only [State.setRdir_fw, State.setUpList_fw]
theorem State.dropUp_fw (s : State) (c : Nat) : (s.dropUp c).fw = s.fw := by
  unfold State.dropUp; split <;> simp only [fw_rules, State.setUpList_fw, State.popUp_fw]
theorem State.dropGone_fw (s : State) (c : Nat) : (s.dropGone c).fw = s.fw := by unfold State.dropGone; split <;> simp only [fw_rules, State.popUp_fw]
theorem State.popDn_fw (s : State) (c : Nat) : (s.popDn c).fw = s.fw := by
  unfold State.popDn; split <;> simp only [State.setRdir_fw, State.setDnList_fw]
@[simp] theorem execRootLaneSwap_fw (c : Nat) (dn : Bool) (s : State) : (nextOf s (execRootLaneSwap c dn s)).fw = s.fw := by
  simp only [execRootLaneSwap, fw_rules, State.setCluster_fw, State.setRdir_fw]
theorem State.doSwaps_fw (s : State) (c : Nat) (dn : Bool) : (s.doSwaps c dn).fw = s.fw := by
  simp only [State.doSwaps, State.setRdir_fw]
  refine eachIn_fw fun t x => ?_
  split <;> simp only [State.moveLane_fw]
@[simp] theorem execRootSwapPatternEnd_fw (c : Nat) (dn : Bool) (failed : List Nat) (s : State) :
    (nextOf s (execRootSwapPatternEnd c dn failed s)).fw = s.fw  := by
  simp only [execRootSwapPatternEnd, fw_rules, State.replay_fw, State.doSwaps_fw, State.lanePermanent_fw, eachIn_fw, implies_true]
@[simp] theorem execRootSpareDeskew_fw (c : Nat) (dn : Bool) (spare : Nat) (pass : Bool) (s : State) :
    (nextOf s (execRootSpareDeskew c dn spare pass s)).fw = s.fw := by
  simp only [execRootSpareDeskew, fw_rules, State.lanePermanent_fw]
theorem State.setPinMap_fw (s : State) (b : Nat) (dn : Bool) (i c : Nat) : (s.setPinMap b dn i c).fw = s.fw := by
  simp only [State.setPinMap, fw_rules]
theorem State.putUp_fw (s : State) (b : Nat) (u : UpFrame) : (s.putUp b u).fw = s.fw := by
  simp only [State.putUp, fw_rules, State.setUpList_fw, State.setRootBough_fw]
theorem State.spread_fw (s : State) (b : Nat) (dn : Bool) (c : Nat) : (s.spread b dn c).fw = s.fw := by
  simp only [State.spread, fw_rules, State.setPinMap_fw, State.setRootBough_fw, foldl_fst_fw, implies_true]
theorem State.unspread_fw (s : State) (b : Nat) (dn : Bool) (c : Nat) : (s.unspread b dn c).fw = s.fw := by
  simp only [State.unspread, State.setPinMap_fw, eachIn_fw, implies_true]
theorem State.advanceEpoch_fw (s : State) (b : Nat) (dn : Bool) : (s.advanceEpoch b dn).fw = s.fw := by simp only [State.advanceEpoch, fw_rules]
theorem State.lastCluster_fw (s : State) (b : Nat) : (s.lastCluster b).fw = s.fw := by
  simp only [State.lastCluster, fw_rules, State.portTaken_fw, eachIn_fw, implies_true]
theorem State.clusterGone_fw (s : State) (c : Nat) : (s.clusterGone c).fw = s.fw := by
  simp only [State.clusterGone, fw_rules, State.retire_fw, State.raise_fw, State.lastCluster_fw, State.setUst_fw]
theorem State.trainLanes_fw (s : State) (c : Nat) (dn : Bool) (fails : List Nat) : (s.trainLanes c dn fails).fw = s.fw := by
  refine (eachIn_fw fun t x => ?_).trans (State.setRdir_fw _ _ _ _)
  split <;> simp only [State.moveLane_fw]
theorem State.trained_fw (s : State) (c : Nat) (failUp failDn : List Nat) : (s.trained c failUp failDn).fw = s.fw := by
  simp only [State.trained, State.trainLanes_fw, State.showSpares_fw]
theorem State.startSpread_fw (s : State) (b : Nat) : (s.startSpread b).fw = s.fw := by
  simp only [State.startSpread, fw_rules, State.advanceEpoch_fw, State.spread_fw, eachIn_fw, implies_true]
@[simp] theorem execRootClusterTrain_fw (c : Nat) (failUp failDn : List Nat) (clock : Bool) (s : State) :
    (nextOf s (execRootClusterTrain c failUp failDn clock s)).fw = s.fw := by
  simp only [execRootClusterTrain, fw_rules, State.setCluster_fw, State.trained_fw, State.clusterGone_fw, State.startSpread_fw, State.setUst_fw,
    State.clusterTold_fw]
theorem State.showReseq_fw (s : State) (b : Nat) : (s.showReseq b).fw = s.fw := by simp only [State.showReseq, fw_rules]

/-! ## The tun: cells, queues, banks -/

theorem State.freeRows_fw (s : State) (l : Nat) (up : Bool) : (s.freeRows l up).fw = s.fw := by simp only [State.freeRows, fw_rules]
theorem State.takeRow_fw (s : State) (l : Nat) : (s.takeRow l).1.fw = s.fw := by simp only [State.takeRow, State.freeRows_fw]
theorem State.rowDone_fw (s : State) (p : Nat) : (s.rowDone p).fw = s.fw := by simp only [State.rowDone]
theorem State.freeCell_fw (s : State) (p : Nat) : (s.freeCell p).fw = s.fw := by
  simp only [State.freeCell, fw_rules, State.freeRows_fw, State.rowDone_fw]
theorem State.setCharge_fw (s : State) (q len hr : Nat) : (s.setCharge q len hr).fw = s.fw := by simp only [State.setCharge, fw_rules]
theorem State.setSpilling_fw (s : State) (q : Nat) (on : Bool) : (s.setSpilling q on).fw = s.fw := by simp only [State.setSpilling, fw_rules]
theorem State.spillCheck_fw (s : State) (q : Nat) : (s.spillCheck q).fw = s.fw := by simp only [State.spillCheck, fw_rules, State.setSpilling_fw]
theorem State.chargeIng_fw (s : State) (f : TFrame) (n : Nat) (up : Bool) : (s.chargeIng f n up).fw = s.fw :=
  Framed.fw (fun _ _ => rfl) (State.chargeIng_framed _ _ _ _)
theorem State.chargeCell_fw (s : State) (f : TFrame) : (s.chargeCell f).fw = s.fw := by
  simp only [State.chargeCell, fw_rules, State.spillCheck_fw, State.setCharge_fw, State.chargeIng_fw]
theorem State.unchargeCells_fw (s : State) (f : TFrame) (n : Nat) : (s.unchargeCells f n).fw = s.fw := by
  simp only [State.unchargeCells, State.spillCheck_fw, State.setCharge_fw, State.chargeIng_fw]
theorem State.uncharge_fw (s : State) (f : TFrame) : (s.uncharge f).fw = s.fw := by simp only [State.uncharge, fw_rules, State.unchargeCells_fw]
theorem State.poisonPtr_fw (s : State) (p : Nat) : (s.poisonPtr p).fw = s.fw := by
  simp only [State.poisonPtr]
  refine eachIn_fw fun t x => ?_
  split <;> simp only [fw_rules, State.setTframe_fw]
theorem State.freeFrame_fw (s : State) (i : Nat) : (s.freeFrame i).fw = s.fw := by
  simp only [State.freeFrame, State.setTframe_fw, State.freeCell_fw, State.uncharge_fw, eachIn_fw, implies_true]
theorem State.setSqueue_fw (s : State) (q : Nat) (v : SQueue) : (s.setSqueue q v).fw = s.fw := by simp only [State.setSqueue]
theorem State.wredTest_fw (s : State) (q color : Nat) : (s.wredTest q color).1.fw = s.fw := by
  simp only [State.wredTest, fw_rules, State.setSqueue_fw]
theorem State.refuseFrame_fw (s : State) (f : TFrame) (ctr : Reg) (reason : Nat) : (s.refuseFrame f ctr reason).fw = s.fw := by
  simp only [State.refuseFrame, fw_rules, State.perf_fw, State.tunDrop_fw]
theorem State.acceptFrame_fw (s : State) (f : TFrame) : (s.acceptFrame f).1.fw = s.fw := by
  unfold State.acceptFrame; split <;> simp only [fw_rules, State.setTframe_fw, State.perf_fw, State.chargeCell_fw]
theorem State.offer_fw (s : State) (f : UpFrame) (w : Nat) : (s.offer f w).1.fw = s.fw := by
  simp only [State.offer, fw_rules, State.refuseFrame_fw]
  repeat' split
  all_goals simp only [fw_rules, State.refuseFrame_fw, State.acceptFrame_fw, State.wredTest_fw]
theorem State.setAsm_fw (s : State) (r k : Nat) (v : Option Nat) : (s.setAsm r k v).fw = s.fw := by simp only [State.setAsm]
theorem State.setOffers_fw (s : State) (r : Nat) (l : List UpFrame) : (s.setOffers r l).fw = s.fw := by simp only [State.setOffers]
theorem State.setInBuf_fw (s : State) (r n : Nat) : (s.setInBuf r n).fw = s.fw := by simp only [State.setInBuf]
theorem State.setTurned_fw (s : State) (slot : Nat) (v : Option (UpFrame × Nat × Nat)) : (s.setTurned slot v).fw = s.fw := by
  simp only [State.setTurned]
theorem State.setStaged_fw (s : State) (c : Nat) (l : List UpFrame) : (s.setStaged c l).fw = s.fw := by simp only [State.setStaged]
theorem State.fillInBuf_fw (s : State) (r : Nat) : (s.fillInBuf r).fw = s.fw := by unfold State.fillInBuf; split <;> simp only [State.setInBuf_fw]
theorem State.divert_fw (s : State) (c : Nat) (f : UpFrame) : (s.divert c f).fw = s.fw := by
  simp only [State.divert, fw_rules, State.setStaged_fw, State.popUp_fw]
theorem State.admitOwn_fw (s : State) (r : Nat) (f : UpFrame) (rest : List UpFrame) : (s.admitOwn r f rest).fw = s.fw := by
  simp only [State.admitOwn, fw_rules, State.setTurned_fw, State.offer_fw, State.setOffers_fw, State.setAsm_fw]
@[simp] theorem execFrameAdmit_fw (r : Nat) (internal : Bool) (s : State) : (nextOf s (execFrameAdmit r internal s)).fw = s.fw := by
  simp only [execFrameAdmit, fw_rules]
  repeat' split
  all_goals simp only [State.setUpList_fw, State.dropUp_fw, State.admitOwn_fw, State.offer_fw, State.divert_fw, State.setAsm_fw, State.fillInBuf_fw]
theorem State.setReads_fw (s : State) (r : Nat) (l : List (Nat × Nat)) (k : Nat) : (s.setReads r l k).fw = s.fw := by simp only [State.setReads]
theorem State.showEmpty_fw (s : State) (q : Nat) : (s.showEmpty q).fw = s.fw := by simp only [State.showEmpty, fw_rules]
theorem State.linkFrame_fw (s : State) (i : Nat) : (s.linkFrame i).fw = s.fw := by
  simp only [State.linkFrame, State.showEmpty_fw, State.setTqueue_fw]
  split <;> simp only [fw_rules, State.setTframe_fw]
theorem State.wdGap_fw (s : State) (q : Nat) : (s.wdGap q).fw = s.fw := by simp only [State.wdGap, fw_rules, State.setSqueue_fw]
theorem State.wdEmpty_fw (s : State) (q : Nat) : (s.wdEmpty q).fw = s.fw := by simp only [State.wdEmpty, fw_rules, State.setSqueue_fw]

/-! ## The plan of banks and migrations -/

theorem State.showTunPair_fw (s : State) (g : Nat) (result : Option Nat) : (s.showTunPair g result).fw = s.fw := by
  unfold State.showTunPair; split <;> simp only [fw_rules]
theorem State.tunMismatch_fw (s : State) (g : Nat) : (s.tunMismatch g).fw = s.fw := by simp only [State.tunMismatch, fw_rules, State.raise_fw]
theorem State.applyPlan_fw (s : State) (sample : List Nat) : (s.applyPlan sample).fw = s.fw := by simp only [State.applyPlan]
theorem State.tunCommit_fw (s : State) (g : Nat) : (s.tunCommit g).fw = s.fw := by
  simp only [State.tunCommit, fw_rules, State.showTunPair_fw, State.setPair_fw, State.tunMismatch_fw]
theorem State.tunApply_fw (s : State) : s.tunApply.fw = s.fw := by
  unfold State.tunApply; split <;> simp only [State.showTunPair_fw, State.applyPlan_fw, State.setPair_fw]
theorem State.planRetest_fw (s : State) : s.planRetest.fw = s.fw := by simp only [State.planRetest, fw_rules, State.tunMismatch_fw]
theorem effPoolCfg_fw (p : Packet) (s : State) : (effPoolCfg p s).1.fw = s.fw := Framed.fw (fun _ _ => rfl) (effPoolCfg_framed _ _)
@[simp] theorem execPoolCfg_fw (p : Packet) (s : State) : (nextOf s (execPoolCfg p s)).fw = s.fw :=
  State.command_keeps (fun f => f) (effPoolCfg_fw p) s _
theorem effQueueCfg_fw (p : Packet) (s : State) : (effQueueCfg p s).1.fw = s.fw := Framed.fw (fun _ _ => rfl) (effQueueCfg_framed _ _)
@[simp] theorem execQueueCfg_fw (p : Packet) (s : State) : (nextOf s (execQueueCfg p s)).fw = s.fw :=
  State.command_keeps (fun f => f) (effQueueCfg_fw p) s _
theorem State.showFlush_fw (s : State) : s.showFlush.fw = s.fw := by simp only [State.showFlush, fw_rules]
theorem State.flushFrame_fw (s : State) (i : Nat) (ctr : Reg) (reason : Nat) : (s.flushFrame i ctr reason).fw = s.fw := by
  simp only [State.flushFrame, fw_rules, State.setTframe_fw, State.uncharge_fw, State.tunDrop_fw]
theorem State.freeSlot_fw (s : State) (c slot : Nat) : (s.freeSlot c slot).fw = s.fw := by simp only [State.freeSlot, fw_rules]
theorem State.dropBlocks_fw (s : State) (q : Nat) : (s.dropBlocks q).fw = s.fw := by
  simp only [State.dropBlocks, fw_rules, State.setSpilling_fw, State.setCharge_fw, State.freeCell_fw, State.setTqueue_fw, State.freeSlot_fw,
    eachIn_fw, implies_true]
theorem State.flushQueue_fw (s : State) (q : Nat) (ctr : Reg) (reason : Nat) (all : Bool) : (s.flushQueue q ctr reason all).fw = s.fw := by
  simp only [State.flushQueue, fw_rules, State.wdEmpty_fw, State.showFlush_fw, State.setCharge_fw, State.showEmpty_fw, State.setTframe_fw,
    State.setTqueue_fw, State.uncharge_fw, State.flushFrame_fw, State.dropBlocks_fw, eachIn_fw, implies_true]
theorem State.flushPort_fw (s : State) (p : Nat) (all : Bool) : (s.flushPort p all).fw = s.fw := by
  simp only [State.flushPort, fw_rules, State.flushQueue_fw, eachIn_fw, implies_true]
theorem State.portFlushed_fw (s : State) (p : Nat) : (s.portFlushed p).fw = s.fw := by simp only [State.portFlushed, fw_rules, State.flushPort_fw]
@[simp] theorem execPortHoldEnter_fw (p : Nat) (s : State) : (nextOf s (execPortHoldEnter p s)).fw = s.fw := by
  simp only [execPortHoldEnter, fw_rules, State.setPort_fw, State.portFlushed_fw]
@[simp] theorem execQholdDeadline_fw (p : Nat) (s : State) : (nextOf s (execQholdDeadline p s)).fw = s.fw := by
  simp only [execQholdDeadline, fw_rules, State.portFlushed_fw]
theorem State.flushCells_fw (s : State) (fuel n : Nat) : (s.flushCells fuel n).fw = s.fw := by
  induction fuel generalizing s n with
  | zero => rfl
  | succ fuel ih =>
    unfold State.flushCells
    split
    · rfl
    · simp only [fw_rules, ih, State.freeFrame_fw, State.setTframe_fw, eachIn_fw, State.freeCell_fw, implies_true]
@[simp] theorem execFlushFree_fw (n : Nat) (s : State) : (nextOf s (execFlushFree n s)).fw = s.fw := by
  simp only [execFlushFree, fw_rules, State.flushCells_fw, State.showFlush_fw]
theorem effQholdCfg_fw (p : Packet) (s : State) : (effQholdCfg p s).1.fw = s.fw := Framed.fw (fun _ _ => rfl) (effQholdCfg_framed _ _)
@[simp] theorem execQholdCfg_fw (p : Packet) (s : State) : (nextOf s (execQholdCfg p s)).fw = s.fw :=
  State.command_keeps (fun f => f) (effQholdCfg_fw p) s _
theorem State.tallyQueue_fw (s : State) (q : Nat) : (s.tallyQueue q).fw = s.fw := by
  simp only [State.tallyQueue, fw_rules, State.spillCheck_fw, State.setCharge_fw, State.raise_fw]
@[simp] theorem execTallyPass_fw (s : State) : (nextOf s (execTallyPass s)).fw = s.fw := by
  unfold execTallyPass; split <;> simp only [fw_rules, State.tallyQueue_fw, State.raise_fw, State.freeRows_fw, State.freeCell_fw, eachIn_fw,
    implies_true]
theorem State.migStart_fw (s : State) (m : Migration) : (s.migStart m).fw = s.fw := by
  simp only [State.migStart, fw_rules, State.tellWait_fw, State.setUst_fw]
theorem State.migNext_fw (s : State) : s.migNext.fw = s.fw := by simp only [State.migNext, fw_rules, State.migStart_fw, foldl_fst_fw, implies_true]
theorem State.migAsk_fw (s : State) (src dst lbank : Nat) (graft back : Bool) (cause : Nat) : (s.migAsk src dst lbank graft back cause).fw = s.fw :=
      by simp only [State.migAsk, fw_rules, State.migNext_fw, State.raise_fw, State.setUst_fw]
theorem State.closeBank_fw (s : State) (l : Nat) (graft : Bool) (cause : Nat) : (s.closeBank l graft cause).fw = s.fw := by
  simp only [State.closeBank, fw_rules, State.raise_fw]
theorem State.replaceBank_fw (s : State) (n : Nat) (graft : Bool) (cause : Nat) : (s.replaceBank n graft cause).fw = s.fw := by
  unfold State.replaceBank; split <;> simp only [fw_rules, State.migAsk_fw, State.closeBank_fw]
theorem State.bankError_fw (s : State) (n code : Nat) (inj : Bool) : (s.bankError n code inj).fw = s.fw := by
  simp only [State.bankError, fw_rules, State.replaceBank_fw]
theorem State.readError_fw (s : State) (p : Nat) (unc inj : Bool) : (s.readError p unc inj).fw = s.fw := by
  simp only [State.readError, fw_rules, State.raise_fw, State.bankError_fw, State.poisonPtr_fw]
theorem State.cellRead_fw (s : State) (p : Nat) (flip : Option Bool) : (s.cellRead p flip).fw = s.fw := by
  simp only [State.cellRead]
  repeat' split
  all_goals simp only [fw_rules, State.readError_fw]
theorem State.migEnd_fw (s : State) (m : Migration) : (s.migEnd m).fw = s.fw := by
  simp only [State.migEnd, fw_rules, State.retire_fw, State.migNext_fw, State.finish_fw, State.setUst_fw]
  split <;> simp only [fw_rules, State.setUst_fw]
theorem State.migCopy_fw (s : State) (n : Nat) (flips : List (Nat × Bool)) (m : Migration) : (s.migCopy n flips m).fw = s.fw := by
  simp only [State.migCopy]
  split <;> simp only [fw_rules, State.cellRead_fw, State.rowDone_fw, State.migEnd_fw, eachIn_fw, implies_true]
@[simp] theorem execBankReplace_fw (n : Nat) (flips : List (Nat × Bool)) (s : State) : (nextOf s (execBankReplace n flips s)).fw = s.fw := by
  simp only [execBankReplace, fw_rules, State.migCopy_fw, eachIn_fw, implies_true]
@[simp] theorem execBankLeaveService_fw (l : Nat) (s : State) : (nextOf s (execBankLeaveService l s)).fw = s.fw := by
  simp only [execBankLeaveService]
  repeat' split
  all_goals simp only [fw_rules, State.retire_fw, State.planRetest_fw, State.finish_fw, State.setUst_fw]
theorem State.restoreBank_fw (s : State) (n : Nat) : (s.restoreBank n).fw = s.fw := by
  simp only [State.restoreBank, fw_rules, State.migAsk_fw, State.setUst_fw]

/-! ## The allocator -/

theorem State.setSport_fw (s : State) (p : Nat) (v : SPort) : (s.setSport p v).fw = s.fw := by simp only [State.setSport]
theorem State.setAhead_fw (s : State) (p n : Nat) : (s.setAhead p n).fw = s.fw := by simp only [State.setAhead, fw_rules, State.setSport_fw]
theorem State.maltTake_fw (s : State) (i : Nat) : (s.maltTake i).fw = s.fw := by
  simp only [State.maltTake, fw_rules, State.freeFrame_fw, State.setAhead_fw]
theorem State.markDnBad_fw (s : State) (i : Nat) : (s.markDnBad i).fw = s.fw := by simp only [State.markDnBad]
theorem State.poisonMet_fw (s : State) (i : Nat) : (s.poisonMet i).fw = s.fw := by
  simp only [State.poisonMet, fw_rules, State.markDnBad_fw, State.setTframe_fw]
theorem State.pickedRead_fw (s : State) (i p left : Nat) : (s.pickedRead i p left).fw = s.fw := by
  simp only [State.pickedRead, fw_rules, State.setTframe_fw, State.unchargeCells_fw, State.poisonMet_fw]
theorem State.doRead_fw (s : State) (r l : Nat) (flip : Option Bool) : (s.doRead r l flip).fw = s.fw := by
  unfold State.doRead; split <;> simp only [fw_rules, State.recordTrace_fw, State.maltTake_fw, State.setReads_fw, State.cellRead_fw, State.perf_fw,
    State.pickedRead_fw]
theorem State.matchReads_fw (s : State) (flips : List (Nat × Bool)) : (s.matchReads flips).1.fw = s.fw := by
  simp only [State.matchReads, State.doRead_fw, eachIn_fw, implies_true]
theorem State.writeCell_fw (s : State) (w : Nat × Nat) (l : Nat) : (s.writeCell w l).fw = s.fw := by
  unfold State.writeCell; split <;> simp only [fw_rules, State.takeRow_fw, State.setInBuf_fw, State.setReads_fw, State.setTframe_fw, State.perf_fw,
    State.chargeCell_fw, State.linkFrame_fw]
theorem State.matchWindows_fw (s : State) (ws : List (Nat × Nat)) (busy : List Nat) : (s.matchWindows ws busy).1.fw = s.fw := by
  refine foldl_fst_fw fun a w => ?_
  dsimp only
  split <;> simp only [State.writeCell_fw, eachIn_fw, implies_true]
theorem State.matchRest_fw (s : State) (ws : List (Nat × Nat)) (busy : List Nat) : (s.matchRest ws busy).1.fw = s.fw := by
  unfold State.matchRest
  split
  · rfl
  · refine (foldl_fst_fw fun a w => ?_).trans (eachIn_fw fun _ _ => rfl)
    dsimp only
    split <;> simp only [State.writeCell_fw]
@[simp] theorem execAllocatorMatch_fw (flips : List (Nat × Bool)) (s : State) : (nextOf s (execAllocatorMatch flips s)).fw = s.fw := by
  simp only [execAllocatorMatch, fw_rules, State.matchReads_fw, State.matchRest_fw, State.perf_fw, State.fillInBuf_fw, State.matchWindows_fw,
    eachIn_fw, implies_true]
theorem State.setHoldList_fw (s : State) (b : Nat) (l : List Nat) : (s.setHoldList b l).fw = s.fw := by simp only [State.setHoldList]
theorem State.frameDone_fw (s : State) (i : Nat) (bad : Bool) : (s.frameDone i bad).fw = s.fw := by
  simp only [State.frameDone, fw_rules, State.setHoldList_fw, State.markDnBad_fw, State.setTframe_fw, State.freeFrame_fw, State.linkFrame_fw,
    State.tunDrop_fw]
@[simp] theorem execFrameEofArrive_fw (r : Nat) (internal : Bool) (s : State) : (nextOf s (execFrameEofArrive r internal s)).fw = s.fw := by
  simp only [execFrameEofArrive, fw_rules]
  repeat' split
  all_goals simp only [State.setAsm_fw, State.frameDone_fw, State.popUp_fw]

/-! ## The cellar -/

theorem State.mapCells_fw (s : State) (q start n : Nat) (g : Nat → Nat → Nat) : (s.mapCells q start n g).fw = s.fw := by
  simp only [State.mapCells, fw_rules, State.setTframe_fw, foldl_fst_fw, implies_true]
theorem State.starveCheck_fw (s : State) (q : Nat) : (s.starveCheck q).fw = s.fw := by simp only [State.starveCheck, fw_rules, State.setTqueue_fw]
theorem State.chanLeave_fw (s : State) (c : Nat) (graft : Bool) (cause : Nat) : (s.chanLeave c graft cause).fw = s.fw := by
  simp only [State.chanLeave, fw_rules, State.raise_fw]
theorem State.edcRetry_fw (s : State) (c : Nat) (inj : Bool) : (s.edcRetry c inj).fw = s.fw := by
  simp only [State.edcRetry, fw_rules, State.perf_fw, State.raise_fw, State.chanLeave_fw]
theorem State.edcRetries_fw (s : State) (c n : Nat) : (s.edcRetries c n).fw = s.fw := by
  simp only [State.edcRetries]
  split <;> simp only [fw_rules, State.edcRetry_fw, eachIn_fw, implies_true]
theorem State.cellarCorrected_fw (s : State) (c : Nat) : (s.cellarCorrected c).fw = s.fw := by
  simp only [State.cellarCorrected, fw_rules, State.perf_fw, State.raise_fw]
theorem State.cellarUncorr_fw (s : State) (c part : Nat) (inj : Bool) : (s.cellarUncorr c part inj).fw = s.fw := by
  simp only [State.cellarUncorr, fw_rules, State.raise_fw]
theorem State.extUsed_fw (s : State) (c : Nat) : (s.extUsed c).fw = s.fw := by simp only [State.extUsed]
@[simp] theorem execRackBlock_fw (q : Nat) (s : State) : (nextOf s (execRackBlock q s)).fw = s.fw := by
  simp only [execRackBlock, fw_rules]
  repeat' split
  all_goals simp only [fw_rules, State.setReads_fw, State.setTqueue_fw]
theorem State.joinTail_fw (s : State) (q : Nat) : (s.joinTail q).fw = s.fw := by
  simp only [State.joinTail, fw_rules, State.spillCheck_fw, State.setTqueue_fw]
@[simp] theorem execRackWriteDone_fw (q repeats : Nat) (s : State) : (nextOf s (execRackWriteDone q repeats s)).fw = s.fw := by
  simp only [execRackWriteDone, fw_rules]
  split <;> simp only [fw_rules, State.setCharge_fw, State.mapCells_fw, State.starveCheck_fw, State.perf_fw, State.freeCell_fw, State.joinTail_fw,
    State.setTqueue_fw, State.edcRetries_fw, State.freeSlot_fw, eachIn_fw, implies_true]
@[simp] theorem execDrawIssue_fw (q : Nat) (s : State) : (nextOf s (execDrawIssue q s)).fw = s.fw := by
  simp only [execDrawIssue, fw_rules]
  repeat' split
  all_goals simp only [State.setTqueue_fw]
theorem State.drawCell_fw (s : State) (r : Nat) : (s.drawCell r).1.fw = s.fw := by
  unfold State.drawCell; split <;> simp only [State.takeRow_fw, State.perf_fw]
theorem State.discardLost_fw (s : State) (q : Nat) : (s.discardLost q).fw = s.fw := by
  simp only [State.discardLost, fw_rules, State.showEmpty_fw, State.freeFrame_fw, State.setTqueue_fw, State.tunDrop_fw, eachIn_fw, implies_true]
theorem State.linkBlock_fw (s : State) (q : Nat) (b : Block) : (s.linkBlock q b).fw = s.fw := by
  simp only [State.linkBlock, fw_rules, State.discardLost_fw, State.mapCells_fw, State.setTframe_fw, State.setTqueue_fw, State.freeSlot_fw,
    eachIn_fw, implies_true]
theorem State.linkBlocks_fw (s : State) (q n : Nat) : (s.linkBlocks q n).fw = s.fw := by
  induction n generalizing s with
  | zero => rfl
  | succ n ih =>
    unfold State.linkBlocks
    split <;> simp only [fw_rules, ih, State.linkBlock_fw]
theorem State.settleQueue_fw (s : State) (q : Nat) : (s.settleQueue q).fw = s.fw := by
  simp only [State.settleQueue, State.starveCheck_fw, State.joinTail_fw, State.linkBlocks_fw]
@[simp] theorem execDrawComplete_fw (q bseq repeats corrected : Nat) (poison : List Nat) (tagBad : Bool) (s : State) :
    (nextOf s (execDrawComplete q bseq repeats corrected poison tagBad s)).fw = s.fw := by
  simp only [execDrawComplete, fw_rules]
  repeat' split
  all_goals simp only [fw_rules, State.settleQueue_fw, State.setCharge_fw, State.cellarUncorr_fw, State.perf_fw, State.drawCell_fw,
    State.setTqueue_fw, State.edcRetries_fw, State.cellarCorrected_fw, eachIn_fw, foldl_fst_fw, implies_true]
theorem State.setExtWord_fw (s : State) (line n v : Nat) : (s.setExtWord line n v).fw = s.fw := by simp only [State.setExtWord]
theorem State.relayExt_fw (s : State) (telem walk : Nat) : (s.relayExt telem walk).fw = s.fw := by
  simp only [State.relayExt, fw_rules, State.showBacklog_fw, State.setStream_fw, State.lostUnnumbered_fw, eachIn_fw, implies_true]
theorem State.winStart_fw (s : State) (value : Word) : (s.winStart value).fw = s.fw := by simp only [State.winStart, fw_rules]
@[simp] theorem execCellarWinDone_fw (result : Nat) (s : State) : (nextOf s (execCellarWinDone result s)).fw = s.fw := by
  unfold execCellarWinDone; split <;> simp only [fw_rules, State.setExtWord_fw, State.cellarUncorr_fw, State.extUsed_fw, State.perf_fw,
    State.cellarCorrected_fw, eachIn_fw, implies_true]
@[simp] theorem execCellarRetrain_fw (ch : Nat) (pass : Bool) (temp : Nat) (s : State) : (nextOf s (execCellarRetrain ch pass temp s)).fw = s.fw := by
  simp only [execCellarRetrain, fw_rules, State.chanLeave_fw]
theorem State.chanGone_fw (s : State) (x : ChanLeave) : (s.chanGone x).fw = s.fw := by
  simp only [State.chanGone, fw_rules, State.retire_fw, State.relayExt_fw, State.finish_fw, State.setUst_fw]
@[simp] theorem execCellarChannelRetire_fw (ch : Nat) (s : State) : (nextOf s (execCellarChannelRetire ch s)).fw = s.fw := by
  unfold execCellarChannelRetire; split <;> simp only [fw_rules, State.chanGone_fw]
theorem State.loseBlocks_fw (s : State) (q ch : Nat) : (s.loseBlocks q ch).fw = s.fw := by
  simp only [State.loseBlocks, State.settleQueue_fw, State.setTqueue_fw]
  split <;> simp only [fw_rules, State.setTqueue_fw, State.freeSlot_fw]
@[simp] theorem execCellarChannelDead_fw (ch : Nat) (s : State) : (nextOf s (execCellarChannelDead ch s)).fw = s.fw := by
  simp only [execCellarChannelDead, fw_rules]
  repeat' split
  all_goals simp only [State.chanGone_fw, State.loseBlocks_fw, State.raise_fw, State.chanLeave_fw, eachIn_fw, implies_true]
theorem State.restoreChan_fw (s : State) (c : Nat) : (s.restoreChan c).fw = s.fw := by
  simp only [State.restoreChan, fw_rules, State.relayExt_fw, State.setUst_fw]
theorem effSpillQueues_fw (p : Packet) (s : State) : (effSpillQueues p s).1.fw = s.fw := by
  unfold effSpillQueues; split <;> simp only [fw_rules, eachIn_fw, implies_true]
theorem effSpillCfg_fw (p : Packet) (s : State) : (effSpillCfg p s).1.fw = s.fw := by
  simp only [effSpillCfg, fw_rules, State.relayExt_fw, effSpillQueues_fw, eachIn_fw, implies_true]
@[simp] theorem execSpillCfg_fw (p : Packet) (s : State) : (nextOf s (execSpillCfg p s)).fw = s.fw :=
  State.command_keeps (fun f => f) (effSpillCfg_fw p) s _

/-! ## Control stores and walkers -/

theorem State.setStore_fw (s : State) (st : Nat) (v : StoreRec) : (s.setStore st v).fw = s.fw := by simp only [State.setStore]
theorem State.showFoot_fw (s : State) (st : Nat) : (s.showFoot st).fw = s.fw := by unfold State.showFoot; split <;> simp only [fw_rules]
theorem effProgLoad_fw (p : Packet) (s : State) : (effProgLoad p s).1.fw = s.fw := Framed.fw (fun _ _ => rfl) (effProgLoad_framed _ _)
theorem State.setWalker_fw (s : State) (st n : Nat) (v : Walker) : (s.setWalker st n v).fw = s.fw := by simp only [State.setWalker]
theorem State.walkState_fw (s : State) (st n v : Nat) : (s.walkState st n v).fw = s.fw := by
  simp only [State.walkState, fw_rules, State.setWalker_fw]
theorem State.setCtxPc_fw (s : State) (st n a : Nat) : (s.setCtxPc st n a).fw = s.fw := by simp only [State.setCtxPc, State.setWalker_fw]
theorem State.takeSet_fw (s : State) (st n : Nat) : (s.takeSet st n).fw = s.fw := by simp only [State.takeSet, State.setWalker_fw]
theorem State.preemptWalker_fw (s : State) (st n : Nat) : (s.preemptWalker st n).fw = s.fw :=
  Framed.fw (fun _ _ => rfl) (State.preemptWalker_framed _ _ _)
theorem State.resumeCtx_fw (s : State) (st n : Nat) : (s.resumeCtx st n).fw = s.fw := by
  simp only [State.resumeCtx, fw_rules, State.walkState_fw, State.takeSet_fw, State.setWalker_fw]
theorem State.resumeWalkers_fw (s : State) (st : Nat) : (s.resumeWalkers st).fw = s.fw := by
  simp only [State.resumeWalkers, State.resumeCtx_fw, eachIn_fw, implies_true]
theorem State.startCtx_fw (s : State) (st n a : Nat) : (s.startCtx st n a).fw = s.fw := by
  simp only [State.startCtx, State.walkState_fw, State.setCtxPc_fw, State.takeSet_fw, State.setWalker_fw]
theorem State.startVendor_fw (s : State) (st n : Nat) : (s.startVendor st n).fw = s.fw := by simp only [State.startVendor, State.startCtx_fw]
theorem State.endVendor_fw (s : State) (st n : Nat) : (s.endVendor st n).fw = s.fw := by simp only [State.endVendor, fw_rules, State.walkState_fw]
theorem State.askSet_fw (s : State) (st : Nat) (l : List Word) : (s.askSet st l).fw = s.fw := Framed.fw (fun _ _ => rfl) (State.askSet_framed _ _ _)
theorem effProgPatch_fw (p : Packet) (s : State) : (effProgPatch p s).1.fw = s.fw := Framed.fw (fun _ _ => rfl) (effProgPatch_framed _ _)
theorem State.askVendor_fw (s : State) (st : Nat) : (s.askVendor st).fw = s.fw := by simp only [State.askVendor, State.setStore_fw, State.askSet_fw]
theorem State.loadVendor_fw (s : State) (st : Nat) : (s.loadVendor st).fw = s.fw := by simp only [State.loadVendor, State.setStore_fw]
@[simp] theorem execPatchSetCurrent_fw (st : Nat) (s : State) : (nextOf s (execPatchSetCurrent st s)).fw = s.fw := by
  unfold execPatchSetCurrent; split <;> simp only [fw_rules, State.setStore_fw, State.finish_fw, State.resumeWalkers_fw, eachIn_fw, implies_true]
theorem effStoreModeSet_fw (p : Packet) (s : State) : (effStoreModeSet p s).1.fw = s.fw := Framed.fw (fun _ _ => rfl) (effStoreModeSet_framed _ _)
theorem State.loadBase_fw (s : State) (st bank : Nat) : (s.loadBase st bank).fw = s.fw := by simp only [State.loadBase, fw_rules, State.setStore_fw]
theorem State.restartWalker_fw (s : State) (st bank : Nat) : (s.restartWalker st bank).fw = s.fw := by
  simp only [State.restartWalker, fw_rules, State.startCtx_fw, State.walkState_fw, State.setWalker_fw]
theorem State.switchBank_fw (s : State) (st bank : Nat) : (s.switchBank st bank).fw = s.fw := by
  simp only [State.switchBank, fw_rules, State.showFoot_fw, State.setStore_fw, State.restartWalker_fw, eachIn_fw, implies_true]
theorem State.switchStart_fw (s : State) (st bank : Nat) (after : Bool) : (s.switchStart st bank after).fw = s.fw := by
  simp only [State.switchStart, fw_rules, State.setStore_fw, State.preemptWalker_fw]
theorem State.activateDo_fw (s : State) (p : Packet) : (s.activateDo p).1.fw = s.fw := by
  simp only [State.activateDo, State.switchBank_fw, State.setStore_fw, eachIn_fw, implies_true]
theorem effProgActivate_fw (p : Packet) (s : State) : (effProgActivate p s).1.fw = s.fw := by
  simp only [effProgActivate, fw_rules]
  repeat' split
  all_goals simp only [State.activateDo_fw, State.switchStart_fw, State.loadBase_fw, eachIn_fw, implies_true]
theorem State.progActivateEnd_fw (s : State) (p : Packet) : (s.progActivateEnd p).fw = s.fw := by
  simp only [State.progActivateEnd, fw_rules, State.finish_fw]
theorem effProgRead_fw (p : Packet) (s : State) : (effProgRead p s).1.fw = s.fw := by simp only [effProgRead, fw_rules]
@[simp] theorem execStoreScrub_fw (st a : Nat) (corrected : Bool) (s : State) : (nextOf s (execStoreScrub st a corrected s)).fw = s.fw := by
  simp only [execStoreScrub, fw_rules, State.raise_fw]
theorem State.fetchFault_fw (s : State) (st a cause src pipe : Nat) (target : Nat) (inj : Bool) :
    (s.fetchFault st a cause src pipe target inj).fw = s.fw := by
  simp only [State.fetchFault, fw_rules, State.raise_fw]
@[simp] theorem execProgLoad_fw (p : Packet) (s : State) : (nextOf s (execProgLoad p s)).fw = s.fw :=
  State.command_keeps (fun f => f) (effProgLoad_fw p) s _
@[simp] theorem execProgPatch_fw (p : Packet) (s : State) : (nextOf s (execProgPatch p s)).fw = s.fw :=
    State.command_keeps (fun f => f) (effProgPatch_fw p) s _
@[simp] theorem execStoreModeSet_fw (p : Packet) (s : State) : (nextOf s (execStoreModeSet p s)).fw = s.fw :=
    State.command_keeps (fun f => f) (effStoreModeSet_fw p) s _
@[simp] theorem execProgActivate_fw (p : Packet) (s : State) : (nextOf s (execProgActivate p s)).fw = s.fw :=
    State.command_keeps (fun f => f) (effProgActivate_fw p) s _
@[simp] theorem execProgRead_fw (p : Packet) (s : State) : (nextOf s (execProgRead p s)).fw = s.fw :=
  State.command_keeps (fun f => f) (effProgRead_fw p) s _

/-! ## Tables -/

theorem State.setTables1_fw (s : State) (b : Nat) (v : TblRec) : (s.setTables1 b v).fw = s.fw := by simp only [State.setTables1]
theorem State.maint_fw (s : State) (b n : Nat) : (s.maint b n).fw = s.fw := Framed.fw (fun _ _ => rfl) (State.maint_framed _ _ _)
theorem State.setEntry_fw (s : State) (b id slot e : Nat) : (s.setEntry b id slot e).fw = s.fw :=
  Framed.fw (fun _ _ => rfl) (State.setEntry_framed _ _ _ _ _)
theorem State.clearEntry_fw (s : State) (b id slot : Nat) : (s.clearEntry b id slot).fw = s.fw := by simp only [State.clearEntry, State.setEntry_fw]
theorem State.showRecs_fw (s : State) (b : Nat) : (s.showRecs b).fw = s.fw := by simp only [State.showRecs, fw_rules]
theorem State.record_fw (s : State) (b ty id src slot bytes entry : Nat) : (s.record b ty id src slot bytes entry).fw = s.fw := by
  simp only [State.record, fw_rules, State.setTables1_fw, State.showRecs_fw]
@[simp] theorem execLearnRecordWrite_fw (b : Nat) (s : State) : (nextOf s (execLearnRecordWrite b s)).fw = s.fw := by
  unfold execLearnRecordWrite; split <;> simp only [fw_rules, State.setTables1_fw, State.showRecs_fw, State.msix_fw]
theorem State.learnEnable_fw (s : State) (b : Nat) (irqEn : Bool) : (s.learnEnable b irqEn).fw = s.fw := by
  simp only [State.learnEnable, fw_rules, State.setTables1_fw, State.showRecs_fw]
@[simp] theorem execLearnRingEnable_fw (b : Nat) (irqEn : Bool) (s : State) : (nextOf s (execLearnRingEnable b irqEn s)).fw = s.fw := by
  simp only [execLearnRingEnable, fw_rules, State.learnEnable_fw]
theorem State.wellLine_fw (s : State) (b id line : Nat) : (s.wellLine b id line).fw = s.fw := by simp only [State.wellLine]
theorem State.lineRepeat_fw (s : State) (b id slot : Nat) : (s.lineRepeat b id slot).fw = s.fw :=
  Framed.fw (fun _ _ => rfl) (State.lineRepeat_framed _ _ _ _)
theorem State.parityMet_fw (s : State) (b id slot src : Nat) : (s.parityMet b id slot src).fw = s.fw :=
  Framed.fw (fun _ _ => rfl) (State.parityMet_framed _ _ _ _ _)
theorem State.readSlots_fw (s : State) (b id : Nat) (slots : List Nat) (src : Nat) : (s.readSlots b id slots src).1.fw = s.fw :=
  Framed.fw (fun _ _ => rfl) (State.readSlots_framed _ _ _ _ _)
theorem State.readMaint_fw (s : State) (b id : Nat) (slots : List Nat) (src : Nat) : (s.readMaint b id slots src).1.fw = s.fw :=
  Framed.fw (fun _ _ => rfl) (State.readMaint_framed _ _ _ _ _)
theorem State.emLookup_fw (s : State) (b id key src : Nat) : (s.emLookup b id key src).1.fw = s.fw :=
  Framed.fw (fun _ _ => rfl) (State.emLookup_framed _ _ _ _ _)
theorem State.lpmProbe_fw (s : State) (b id addr vrf src : Nat) (lens : List Nat) : (s.lpmProbe b id addr vrf src lens).1.fw = s.fw := by
  induction lens generalizing s with
  | nil => rfl
  | cons len rest ih => simp only [State.lpmProbe, ih, State.emLookup_fw]
theorem State.lpmLookup_fw (s : State) (b id addr vrf src : Nat) : (s.lpmLookup b id addr vrf src).1.fw = s.fw := by
  simp only [State.lpmLookup, State.lpmProbe_fw]
theorem State.readDirect_fw (s : State) (b id i src : Nat) : (s.readDirect b id i src).1.fw = s.fw := by
  simp only [State.readDirect, fw_rules, State.parityMet_fw]
theorem State.stageLookup_fw (s : State) (b id key src : Nat) : (s.stageLookup b id key src).1.fw = s.fw := by
  simp only [State.stageLookup, fw_rules]
  repeat' split
  all_goals simp only [State.emLookup_fw, State.lpmLookup_fw, State.readDirect_fw]
theorem State.place_fw (s : State) (b id e evict src : Nat) : (s.place b id e evict src).1.fw = s.fw :=
  Framed.fw (fun _ _ => rfl) (State.place_framed _ _ _ _ _ _)
theorem State.showQueue_fw (s : State) (b : Nat) : (s.showQueue b).fw = s.fw := by simp only [State.showQueue, fw_rules]
theorem State.learnDrop_fw (s : State) (b : Nat) : (s.learnDrop b).fw = s.fw := by simp only [State.learnDrop, fw_rules]
theorem State.learnAsk_fw (s : State) (b : Nat) (r : LearnReq) : (s.learnAsk b r).fw = s.fw := by
  simp only [State.learnAsk, fw_rules, State.setTables1_fw, State.showQueue_fw, State.learnDrop_fw]
theorem State.topDone_fw (s : State) (b walker : Nat) (found err : Bool) : (s.topDone b walker found err).fw = s.fw := by
  simp only [State.topDone, fw_rules, State.setWalker_fw]
theorem State.learnInsert_fw (s : State) (b : Nat) (r : LearnReq) : (s.learnInsert b r).fw = s.fw := by
  unfold State.learnInsert
  dsimp only
  split
  · simp only [fw_rules, State.topDone_fw, State.setEntry_fw, State.record_fw]
  · split
    all_goals
      rename_i hplace
      simp only [fw_rules, State.topDone_fw, State.record_fw, fw_of_eq hplace (s.place_fw ..)]
theorem State.learnOnKey_fw (s : State) (b : Nat) (r : LearnReq) : (s.learnOnKey b r).fw = s.fw := by
  simp only [State.learnOnKey]
  split <;> simp only [fw_rules, State.topDone_fw, State.setEntry_fw, State.record_fw, State.clearEntry_fw]
theorem State.ageStart_fw (s : State) (b id : Nat) : (s.ageStart b id).fw = s.fw := by
  simp only [State.ageStart, fw_rules, State.setTables1_fw, State.maint_fw, State.showQueue_fw, State.readSlots_fw, State.startVendor_fw]
theorem State.ageNext_fw (s : State) (b : Nat) : (s.ageNext b).fw = s.fw := by
  simp only [State.ageNext, fw_rules, State.setTables1_fw, State.endVendor_fw, State.ageStart_fw, eachIn_fw, implies_true]
theorem State.ageRestart_fw (s : State) (b : Nat) : (s.ageRestart b).fw = s.fw := by
  simp only [State.ageRestart, State.setTables1_fw, State.ageStart_fw, eachIn_fw, implies_true]
theorem State.learnStep_fw (s : State) (b : Nat) : (s.learnStep b).fw = s.fw := by
  unfold State.learnStep; split <;> simp only [fw_rules, State.ageNext_fw, State.learnOnKey_fw, State.learnInsert_fw, State.setTables1_fw,
    State.showQueue_fw, State.perf_fw, State.readMaint_fw]
@[simp] theorem execLearnExecute_fw (b : Nat) (s : State) : (nextOf s (execLearnExecute b s)).fw = s.fw := by
  simp only [execLearnExecute, fw_rules, State.learnStep_fw]
@[simp] theorem execAgeTick_fw (b id : Nat) (s : State) : (nextOf s (execAgeTick b id s)).fw = s.fw := by
  simp only [execAgeTick, fw_rules, State.setTables1_fw, State.ageStart_fw]
theorem State.profile1_fw (s : State) (b profile seed : Nat) (caps : List Nat) : (s.profile1 b profile seed caps).fw = s.fw :=
  Framed.fw (fun _ _ => rfl) (State.profile1_framed _ _ _ _ _)
theorem State.profileDo_fw (s : State) (p : Packet) : (s.profileDo p).fw = s.fw := by
  simp only [State.profileDo, State.profile1_fw, eachIn_fw, implies_true]
theorem effTblProfile_fw (p : Packet) (s : State) : (effTblProfile p s).1.fw = s.fw := Framed.fw (fun _ _ => rfl) (effTblProfile_framed _ _)
theorem State.tblProfileEnd_fw (s : State) (p : Packet) : (s.tblProfileEnd p).fw = s.fw := by
  simp only [State.tblProfileEnd, State.finish_fw, State.profileDo_fw]
theorem effTblInsert_fw (p : Packet) (s : State) : (effTblInsert p s).1.fw = s.fw := Framed.fw (fun _ _ => rfl) (effTblInsert_framed _ _)
theorem effTblDelete_fw (p : Packet) (s : State) : (effTblDelete p s).1.fw = s.fw := Framed.fw (fun _ _ => rfl) (effTblDelete_framed _ _)
theorem effTblLookup_fw (p : Packet) (s : State) : (effTblLookup p s).1.fw = s.fw := Framed.fw (fun _ _ => rfl) (effTblLookup_framed _ _)
theorem effTblLock_fw (p : Packet) (s : State) : (effTblLock p s).1.fw = s.fw := Framed.fw (fun _ _ => rfl) (effTblLock_framed _ _)
theorem effTblLearnCfg_fw (p : Packet) (s : State) : (effTblLearnCfg p s).1.fw = s.fw := Framed.fw (fun _ _ => rfl) (effTblLearnCfg_framed _ _)
theorem State.dmaWrite_fw (s : State) (b id slot : Nat) (es : List Nat) : (s.dmaWrite b id slot es).1.fw = s.fw := by
  induction es generalizing s slot with
  | nil => rfl
  | cons e rest ih =>
    unfold State.dmaWrite
    split <;> simp only [ih, State.setEntry_fw]
theorem State.dmaLines_fw (s : State) (b id first n : Nat) : (s.dmaLines b id first n).fw = s.fw := by
  simp only [State.dmaLines, State.wellLine_fw, eachIn_fw, implies_true]
theorem State.dmaDo_fw (s : State) (p : Packet) : (s.dmaDo p).1.fw = s.fw := by
  simp only [State.dmaDo, fw_rules, State.readMaint_fw, State.dmaWrite_fw, State.dmaLines_fw]
  repeat' split
  all_goals simp only [fw_rules, State.dmaWrite_fw, State.dmaLines_fw]
theorem effTblDma_fw (p : Packet) (s : State) : (effTblDma p s).1.fw = s.fw := by
  simp only [effTblDma]
  split <;> simp only [fw_rules, State.dmaDo_fw]
theorem State.tblDmaEnd_fw (s : State) (p : Packet) : (s.tblDmaEnd p).fw = s.fw := by simp only [State.tblDmaEnd, State.finish_fw, State.dmaDo_fw]
theorem State.auditDo_fw (s : State) (p : Packet) : (s.auditDo p).1.fw = s.fw := by
  simp only [State.auditDo, fw_rules, State.endVendor_fw, State.readMaint_fw, eachIn_fw, implies_true]
theorem effTblAudit_fw (p : Packet) (s : State) : (effTblAudit p s).1.fw = s.fw := by
  simp only [effTblAudit, fw_rules, State.auditDo_fw, State.startVendor_fw, eachIn_fw, implies_true]
theorem State.tblAuditEnd_fw (s : State) (p : Packet) : (s.tblAuditEnd p).fw = s.fw := by
  simp only [State.tblAuditEnd, State.finish_fw, State.auditDo_fw]
theorem State.countEntry_fw (s : State) (b bank idx frames bytes src : Nat) : (s.countEntry b bank idx frames bytes src).fw = s.fw := by
  simp only [State.countEntry, fw_rules, State.setEntry_fw, State.parityMet_fw]
@[simp] theorem execTblProfile_fw (p : Packet) (s : State) : (nextOf s (execTblProfile p s)).fw = s.fw :=
    State.command_keeps (fun f => f) (effTblProfile_fw p) s _
@[simp] theorem execTblInsert_fw (p : Packet) (s : State) : (nextOf s (execTblInsert p s)).fw = s.fw :=
    State.command_keeps (fun f => f) (effTblInsert_fw p) s _
@[simp] theorem execTblDelete_fw (p : Packet) (s : State) : (nextOf s (execTblDelete p s)).fw = s.fw :=
    State.command_keeps (fun f => f) (effTblDelete_fw p) s _
@[simp] theorem execTblLookup_fw (p : Packet) (s : State) : (nextOf s (execTblLookup p s)).fw = s.fw :=
    State.command_keeps (fun f => f) (effTblLookup_fw p) s _
@[simp] theorem execTblDma_fw (p : Packet) (s : State) : (nextOf s (execTblDma p s)).fw = s.fw :=
  State.command_keeps (fun f => f) (effTblDma_fw p) s _
@[simp] theorem execTblAudit_fw (p : Packet) (s : State) : (nextOf s (execTblAudit p s)).fw = s.fw :=
  State.command_keeps (fun f => f) (effTblAudit_fw p) s _
@[simp] theorem execTblLock_fw (p : Packet) (s : State) : (nextOf s (execTblLock p s)).fw = s.fw :=
  State.command_keeps (fun f => f) (effTblLock_fw p) s _
@[simp] theorem execTblLearnCfg_fw (p : Packet) (s : State) : (nextOf s (execTblLearnCfg p s)).fw = s.fw :=
    State.command_keeps (fun f => f) (effTblLearnCfg_fw p) s _

/-! ## The classifier -/

theorem State.setTcam_fw (s : State) (part i : Nat) (e : TcamEnt) : (s.setTcam part i e).fw = s.fw :=
  Framed.fw (fun _ _ => rfl) (State.setTcam_framed _ _ _ _)
theorem State.tcamParity_fw (s : State) (part i : Nat) : (s.tcamParity part i).fw = s.fw := by
  simp only [State.tcamParity, fw_rules, State.raise_fw, State.setTcam_fw]
theorem State.walkTree_fw (s : State) (pp part half key miss n i : Nat) : (s.walkTree pp part half key miss n i).1.fw = s.fw := by
  induction n generalizing s i with
  | zero => rfl
  | succ n ih =>
    have hstep : ∀ t : State, t.fw = s.fw → ∀ j, (t.walkTree pp part half key miss n j).1.fw = s.fw := fun t ht j => (ih t j).trans ht
    unfold State.walkTree
    simp only [fw_rules, State.perf_fw, State.raise_fw, State.lineRepeat_fw, ih]
    repeat' split
    all_goals simp only [State.perf_fw, ih]
theorem State.clsSearch_fw (s : State) (pp part key : Nat) : (s.clsSearch pp part key).1.fw = s.fw := by
  simp only [State.clsSearch, fw_rules]
  repeat' split
  all_goals simp only [fw_rules, State.walkTree_fw, State.tcamParity_fw]
@[simp] theorem execTcamScrub_fw (part i : Nat) (s : State) : (nextOf s (execTcamScrub part i s)).fw = s.fw := by
  simp only [execTcamScrub, fw_rules, State.tcamParity_fw]
theorem effClsWrite_fw (p : Packet) (s : State) : (effClsWrite p s).1.fw = s.fw := Framed.fw (fun _ _ => rfl) (effClsWrite_framed _ _)
theorem State.clsSettle_fw (s : State) (part : Nat) : (s.clsSettle part).fw = s.fw := Framed.fw (fun _ _ => rfl) (State.clsSettle_framed _ _)
theorem State.treeApply_fw (s : State) (p : Packet) : (s.treeApply p).1.fw = s.fw := Framed.fw (fun _ _ => rfl) (State.treeApply_framed _ _)
theorem State.clsTreeEnd_fw (s : State) (p : Packet) : (s.clsTreeEnd p).fw = s.fw := by
  simp only [State.clsTreeEnd, fw_rules, State.treeApply_fw, State.finish_fw]
theorem effClsTreeLoad_fw (p : Packet) (s : State) : (effClsTreeLoad p s).1.fw = s.fw := Framed.fw (fun _ _ => rfl) (effClsTreeLoad_framed _ _)
theorem effClsRead_fw (p : Packet) (s : State) : (effClsRead p s).1.fw = s.fw := by simp only [effClsRead, fw_rules]
@[simp] theorem execClsWrite_fw (p : Packet) (s : State) : (nextOf s (execClsWrite p s)).fw = s.fw :=
  State.command_keeps (fun f => f) (effClsWrite_fw p) s _
@[simp] theorem execClsRead_fw (p : Packet) (s : State) : (nextOf s (execClsRead p s)).fw = s.fw :=
  State.command_keeps (fun f => f) (effClsRead_fw p) s _
@[simp] theorem execClsTreeLoad_fw (p : Packet) (s : State) : (nextOf s (execClsTreeLoad p s)).fw = s.fw :=
    State.command_keeps (fun f => f) (effClsTreeLoad_fw p) s _

/-! ## Spreads, groups and flowlets -/

theorem State.setSpreadB_fw (s : State) (b : Nat) (v : SpreadRec) : (s.setSpreadB b v).fw = s.fw := by simp only [State.setSpreadB]
theorem State.setFlowlet_fw (s : State) (b i : Nat) (f : Flowlet) : (s.setFlowlet b i f).fw = s.fw := by simp only [State.setFlowlet]
theorem State.flSelect_fw (s : State) (p grp g i hashE rand : Nat) : (s.flSelect p grp g i hashE rand).1.fw = s.fw := by
  simp only [State.flSelect, fw_rules, State.perf_fw, State.readDirect_fw, State.setFlowlet_fw]
theorem State.ecmpSelect_fw (s : State) (p grp g i hashE rand q : Nat) : (s.ecmpSelect p grp g i hashE rand q).1.fw = s.fw := by
  simp only [State.ecmpSelect, fw_rules, State.flSelect_fw]
theorem State.chargeSlot_fw (s : State) (b slot bytes : Nat) : (s.chargeSlot b slot bytes).fw = s.fw := by simp only [State.chargeSlot]
@[simp] theorem execFlowletSweep_fw (b : Nat) (s : State) : (nextOf s (execFlowletSweep b s)).fw = s.fw := by simp only [execFlowletSweep, fw_rules]
theorem State.evalGroup_fw (s : State) (b : Nat) (g : Nat × Nat) : (s.evalGroup b g).fw = s.fw := by simp only [State.evalGroup, fw_rules]
theorem State.reseed_fw (s : State) (b k : Nat) : (s.reseed b k).fw = s.fw := by simp only [State.reseed, fw_rules, State.setSpreadB_fw]
theorem State.hotGroups_fw (s : State) (b : Nat) (hot : List (Nat × Nat)) : (s.hotGroups b hot).fw = s.fw := by
  unfold State.hotGroups; split <;> simp only [fw_rules, State.reseed_fw, State.msix_fw, eachIn_fw, implies_true]
theorem State.newWindow_fw (s : State) (b : Nat) : (s.newWindow b).fw = s.fw := by simp only [State.newWindow]
theorem State.windowEnds_fw (s : State) (b : Nat) : (s.windowEnds b).fw = s.fw := by
  simp only [State.windowEnds, fw_rules, State.newWindow_fw, State.setSpreadB_fw, State.evalGroup_fw, State.hotGroups_fw, eachIn_fw, implies_true]
@[simp] theorem execImbWindowEnd_fw (b : Nat) (s : State) : (nextOf s (execImbWindowEnd b s)).fw = s.fw := by
  simp only [execImbWindowEnd, fw_rules, State.windowEnds_fw]
theorem effEcmpGroupSet_fw (p : Packet) (s : State) : (effEcmpGroupSet p s).1.fw = s.fw := Framed.fw (fun _ _ => rfl) (effEcmpGroupSet_framed _ _)
theorem effEcmpMemberSet_fw (p : Packet) (s : State) : (effEcmpMemberSet p s).1.fw = s.fw := Framed.fw (fun _ _ => rfl) (effEcmpMemberSet_framed _ _)
theorem effHashCfg_fw (p : Packet) (s : State) : (effHashCfg p s).1.fw = s.fw := Framed.fw (fun _ _ => rfl) (effHashCfg_framed _ _)
@[simp] theorem execEcmpGroupSet_fw (p : Packet) (s : State) : (nextOf s (execEcmpGroupSet p s)).fw = s.fw :=
    State.command_keeps (fun f => f) (effEcmpGroupSet_fw p) s _
@[simp] theorem execEcmpMemberSet_fw (p : Packet) (s : State) : (nextOf s (execEcmpMemberSet p s)).fw = s.fw :=
    State.command_keeps (fun f => f) (effEcmpMemberSet_fw p) s _
@[simp] theorem execHashCfg_fw (p : Packet) (s : State) : (nextOf s (execHashCfg p s)).fw = s.fw :=
  State.command_keeps (fun f => f) (effHashCfg_fw p) s _

/-! ## The microcode -/

theorem State.ctxFault_fw (s : State) (c : UCtx) (a cause : Nat) (inj : Bool) : (s.ctxFault c a cause inj).fw = s.fw := by
  simp only [State.ctxFault, fw_rules, State.perf_fw, State.fetchFault_fw]
theorem State.fetch_fw (s : State) (c : UCtx) (a : Nat) : (s.fetch c a).1.fw = s.fw := by
  simp only [State.fetch]
  split <;> simp only [fw_rules, State.ctxFault_fw]
theorem State.wordCount_fw (s : State) (b w adb frames bytes src : Nat) : (s.wordCount b w adb frames bytes src).fw = s.fw := by
  simp only [State.wordCount]
  split <;> simp only [State.countEntry_fw]
theorem State.packetSide_fw (s : State) (p : PCtx) (w : Nat) (v : Phv) : (s.packetSide p w v).fw = s.fw := by
  simp only [State.packetSide, fw_rules, State.learnAsk_fw, State.perf_fw, State.wordCount_fw]
theorem State.routine_fw (s : State) (p : PCtx) (n a : Nat) (v : Phv) : (s.routine p n a v).1.fw = s.fw := by
  induction n generalizing s a v with
  | zero => rfl
  | succ n ih =>
    unfold State.routine
    split
    all_goals
      rename_i hfetch
      simp only [fw_rules, ih, State.packetSide_fw, State.perf_fw, fw_of_eq hfetch (s.fetch_fw ..)]
theorem State.runRoutine_fw (s : State) (p : PCtx) (a : Nat) (v : Phv) : (s.runRoutine p a v).1.fw = s.fw := by
  simp only [State.runRoutine, fw_rules, State.routine_fw]
theorem State.setWalkQuarter_fw (s : State) (line q v : Nat) : (s.setWalkQuarter line q v).fw = s.fw := by
  simp only [State.setWalkQuarter, State.setExtWord_fw, eachIn_fw, implies_true]
theorem State.walkEntry_fw (s : State) (b n id op : Nat) (v : Phv) : (s.walkEntry b n id op v).fw = s.fw := by
  simp only [State.walkEntry, fw_rules, State.setEntry_fw, State.setWalker_fw, State.parityMet_fw]
theorem State.walkLine_fw (s : State) (n : Nat) (wr : Bool) (v : Phv) : (s.walkLine n wr v).fw = s.fw := by
  simp only [State.walkLine, fw_rules, State.setWalkQuarter_fw, State.extUsed_fw, State.perf_fw, State.setWalker_fw]
theorem State.walkPerf_fw (s : State) (st n : Nat) (custom : Bool) (v : Phv) : (s.walkPerf st n custom v).fw = s.fw := by
  unfold State.walkPerf; split <;> simp only [State.setWalker_fw]
theorem State.untilDone_fw (s : State) (b n fuel : Nat) : (s.untilDone b n fuel).fw = s.fw := by
  induction fuel generalizing s with
  | zero => rfl
  | succ fuel ih => simp only [State.untilDone, fw_rules, ih, State.learnStep_fw]
theorem State.walkTop_fw (s : State) (st n w addr : Nat) (v : Phv) : (s.walkTop st n w addr v).fw = s.fw := by
  simp only [State.walkTop, fw_rules, State.topDone_fw, State.walkLine_fw, State.learnAsk_fw, State.setWalker_fw, State.untilDone_fw,
    State.walkEntry_fw, State.walkPerf_fw]
theorem State.walkRun_fw (s : State) (st n fuel waits a : Nat) : (s.walkRun st n fuel waits a).1.fw = s.fw := by
  induction fuel generalizing s waits a with
  | zero => rfl
  | succ fuel ih =>
    unfold State.walkRun
    split
    all_goals
      rename_i hfetch
      simp only [fw_rules, ih, State.walkTop_fw, State.wordCount_fw, State.perf_fw, State.setWalker_fw, fw_of_eq hfetch (s.fetch_fw ..)]
theorem State.takeRequest_fw (s : State) (st n : Nat) : (s.takeRequest st n).fw = s.fw := by
  simp only [State.takeRequest, fw_rules, State.walkState_fw, State.setWalker_fw]
theorem State.walkOn_fw (s : State) (st n : Nat) : (s.walkOn st n).1.fw = s.fw := by
  simp only [State.walkOn]
  split <;> simp only [fw_rules, State.walkState_fw, State.setCtxPc_fw, State.takeSet_fw, State.takeRequest_fw, State.startVendor_fw,
    State.ageRestart_fw, State.walkRun_fw]
theorem State.walkWatchdog_fw (s : State) (st n : Nat) : (s.walkWatchdog st n).fw = s.fw := by
  simp only [State.walkWatchdog, fw_rules]
  repeat' split
  all_goals simp only [fw_rules, State.ctxFault_fw, State.walkState_fw, State.startVendor_fw, State.ageRestart_fw, State.walkRun_fw]

/-! ## The scheduler -/

theorem State.dwrr_fw (s : State) (p : Nat) (e : List Nat) (fuel : Nat) : (s.dwrr p e fuel).1.fw = s.fw := by
  induction fuel generalizing s with
  | zero => rfl
  | succ fuel ih => simp only [State.dwrr, fw_rules, ih, State.setSport_fw]
theorem State.pick_fw (s : State) (p : Nat) : (s.pick p).1.fw = s.fw := by
  simp only [State.pick]
  repeat' split
  all_goals simp only [State.dwrr_fw]
theorem State.unlinkHead_fw (s : State) (q i : Nat) : (s.unlinkHead q i).fw = s.fw := by
  simp only [State.unlinkHead, State.wdEmpty_fw, State.showEmpty_fw, State.setTqueue_fw]
theorem State.loseFrame_fw (s : State) (i : Nat) : (s.loseFrame i).fw = s.fw := by
  simp only [State.loseFrame, State.setTframe_fw]
  split <;> simp only [fw_rules, State.dropUp_fw, State.setInBuf_fw, State.chargeIng_fw, State.setAsm_fw, State.tunDrop_fw]
theorem State.cutList_fw (s : State) (q k : Nat) : (s.cutList q k).fw = s.fw := by
  simp only [State.cutList, fw_rules, State.showEmpty_fw, State.loseFrame_fw, State.raise_fw, State.joinTail_fw, State.setTqueue_fw,
    State.freeSlot_fw, eachIn_fw, implies_true]
theorem State.payShapers_fw (s : State) (q len : Nat) : (s.payShapers q len).fw = s.fw := by
  simp only [State.payShapers, State.setSport_fw, State.setSqueue_fw]
theorem State.payDeficit_fw (s : State) (q len : Nat) (dw : Bool) : (s.payDeficit q len dw).fw = s.fw := by
  simp only [State.payDeficit, fw_rules, State.setSport_fw]
theorem State.askReads_fw (s : State) (i r k : Nat) : (s.askReads i r k).fw = s.fw := by
  simp only [State.askReads, fw_rules, State.setReads_fw, State.poisonMet_fw]
theorem State.sendDn_fw (s : State) (i soj : Nat) : (s.sendDn i soj).fw = s.fw := by
  simp only [State.sendDn, fw_rules, State.lostExport_fw, State.setSport_fw, State.setDnList_fw, State.setTframe_fw, State.askReads_fw,
    State.freeFrame_fw, State.setAhead_fw, State.poisonMet_fw]
theorem State.dequeue_fw (s : State) (q i : Nat) (dw : Bool) : (s.dequeue q i dw).fw = s.fw := by
  simp only [State.dequeue, State.recordPick_fw, State.starveCheck_fw, State.countSent_fw, State.payDeficit_fw, State.payShapers_fw,
    State.unlinkHead_fw, State.setAhead_fw, State.sendDn_fw]
theorem State.decision_fw (s : State) (p : Nat) (readable : Option Nat) (fuel : Nat) : (s.decision p readable fuel).fw = s.fw := by
  induction fuel generalizing s readable with
  | zero => rfl
  | succ fuel ih =>
    unfold State.decision
    dsimp only
    repeat' split
    all_goals simp only [fw_rules, ih, State.pick_fw, State.cutList_fw, State.starveCheck_fw, State.tunDrop_fw, State.unlinkHead_fw,
      State.freeFrame_fw, State.payDeficit_fw, State.dequeue_fw]
@[simp] theorem execSchedPick_fw (p : Nat) (broken : Bool) (readable : Nat) (s : State) :
    (nextOf s (execSchedPick p broken readable s)).fw = s.fw := by
  simp only [execSchedPick, fw_rules, State.wakePort_fw, State.decision_fw]
theorem State.takeDn_fw (s : State) (b : Nat) (d : DnFrame) : (s.takeDn b d).fw = s.fw := by
  simp only [State.takeDn, fw_rules, State.lostExport_fw, State.showReseq_fw, State.setRootBough_fw]
@[simp] theorem execDnAck_fw (c : Nat) (s : State) : (nextOf s (execDnAck c s)).fw = s.fw := by
  unfold execDnAck; split <;> simp only [fw_rules, State.popDn_fw, State.freeFrame_fw]

/-! ## Flits -/

theorem State.upCame_fw (s : State) (c : Nat) : (s.upCame c).fw = s.fw := by simp only [State.upCame, State.fillInBuf_fw, State.dropGone_fw]
theorem State.dnCame_fw (s : State) (c : Nat) : (s.dnCame c).fw = s.fw := by
  simp only [State.dnCame, State.setDnList_fw, State.takeDn_fw, eachIn_fw, implies_true]
theorem State.flitErr_fw (s : State) (c : Nat) (dn : Bool) (err : Nat) : (s.flitErr c dn err).1.fw = s.fw := by
  unfold State.flitErr; split <;> simp only [fw_rules]
@[simp] theorem execFlitRx_fw (c : Nat) (dn : Bool) (body crc : Nat) (s : State) : (nextOf s (execFlitRx c dn body crc s)).fw = s.fw := by
  simp only [execFlitRx, fw_rules, State.flitErr_fw, State.setRdir_fw, State.dnCame_fw, State.upCame_fw, State.flitIn_fw, State.nextFlit_fw]

/-! ## Policing and flow control -/

theorem effSchedCfg_fw (p : Packet) (s : State) : (effSchedCfg p s).1.fw = s.fw := Framed.fw (fun _ _ => rfl) (effSchedCfg_framed _ _)
@[simp] theorem execSchedCfg_fw (p : Packet) (s : State) : (nextOf s (execSchedCfg p s)).fw = s.fw :=
  State.command_keeps (fun f => f) (effSchedCfg_fw p) s _
theorem effShaperCfg_fw (p : Packet) (s : State) : (effShaperCfg p s).1.fw = s.fw := Framed.fw (fun _ _ => rfl) (effShaperCfg_framed _ _)
@[simp] theorem execShaperCfg_fw (p : Packet) (s : State) : (nextOf s (execShaperCfg p s)).fw = s.fw :=
    State.command_keeps (fun f => f) (effShaperCfg_fw p) s _
theorem effWredCfg_fw (p : Packet) (s : State) : (effWredCfg p s).1.fw = s.fw := Framed.fw (fun _ _ => rfl) (effWredCfg_framed _ _)
@[simp] theorem execWredCfg_fw (p : Packet) (s : State) : (nextOf s (execWredCfg p s)).fw = s.fw :=
  State.command_keeps (fun f => f) (effWredCfg_fw p) s _
theorem effHwmRead_fw (p : Packet) (s : State) : (effHwmRead p s).1.fw = s.fw := Framed.fw (fun _ _ => rfl) (effHwmRead_framed _ _)
@[simp] theorem execHwmRead_fw (p : Packet) (s : State) : (nextOf s (execHwmRead p s)).fw = s.fw :=
  State.command_keeps (fun f => f) (effHwmRead_fw p) s _
theorem State.setMeter_fw (s : State) (part i : Nat) (v : Meter) : (s.setMeter part i v).fw = s.fw :=
  Framed.fw (fun _ _ => rfl) (State.setMeter_framed _ _ _ _)
theorem State.runMeter_fw (s : State) (part i b pre : Nat) : (s.runMeter part i b pre).1.fw = s.fw := by
  simp only [State.runMeter, State.setMeter_fw]
theorem effMeterCfg_fw (p : Packet) (s : State) : (effMeterCfg p s).1.fw = s.fw := Framed.fw (fun _ _ => rfl) (effMeterCfg_framed _ _)
@[simp] theorem execMeterCfg_fw (p : Packet) (s : State) : (nextOf s (execMeterCfg p s)).fw = s.fw :=
  State.command_keeps (fun f => f) (effMeterCfg_fw p) s _
theorem effMeterRead_fw (p : Packet) (s : State) : (effMeterRead p s).1.fw = s.fw := by simp only [effMeterRead, fw_rules]
@[simp] theorem execMeterRead_fw (p : Packet) (s : State) : (nextOf s (execMeterRead p s)).fw = s.fw :=
    State.command_keeps (fun f => f) (effMeterRead_fw p) s _
theorem State.sendPfc_fw (s : State) (p held freed : Nat) : (s.sendPfc p held freed).fw = s.fw := by
  simp only [State.sendPfc, fw_rules, State.setSport_fw, State.macSend_fw, eachIn_fw, implies_true]
theorem State.sendPause_fw (s : State) (p : Nat) (off : Bool) : (s.sendPause p off).fw = s.fw := by
  simp only [State.sendPause, fw_rules, State.setSport_fw, State.macSend_fw]
theorem State.tellXoff_fw (s : State) (p : Nat) : (s.tellXoff p).fw = s.fw := by
  simp only [State.tellXoff, fw_rules, State.setSport_fw, State.sendPause_fw, State.sendPfc_fw]
@[simp] theorem execPfcXoffChange_fw (p : Nat) (s : State) : (nextOf s (execPfcXoffChange p s)).fw = s.fw := by
  simp only [execPfcXoffChange, fw_rules, State.tellXoff_fw]
@[simp] theorem execPfcRefreshTimer_fw (p : Nat) (s : State) : (nextOf s (execPfcRefreshTimer p s)).fw = s.fw := by
  simp only [execPfcRefreshTimer, fw_rules, State.setSport_fw, State.sendPause_fw, State.sendPfc_fw]
theorem State.wdNormal_fw (s : State) (q : Nat) : (s.wdNormal q).fw = s.fw := Framed.fw (fun _ _ => rfl) (State.wdNormal_framed _ _)
theorem State.wdTrip_fw (s : State) (q cause : Nat) : (s.wdTrip q cause).fw = s.fw := by
  simp only [State.wdTrip, fw_rules, State.flushQueue_fw, State.msix_fw, State.setSqueue_fw]
@[simp] theorem execPfcWdCheck_fw (q : Nat) (s : State) : (nextOf s (execPfcWdCheck q s)).fw = s.fw := by
  simp only [execPfcWdCheck, fw_rules, State.setSqueue_fw]
  repeat' split
  all_goals simp only [State.wdNormal_fw, State.wdTrip_fw, State.setSqueue_fw]
theorem effPfcWdCfg_fw (p : Packet) (s : State) : (effPfcWdCfg p s).1.fw = s.fw := Framed.fw (fun _ _ => rfl) (effPfcWdCfg_framed _ _)
@[simp] theorem execPfcWdCfg_fw (p : Packet) (s : State) : (nextOf s (execPfcWdCfg p s)).fw = s.fw :=
  State.command_keeps (fun f => f) (effPfcWdCfg_fw p) s _

/-! ## Port configuration -/

theorem State.applyPort_fw (s : State) (p lanes speed fec : Nat) : (s.applyPort p lanes speed fec).fw = s.fw := by
  simp only [State.applyPort, fw_rules, State.lanesDown_fw, State.setPState_fw, State.flushPort_fw, State.setTwigSetting_fw]
theorem State.showPair_fw (s : State) (b g : Nat) (result : Option Nat) : (s.showPair b g result).fw = s.fw := by
  unfold State.showPair; split <;> simp only [fw_rules]
theorem State.boughCommit_fw (s : State) (b g : Nat) : (s.boughCommit b g).fw = s.fw := by
  simp only [State.boughCommit, fw_rules, State.showPair_fw, State.setPair_fw, State.pairMismatch_fw]
theorem State.reconfApply_fw (s : State) (p : Nat) : (s.reconfApply p).fw = s.fw := by
  simp only [State.reconfApply, fw_rules, State.showPair_fw, State.setPort_fw, State.finish_fw, State.applyPort_fw, State.portOff_fw,
    State.pairMismatch_fw, State.portOn_fw]
theorem State.boughApply_fw (s : State) (b : Nat) : (s.boughApply b).fw = s.fw := by
  simp only [State.boughApply]
  repeat' split
  all_goals simp only [State.showPair_fw, State.reconfApply_fw, State.applyPort_fw, State.setPair_fw, State.pairMismatch_fw]
theorem State.clearRates_fw (s : State) (i lanes : Nat) : (s.clearRates i lanes).fw = s.fw := by
  simp only [State.clearRates, State.setLane_fw, eachIn_fw, implies_true]
theorem effPortCfg_fw (p : Packet) (s : State) : (effPortCfg p s).1.fw = s.fw := by
  unfold effPortCfg; split <;> simp only [fw_rules, State.clearRates_fw, State.showPair_fw, State.setPort_fw, State.applyPort_fw,
    State.pairMismatch_fw]
@[simp] theorem execPortCfg_fw (p : Packet) (s : State) : (nextOf s (execPortCfg p s)).fw = s.fw :=
  State.command_keeps (fun f => f) (effPortCfg_fw p) s _

/-! ## Repinning -/

theorem State.resendDn_fw (s : State) (c : Nat) : (s.resendDn c).fw = s.fw := by
  simp only [State.resendDn, State.setRdir_fw, State.setReads_fw, State.setDnList_fw, State.setTframe_fw, State.askReads_fw, eachIn_fw, implies_true]
theorem State.sendMap_fw (s : State) (b : Nat) : (s.sendMap b).fw = s.fw := by
  unfold State.sendMap; split <;> simp only [State.sendCtl_fw, eachIn_fw, implies_true]
theorem State.mapChange_fw (s : State) (b : Nat) (r : MapReq) : (s.mapChange b r).fw = s.fw := by
  simp only [State.mapChange, fw_rules, State.advanceEpoch_fw, State.sendMap_fw, State.spread_fw, State.setUpList_fw, State.unspread_fw,
    State.setRootBough_fw, State.resendDn_fw, State.putUp_fw, eachIn_fw, implies_true]
theorem State.mapBegin_fw (s : State) (b : Nat) (r : MapReq) : (s.mapBegin b r).fw = s.fw := by
  simp only [State.mapBegin, fw_rules, State.mapChange_fw, State.tellWait_fw]
theorem State.releaseHold_fw (s : State) (b : Nat) : (s.releaseHold b).fw = s.fw := by
  simp only [State.releaseHold, fw_rules, State.setHoldList_fw, State.freeFrame_fw, State.linkFrame_fw, State.tunDrop_fw, eachIn_fw, implies_true]
theorem State.mapEnd_fw (s : State) (b : Nat) (m : MapRun) : (s.mapEnd b m).fw = s.fw := by
  simp only [State.mapEnd, fw_rules, State.showReseq_fw, State.finish_fw, State.setRootBough_fw, State.clusterGone_fw, State.releaseHold_fw]
@[simp] theorem execPinMapChange_fw (b : Nat) (s : State) : (nextOf s (execPinMapChange b s)).fw = s.fw := by
  simp only [execPinMapChange, fw_rules]
  repeat' split
  all_goals simp only [State.mapEnd_fw, State.mapBegin_fw, State.setRootBough_fw]
theorem State.fenceCame_fw (s : State) (c : Nat) (m : MapRun) : (s.fenceCame c m).fw = s.fw := by
  simp only [State.fenceCame, fw_rules, State.mapEnd_fw, State.setRootBough_fw]
@[simp] theorem execRepinFenceRx_fw (c : Nat) (s : State) : (nextOf s (execRepinFenceRx c s)).fw = s.fw := by
  simp only [execRepinFenceRx, fw_rules]
  repeat' split
  all_goals simp only [State.fenceCame_fw, State.popUp_fw]
theorem State.disableUp_fw (s : State) (c : Nat) : (s.disableUp c).1.fw = s.fw := by
  simp only [State.disableUp]
  split <;> simp only [fw_rules, State.setRdir_fw, State.setUpList_fw, State.markDnBad_fw, State.setInBuf_fw, State.setTframe_fw, State.setAsm_fw,
    State.freeFrame_fw]
@[simp] theorem execRepinEndWaitExpire_fw (b : Nat) (s : State) : (nextOf s (execRepinEndWaitExpire b s)).fw = s.fw := by
  unfold execRepinEndWaitExpire; split <;> simp only [fw_rules, State.mapEnd_fw, State.raise_fw, State.disableUp_fw, eachIn_fw, implies_true]
@[simp] theorem execReseqGapSkip_fw (p : Nat) (s : State) : (nextOf s (execReseqGapSkip p s)).fw = s.fw := by
  simp only [execReseqGapSkip, fw_rules]
  split <;> simp only [fw_rules, State.setRootBough_fw]
@[simp] theorem execPairApply_fw (b : Nat) (s : State) : (nextOf s (execPairApply b s)).fw = s.fw := by
  simp only [execPairApply, fw_rules, State.tunApply_fw, State.boughApply_fw]

/-! ## Pipes -/

theorem State.setPframes_fw (s : State) (p : Nat) (l : List PFrame) : (s.setPframes p l).fw = s.fw := by simp only [State.setPframes]
theorem State.setPipe_fw (s : State) (p : Nat) (v : PipeRec) : (s.setPipe p v).fw = s.fw := by simp only [State.setPipe]
theorem State.setPart_fw (s : State) (p : Nat) (v : PipePart) : (s.setPart p v).fw = s.fw := Framed.fw (fun _ _ => rfl) (State.setPart_framed _ _ _)
theorem State.setTwigQ_fw (s : State) (t : Nat) (l : List InFrame) : (s.setTwigQ t l).fw = s.fw := by simp only [State.setTwigQ]
theorem State.setInjQ_fw (s : State) (k : Nat) (l : List InFrame) : (s.setInjQ k l).fw = s.fw := by simp only [State.setInjQ]
theorem State.showFifo_fw (s : State) (t : Nat) : (s.showFifo t).fw = s.fw := by simp only [State.showFifo, fw_rules]
theorem State.twigAdmit_fw (s : State) (f : InFrame) : (s.twigAdmit f).fw = s.fw := by
  simp only [State.twigAdmit, fw_rules, State.setTwigQ_fw, State.showFifo_fw]
theorem State.wdSeen_fw (s : State) (p : Nat) : (s.wdSeen p).fw = s.fw := by
  simp only [State.wdSeen, fw_rules, State.wdGap_fw, State.setSqueue_fw, eachIn_fw, implies_true]
theorem State.rxControl_fw (s : State) (p opcode : Nat) (d : List Nat) : (s.rxControl p opcode d).fw = s.fw := by
  simp only [State.rxControl, fw_rules, State.wdGap_fw, State.setPort_fw, State.wdSeen_fw, eachIn_fw, implies_true]
@[simp] theorem execRxFrame_fw (p : Nat) (bytes : List Nat) (errored : Bool) (s : State) : (nextOf s (execRxFrame p bytes errored s)).fw = s.fw := by
  simp only [execRxFrame, fw_rules]
  repeat' split
  all_goals simp only [fw_rules, State.rxControl_fw, State.twigAdmit_fw]
theorem State.entryPhv_fw (s : State) (t tail : Nat) (f : InFrame) : (s.entryPhv t tail f).1.fw = s.fw := by simp only [State.entryPhv, fw_rules]
theorem State.meterStage_fw (s : State) (p : Nat) (f : PFrame) : (s.meterStage p f).1.fw = s.fw := by
  simp only [State.meterStage, fw_rules, State.perf_fw, State.runMeter_fw]
theorem State.hashStage_fw (s : State) (p : Nat) (f : PFrame) : (s.hashStage p f).1.fw = s.fw := by
  simp only [State.hashStage, fw_rules, State.readDirect_fw]
theorem State.memberStage_fw (s : State) (p : Nat) (f : PFrame) : (s.memberStage p f).1.fw = s.fw := by
  unfold State.memberStage; split <;> simp only [fw_rules, State.ecmpSelect_fw, State.chargeSlot_fw, State.readDirect_fw]
theorem State.fixedStage_fw (s : State) (p : Nat) (f : PFrame) (sg : Nat) : (s.fixedStage p f sg).1.fw = s.fw := by
  unfold State.fixedStage; split <;> simp only [State.hashStage_fw, State.meterStage_fw, State.memberStage_fw]
theorem State.lookStage_fw (s : State) (p sg cfg key : Nat) : (s.lookStage p sg cfg key).1.fw = s.fw := by
  simp only [State.lookStage, fw_rules, State.perf_fw, State.stageLookup_fw]
theorem State.stage_fw (s : State) (p : Nat) (f : PFrame) (sg : Nat) : (s.stage p f sg).1.fw = s.fw := by
  simp only [State.stage, fw_rules]
  split <;> simp only [fw_rules, State.lookStage_fw, State.runRoutine_fw, State.clsSearch_fw, State.fixedStage_fw]
theorem State.stages_fw (s : State) (p : Nat) (f : PFrame) (sgs : List Nat) : (s.stages p f sgs).1.fw = s.fw := by
  simp only [State.stages, State.stage_fw, foldl_fst_fw, implies_true]
theorem State.takeFrom_fw (s : State) (x : Source) : (s.takeFrom x).1.fw = s.fw := by
  unfold State.takeFrom; split <;> simp only [State.setTwigQ_fw, State.setInjQ_fw]
theorem State.lenDrop_fw (s : State) (p : Nat) : (s.lenDrop p).fw = s.fw := by simp only [State.lenDrop, fw_rules]
theorem State.enterPipe_fw (s : State) (p t tail : Nat) (f : InFrame) : (s.enterPipe p t tail f).fw = s.fw := by
  simp only [State.enterPipe, fw_rules, State.entryPhv_fw, State.showFifo_fw, State.perf_fw, State.setPframes_fw, State.setPipe_fw, State.stages_fw]
@[simp] theorem execPipeFrameEntry_fw (p slot tail : Nat) (s : State) : (nextOf s (execPipeFrameEntry p slot tail s)).fw = s.fw := by
  simp only [execPipeFrameEntry, fw_rules]
  split
  · rfl
  · split
    · rfl
    · split
      all_goals
        rename_i htake
        simp only [fw_rules, State.setPipe_fw, State.lenDrop_fw, State.enterPipe_fw, fw_of_eq htake (s.takeFrom_fw ..)]
theorem State.showReorder_fw (s : State) (p : Nat) : (s.showReorder p).fw = s.fw := by simp only [State.showReorder, fw_rules]
theorem State.releaseFrames_fw (s : State) (p : Nat) (done fs : List PFrame) : (s.releaseFrames p done fs).fw = s.fw := by
  induction fs generalizing s done with
  | nil => exact s.setPframes_fw p done
  | cons f rest ih => simp only [State.releaseFrames, fw_rules, ih, State.setPframes_fw, State.stages_fw]
theorem State.countStall_fw (s : State) (p n : Nat) : (s.countStall p n).fw = s.fw := by
  simp only [State.countStall, fw_rules, State.perf_fw, State.setPipe_fw]
theorem State.resultReturns_fw (s : State) (p n : Nat) : (s.resultReturns p n).fw = s.fw := by
  unfold State.resultReturns; split <;> simp only [fw_rules, State.releaseFrames_fw, State.clsSettle_fw, State.perf_fw, State.setPframes_fw,
    State.showReorder_fw, State.countStall_fw]
theorem State.sketchAdd_fw (s : State) (p : Nat) (f : PFrame) : (s.sketchAdd p f).fw = s.fw := by
  simp only [State.sketchAdd, fw_rules, eachIn_fw, implies_true]
theorem State.flagAdd_fw (s : State) (part h : Nat) : (s.flagAdd part h).fw = s.fw := by simp only [State.flagAdd, fw_rules, State.setPart_fw]
theorem State.sendUp_fw (s : State) (p : Nat) (u : UpFrame) (excess : Bool) : (s.sendUp p u excess).fw = s.fw := by
  simp only [State.sendUp, fw_rules, State.perf_fw, State.putUp_fw]
theorem State.disposeFrame_fw (s : State) (p : Nat) (f : PFrame) (excess : Bool) : (s.disposeFrame p f excess).fw = s.fw := by
  simp only [State.disposeFrame, fw_rules, State.flagAdd_fw, State.sketchAdd_fw, State.perf_fw]
  repeat' split
  all_goals simp only [fw_rules, State.flagAdd_fw, State.lenDrop_fw, State.sketchAdd_fw, State.perf_fw, State.sendUp_fw]
@[simp] theorem execPipeDispose_fw (p : Nat) (excess : Bool) (s : State) : (nextOf s (execPipeDispose p excess s)).fw = s.fw := by
  unfold execPipeDispose; split <;> simp only [fw_rules, State.showFifo_fw, State.setPframes_fw, State.setPipe_fw, State.disposeFrame_fw]

/-! ## Egress -/

theorem State.ptpEgress_fw (s : State) (p : Nat) (d : List Nat) (stamp inTs : Nat) : (s.ptpEgress p d stamp inTs).1.fw = s.fw := by
  simp only [State.ptpEgress, fw_rules, State.pushTs_fw]
theorem State.ioamEgress_fw (s : State) (pp twig : Nat) (d : List Nat) (stamp inTs : Nat) : (s.ioamEgress pp twig d stamp inTs).1.fw = s.fw := by
  simp only [State.ioamEgress, fw_rules]
  repeat' split
  all_goals simp only [fw_rules, State.perf_fw]
theorem State.stompOr_fw (s : State) (p : Nat) (d : List Nat) (sent : Nat) : (s.stompOr p d sent).fw = s.fw := by
  simp only [State.stompOr, fw_rules, State.macSend_fw]
theorem State.nextDn_fw (s : State) (p n : Nat) : (s.nextDn p n).1.fw = s.fw := by
  induction n generalizing s with
  | zero => rfl
  | succ n ih =>
    unfold State.nextDn
    dsimp only
    repeat' split
    all_goals simp only [ih, State.setRootBough_fw]
theorem State.egressStage_fw (s : State) (pp : Nat) (bad : Bool) (prof e : Nat) (v : Phv) : (s.egressStage pp bad prof e v).1.fw = s.fw := by
  simp only [State.egressStage, fw_rules, State.runRoutine_fw]
theorem State.rewriteEntry_fw (s : State) (pp idx : Nat) : (s.rewriteEntry pp idx).1.fw = s.fw := by
  simp only [State.rewriteEntry, fw_rules, State.readDirect_fw]
theorem State.egressEdit_fw (s : State) (pp : Nat) (f : DnFrame) (inTs : Nat) : (s.egressEdit pp f inTs).1.fw = s.fw := by
  simp only [State.egressEdit, fw_rules, State.egressStage_fw, State.rewriteEntry_fw]
theorem State.egressFixed_fw (s : State) (pp twig p : Nat) (f : DnFrame) (d : List Nat) (inTs : Nat) :
    (s.egressFixed pp twig p f d inTs).1.fw = s.fw  := by
  simp only [State.egressFixed, fw_rules, State.ptpEgress_fw, State.ioamEgress_fw]
theorem State.exportGone_fw (s : State) (f : DnFrame) : (s.exportGone f).fw = s.fw := by unfold State.exportGone; split <;> rfl
theorem State.egressOut_fw (s : State) (pp p : Nat) (f : DnFrame) (d : List Nat) (sent : Nat) : (s.egressOut pp p f d sent).fw = s.fw := by
  simp only [State.egressOut, fw_rules, State.setInjQ_fw, State.macSend_fw, State.stompOr_fw, State.exportGone_fw]
theorem State.egressFrame_fw (s : State) (pp twig p : Nat) (f : DnFrame) (sent : Nat) : (s.egressFrame pp twig p f sent).fw = s.fw := by
  simp only [State.egressFrame, fw_rules, State.showReseq_fw, State.egressEdit_fw, State.stompOr_fw, State.perf_fw, State.egressOut_fw,
    State.egressFixed_fw, State.setAhead_fw]
@[simp] theorem execEgressProcess_fw (p sent : Nat) (s : State) : (nextOf s (execEgressProcess p sent s)).fw = s.fw := by
  simp only [execEgressProcess, fw_rules]
  split
  · rfl
  · split
    · rfl
    · split
      all_goals
        rename_i hnext
        simp only [State.egressFrame_fw, fw_of_eq hnext (s.nextDn_fw ..)]
theorem State.freezePerf_fw (s : State) (p : Nat) : (s.freezePerf p).fw = s.fw := by simp only [State.freezePerf, State.setPipe_fw]
@[simp] theorem execPipeDozeEntry_fw (p : Nat) (s : State) : (nextOf s (execPipeDozeEntry p s)).fw = s.fw := by
  simp only [execPipeDozeEntry, fw_rules, State.freezePerf_fw, State.setUst_fw]
theorem State.wakePipe_fw (s : State) (p : Nat) : (s.wakePipe p).fw = s.fw := by simp only [State.wakePipe, fw_rules, State.setUst_fw]
theorem State.switchStep_fw (s : State) (st : Nat) : (s.switchStep st).fw = s.fw := by
  simp only [State.switchStep]
  repeat' split
  all_goals simp only [fw_rules, State.switchBank_fw, State.setStore_fw, State.wakePipe_fw]
@[simp] theorem execPipeWake_fw (p : Nat) (s : State) : (nextOf s (execPipeWake p s)).fw = s.fw := by
  simp only [execPipeWake, fw_rules, State.wakePipe_fw]
theorem State.fosterTwig_fw (s : State) (t : Nat) : (s.fosterTwig t).fw = s.fw := by
  simp only [State.fosterTwig]
  split <;> simp only [fw_rules, State.wakePipe_fw, State.portTaken_fw, eachIn_fw, implies_true]
theorem State.passTwigs_fw (s : State) (p : Nat) : (s.passTwigs p).fw = s.fw := by
  simp only [State.passTwigs, fw_rules, State.fosterTwig_fw, eachIn_fw, implies_true]
theorem State.fosterTold_fw (s : State) (p : Nat) (perm : Bool) : (s.fosterTold p perm).fw = s.fw := by
  simp only [State.fosterTold, fw_rules, State.raise_fw, eachIn_fw, implies_true]
theorem State.pipeLeave_fw (s : State) (p kind : Nat) : (s.pipeLeave p kind).fw = s.fw := by
  simp only [State.pipeLeave, fw_rules, State.clsSettle_fw, State.showFifo_fw, State.finish_fw, State.setPframes_fw, State.setPipe_fw,
    State.showReorder_fw, State.wakePipe_fw, State.fosterTold_fw, State.setUst_fw, eachIn_fw, implies_true]
@[simp] theorem execClsResultReturn_fw (p n mem : Nat) (s : State) : (nextOf s (execClsResultReturn p n mem s)).fw = s.fw := by
  simp only [execClsResultReturn, fw_rules, State.resultReturns_fw, State.pipeLeave_fw, State.raise_fw]
@[simp] theorem execPipeFosterStart_fw (p : Nat) (s : State) : (nextOf s (execPipeFosterStart p s)).fw = s.fw := by
  simp only [execPipeFosterStart, fw_rules, State.retire_fw, State.passTwigs_fw, State.finish_fw, State.tellWait_fw, State.setPipe_fw,
    State.setUst_fw, eachIn_fw, implies_true]
theorem State.pipeReturn_fw (s : State) (p : Nat) : (s.pipeReturn p).fw = s.fw := by simp only [State.pipeReturn, State.setPipe_fw, State.setUst_fw]
@[simp] theorem execPipeFosterHandback_fw (p : Nat) (s : State) : (nextOf s (execPipeFosterHandback p s)).fw = s.fw := by
  simp only [execPipeFosterHandback, fw_rules, State.finish_fw, State.setPipe_fw, State.setUst_fw]
@[simp] theorem execPipeNoProgress_fw (p : Nat) (s : State) : (nextOf s (execPipeNoProgress p s)).fw = s.fw := by
  simp only [execPipeNoProgress, fw_rules, State.pipeLeave_fw]

/-! ## Clocks -/

theorem State.setSrc_fw (s : State) (n st : Nat) : (s.setSrc n st).fw = s.fw := by simp only [State.setSrc, fw_rules]
theorem State.windowSeen_fw (s : State) (n count : Nat) : (s.windowSeen n count).fw = s.fw := by simp only [State.windowSeen, fw_rules]
theorem State.setPll_fw (s : State) (i : Nat) (v : PllRec) : (s.setPll i v).fw = s.fw := by simp only [State.setPll]
theorem State.selectSrc_fw (s : State) (i n : Nat) : (s.selectSrc i n).fw = s.fw := by simp only [State.selectSrc, fw_rules, State.setPll_fw]
theorem State.twigStops_fw (s : State) (t : Nat) : (s.twigStops t).fw = s.fw := by
  simp only [State.twigStops, fw_rules, State.setLState_fw, State.laneFault_fw, State.lockLost_fw, eachIn_fw, implies_true]
theorem State.closeGate_fw (s : State) (i : Nat) : (s.closeGate i).fw = s.fw := by
  simp only [State.closeGate, fw_rules, State.setPll_fw, State.twigStops_fw]
theorem State.holdPll_fw (s : State) (i : Nat) : (s.holdPll i).fw = s.fw := by
  simp only [State.holdPll, fw_rules, State.showTwigTx_fw, State.closeGate_fw]
theorem State.twigFault_fw (s : State) (t : Nat) : (s.twigFault t).fw = s.fw := by
  simp only [State.twigFault, fw_rules, State.portTaken_fw, eachIn_fw, implies_true]
theorem State.tripEntry_fw (s : State) (r : TripRec) : (s.tripEntry r).fw = s.fw := by simp only [State.tripEntry, State.raise_fw]
theorem State.settleTrips_fw (s : State) : s.settleTrips.fw = s.fw := by simp only [State.settleTrips, State.tripEntry_fw, eachIn_fw, implies_true]
theorem State.tripWaits_fw (s : State) (i : Nat) : (s.tripWaits i).fw = s.fw := by simp only [State.tripWaits]
theorem State.tripDone_fw (s : State) (i us n : Nat) : (s.tripDone i us n).fw = s.fw := by simp only [State.tripDone, State.settleTrips_fw]
theorem State.fallBack_fw (s : State) (i : Nat) : (s.fallBack i).fw = s.fw := by
  simp only [State.fallBack, fw_rules]
  repeat' split
  all_goals simp only [fw_rules, State.twigFault_fw, State.setSrc_fw, State.tripWaits_fw, State.setPll_fw, State.tripDone_fw, State.raise_fw,
    State.selectSrc_fw]
theorem State.startPll_fw (s : State) (i : Nat) : (s.startPll i).fw = s.fw := by
  simp only [State.startPll, fw_rules, State.setPll_fw, State.fallBack_fw, State.selectSrc_fw]
@[simp] theorem execTwigPllWake_fw (t : Nat) (s : State) : (nextOf s (execTwigPllWake t s)).fw = s.fw := by
  simp only [execTwigPllWake, fw_rules, State.startPll_fw, State.setUst_fw, eachIn_fw, implies_true]
theorem State.tripHolds_fw (s : State) (n : Nat) : (s.tripHolds n).fw = s.fw := by
  simp only [State.tripHolds, State.holdPll_fw, eachIn_fw, implies_true]
theorem State.wantFails_fw (s : State) (n : Nat) : (s.wantFails n).fw = s.fw := by
  simp only [State.wantFails, State.setPll_fw, State.finish_fw, eachIn_fw, implies_true]
theorem State.tripSources_fw (s : State) (ns : List Nat) : (s.tripSources ns).fw = s.fw := by
  simp only [State.tripSources, fw_rules, State.tripHolds_fw, State.setSrc_fw, State.fallBack_fw, State.wantFails_fw, State.settleTrips_fw,
    eachIn_fw, implies_true]
@[simp] theorem execClkMonitorWindow_fw (counts : List (Nat × Nat)) (s : State) : (nextOf s (execClkMonitorWindow counts s)).fw = s.fw := by
  simp only [execClkMonitorWindow, fw_rules, State.windowSeen_fw, State.tripSources_fw, eachIn_fw, implies_true]
theorem State.bootClock_fw (s : State) (n : Nat) : (s.bootClock n).fw = s.fw := by simp only [State.bootClock, fw_rules]
@[simp] theorem execClkSourceReady_fw (n : Nat) (s : State) : (nextOf s (execClkSourceReady n s)).fw = s.fw := by
  simp only [execClkSourceReady, fw_rules, State.setSrc_fw, State.bootClock_fw, State.fallBack_fw, eachIn_fw, implies_true]
@[simp] theorem execClkStartTimeout_fw (n : Nat) (s : State) : (nextOf s (execClkStartTimeout n s)).fw = s.fw := by
  simp only [execClkStartTimeout, fw_rules, State.setSrc_fw, State.bootClock_fw, State.fallBack_fw, State.raise_fw, eachIn_fw, implies_true]
@[simp] theorem execClkSourceRetry_fw (n : Nat) (s : State) : (nextOf s (execClkSourceRetry n s)).fw = s.fw := by
  simp only [execClkSourceRetry, fw_rules, State.setSrc_fw]
theorem State.writeSrcEn_fw (s : State) (n en : Nat) : (s.writeSrcEn n en).fw = s.fw := by simp only [State.writeSrcEn, fw_rules, State.setSrc_fw]
@[simp] theorem execClkSrcEnWrite_fw (n en : Nat) (s : State) : (nextOf s (execClkSrcEnWrite n en s)).fw = s.fw := by
  simp only [execClkSrcEnWrite, fw_rules, State.writeSrcEn_fw]
theorem State.writeTrim_fw (s : State) (n code : Nat) : (s.writeTrim n code).fw = s.fw := by simp only [State.writeTrim, fw_rules]
@[simp] theorem execClkTrimWrite_fw (n code : Nat) (s : State) : (nextOf s (execClkTrimWrite n code s)).fw = s.fw := by
  simp only [execClkTrimWrite, fw_rules, State.writeTrim_fw]
theorem State.writeChainEn_fw (s : State) (i en : Nat) : (s.writeChainEn i en).fw = s.fw := by
  simp only [State.writeChainEn, fw_rules, State.fallBack_fw]
@[simp] theorem execChainEnWrite_fw (i en : Nat) (s : State) : (nextOf s (execChainEnWrite i en s)).fw = s.fw := by
  simp only [execChainEnWrite, fw_rules, State.writeChainEn_fw]
theorem State.cellarCold_fw (s : State) (k : Nat) : (s.cellarCold k).fw = s.fw := by
  simp only [State.cellarCold, State.relayExt_fw, State.loseBlocks_fw, State.setUst_fw, eachIn_fw, implies_true]
theorem State.pllDead_fw (s : State) (i : Nat) : (s.pllDead i).fw = s.fw := by
  simp only [State.pllDead, fw_rules, State.twigFault_fw, State.setPll_fw, State.raise_fw]
theorem State.clusterResumes_fw (s : State) (c : Nat) : (s.clusterResumes c).fw = s.fw := by
  simp only [State.clusterResumes, fw_rules, State.replay_fw]
theorem State.pllLock_fw (s : State) (i : Nat) : (s.pllLock i).fw = s.fw := by
  simp only [State.pllLock, fw_rules, State.cellarCold_fw, State.showTwigTx_fw, State.setPll_fw, State.tripDone_fw, State.finish_fw,
    State.clusterResumes_fw, State.takeSetting_fw, eachIn_fw, implies_true]
@[simp] theorem execPllLocked_fw (i : Nat) (pass : Bool) (s : State) : (nextOf s (execPllLocked i pass s)).fw = s.fw := by
  simp only [execPllLocked, fw_rules, State.pllDead_fw, State.pllLock_fw, State.finish_fw]
@[simp] theorem execPllLockLoss_fw (i : Nat) (s : State) : (nextOf s (execPllLockLoss i s)).fw = s.fw := by
  simp only [execPllLockLoss, fw_rules, State.pllDead_fw, State.showTwigTx_fw, State.closeGate_fw, State.raise_fw]
theorem effClkSwitch_fw (p : Packet) (s : State) : (effClkSwitch p s).1.fw = s.fw := Framed.fw (fun _ _ => rfl) (effClkSwitch_framed _ _)
@[simp] theorem execClkSwitch_fw (p : Packet) (s : State) : (nextOf s (execClkSwitch p s)).fw = s.fw :=
    State.command_keeps (fun f => f) (effClkSwitch_fw p) s _
@[simp] theorem execMuxForceSelect_fw (i : Nat) (s : State) : (nextOf s (execMuxForceSelect i s)).fw = s.fw := by
  unfold execMuxForceSelect; split <;> simp only [fw_rules, State.showTwigTx_fw, State.setPll_fw, State.closeGate_fw, State.selectSrc_fw]
theorem effClkStatus_fw (p : Packet) (s : State) : (effClkStatus p s).1.fw = s.fw := by
  simp only [effClkStatus, fw_rules]
  repeat' split
  all_goals rfl
@[simp] theorem execClkStatus_fw (p : Packet) (s : State) : (nextOf s (execClkStatus p s)).fw = s.fw :=
    State.command_keeps (fun f => f) (effClkStatus_fw p) s _
theorem State.trimStep_fw (s : State) (osc : Nat) (ppm : Int) : (s.trimStep osc ppm).fw = s.fw :=
  Framed.fw (fun _ _ => rfl) (State.trimStep_framed _ _ _)
theorem State.setTrimErr_fw (s : State) (osc : Nat) (ppm : Int) : (s.setTrimErr osc ppm).fw = s.fw :=
  Framed.fw (fun _ _ => rfl) (State.setTrimErr_framed _ _ _)
@[simp] theorem execTrimMeasure_fw (osc : Nat) (ppm : Int) (s : State) : (nextOf s (execTrimMeasure osc ppm s)).fw = s.fw := by
  simp only [execTrimMeasure, fw_rules, State.trimStep_fw, State.setTrimErr_fw]
theorem effClkTrim_fw (p : Packet) (s : State) : (effClkTrim p s).1.fw = s.fw := Framed.fw (fun _ _ => rfl) (effClkTrim_framed _ _)
@[simp] theorem execClkTrim_fw (p : Packet) (s : State) : (nextOf s (execClkTrim p s)).fw = s.fw :=
  State.command_keeps (fun f => f) (effClkTrim_fw p) s _
@[simp] theorem execSircFault_fw (cycles : Nat) (s : State) : (nextOf s (execSircFault cycles s)).fw = s.fw := by
  simp only [execSircFault, fw_rules, State.raise_fw]
@[simp] theorem execUsbSofMark_fw (s : State) : (nextOf s (execUsbSofMark s)).fw = s.fw := by simp only [execUsbSofMark, fw_rules]

/-! ## Telemetry -/

theorem State.todApply_fw (s : State) : s.todApply.fw = s.fw := by unfold State.todApply; split <;> rfl
@[simp] theorem execTodSet_fw (s : State) : (nextOf s (execTodSet s)).fw = s.fw := by simp only [execTodSet, fw_rules, State.todApply_fw]
@[simp] theorem execTodStep_fw (s : State) : (nextOf s (execTodStep s)).fw = s.fw := by simp only [execTodStep, fw_rules, State.todApply_fw]
@[simp] theorem execPpsOutEdge_fw (s : State) : (nextOf s (execPpsOutEdge s)).fw = s.fw := by simp only [execPpsOutEdge, fw_rules]
@[simp] theorem execPpsInEdge_fw (s : State) : (nextOf s (execPpsInEdge s)).fw = s.fw := by simp only [execPpsInEdge, fw_rules]
theorem effTelemRead_fw (p : Packet) (s : State) : (effTelemRead p s).1.fw = s.fw := Framed.fw (fun _ _ => rfl) (effTelemRead_framed _ _)
@[simp] theorem execTelemRead_fw (p : Packet) (s : State) : (nextOf s (execTelemRead p s)).fw = s.fw :=
    State.command_keeps (fun f => f) (effTelemRead_fw p) s _
theorem effSapFlag_fw (p : Packet) (s : State) : (effSapFlag p s).1.fw = s.fw := Framed.fw (fun _ _ => rfl) (effSapFlag_framed _ _)
@[simp] theorem execSapFlag_fw (p : Packet) (s : State) : (nextOf s (execSapFlag p s)).fw = s.fw :=
  State.command_keeps (fun f => f) (effSapFlag_fw p) s _
theorem effTagCfg_fw (p : Packet) (s : State) : (effTagCfg p s).1.fw = s.fw := Framed.fw (fun _ _ => rfl) (effTagCfg_framed _ _)
@[simp] theorem execTagCfg_fw (p : Packet) (s : State) : (nextOf s (execTagCfg p s)).fw = s.fw :=
  State.command_keeps (fun f => f) (effTagCfg_fw p) s _
theorem effIoamCfg_fw (p : Packet) (s : State) : (effIoamCfg p s).1.fw = s.fw := Framed.fw (fun _ _ => rfl) (effIoamCfg_framed _ _)
@[simp] theorem execIoamCfg_fw (p : Packet) (s : State) : (nextOf s (execIoamCfg p s)).fw = s.fw :=
  State.command_keeps (fun f => f) (effIoamCfg_fw p) s _
theorem effStreamSet_fw (p : Packet) (s : State) : (effStreamSet p s).1.fw = s.fw := by
  simp only [effStreamSet]
  repeat' split
  all_goals simp only [fw_rules, State.setStream_fw, State.setOffers_fw, State.setAsm_fw, State.freeFrame_fw]
theorem effStreamQueues_fw (p : Packet) (s : State) : (effStreamQueues p s).1.fw = s.fw := by
  unfold effStreamQueues; split <;> simp only [fw_rules, eachIn_fw, implies_true]
theorem effTelemStreamCfg_fw (p : Packet) (s : State) : (effTelemStreamCfg p s).1.fw = s.fw := by
  simp only [effTelemStreamCfg, fw_rules, effStreamQueues_fw, effStreamSet_fw]
@[simp] theorem execTelemStreamCfg_fw (p : Packet) (s : State) : (nextOf s (execTelemStreamCfg p s)).fw = s.fw :=
    State.command_keeps (fun f => f) (effTelemStreamCfg_fw p) s _
theorem State.buildExport_fw (s : State) (i : Nat) : (s.buildExport i).fw = s.fw := by
  simp only [State.buildExport, fw_rules, State.showBacklog_fw, State.setStream_fw, State.setOffers_fw]
@[simp] theorem execExportFrameBuild_fw (i : Nat) (s : State) : (nextOf s (execExportFrameBuild i s)).fw = s.fw := by
  simp only [execExportFrameBuild, fw_rules, State.buildExport_fw]
@[simp] theorem execExportFlushTimer_fw (i : Nat) (s : State) : (nextOf s (execExportFlushTimer i s)).fw = s.fw := by
  simp only [execExportFlushTimer, fw_rules, State.buildExport_fw]
@[simp] theorem execExportFrameLost_fw (s : State) : (nextOf s (execExportFrameLost s)).fw = s.fw := by
  unfold execExportFrameLost; split <;> simp only [fw_rules, State.gapAdd_fw]
theorem effPerfCfg_fw (p : Packet) (s : State) : (effPerfCfg p s).1.fw = s.fw := Framed.fw (fun _ _ => rfl) (effPerfCfg_framed _ _)
@[simp] theorem execPerfCfg_fw (p : Packet) (s : State) : (nextOf s (execPerfCfg p s)).fw = s.fw :=
  State.command_keeps (fun f => f) (effPerfCfg_fw p) s _
theorem effPerfRead_fw (p : Packet) (s : State) : (effPerfRead p s).1.fw = s.fw := by simp only [effPerfRead]
@[simp] theorem execPerfRead_fw (p : Packet) (s : State) : (nextOf s (execPerfRead p s)).fw = s.fw :=
  State.command_keeps (fun f => f) (effPerfRead_fw p) s _
@[simp] theorem execPerfIntervalEnd_fw (t : Nat) (s : State) : (nextOf s (execPerfIntervalEnd t s)).fw = s.fw := by
  simp only [execPerfIntervalEnd, fw_rules]

/-! ## Grist -/

theorem State.slotBusy_fw (s : State) (slot : Nat) : (s.slotBusy slot).fw = s.fw := by simp only [State.slotBusy]
theorem State.setGroup_fw (s : State) (g : Nat) (v : Option GGroup) : (s.setGroup g v).fw = s.fw :=
  Framed.fw (fun _ _ => rfl) (State.setGroup_framed _ _ _)
theorem State.wakeEngine_fw (s : State) (slot : Nat) : (s.wakeEngine slot).fw = s.fw := by
  unfold State.wakeEngine; split <;> simp only [fw_rules, State.setUst_fw]
theorem State.gristIrq_fw (s : State) : s.gristIrq.fw = s.fw := by simp only [State.gristIrq, fw_rules, State.msix_fw]
theorem State.sendGrist_fw (s : State) (g : Nat) (c : GChunk) (i : Nat) (d : GDest) (rest : List Nat) (kind : Nat) :
    (s.sendGrist g c i d rest kind).fw = s.fw := by
  simp only [State.sendGrist, State.setOffers_fw]
theorem State.sendNack_fw (s : State) (g : Nat) (v : GGroup) (c : GChunk) (retry : Nat) : (s.sendNack g v c retry).fw = s.fw := by
  simp only [State.sendNack, fw_rules, State.perf_fw, State.sendGrist_fw, eachIn_fw, implies_true]
theorem State.sendPartial_fw (s : State) (g : Nat) (v : GGroup) (c : GChunk) : (s.sendPartial g v c).fw = s.fw := by
  simp only [State.sendPartial, State.setGroup_fw, State.sendGrist_fw, eachIn_fw, implies_true]
theorem State.withdraw_fw (s : State) (g : Nat) (c : GChunk) : (s.withdraw g c).fw = s.fw := by
  simp only [State.withdraw]
  repeat' split
  all_goals simp only [State.setTurned_fw, State.setOffers_fw, State.setAsm_fw, State.freeFrame_fw]
theorem State.failChunk_fw (s : State) (g id cause : Nat) : (s.failChunk g id cause).fw = s.fw := by
  simp only [State.failChunk]
  repeat' split
  all_goals simp only [fw_rules, State.setGroup_fw, State.gristIrq_fw]
theorem State.closeEnd_fw (s : State) (g : Nat) (v : GGroup) (c : GClose) : (s.closeEnd g v c).fw = s.fw := by
  simp only [State.closeEnd, State.finish_fw, eachIn_fw, implies_true]
  refine (eachIn_fw fun t k => ?_).trans ?_
  · split <;> simp only [fw_rules]
  · simp only [fw_rules, State.setGroup_fw]
theorem State.closeCheck_fw (s : State) (g : Nat) : (s.closeCheck g).fw = s.fw := by
  simp only [State.closeCheck]
  repeat' split
  all_goals simp only [State.closeEnd_fw]
theorem State.abortGroup_fw (s : State) (g : Nat) : (s.abortGroup g).fw = s.fw := by
  unfold State.abortGroup; split <;> simp only [fw_rules, State.setGroup_fw, State.closeCheck_fw, State.failChunk_fw, eachIn_fw, implies_true]
theorem State.beginClose_fw (s : State) (g : Nat) : (s.beginClose g).fw = s.fw := by
  unfold State.beginClose; split <;> simp only [fw_rules, State.setGroup_fw, State.closeCheck_fw]
theorem State.closeAllGroups_fw (s : State) : s.closeAllGroups.fw = s.fw := by
  simp only [State.closeAllGroups, State.beginClose_fw, eachIn_fw, implies_true]
theorem effGristGroupClose_fw (p : Packet) (s : State) : (effGristGroupClose p s).1.fw = s.fw := by
  simp only [effGristGroupClose, fw_rules]
  repeat' split
  all_goals simp only [State.abortGroup_fw, State.beginClose_fw]
@[simp] theorem execGristGroupClose_fw (p : Packet) (s : State) : (nextOf s (execGristGroupClose p s)).fw = s.fw :=
    State.command_keeps (fun f => f) (effGristGroupClose_fw p) s _
@[simp] theorem execGristCloseTimeout_fw (g : Nat) (s : State) : (nextOf s (execGristCloseTimeout g s)).fw = s.fw := by
  unfold execGristCloseTimeout; split <;> simp only [fw_rules, State.abortGroup_fw]
theorem effGristGroupOpen_fw (p : Packet) (s : State) : (effGristGroupOpen p s).1.fw = s.fw :=
  Framed.fw (fun _ _ => rfl) (effGristGroupOpen_framed _ _)
@[simp] theorem execGristGroupOpen_fw (p : Packet) (s : State) : (nextOf s (execGristGroupOpen p s)).fw = s.fw :=
    State.command_keeps (fun f => f) (effGristGroupOpen_fw p) s _
theorem effGristGroupStatus_fw (p : Packet) (s : State) : (effGristGroupStatus p s).1.fw = s.fw := by
  simp only [effGristGroupStatus, fw_rules]
  repeat' split
  all_goals rfl
@[simp] theorem execGristGroupStatus_fw (p : Packet) (s : State) : (nextOf s (execGristGroupStatus p s)).fw = s.fw :=
    State.command_keeps (fun f => f) (effGristGroupStatus_fw p) s _
theorem State.resetChunk_fw (s : State) (g id : Nat) : (s.resetChunk g id).fw = s.fw := by
  simp only [State.resetChunk]
  repeat' split
  all_goals simp only [fw_rules, State.setGroup_fw, State.sendNack_fw, State.withdraw_fw]
theorem State.engineTold_fw (s : State) (e slot : Nat) (inj : Bool) : (s.engineTold e slot inj).fw = s.fw := by
  unfold State.engineTold; split <;> simp only [State.raise_fw]
theorem State.engineLeave_fw (s : State) (e kind : Nat) (inj : Bool) : (s.engineLeave e kind inj).fw = s.fw := by
  simp only [State.engineLeave, fw_rules, State.setUst_fw, State.preemptWalker_fw]
  repeat' split
  all_goals simp only [State.engineTold_fw]
theorem State.engineError_fw (s : State) (e cause g id : Nat) (own inj : Bool) : (s.engineError e cause g id own inj).fw = s.fw := by
  simp only [State.engineError, fw_rules, State.resetChunk_fw, State.raise_fw, State.engineLeave_fw]
theorem State.chunkFull_fw (s : State) (g : Nat) (v : GGroup) (c : GChunk) (root : Option (List Nat)) : (s.chunkFull g v c root).fw = s.fw := by
  simp only [State.chunkFull, fw_rules, State.setGroup_fw, State.sendPartial_fw, State.failChunk_fw]
theorem State.acceptRank_fw (s : State) (v : GGroup) (c : GChunk) (h : GHdr) : (s.acceptRank v c h).fw = s.fw := by
  simp only [State.acceptRank, fw_rules, State.setGroup_fw, State.wakeEngine_fw, State.perf_fw]
  repeat' split
  all_goals simp only [fw_rules, State.setGroup_fw, State.wakeEngine_fw, State.engineError_fw, State.perf_fw, State.chunkFull_fw]
theorem State.contribute_fw (s s' : State) (v : GGroup) (h : GHdr) (h' : s'.fw = s.fw) : (s.contribute s' v h).fw = s.fw := by
  unfold State.contribute
  dsimp only
  split
  · simp only [fw_rules, h']
  · split <;> simp only [fw_rules, State.perf_fw, State.acceptRank_fw, h']
theorem State.busyFor_fw (s : State) (h : GHdr) : (s.busyFor h).fw = s.fw := by unfold State.busyFor; split <;> simp only [State.slotBusy_fw]
@[simp] theorem execGristContrib_fw (c : Nat) (s : State) : (nextOf s (execGristContrib c s)).fw = s.fw := by
  simp only [execGristContrib, fw_rules]
  repeat' split
  all_goals simp only [fw_rules, State.busyFor_fw, State.setStaged_fw, State.contribute_fw]
theorem State.fromParent_fw (s : State) (v : GGroup) (h : GHdr) : (s.fromParent v h).fw = s.fw := by
  simp only [State.fromParent]
  repeat' split
  all_goals simp only [fw_rules, State.setGroup_fw, State.sendPartial_fw, State.failChunk_fw]
@[simp] theorem execGristParentRx_fw (c : Nat) (s : State) : (nextOf s (execGristParentRx c s)).fw = s.fw := by
  simp only [execGristParentRx, fw_rules]
  repeat' split
  all_goals simp only [State.setStaged_fw, State.fromParent_fw]
@[simp] theorem execGristChunkTimeout_fw (g id : Nat) (s : State) : (nextOf s (execGristChunkTimeout g id s)).fw = s.fw := by
  simp only [execGristChunkTimeout, fw_rules]
  repeat' split
  all_goals simp only [State.setGroup_fw, State.sendNack_fw, State.sendPartial_fw, State.failChunk_fw]
theorem State.emitChunk_fw (s : State) (g : Nat) (v : GGroup) (c : GChunk) : (s.emitChunk g v c).fw = s.fw := by
  simp only [State.emitChunk, fw_rules, State.setGroup_fw, State.perf_fw, State.sendGrist_fw, eachIn_fw, implies_true]
theorem State.chunkDone_fw (s : State) (g : Nat) (v : GGroup) (c : GChunk) : (s.chunkDone g v c).fw = s.fw := by
  simp only [State.chunkDone, State.setGroup_fw, State.closeCheck_fw]
@[simp] theorem execGristEmit_fw (g : Nat) (s : State) : (nextOf s (execGristEmit g s)).fw = s.fw := by
  simp only [execGristEmit, fw_rules]
  repeat' split
  all_goals simp only [State.chunkDone_fw, State.emitChunk_fw]
@[simp] theorem execGristResultRetry_fw (slot : Nat) (s : State) : (nextOf s (execGristResultRetry slot s)).fw = s.fw := by
  simp only [execGristResultRetry, fw_rules]
  repeat' split
  all_goals simp only [fw_rules, State.setTurned_fw, State.offer_fw, State.setAsm_fw]
theorem State.seqFetchFault_fw (s : State) (e : Nat) : (s.seqFetchFault e).fw = s.fw := by
  simp only [State.seqFetchFault, fw_rules, State.fetchFault_fw]
@[simp] theorem execGristChunkReset_fw (e cause g id : Nat) (s : State) : (nextOf s (execGristChunkReset e cause g id s)).fw = s.fw := by
  unfold execGristChunkReset; split <;> simp only [fw_rules, State.seqFetchFault_fw, State.engineError_fw]
theorem State.moveSlot_fw (s : State) (slot e n : Nat) : (s.moveSlot slot e n).fw = s.fw := by
  simp only [State.moveSlot, fw_rules, State.endVendor_fw, State.resetChunk_fw, State.setUst_fw, State.slotBusy_fw, eachIn_fw, implies_true]
theorem State.engineGone_fw (s : State) (l : GLeave) : (s.engineGone l).fw = s.fw := by
  unfold State.engineGone; split <;> simp only [fw_rules, State.retire_fw, State.finish_fw, State.setUst_fw]
@[simp] theorem execGristEngineTakeover_fw (e : Nat) (pass : Bool) (s : State) : (nextOf s (execGristEngineTakeover e pass s)).fw = s.fw := by
  simp only [execGristEngineTakeover, fw_rules]
  repeat' split
  all_goals simp only [fw_rules, State.retire_fw, State.engineGone_fw, State.gristIrq_fw, State.resumeCtx_fw, State.moveSlot_fw, State.finish_fw,
    State.setUst_fw]
theorem State.groupLoses_fw (s : State) (g slot : Nat) : (s.groupLoses g slot).fw = s.fw := by
  simp only [State.groupLoses]
  repeat' split
  all_goals simp only [fw_rules, State.setGroup_fw, State.resetChunk_fw, State.withdraw_fw, State.closeCheck_fw, State.failChunk_fw, eachIn_fw,
    implies_true]
theorem State.slotDrop_fw (s : State) (e slot : Nat) : (s.slotDrop e slot).fw = s.fw := by
  simp only [State.slotDrop, fw_rules, State.endVendor_fw, State.gristIrq_fw, State.groupLoses_fw, eachIn_fw, implies_true]
@[simp] theorem execGristSlotLoss_fw (e : Nat) (s : State) : (nextOf s (execGristSlotLoss e s)).fw = s.fw := by
  unfold execGristSlotLoss; split <;> simp only [fw_rules, State.engineGone_fw, State.raise_fw, State.slotDrop_fw]
@[simp] theorem execGristEngineDoze_fw (e : Nat) (s : State) : (nextOf s (execGristEngineDoze e s)).fw = s.fw := by
  unfold execGristEngineDoze; split <;> simp only [fw_rules, State.setUst_fw]
theorem State.seqFaulted_fw (s : State) (e : Nat) : (s.seqFaulted e).fw = s.fw := by
  unfold State.seqFaulted; split <;> simp only [State.engineError_fw]
@[simp] theorem execWalkerSafePoint_fw (st n : Nat) (s : State) : (nextOf s (execWalkerSafePoint st n s)).fw = s.fw := by
  simp only [execWalkerSafePoint, fw_rules, State.resumeCtx_fw, State.seqFaulted_fw, State.walkOn_fw, State.startVendor_fw]
@[simp] theorem execSafeWatchdog_fw (st ctx : Nat) (s : State) : (nextOf s (execSafeWatchdog st ctx s)).fw = s.fw := by
  simp only [execSafeWatchdog, fw_rules, State.walkWatchdog_fw]
  repeat' split
  all_goals simp only [fw_rules, State.engineError_fw, State.fetchFault_fw]

/-! ## Domains, training and resets -/

theorem State.scanPins_fw (s : State) (ir : Nat) : (s.scanPins ir).fw = s.fw := by simp only [State.scanPins, fw_rules, eachIn_fw, implies_true]
theorem State.jtagTo_fw (s : State) (ir : Nat) : (s.jtagTo ir).fw = s.fw := by simp only [State.jtagTo, fw_rules, State.scanPins_fw]
theorem State.setMode_fw (s : State) (m : Nat) : (s.setMode m).fw = s.fw := by simp only [State.setMode, fw_rules, State.jtagTo_fw]
theorem State.setGoal_fw (s : State) (m : Nat) : (s.setGoal m).fw = s.fw := by simp only [State.setGoal, fw_rules]
theorem State.unitsOff_fw (s old : State) (cause : Nat) : (s.unitsOff old cause).fw = s.fw := by
  simp only [State.unitsOff, fw_rules, eachIn_fw, implies_true]
theorem State.quadDark_fw (s : State) (q : Nat) : (s.quadDark q).fw = s.fw := by simp only [State.quadDark, fw_rules, eachIn_fw, implies_true]
theorem State.powerOff_fw (s : State) : s.powerOff.fw = s.fw := by
  simp only [State.powerOff, fw_rules, State.setPll_fw, State.quadDark_fw, eachIn_fw, implies_true]
theorem State.coreReset_otp (s : State) (warm : Bool) (cause : Nat) : (s.coreReset warm cause).fw.otp = s.fw.otp := by
  simp only [State.coreReset, fw_rules, State.unitsOff_fw, State.powerOff_fw, State.setMode_fw]
theorem State.gpioOff_fw (s : State) : s.gpioOff.fw = s.fw := by simp only [State.gpioOff, fw_rules, eachIn_fw, implies_true]
theorem State.timeReset_fw (s : State) (pps : Nat) : (s.timeReset pps).fw = s.fw := by simp only [State.timeReset, fw_rules]
theorem State.pinsReset_fw (s : State) : s.pinsReset.fw = s.fw := by simp only [State.pinsReset, fw_rules, State.timeReset_fw]
theorem State.timeLow_fw (s : State) : s.timeLow.fw = s.fw := by simp only [State.timeLow, fw_rules]
theorem State.bare_otp (s : State) : s.bare.fw.otp = s.fw.otp := by simp only [State.bare, fw_rules, otp_rules]
theorem State.latchStraps_fw (s : State) : s.latchStraps.fw = s.fw := by simp only [State.latchStraps, fw_rules]
theorem State.resetPor_otp (s : State) : s.resetPor.fw.otp = s.fw.otp := by simp only [State.resetPor, State.bare_otp, State.pinsReset_fw]
theorem State.resetCold_otp (s : State) (cause : Fld) : (s.resetCold cause).fw.otp = s.fw.otp := by
  simp only [State.resetCold, fw_rules, State.unitsOff_fw, State.latchStraps_fw, State.bare_otp, State.pinsReset_fw]
theorem State.gpioPulse_fw (s : State) : s.gpioPulse.fw = s.fw := by
  simp only [State.gpioPulse, fw_rules, State.gpioOff_fw, eachIn_fw, implies_true]
theorem State.resetWarm_otp (s : State) (cause : Fld) : (s.resetWarm cause).fw.otp = s.fw.otp := by
  simp only [State.resetWarm, fw_rules, otp_rules, State.gpioPulse_fw, State.timeReset_fw, State.coreReset_otp]
theorem State.wakeUnit_fw (s : State) (t : Nat) : (s.wakeUnit t).fw = s.fw := by simp only [State.wakeUnit, fw_rules, State.setUst_fw]
theorem State.unmapBank_fw (s : State) (n : Nat) : (s.unmapBank n).fw = s.fw := by simp only [State.unmapBank, fw_rules]
theorem State.bankTaken_fw (s : State) (n : Nat) (tell worse : Bool) : (s.bankTaken n tell worse).fw = s.fw := by
  unfold State.bankTaken; split <;> simp only [fw_rules, State.unmapBank_fw, State.raise_fw, State.setUst_fw]
theorem State.engineTaken_fw (s : State) (e : Nat) (tell worse : Bool) : (s.engineTaken e tell worse).fw = s.fw := by
  simp only [State.engineTaken]
  repeat' split
  all_goals simp only [State.moveSlot_fw, State.raise_fw, State.slotDrop_fw]
theorem State.chanCut_fw (s : State) (c : Nat) : (s.chanCut c).fw = s.fw := by simp only [State.chanCut, fw_rules]
theorem State.quadUp_fw (s : State) (q : Nat) : (s.quadUp q).fw = s.fw := by
  simp only [State.quadUp, fw_rules, State.wakeUnit_fw, State.setUst_fw, eachIn_fw, implies_true]
theorem State.gristUp_fw (s : State) (g : Nat) : (s.gristUp g).fw = s.fw := by
  simp only [State.gristUp, fw_rules, State.wakeUnit_fw, eachIn_fw, implies_true]
theorem State.cellarUp_fw (s : State) : s.cellarUp.fw = s.fw := by
  simp only [State.cellarUp, fw_rules, State.chanCut_fw, State.wakeUnit_fw, eachIn_fw, implies_true]
theorem State.boughUp_fw (s : State) (b : Nat) : (s.boughUp b).fw = s.fw := by
  simp only [State.boughUp, fw_rules, State.wakeUnit_fw, eachIn_fw, implies_true]
  refine (eachIn_fw fun t p => ?_).trans ?_
  · split <;> simp only [fw_rules]
  · simp only [fw_rules, State.setUst_fw, eachIn_fw, implies_true]
theorem State.serdesUp_fw (s : State) (b : Nat) : (s.serdesUp b).fw = s.fw := by
  simp only [State.serdesUp, fw_rules, State.wakeUnit_fw, State.setUst_fw, eachIn_fw, implies_true]
theorem State.domainUp_fw (s : State) (n : Nat) : (s.domainUp n).fw = s.fw := by
  simp only [State.domainUp, fw_rules, State.boughUp_fw, State.gristUp_fw, State.serdesUp_fw, State.quadUp_fw, State.cellarUp_fw, State.loadVendor_fw]
theorem State.cellLost_fw (s : State) (p : Nat) : (s.cellLost p).fw = s.fw := by
  simp only [State.cellLost]
  refine eachIn_fw fun t x => ?_
  split <;> simp only [fw_rules, State.setTframe_fw, State.unchargeCells_fw]
theorem State.bankLost_fw (s : State) (n u cause : Nat) : (s.bankLost n u cause).fw = s.fw := by
  simp only [State.bankLost, fw_rules, State.unmapBank_fw, State.cellLost_fw, State.setUst_fw, eachIn_fw, implies_true]
theorem State.clusterLost_fw (s : State) (c u cause : Nat) : (s.clusterLost c u cause).fw = s.fw := by
  simp only [State.clusterLost, fw_rules, State.lostExport_fw, State.setRdir_fw, State.setReads_fw, State.setDnList_fw, State.disableUp_fw,
    State.freeFrame_fw, State.lastCluster_fw, State.setUst_fw, eachIn_fw, implies_true]
theorem State.engineLost_fw (s : State) (e u cause : Nat) : (s.engineLost e u cause).fw = s.fw := by
  unfold State.engineLost; split <;> simp only [fw_rules, State.slotDrop_fw, State.setUst_fw]
theorem State.chanLost_fw (s : State) (c u cause : Nat) : (s.chanLost c u cause).fw = s.fw := by
  simp only [State.chanLost, fw_rules, State.chanCut_fw, State.loseBlocks_fw, State.setUst_fw, eachIn_fw, implies_true]
theorem State.unitDown_fw (s : State) (t u cause : Nat) : (s.unitDown t u cause).fw = s.fw := by
  simp only [State.unitDown, fw_rules, State.setUst_fw]
theorem State.quadDown_fw (s : State) (q u cause : Nat) : (s.quadDown q u cause).fw = s.fw := by
  simp only [State.quadDown, State.relayExt_fw, State.planRetest_fw, State.chanLost_fw, State.quadDark_fw, State.clusterLost_fw, State.bankLost_fw,
    State.engineLost_fw, State.setUst_fw, eachIn_fw, implies_true]
theorem State.boughDown_fw (s : State) (b cause : Nat) : (s.boughDown b cause).fw = s.fw := by
  simp only [State.boughDown, fw_rules, State.setTwigQ_fw, State.unitDown_fw, State.showFifo_fw, State.clusterLost_fw, State.setPframes_fw,
    State.portTaken_fw, eachIn_fw, implies_true]
theorem State.serdesDown_fw (s : State) (b cause : Nat) : (s.serdesDown b cause).fw = s.fw := by
  simp only [State.serdesDown, fw_rules, State.laneDown_fw, State.unitDown_fw, State.portTaken_fw, eachIn_fw, implies_true]
theorem State.domQuiet_fw (s : State) (n : Nat) : (s.domQuiet n).fw = s.fw := by simp only [State.domQuiet, fw_rules]
theorem State.domainLost_fw (s : State) (n : Nat) : (s.domainLost n).fw = s.fw := by
  simp only [State.domainLost, fw_rules, State.domQuiet_fw, State.relayExt_fw, State.serdesDown_fw, State.quadDown_fw, State.setPll_fw,
    State.boughDown_fw, State.chanLost_fw, State.engineLost_fw, eachIn_fw, implies_true]
theorem State.startSteep_fw (s : State) : s.startSteep.fw = s.fw := by simp only [State.startSteep, State.setGoal_fw]
theorem State.assignSpares_fw (s : State) : s.assignSpares.fw = s.fw := by
  simp only [State.assignSpares, fw_rules, State.bankTaken_fw, State.planRetest_fw, State.engineTaken_fw, eachIn_fw, implies_true]
theorem State.setCal_fw (s : State) (n : Nat) (c : DomCal) : (s.setCal n c).fw = s.fw := by simp only [State.setCal]
theorem State.retake_fw (s : State) (n band : Nat) (c : DomCal) : (s.retake n band c).fw = s.fw := by
  simp only [State.retake, fw_rules, State.setCal_fw]
theorem State.showCal_fw (s : State) (n band : Nat) : (s.showCal n band).fw = s.fw := by simp only [State.showCal, fw_rules]
theorem State.calibrateAll_fw (s : State) : s.calibrateAll.fw = s.fw := by
  simp only [State.calibrateAll, State.showCal_fw, State.retake_fw, eachIn_fw, implies_true]
theorem State.steepCheck_fw (s : State) : s.steepCheck.fw = s.fw := by
  simp only [State.steepCheck, fw_rules, State.finish_fw, State.setMode_fw, State.assignSpares_fw, State.calibrateAll_fw]
@[simp] theorem execSteepStepGrant_fw (pIn vinMin : Nat) (s : State) : (nextOf s (execSteepStepGrant pIn vinMin s)).fw = s.fw := by
  unfold execSteepStepGrant; split <;> simp only [fw_rules, State.startPll_fw, eachIn_fw, implies_true]
@[simp] theorem execDomainPowerGood_fw (n mv : Nat) (s : State) : (nextOf s (execDomainPowerGood n mv s)).fw = s.fw := by
  simp only [execDomainPowerGood, fw_rules, State.domainUp_fw, State.steepCheck_fw]
theorem State.regulatorEvent_fw (s : State) (n mv : Nat) : (s.regulatorEvent n mv).fw = s.fw := by simp only [State.regulatorEvent, State.raise_fw]
@[simp] theorem execRegulatorFail_otp (n mv : Nat) (s : State) : (nextOf s (execRegulatorFail n mv s)).fw.otp = s.fw.otp := by
  simp only [execRegulatorFail, fw_rules, otp_rules, State.regulatorEvent_fw, State.coreReset_otp, State.domainLost_fw, State.steepCheck_fw,
    State.finish_fw]
@[simp] theorem execRegulatorProtectionTrip_fw (n mv : Nat) (s : State) : (nextOf s (execRegulatorProtectionTrip n mv s)).fw = s.fw := by
  simp only [execRegulatorProtectionTrip, fw_rules, State.regulatorEvent_fw, State.domainLost_fw]
@[simp] theorem execSelfTestDone_fw (n : Nat) (fails : List Nat) (s : State) : (nextOf s (execSelfTestDone n fails s)).fw = s.fw := by
  simp only [execSelfTestDone, fw_rules, State.retire_fw, State.steepCheck_fw, State.setUst_fw, eachIn_fw, implies_true]
@[simp] theorem execCellarTrainingDone_fw (c result : Nat) (s : State) : (nextOf s (execCellarTrainingDone c result s)).fw = s.fw := by
  simp only [execCellarTrainingDone, fw_rules, State.chanCut_fw, State.retire_fw, State.steepCheck_fw, State.raise_fw, State.setUst_fw]
@[simp] theorem execLaneCalDone_fw (l : Nat) (pass : Bool) (s : State) : (nextOf s (execLaneCalDone l pass s)).fw = s.fw := by
  simp only [execLaneCalDone, fw_rules, State.laneCal_fw, State.steepCheck_fw]

/-! ## Modes -/

theorem State.toService_fw (s : State) : s.toService.fw = s.fw := by
  simp only [State.toService, fw_rules, State.setTwigQ_fw, State.showFifo_fw, State.setUst_fw, State.setMode_fw, eachIn_fw, implies_true]
theorem State.endForwarding_fw (s : State) : s.endForwarding.fw = s.fw := by
  simp only [State.endForwarding, fw_rules, State.setUst_fw, eachIn_fw, implies_true]
theorem State.toTest_fw (s : State) : s.toTest.fw = s.fw := by
  simp only [State.toTest, State.endForwarding_fw, State.portOff_fw, State.setMode_fw, eachIn_fw, implies_true]
theorem State.toSteeping_fw (s : State) : s.toSteeping.fw = s.fw := by
  simp only [State.toSteeping, fw_rules, State.laneDown_fw, State.setLane_fw, State.endForwarding_fw, State.portOff_fw, State.setMode_fw, eachIn_fw,
    implies_true]
theorem State.startDrain_fw (s : State) (limit : Nat) : (s.startDrain limit).fw = s.fw := by
  simp only [State.startDrain, State.setGoal_fw, State.closeAllGroups_fw]
theorem State.drained_fw (s : State) : s.drained.fw = s.fw := by simp only [State.drained, State.setMode_fw]
theorem State.drainFlush_fw (s : State) : s.drainFlush.fw = s.fw := by
  simp only [State.drainFlush, fw_rules, State.abortGroup_fw, State.flushQueue_fw, State.drained_fw, eachIn_fw, implies_true]
@[simp] theorem execDrainComplete_fw (s : State) : (nextOf s (execDrainComplete s)).fw = s.fw := by
  simp only [execDrainComplete, fw_rules, State.finish_fw, State.drained_fw]
@[simp] theorem execDrainLimitExpire_fw (s : State) : (nextOf s (execDrainLimitExpire s)).fw = s.fw := by
  simp only [execDrainLimitExpire, fw_rules, State.finish_fw, State.drainFlush_fw, State.drained_fw]
theorem State.toRecovery_fw (s : State) : s.toRecovery.fw = s.fw := by simp only [State.toRecovery, fw_rules, State.setMode_fw]
theorem effSetMode_fw (p : Packet) (s : State) : (effSetMode p s).1.fw = s.fw := by
  simp only [effSetMode, fw_rules, State.toSteeping_fw, State.toService_fw, State.toRecovery_fw, State.startSteep_fw, State.toTest_fw,
    State.drainFlush_fw, State.startDrain_fw]
theorem State.goDown_otp (s : State) : s.goDown.fw.otp = s.fw.otp := by simp only [State.goDown, fw_rules, otp_rules, State.coreReset_otp]
@[simp] theorem execSetMode_otp (p : Packet) (s : State) : (nextOf s (execSetMode p s)).fw.otp = s.fw.otp := by
  simp only [execSetMode, fw_rules, State.goDown_otp]
  exact State.command_keeps FwSt.otp (fun t => congrArg FwSt.otp (effSetMode_fw p t)) s _

/-! ## Units -/

theorem effUnitState_fw (p : Packet) (s : State) : (effUnitState p s).1.fw = s.fw := by simp only [effUnitState, fw_rules]
@[simp] theorem execUnitState_fw (p : Packet) (s : State) : (nextOf s (execUnitState p s)).fw = s.fw :=
    State.command_keeps (fun f => f) (effUnitState_fw p) s _
theorem effDozeCfg_fw (p : Packet) (s : State) : (effDozeCfg p s).1.fw = s.fw := Framed.fw (fun _ _ => rfl) (effDozeCfg_framed _ _)
@[simp] theorem execDozeCfg_fw (p : Packet) (s : State) : (nextOf s (execDozeCfg p s)).fw = s.fw :=
  State.command_keeps (fun f => f) (effDozeCfg_fw p) s _
theorem State.laneOut_fw (s : State) (l : Nat) : (s.laneOut l).fw = s.fw := by
  unfold State.laneOut; split <;> simp only [State.laneDown_fw, State.setUst_fw, State.portTaken_fw]
theorem State.twigOut_fw (s : State) (t : Nat) : (s.twigOut t).fw = s.fw := by
  simp only [State.twigOut, fw_rules, State.setPll_fw, State.setUst_fw, State.laneDown_fw, eachIn_fw, implies_true]
  refine eachIn_fw fun t l => ?_
  split <;> simp only [State.portTaken_fw]
theorem State.quadOut_fw (s : State) (q : Nat) : (s.quadOut q).fw = s.fw := by
  simp only [State.quadOut, fw_rules, State.domQuiet_fw, State.quadDown_fw, State.setPll_fw, eachIn_fw, implies_true]
theorem State.retireNow_fw (s : State) (t : Nat) : (s.retireNow t).fw = s.fw := by
  unfold State.retireNow; split <;> simp only [fw_rules, State.retire_fw]
theorem State.takeOut_fw (s : State) (t : Nat) (retire : Bool) : (s.takeOut t retire).1.fw = s.fw := by
  simp only [State.takeOut]
  split <;> simp only [fw_rules, State.laneOut_fw, State.clusterLeaves_fw, State.retireNow_fw, State.pipeLeave_fw, State.engineLeave_fw,
    State.replaceBank_fw, State.quadOut_fw, State.twigOut_fw, State.setUst_fw, State.chanLeave_fw]
theorem effUnitGraft_fw (p : Packet) (s : State) : (effUnitGraft p s).1.fw = s.fw := by simp only [effUnitGraft, fw_rules, State.takeOut_fw]
@[simp] theorem execUnitGraft_fw (p : Packet) (s : State) : (nextOf s (execUnitGraft p s)).fw = s.fw :=
    State.command_keeps (fun f => f) (effUnitGraft_fw p) s _
theorem effUnitRetire_fw (p : Packet) (s : State) : (effUnitRetire p s).1.fw = s.fw := by
  simp only [effUnitRetire, fw_rules, State.retireNow_fw, State.takeOut_fw]
@[simp] theorem execUnitRetire_fw (p : Packet) (s : State) : (nextOf s (execUnitRetire p s)).fw = s.fw :=
    State.command_keeps (fun f => f) (effUnitRetire_fw p) s _
theorem State.laneBack_fw (s : State) (l : Nat) : (s.laneBack l).fw = s.fw := by
  simp only [State.laneBack]
  split <;> simp only [fw_rules, State.laneEnable_fw, State.setUst_fw]
theorem State.twigBack_fw (s : State) (t : Nat) : (s.twigBack t).fw = s.fw := by
  refine (eachIn_fw fun t l => ?_).trans ?_
  · split <;> simp only [fw_rules, State.laneEnable_fw]
  · simp only [State.setUst_fw, State.startPll_fw]
theorem State.engineBack_fw (s : State) (e : Nat) : (s.engineBack e).1.fw = s.fw := by
  simp only [State.engineBack, fw_rules, State.engineLeave_fw, State.setUst_fw]
  repeat' split
  all_goals simp only [fw_rules, State.setUst_fw]
theorem State.clusterBack_fw (s : State) (c : Nat) (failUp failDn : List Nat) : (s.clusterBack c failUp failDn).fw = s.fw := by
  simp only [State.clusterBack, fw_rules, State.setCluster_fw, State.trained_fw, State.setRootBough_fw, State.setUst_fw]
theorem State.quadBack_fw (s : State) (q : Nat) : (s.quadBack q).fw = s.fw := by
  simp only [State.quadBack, fw_rules, State.restoreChan_fw, State.clusterBack_fw, State.relayExt_fw, State.restoreBank_fw, State.engineBack_fw,
    State.startPll_fw, State.setUst_fw, eachIn_fw, implies_true]
theorem State.bringBack_fw (s : State) (p : Packet) (t : Nat) : (s.bringBack p t).1.fw = s.fw := by
  unfold State.bringBack; split <;> simp only [fw_rules, State.restoreChan_fw, State.clusterBack_fw, State.laneBack_fw, State.pipeReturn_fw,
    State.restoreBank_fw, State.engineBack_fw, State.quadBack_fw, State.twigBack_fw]
theorem effUnitRestore_fw (p : Packet) (s : State) : (effUnitRestore p s).1.fw = s.fw := by
  simp only [effUnitRestore, fw_rules, State.raise_fw, State.bringBack_fw]
@[simp] theorem execUnitRestore_fw (p : Packet) (s : State) : (nextOf s (execUnitRestore p s)).fw = s.fw :=
    State.command_keeps (fun f => f) (effUnitRestore_fw p) s _

/-! ## Power -/

theorem State.showAlert_fw (s : State) : s.showAlert.fw = s.fw := by simp only [State.showAlert, fw_rules]
@[simp] theorem execVinRangeEvent_fw (s : State) : (nextOf s (execVinRangeEvent s)).fw = s.fw := by
  simp only [execVinRangeEvent, fw_rules, State.showAlert_fw]
@[simp] theorem execVinBackInRange_fw (s : State) : (nextOf s (execVinBackInRange s)).fw = s.fw := by
  simp only [execVinBackInRange, fw_rules, State.showAlert_fw]
@[simp] theorem execVinUndervoltage_otp (s : State) : (nextOf s (execVinUndervoltage s)).fw.otp = s.fw.otp := by
  simp only [execVinUndervoltage, fw_rules, State.resetCold_otp]
@[simp] theorem execVinPowerLoss_otp (s : State) : (nextOf s (execVinPowerLoss s)).fw.otp = s.fw.otp := by
  simp only [execVinPowerLoss, fw_rules, State.resetPor_otp]
theorem State.release_fw (s : State) (input : Nat) : (s.release input).fw = s.fw := by simp only [State.release, fw_rules, State.latchStraps_fw]
@[simp] theorem execVinRecover_fw (s : State) : (nextOf s (execVinRecover s)).fw = s.fw := by simp only [execVinRecover, fw_rules, State.release_fw]
@[simp] theorem execHwIlim_fw (acts : Bool) (s : State) : (nextOf s (execHwIlim acts s)).fw = s.fw := by
  simp only [execHwIlim, fw_rules, State.showAlert_fw]
@[simp] theorem execThermalShutdown_otp (s : State) : (nextOf s (execThermalShutdown s)).fw.otp = s.fw.otp := by
  simp only [execThermalShutdown, fw_rules, State.resetCold_otp]
theorem State.setSensor_fw (s : State) (n r : Nat) (v : Sensor) : (s.setSensor n r v).fw = s.fw := by simp only [State.setSensor]
theorem State.setStepEnd_fw (s : State) (q t : Nat) : (s.setStepEnd q t).fw = s.fw := by simp only [State.setStepEnd]
theorem State.startMove_fw (s : State) (q : Nat) : (s.startMove q).fw = s.fw := Framed.fw (fun _ _ => rfl) (State.startMove_framed _ _)
theorem State.retarget_fw (s : State) (q : Nat) : (s.retarget q).fw = s.fw := Framed.fw (fun _ _ => rfl) (State.retarget_framed _ _)
theorem State.retargetAll_fw (s : State) : s.retargetAll.fw = s.fw := by simp only [State.retargetAll, State.retarget_fw, eachIn_fw, implies_true]
theorem State.showLim_fw (s : State) : s.showLim.fw = s.fw := by simp only [State.showLim, fw_rules, eachIn_fw, implies_true]
theorem State.setRail_fw (s : State) (q mv : Nat) : (s.setRail q mv).fw = s.fw := by simp only [State.setRail, fw_rules]
theorem State.railStep_fw (s : State) (q mv : Nat) : (s.railStep q mv).fw = s.fw := by
  simp only [State.railStep, fw_rules, State.setStepEnd_fw, State.setRail_fw]
theorem State.freqStep_fw (s : State) (q mhz : Nat) : (s.freqStep q mhz).fw = s.fw := by simp only [State.freqStep, fw_rules, State.setStepEnd_fw]
theorem State.stepQuad_fw (s : State) (q : Nat) : (s.stepQuad q).fw = s.fw := by
  simp only [State.stepQuad, fw_rules, State.freqStep_fw, State.railStep_fw]
theorem State.showStep_fw (s : State) (q : Nat) : (s.showStep q).fw = s.fw := by simp only [State.showStep, fw_rules]
@[simp] theorem execOppStep_fw (q : Nat) (s : State) : (nextOf s (execOppStep q s)).fw = s.fw := by
  simp only [execOppStep, fw_rules, State.retarget_fw, State.showStep_fw, State.stepQuad_fw]
theorem State.showLevel_fw (s : State) : s.showLevel.fw = s.fw := by simp only [State.showLevel, fw_rules]
theorem State.capEngage_fw (s : State) : s.capEngage.fw = s.fw := by
  simp only [State.capEngage, fw_rules]
  repeat' split
  all_goals simp only [fw_rules]
theorem State.capRelease_fw (s : State) : s.capRelease.fw = s.fw := by simp only [State.capRelease, fw_rules]
theorem State.capBelow_fw (s : State) : s.capBelow.fw = s.fw := by simp only [State.capBelow, fw_rules, State.capRelease_fw]
theorem State.droopAfter_fw (s : State) (q e : Nat) : (s.droopAfter q e).fw = s.fw := by
  simp only [State.droopAfter, fw_rules, State.startMove_fw, State.showLim_fw]
theorem State.droopTick_fw (s : State) : s.droopTick.fw = s.fw := by
  refine eachIn_fw fun t q => ?_
  split <;> simp only [fw_rules, State.droopAfter_fw]
theorem State.capMeasure_fw (s : State) (vin iin mj : Nat) (doms : List (Nat × Nat)) : (s.capMeasure vin iin mj doms).fw = s.fw := by
  simp only [State.capMeasure, fw_rules, State.showCal_fw, eachIn_fw, implies_true]
theorem State.capClear_fw (s : State) (u : Nat) : (s.capClear u).fw = s.fw := by simp only [State.capClear, fw_rules]
@[simp] theorem execCapTick_fw (vin iin mj : Nat) (doms : List (Nat × Nat)) (above : Bool) (s : State) :
    (nextOf s (execCapTick vin iin mj doms above s)).fw = s.fw := by
  simp only [execCapTick, fw_rules, State.retargetAll_fw, State.showLevel_fw, State.capBelow_fw, State.showLim_fw, State.capEngage_fw,
    State.showAlert_fw, State.capClear_fw, State.capMeasure_fw]
@[simp] theorem execCapUnmet_fw (s : State) : (nextOf s (execCapUnmet s)).fw = s.fw := by
  simp only [execCapUnmet, fw_rules, State.showAlert_fw, State.raise_fw]
@[simp] theorem execDroopTrip_fw (e : RailFall) (s : State) : (nextOf s (execDroopTrip e s)).fw = s.fw := by
  simp only [execDroopTrip, fw_rules]
  repeat' split
  all_goals simp only [fw_rules, State.showLim_fw]
@[simp] theorem execDroopRecover_fw (n clocks : Nat) (s : State) : (nextOf s (execDroopRecover n clocks s)).fw = s.fw := by
  simp only [execDroopRecover, fw_rules]
  repeat' split
  all_goals simp only [State.perf_fw]
theorem State.estCompare_fw (s : State) (n e m : Nat) : (s.estCompare n e m).fw = s.fw := by
  simp only [State.estCompare, fw_rules, State.raise_fw, State.setCal_fw]
@[simp] theorem execEstWindow_fw (n e m : Nat) (whole cut : Bool) (s : State) : (nextOf s (execEstWindow n e m whole cut s)).fw = s.fw := by
  simp only [execEstWindow, fw_rules, State.showCal_fw, State.retake_fw, State.estCompare_fw]
@[simp] theorem execThermalSample_fw (n : Nat) (regulator : Bool) (t : Nat) (s : State) :
    (nextOf s (execThermalSample n regulator t s)).fw = s.fw := by
  simp only [execThermalSample, fw_rules, State.retargetAll_fw, State.showCal_fw, State.showLim_fw, State.showAlert_fw, State.raise_fw,
    State.setSensor_fw]
theorem effPwrCap_fw (p : Packet) (s : State) : (effPwrCap p s).1.fw = s.fw := Framed.fw (fun _ _ => rfl) (effPwrCap_framed _ _)
@[simp] theorem execPwrCap_fw (p : Packet) (s : State) : (nextOf s (execPwrCap p s)).fw = s.fw :=
  State.command_keeps (fun f => f) (effPwrCap_fw p) s _
theorem effPwrPriv_fw (p : Packet) (s : State) : (effPwrPriv p s).1.fw = s.fw := Framed.fw (fun _ _ => rfl) (effPwrPriv_framed _ _)
@[simp] theorem execPwrPriv_fw (p : Packet) (s : State) : (nextOf s (execPwrPriv p s)).fw = s.fw :=
  State.command_keeps (fun f => f) (effPwrPriv_fw p) s _
theorem State.hintsChanged_fw (s : State) : s.hintsChanged.fw = s.fw := by simp only [State.hintsChanged, fw_rules, State.retargetAll_fw]
theorem State.activateHint_fw (s : State) (id : Nat) : (s.activateHint id).fw = s.fw := by
  simp only [State.activateHint, State.wakeEngine_fw, State.hintsChanged_fw, eachIn_fw, implies_true]
theorem effPwrHint_fw (p : Packet) (s : State) : (effPwrHint p s).1.fw = s.fw := by
  simp only [effPwrHint, fw_rules, State.hintsChanged_fw, State.activateHint_fw]
@[simp] theorem execPwrHint_fw (p : Packet) (s : State) : (nextOf s (execPwrHint p s)).fw = s.fw :=
  State.command_keeps (fun f => f) (effPwrHint_fw p) s _
@[simp] theorem execHintActivate_fw (id : Nat) (s : State) : (nextOf s (execHintActivate id s)).fw = s.fw := by
  simp only [execHintActivate, fw_rules, State.activateHint_fw]
@[simp] theorem execHintExpire_fw (id : Nat) (s : State) : (nextOf s (execHintExpire id s)).fw = s.fw := by
  simp only [execHintExpire, fw_rules, State.hintsChanged_fw]
theorem effPwrOpp_fw (p : Packet) (s : State) : (effPwrOpp p s).1.fw = s.fw := Framed.fw (fun _ _ => rfl) (effPwrOpp_framed _ _)
@[simp] theorem execPwrOpp_fw (p : Packet) (s : State) : (nextOf s (execPwrOpp p s)).fw = s.fw :=
  State.command_keeps (fun f => f) (effPwrOpp_fw p) s _
theorem effPwrStatus_fw (p : Packet) (s : State) : (effPwrStatus p s).1.fw = s.fw := by simp only [effPwrStatus]
@[simp] theorem execPwrStatus_fw (p : Packet) (s : State) : (nextOf s (execPwrStatus p s)).fw = s.fw :=
    State.command_keeps (fun f => f) (effPwrStatus_fw p) s _

/-! ## The fault collector -/

theorem State.showErrN_fw (s : State) : s.showErrN.fw = s.fw := by simp only [State.showErrN, fw_rules]
@[simp] theorem execErrPulseEnd_fw (s : State) : (nextOf s (execErrPulseEnd s)).fw = s.fw := by
  simp only [execErrPulseEnd, fw_rules, State.showErrN_fw]
theorem State.newEntry_fw (s : State) (e : FltEv) : (s.newEntry e).fw = s.fw := by simp only [State.newEntry, fw_rules, State.showErrN_fw]
theorem State.enterHistory_fw (s : State) (e : FltEv) : (s.enterHistory e).fw = s.fw := by
  unfold State.enterHistory; split <;> simp only [State.newEntry_fw]
theorem State.fatalNow_fw (s : State) : s.fatalNow.fw = s.fw := by simp only [State.fatalNow, fw_rules, State.showErrN_fw, eachIn_fw, implies_true]
theorem State.topEvent_fw (s : State) (e : FltEv) : (s.topEvent e).fw = s.fw := by simp only [State.topEvent, fw_rules]
theorem State.collect_fw (s : State) (e : FltEv) : (s.collect e).fw = s.fw := by
  simp only [State.collect, fw_rules, State.fatalNow_fw, State.topEvent_fw, State.enterHistory_fw]
@[simp] theorem execFaultEventCollect_fw (s : State) : (nextOf s (execFaultEventCollect s)).fw = s.fw := by
  unfold execFaultEventCollect; split <;> simp only [fw_rules, State.collect_fw]
theorem State.histLatch_fw (s : State) (i : Nat) : (s.histLatch i).fw = s.fw := by simp only [State.histLatch, fw_rules, eachIn_fw, implies_true]
@[simp] theorem execFltHistSelWrite_fw (i : Nat) (s : State) : (nextOf s (execFltHistSelWrite i s)).fw = s.fw := by
  simp only [execFltHistSelWrite, fw_rules, State.histLatch_fw]
theorem effFltAck_fw (p : Packet) (s : State) : (effFltAck p s).1.fw = s.fw := Framed.fw (fun _ _ => rfl) (effFltAck_framed _ _)
@[simp] theorem execFltAck_fw (p : Packet) (s : State) : (nextOf s (execFltAck p s)).fw = s.fw :=
  State.command_keeps (fun f => f) (effFltAck_fw p) s _
theorem effFltHistory_fw (p : Packet) (s : State) : (effFltHistory p s).1.fw = s.fw := by simp only [effFltHistory]
@[simp] theorem execFltHistory_fw (p : Packet) (s : State) : (nextOf s (execFltHistory p s)).fw = s.fw :=
    State.command_keeps (fun f => f) (effFltHistory_fw p) s _
theorem effFltMask_fw (p : Packet) (s : State) : (effFltMask p s).1.fw = s.fw := Framed.fw (fun _ _ => rfl) (effFltMask_framed _ _)
@[simp] theorem execFltMask_fw (p : Packet) (s : State) : (nextOf s (execFltMask p s)).fw = s.fw :=
  State.command_keeps (fun f => f) (effFltMask_fw p) s _
theorem effFltInject_fw (p : Packet) (s : State) : (effFltInject p s).1.fw = s.fw := Framed.fw (fun _ _ => rfl) (effFltInject_framed _ _)
@[simp] theorem execFltInject_fw (p : Packet) (s : State) : (nextOf s (execFltInject p s)).fw = s.fw :=
    State.command_keeps (fun f => f) (effFltInject_fw p) s _
@[simp] theorem execLockstepMismatch_fw (pc : Nat) (s : State) : (nextOf s (execLockstepMismatch pc s)).fw = s.fw := by
  simp only [execLockstepMismatch, fw_rules, State.raise_fw]
@[simp] theorem execMalthouseWatchdog_otp (s : State) : (nextOf s (execMalthouseWatchdog s)).fw.otp = s.fw.otp := by
  simp only [execMalthouseWatchdog, fw_rules, otp_rules, State.raise_fw, State.resetWarm_otp]

/-! ## Firmware -/

theorem State.setFwSlot_otp (s : State) (n : Nat) (v : FwSlot) : (s.setFwSlot n v).fw.otp = s.fw.otp := by
  simp only [State.setFwSlot, fw_rules, otp_rules]
theorem State.writeRec_otp (s : State) (active : Nat) (trial : Option Nat) : (s.writeRec active trial).fw.otp = s.fw.otp := by
  simp only [State.writeRec, fw_rules, otp_rules]
theorem State.flashFails_fw (s : State) (n sector : Nat) : (s.flashFails n sector).fw = s.fw := by
  simp only [State.flashFails, fw_rules, State.raise_fw, eachIn_fw, implies_true]
theorem State.startClocks_fw (s : State) : s.startClocks.fw = s.fw := by
  simp only [State.startClocks, fw_rules, State.setSrc_fw, eachIn_fw, implies_true]
theorem State.showFlash_otp (s : State) : s.showFlash.fw.otp = s.fw.otp := by simp only [State.showFlash, fw_rules, State.setFwSlot_otp]
theorem State.runSlot_otp (s : State) (n : Nat) (trial : Bool) : (s.runSlot n trial).fw.otp = s.fw.otp := by
  simp only [State.runSlot, fw_rules, otp_rules, eachIn_fw, State.askVendor_fw, implies_true]
theorem State.slotBad_otp (s : State) (n : Nat) : (s.slotBad n).fw.otp = s.fw.otp := by simp only [State.slotBad, State.setFwSlot_otp]
theorem State.romLoader_otp (s : State) : s.romLoader.1.fw.otp = s.fw.otp := by
  simp only [State.romLoader, fw_rules, otp_rules]
  repeat' split
  all_goals simp only [fw_rules, State.writeRec_otp, State.slotBad_otp, State.raise_fw]
theorem State.enterRecovery_otp (s : State) : s.enterRecovery.fw.otp = s.fw.otp := by
  simp only [State.enterRecovery, fw_rules, otp_rules, State.coreReset_otp, State.setMode_fw]
theorem State.startMode_fw (s : State) : s.startMode.fw = s.fw := by simp only [State.startMode, fw_rules, State.startSteep_fw]
theorem State.actStarted_otp (s : State) (run : Nat × Bool) (cause : Option Nat) : (s.actStarted run cause).fw.otp = s.fw.otp := by
  unfold State.actStarted
  split <;> simp only [fw_rules, otp_rules, State.finish_fw]
theorem State.freshStart_otp (s : State) : s.freshStart.fw.otp = s.fw.otp := by simp only [State.freshStart, fw_rules, otp_rules, State.timeLow_fw]
@[simp] theorem execBootStart_otp (s : State) : (nextOf s (execBootStart s)).fw.otp = s.fw.otp := by
  simp only [execBootStart, fw_rules]
  split
  · rfl
  · split <;> simp only [fw_rules, otp_rules, State.enterRecovery_otp, State.startMode_fw, State.actStarted_otp, State.runSlot_otp,
    State.romLoader_otp, State.freshStart_otp, State.showFlash_otp, State.startClocks_fw]
theorem State.pinBase_fw (s : State) (st : Nat) : (s.pinBase st).fw = s.fw := by simp only [State.pinBase, State.setStore_fw]
theorem State.newBase_fw (s : State) (st old : Nat) : (s.newBase st old).fw = s.fw := by
  simp only [State.newBase, fw_rules, State.switchStart_fw, State.loadBase_fw, eachIn_fw, implies_true]
theorem State.changeBases_otp (s : State) (h : List Nat) : (s.changeBases h).fw.otp = s.fw.otp := by
  simp only [State.changeBases, fw_rules, otp_rules, State.newBase_fw, State.pinBase_fw, eachIn_fw, implies_true]
@[simp] theorem execFwCheckinTimeout_otp (s : State) : (nextOf s (execFwCheckinTimeout s)).fw.otp = s.fw.otp := by
  simp only [execFwCheckinTimeout, fw_rules, otp_rules, State.raise_fw]
theorem State.putHeader_otp (s : State) (n : Nat) (h : List Nat) : (s.putHeader n h).fw.otp = s.fw.otp := by
  simp only [State.putHeader, fw_rules, State.setFwSlot_otp]
theorem State.putBlock_otp (s : State) (n i : Nat) (b : FwBlock) : (s.putBlock n i b).fw.otp = s.fw.otp := by
  simp only [State.putBlock, fw_rules, State.setFwSlot_otp]
theorem effFwBegin_otp (p : Packet) (s : State) : (effFwBegin p s).1.fw.otp = s.fw.otp := by
  simp only [effFwBegin]
  split <;> simp only [fw_rules, otp_rules, State.putHeader_otp, State.flashFails_fw]
@[simp] theorem execFwBegin_otp (p : Packet) (s : State) : (nextOf s (execFwBegin p s)).fw.otp = s.fw.otp :=
    State.command_keeps FwSt.otp (effFwBegin_otp p) s _
theorem effFwBlock_otp (p : Packet) (s : State) : (effFwBlock p s).1.fw.otp = s.fw.otp := by
  simp only [effFwBlock, fw_rules, otp_rules, State.flashFails_fw, State.putBlock_otp]
@[simp] theorem execFwBlock_otp (p : Packet) (s : State) : (nextOf s (execFwBlock p s)).fw.otp = s.fw.otp :=
    State.command_keeps FwSt.otp (effFwBlock_otp p) s _
theorem State.verified_otp (s : State) (n : Nat) (t : List Nat) : (s.verified n t).fw.otp = s.fw.otp := by
  simp only [State.verified, fw_rules, State.setFwSlot_otp]
theorem effFwVerify_otp (p : Packet) (s : State) : (effFwVerify p s).1.fw.otp = s.fw.otp := by
  simp only [effFwVerify, fw_rules, otp_rules]
  repeat' split
  all_goals simp only [State.verified_otp]
@[simp] theorem execFwVerify_otp (p : Packet) (s : State) : (nextOf s (execFwVerify p s)).fw.otp = s.fw.otp :=
    State.command_keeps FwSt.otp (effFwVerify_otp p) s _
theorem State.activate_otp (s : State) (a : FwAct) : (s.activate a).fw.otp = s.fw.otp := by
  simp only [State.activate, otp_rules, State.writeRec_otp]
theorem effFwActivate_otp (p : Packet) (s : State) : (effFwActivate p s).1.fw.otp = s.fw.otp := by
  simp only [effFwActivate, fw_rules, otp_rules, State.activate_otp]
@[simp] theorem execFwActivate_otp (p : Packet) (s : State) : (nextOf s (execFwActivate p s)).fw.otp = s.fw.otp :=
    State.command_keeps FwSt.otp (effFwActivate_otp p) s _
theorem effFwInfo_fw (x : Packet) (s : State) : (effFwInfo x s).1.fw = s.fw := by simp only [effFwInfo]
@[simp] theorem execFwInfo_fw (p : Packet) (s : State) : (nextOf s (execFwInfo p s)).fw = s.fw :=
  State.command_keeps (fun f => f) (effFwInfo_fw p) s _
theorem State.dfuError_fw (s : State) (status : Nat) : (s.dfuError status).fw = s.fw := by simp only [State.dfuError, fw_rules]
theorem State.dfuPart_otp (s : State) : s.dfuPart.fw.otp = s.fw.otp := by
  simp only [State.dfuPart, fw_rules, otp_rules, State.dfuError_fw, State.putHeader_otp, State.putBlock_otp]
@[simp] theorem execDfuDownload_otp (bytes : List Nat) (fails : Nat) (s : State) : (nextOf s (execDfuDownload bytes fails s)).fw.otp = s.fw.otp := by
  simp only [execDfuDownload, fw_rules, otp_rules, State.dfuError_fw, State.flashFails_fw, State.dfuPart_otp]
theorem State.dfuRun_otp (s : State) (n : Nat) : (s.dfuRun n).fw.otp = s.fw.otp := by
  simp only [State.dfuRun, fw_rules, otp_rules, State.writeRec_otp, State.resetCold_otp, State.activate_otp]
@[simp] theorem execDfuManifest_otp (s : State) : (nextOf s (execDfuManifest s)).fw.otp = s.fw.otp := by
  simp only [execDfuManifest, fw_rules, otp_rules]
  split
  · rfl
  · split
    · simp only [State.dfuError_fw]
    · split <;> simp only [otp_rules, State.dfuError_fw, State.dfuRun_otp, State.verified_otp]

/-! ## Pins -/

@[simp] theorem execPorAssert_otp (pin : Nat) (s : State) : (nextOf s (execPorAssert pin s)).fw.otp = s.fw.otp := by
  simp only [execPorAssert, fw_rules, otp_rules, State.resetCold_otp, State.resetPor_otp]
@[simp] theorem execPorRelease_fw (pin levels : Nat) (s : State) : (nextOf s (execPorRelease pin levels s)).fw = s.fw := by
  simp only [execPorRelease, fw_rules, State.release_fw]
@[simp] theorem execJtagInstruction_fw (code : Nat) (s : State) : (nextOf s (execJtagInstruction code s)).fw = s.fw := by
  simp only [execJtagInstruction, fw_rules, State.jtagTo_fw]
@[simp] theorem execTestLogicReset_fw (s : State) : (nextOf s (execTestLogicReset s)).fw = s.fw := by
  simp only [execTestLogicReset, fw_rules, State.jtagTo_fw]
@[simp] theorem execSmbBlockRead_fw (block : Bool) (code : Nat) (pecNack : Bool) (s : State) :
    (nextOf s (execSmbBlockRead block code pecNack s)).fw = s.fw  := by
  simp only [execSmbBlockRead, fw_rules]
  repeat' split
  all_goals simp only [fw_rules]
@[simp] theorem execSmbAlertResponse_fw (s : State) : (nextOf s (execSmbAlertResponse s)).fw = s.fw := by simp only [execSmbAlertResponse, fw_rules]
@[simp] theorem execUsbConnect_fw (s : State) : (nextOf s (execUsbConnect s)).fw = s.fw := by simp only [execUsbConnect, fw_rules]

/-! ## The register bus -/

theorem State.busErr_fw (s : State) (chan off : Nat) (write : Bool) (cause : Nat) : (s.busErr chan off write cause).fw = s.fw := by
  simp only [State.busErr, fw_rules, State.raise_fw]
theorem State.holdAccess_fw (s : State) (a : BusAcc) : (s.holdAccess a).fw = s.fw := by simp only [State.holdAccess]
theorem State.setLatch_fw (s : State) (k : Key) (v : Option Word) : (s.setLatch k v).fw = s.fw := by simp only [State.setLatch]
theorem State.readHit_fw (s : State) (chan : Nat) (h : Hit) : (s.readHit chan h).1.fw = s.fw := by
  unfold State.readHit; split <;> simp only [fw_rules, State.showAlert_fw, State.setLatch_fw]
theorem State.readAt_fw (s : State) (chan off : Nat) : (s.readAt chan off).1.fw = s.fw := by
  unfold State.readAt; split <;> simp only [fw_rules, State.readHit_fw]
theorem State.readSpan_fw (s : State) (chan off n : Nat) : (s.readSpan chan off n).1.fw = s.fw := by
  induction n generalizing s off with
  | zero => rfl
  | succ n ih => simp only [State.readSpan, ih, State.readAt_fw]
theorem State.readNow_fw (s : State) (chan off count : Nat) : (s.readNow chan off count).fw = s.fw := by
  unfold State.readNow; split <;> simp only [fw_rules, State.readSpan_fw, State.busErr_fw]
theorem State.busRead_fw (s : State) (chan off count : Nat) : (s.busRead chan off count).fw = s.fw := by
  simp only [State.busRead, fw_rules, State.holdAccess_fw, State.readNow_fw]
theorem State.writeCmdCtl_fw (s : State) (w : Word) : (s.writeCmdCtl w).fw = s.fw := by
  simp only [State.writeCmdCtl, fw_rules, State.showFull_fw, State.cqIrq_fw, State.settleRun_fw]
theorem State.writeSqTail_fw (s : State) (w : Word) : (s.writeSqTail w).fw = s.fw := by simp only [State.writeSqTail, fw_rules]
theorem State.writeCqHead_fw (s : State) (w : Word) : (s.writeCqHead w).fw = s.fw := by simp only [State.writeCqHead, fw_rules, State.showFull_fw]
theorem State.setPktIrq_fw (s : State) (k n since : Nat) : (s.setPktIrq k n since).fw = s.fw := by simp only [State.setPktIrq]
theorem State.pktIrq_fw (s : State) (k : Nat) : (s.pktIrq k).fw = s.fw := by simp only [State.pktIrq, fw_rules, State.msix_fw, State.setPktIrq_fw]
theorem State.pktSettle_fw (s : State) : s.pktSettle.fw = s.fw := by simp only [State.pktSettle, fw_rules]
theorem State.writePktCtl_fw (s : State) (w : Word) : (s.writePktCtl w).fw = s.fw := by
  simp only [State.writePktCtl, fw_rules, State.pktSettle_fw, eachIn_fw, implies_true]
theorem State.writePktTail_fw (s : State) (tail size : Fld) (i : Nat) (w : Word) : (s.writePktTail tail size i w).fw = s.fw := by
  simp only [State.writePktTail, fw_rules]
theorem State.writePlain_fw (s : State) (r : Reg) (i : Nat) (w : Word) : (s.writePlain r i w).fw = s.fw := by simp only [State.writePlain, fw_rules]
theorem State.writeRing_fw (s : State) (run cfgErr : Fld) (r : Reg) (i : Nat) (w : Word) : (s.writeRing run cfgErr r i w).fw = s.fw := by
  simp only [State.writeRing, fw_rules, State.writePlain_fw]
theorem State.writeGpio_fw (s : State) (r : Reg) (w : Word) : (s.writeGpio r w).fw = s.fw := by
  simp only [State.writeGpio, fw_rules, State.writePlain_fw, eachIn_fw, implies_true]
theorem State.writeMsix_fw (s : State) (i : Nat) (w : Word) : (s.writeMsix i w).fw = s.fw := by
  simp only [State.writeMsix, fw_rules, State.writePlain_fw]
theorem State.writeTodCtl_fw (s : State) (w : Word) : (s.writeTodCtl w).fw = s.fw := by simp only [State.writeTodCtl, fw_rules, State.writePlain_fw]
theorem State.writeCommit_fw (s : State) (block : Nat) (w : Word) : (s.writeCommit block w).fw = s.fw := by
  simp only [State.writeCommit, fw_rules, State.boughCommit_fw, State.tunCommit_fw]
theorem State.writeResetCtl_otp (s : State) (chan : Nat) (w : Word) : (s.writeResetCtl chan w).fw.otp = s.fw.otp := by
  simp only [State.writeResetCtl, fw_rules, otp_rules, State.resetCold_otp, State.resetWarm_otp, State.busErr_fw]
theorem State.writeLearnCtl_fw (s : State) (b : Nat) (w : Word) : (s.writeLearnCtl b w).fw = s.fw := by
  simp only [State.writeLearnCtl, fw_rules, State.writePlain_fw, State.learnEnable_fw]
theorem State.writeLearnHead_fw (s : State) (b : Nat) (w : Word) : (s.writeLearnHead b w).fw = s.fw := by
  simp only [State.writeLearnHead, fw_rules, State.writePlain_fw]
theorem State.writeClkSrc_fw (s : State) (n : Nat) (w : Word) : (s.writeClkSrc n w).fw = s.fw := by
  simp only [State.writeClkSrc, State.writeSrcEn_fw, State.writeTrim_fw]
theorem State.pokeRing_fw (s : State) (r : Reg) (i : Nat) (w : Word) : (s.pokeRing r i w).fw = s.fw := by
  unfold State.pokeRing; split <;> simp only [fw_rules, State.cqIrq_fw, State.writePktTail_fw, State.writeSqTail_fw, State.writeMsix_fw,
    State.writeCmdCtl_fw, State.writeLearnHead_fw, State.pktIrq_fw, State.writePlain_fw, State.writeRing_fw, State.writeCqHead_fw,
    State.writePktCtl_fw]
theorem State.poke_otp (s : State) (chan : Nat) (r : Reg) (i : Nat) (w : Word) : (s.poke chan r i w).fw.otp = s.fw.otp := by
  unfold State.poke; split <;> simp only [fw_rules, State.showErrN_fw, State.writeTodCtl_fw, State.winStart_fw, State.writeResetCtl_otp,
    State.popTs_fw, State.pokeRing_fw, State.histLatch_fw, State.writeCommit_fw, State.writePlain_fw, State.showAlert_fw, State.writeGpio_fw,
    State.writeLearnCtl_fw, State.writeChainEn_fw, State.writeClkSrc_fw]
theorem State.writeNow_otp (s : State) (chan off : Nat) (words : List Word) (full : Bool) : (s.writeNow chan off words full).fw.otp = s.fw.otp := by
  unfold State.writeNow; split <;> simp only [State.poke_otp, State.busErr_fw]
theorem State.busWrite_otp (s : State) (chan off : Nat) (words : List Word) (full : Bool) : (s.busWrite chan off words full).fw.otp = s.fw.otp := by
  simp only [State.busWrite, fw_rules, otp_rules, State.holdAccess_fw, State.writeNow_otp]
theorem State.busGoes_otp (s : State) : s.busGoes.fw.otp = s.fw.otp := by
  unfold State.busGoes
  split
  · rfl
  · refine eachIn_otp fun t a => ?_
    split <;> simp only [State.writeNow_otp, State.readNow_fw]
@[simp] theorem execRegisterWrite_otp (chan offset : Nat) (words : List Word) (full : Bool) (s : State) :
    (nextOf s (execRegisterWrite chan offset words full s)).fw.otp = s.fw.otp := by
  simp only [execRegisterWrite, fw_rules, State.busWrite_otp]
@[simp] theorem execRcRegisterRead_fw (chan offset count : Nat) (s : State) : (nextOf s (execRcRegisterRead chan offset count s)).fw = s.fw := by
  simp only [execRcRegisterRead, fw_rules, State.busRead_fw]
@[simp] theorem execPairLoRead_fw (chan offset : Nat) (s : State) : (nextOf s (execPairLoRead chan offset s)).fw = s.fw := by
  unfold execPairLoRead; split <;> simp only [fw_rules, State.busRead_fw]
@[simp] theorem execSvcRegisterRead_fw (reqType req wValue wIndex wLength : Nat) (s : State) :
    (nextOf s (execSvcRegisterRead reqType req wValue wIndex wLength s)).fw = s.fw := by
  simp only [execSvcRegisterRead, fw_rules, State.busErr_fw, State.busRead_fw]
@[simp] theorem execSvcRegisterWrite_otp (reqType req wValue wIndex wLength : Nat) (data : Word) (s : State) :
    (nextOf s (execSvcRegisterWrite reqType req wValue wIndex wLength data s)).fw.otp = s.fw.otp := by
  simp only [execSvcRegisterWrite, fw_rules, otp_rules, State.busWrite_otp, State.busErr_fw]
@[simp] theorem execPairCommit_fw (block : Nat) (value : Word) (s : State) : (nextOf s (execPairCommit block value s)).fw = s.fw := by
  simp only [execPairCommit, fw_rules, State.writeCommit_fw]
@[simp] theorem execGlbResetWarm_otp (chan key : Nat) (s : State) : (nextOf s (execGlbResetWarm chan key s)).fw.otp = s.fw.otp := by
  simp only [execGlbResetWarm, fw_rules, State.busWrite_otp]
@[simp] theorem execGlbResetCold_otp (chan key : Nat) (s : State) : (nextOf s (execGlbResetCold chan key s)).fw.otp = s.fw.otp := by
  simp only [execGlbResetCold, fw_rules, State.busWrite_otp]
@[simp] theorem execTsPop_otp (chan port : Nat) (value : Word) (s : State) : (nextOf s (execTsPop chan port value s)).fw.otp = s.fw.otp := by
  simp only [execTsPop, fw_rules, otp_rules, State.busWrite_otp]
@[simp] theorem execCellarWinAccess_otp (chan : Nat) (value : Word) (s : State) :
    (nextOf s (execCellarWinAccess chan value s)).fw.otp = s.fw.otp := by
  simp only [execCellarWinAccess, fw_rules, State.busWrite_otp]
@[simp] theorem execCmdSqDoorbell_otp (chan value : Nat) (s : State) : (nextOf s (execCmdSqDoorbell chan value s)).fw.otp = s.fw.otp := by
  simp only [execCmdSqDoorbell, fw_rules, State.busWrite_otp]
@[simp] theorem execCmdCqHeadWrite_otp (chan value : Nat) (s : State) : (nextOf s (execCmdCqHeadWrite chan value s)).fw.otp = s.fw.otp := by
  simp only [execCmdCqHeadWrite, fw_rules, State.busWrite_otp]
@[simp] theorem execCmdRingEnable_otp (chan : Nat) (irqEn : Bool) (s : State) : (nextOf s (execCmdRingEnable chan irqEn s)).fw.otp = s.fw.otp := by
  simp only [execCmdRingEnable, fw_rules, State.busWrite_otp]
@[simp] theorem execCmdRingDisable_otp (chan : Nat) (irqEn : Bool) (s : State) : (nextOf s (execCmdRingDisable chan irqEn s)).fw.otp = s.fw.otp := by
  simp only [execCmdRingDisable, fw_rules, State.busWrite_otp]
@[simp] theorem execCmdFetchError_fw (s : State) : (nextOf s (execCmdFetchError s)).fw = s.fw := by
  unfold execCmdFetchError; split <;> simp only [fw_rules, State.settleRun_fw]
theorem State.releaseReps_fw (s : State) (rs : List HeldRep) : (s.releaseReps rs).fw = s.fw := by
  induction rs generalizing s with
  | nil => rfl
  | cons r t ih => simp only [State.releaseReps, fw_rules, ih, State.writeCq_fw]
@[simp] theorem execCqReplyRelease_fw (s : State) : (nextOf s (execCqReplyRelease s)).fw = s.fw := by
  simp only [execCqReplyRelease, fw_rules, State.releaseReps_fw, State.settleRun_fw]
@[simp] theorem execCmdIrqCoalTimeout_fw (s : State) : (nextOf s (execCmdIrqCoalTimeout s)).fw = s.fw := by
  simp only [execCmdIrqCoalTimeout, fw_rules, State.cqIrq_fw]

/-! ## The packet DMA -/

theorem State.pktCount_fw (s : State) (k : Nat) : (s.pktCount k).fw = s.fw := by simp only [State.pktCount, State.pktIrq_fw, State.setPktIrq_fw]
@[simp] theorem execPktIrqCoalTimeout_fw (ring : Nat) (s : State) : (nextOf s (execPktIrqCoalTimeout ring s)).fw = s.fw := by
  simp only [execPktIrqCoalTimeout, fw_rules, State.pktIrq_fw]
@[simp] theorem execPktDmaEnable_otp (chan : Nat) (s : State) : (nextOf s (execPktDmaEnable chan s)).fw.otp = s.fw.otp := by
  simp only [execPktDmaEnable, fw_rules, State.busWrite_otp]
@[simp] theorem execPktDmaDisable_otp (chan : Nat) (s : State) : (nextOf s (execPktDmaDisable chan s)).fw.otp = s.fw.otp := by
  simp only [execPktDmaDisable, fw_rules, State.busWrite_otp]
@[simp] theorem execPktTxDoorbell_otp (chan ring value : Nat) (s : State) : (nextOf s (execPktTxDoorbell chan ring value s)).fw.otp = s.fw.otp := by
  simp only [execPktTxDoorbell, fw_rules, otp_rules, State.busWrite_otp]
@[simp] theorem execPktRxDoorbell_otp (chan ring value : Nat) (s : State) : (nextOf s (execPktRxDoorbell chan ring value s)).fw.otp = s.fw.otp := by
  simp only [execPktRxDoorbell, fw_rules, otp_rules, State.busWrite_otp]
theorem State.txAdvance_fw (s : State) (t : Nat) : (s.txAdvance t).fw = s.fw := by simp only [State.txAdvance, fw_rules]
@[simp] theorem execPktTxFrame_fw (ring : Nat) (entry : List Word) (bytes : List Nat) (s : State) :
    (nextOf s (execPktTxFrame ring entry bytes s)).fw = s.fw  := by
  simp only [execPktTxFrame, fw_rules, State.setInjQ_fw, State.txAdvance_fw, State.pktCount_fw]
theorem State.rxEntry_fw (s : State) (r : Nat) (f : TFrame) (inTs len n k addr : Nat) : (s.rxEntry r f inTs len n k addr).fw = s.fw := by
  simp only [State.rxEntry, fw_rules]
theorem State.rxDone_fw (s : State) (i : Nat) : (s.rxDone i).fw = s.fw := by
  simp only [State.rxDone, State.pktSettle_fw, State.freeFrame_fw, State.setAhead_fw]
@[simp] theorem execPktRxDeliver_fw (addrs : List Nat) (s : State) : (nextOf s (execPktRxDeliver addrs s)).fw = s.fw := by
  unfold execPktRxDeliver; split <;> simp only [fw_rules, State.rxEntry_fw, State.rxDone_fw, State.pktCount_fw, eachIn_fw, implies_true]
theorem State.pktFail_fw (s : State) : s.pktFail.fw = s.fw := by simp only [State.pktFail, fw_rules, State.pktSettle_fw]
@[simp] theorem execPktDmaError_fw (kind ring : Nat) (s : State) : (nextOf s (execPktDmaError kind ring s)).fw = s.fw := by
  simp only [execPktDmaError, fw_rules]
  repeat' split
  all_goals simp only [fw_rules, State.lostExport_fw, State.pktFail_fw, State.rxDone_fw]

/-! ## The execution sequence -/

theorem effNop_fw (x : Packet) (s : State) : (effNop x s).1.fw = s.fw := by simp only [effNop]
@[simp] theorem execNop_fw (p : Packet) (s : State) : (nextOf s (execNop p s)).fw = s.fw := State.command_keeps (fun f => f) (effNop_fw p) s _
@[simp] theorem execFenceCmd_fw (p : Packet) (s : State) : (nextOf s (execFenceCmd p s)).fw = s.fw :=
  State.command_keeps (fun f => f) (effNop_fw p) s _
theorem effIdentify_fw (p : Packet) (s : State) : (effIdentify p s).1.fw = s.fw := by simp only [effIdentify]
@[simp] theorem execIdentify_fw (p : Packet) (s : State) : (nextOf s (execIdentify p s)).fw = s.fw :=
  State.command_keeps (fun f => f) (effIdentify_fw p) s _
theorem effGetStatus_fw (p : Packet) (s : State) : (effGetStatus p s).1.fw = s.fw := by simp only [effGetStatus]
@[simp] theorem execGetStatus_fw (p : Packet) (s : State) : (nextOf s (execGetStatus p s)).fw = s.fw :=
    State.command_keeps (fun f => f) (effGetStatus_fw p) s _
theorem effSnapshot_fw (x : Packet) (s : State) : (effSnapshot x s).1.fw = s.fw := by simp only [effSnapshot, fw_rules]
@[simp] theorem execSnapshot_fw (p : Packet) (s : State) : (nextOf s (execSnapshot p s)).fw = s.fw :=
  State.command_keeps (fun f => f) (effSnapshot_fw p) s _
theorem effOf_otp (code : Nat) (p : Packet) (s : State) : (effOf code p s).1.fw.otp = s.fw.otp := by
  unfold effOf
  split
  all_goals simp only [effNop_fw, effIdentify_fw, effSetMode_fw, effSnapshot_fw, effGetStatus_fw, effPortCfg_fw, effPortEnable_fw, effPortStatus_fw,
    effLaneCfg_fw, effLaneTest_fw, effEyeScan_fw, effLaneFom_fw, effPfcCfg_fw, effPtpCfg_fw, effTblProfile_fw, effTblInsert_fw, effTblDelete_fw,
    effTblLookup_fw, effTblDma_fw, effTblAudit_fw, effTblLock_fw, effTblLearnCfg_fw, effEcmpGroupSet_fw, effEcmpMemberSet_fw, effHashCfg_fw,
    effClsWrite_fw, effClsRead_fw, effClsTreeLoad_fw, effMeterCfg_fw, effMeterRead_fw, effPoolCfg_fw, effQueueCfg_fw, effSchedCfg_fw,
    effShaperCfg_fw, effWredCfg_fw, effPfcWdCfg_fw, effQholdCfg_fw, effSpillCfg_fw, effHwmRead_fw, effTelemStreamCfg_fw, effSapFlag_fw,
    effTelemRead_fw, effTagCfg_fw, effIoamCfg_fw, effPerfCfg_fw, effPerfRead_fw, effGristGroupOpen_fw, effGristGroupClose_fw, effGristGroupStatus_fw,
    effPwrHint_fw, effPwrOpp_fw, effPwrCap_fw, effPwrStatus_fw, effPwrPriv_fw, effClkSwitch_fw, effClkTrim_fw, effClkStatus_fw, effFltAck_fw,
    effFltHistory_fw, effFltMask_fw, effFltInject_fw, effFwBegin_otp, effFwBlock_otp, effFwVerify_otp, effFwActivate_otp, effFwInfo_fw,
    effProgLoad_fw, effProgPatch_fw, effStoreModeSet_fw, effProgActivate_fw, effProgRead_fw, effUnitGraft_fw, effUnitRestore_fw, effUnitRetire_fw,
    effUnitState_fw, effDozeCfg_fw]
theorem State.runJob_otp (s : State) (p : Packet) : (s.runJob p).fw.otp = s.fw.otp := by
  have hq := runEff_keeps FwSt.otp (effOf_otp p.opcode p s)
  simp only [State.runJob, fw_rules, State.setJobs_fw, State.reply_fw, hq]
theorem State.endJob_fw (s : State) (p : Packet) : (s.endJob p).fw = s.fw := by
  unfold State.endJob; split <;> simp only [State.clsTreeEnd_fw, State.eyeScanEnd_fw, State.tblProfileEnd_fw, State.progActivateEnd_fw,
    State.tblDmaEnd_fw, State.tblAuditEnd_fw]
theorem State.blockEnd_otp (s : State) (b : Blocked) (late : Bool) (env : List Nat) : (s.blockEnd b late env).fw.otp = s.fw.otp := by
  unfold State.blockEnd
  split <;> simp only [State.goDown_otp, State.start_keeps FwSt.otp (effOf_otp _ _), State.endJob_fw]
@[simp] theorem execPendingComplete_otp (index : Nat) (late : Bool) (env : List Nat) (s : State) :
    (nextOf s (execPendingComplete index late env s)).fw.otp = s.fw.otp := by
  simp only [execPendingComplete, fw_rules, otp_rules]
  repeat' split
  all_goals simp only [State.goDown_otp, State.setJobs_fw, State.runJob_otp, State.blockEnd_otp, State.endJob_fw]
@[simp] theorem execFenceWaitEnd_otp (s : State) : (nextOf s (execFenceWaitEnd s)).fw.otp = s.fw.otp := by
  simp only [execFenceWaitEnd, fw_rules]
  split
  · simp only [fw_rules, otp_rules, State.goDown_otp, State.letRun_keeps FwSt.otp (effOf_otp _ _)]
  · rfl
theorem State.resumeHeld_otp (s : State) (p : Packet) : (s.resumeHeld p).fw.otp = s.fw.otp := by
  simp only [State.resumeHeld, fw_rules, otp_rules, State.reply_fw, State.start_keeps FwSt.otp (effOf_otp _ _)]
theorem State.resumeJob_otp (s : State) (p : Packet) : (s.resumeJob p).fw.otp = s.fw.otp := by
  simp only [State.resumeJob, fw_rules, otp_rules, State.reply_fw, State.runJob_otp]
@[simp] theorem execHeldCommandRelease_otp (s : State) : (nextOf s (execHeldCommandRelease s)).fw.otp = s.fw.otp := by
  simp only [execHeldCommandRelease, fw_rules]
  repeat' split
  all_goals simp only [State.resumeHeld_otp, State.goDown_otp, State.setJobs_fw, State.resumeJob_otp]
@[simp] theorem execSvcCommandFrame_fw (words : List Word) (short : Bool) (s : State) : (nextOf s (execSvcCommandFrame words short s)).fw = s.fw := by
  simp only [execSvcCommandFrame, fw_rules]
@[simp] theorem execSvcPortDisconnect_fw (s : State) : (nextOf s (execSvcPortDisconnect s)).fw = s.fw := by
  simp only [execSvcPortDisconnect, fw_rules]

/-! ## The parts of a tick -/

theorem State.todBy_fw (s : State) (n : Nat) : (s.todBy n).fw = s.fw := by simp only [State.todBy]
theorem State.todTick_fw (s : State) : s.todTick.fw = s.fw := by simp only [State.todTick, fw_rules, State.todApply_fw, State.todBy_fw]
theorem State.ppsTick_fw (s : State) : s.ppsTick.fw = s.fw := by unfold State.ppsTick; split <;> simp only [fw_rules]
theorem State.cycAdd_fw (s : State) (r : Reg) (i mhz : Nat) : (s.cycAdd r i mhz).1.fw = s.fw := by simp only [State.cycAdd, fw_rules]
theorem State.pipeTick_fw (s : State) (p : Nat) : (s.pipeTick p).fw = s.fw := by
  simp only [State.pipeTick, fw_rules, State.cycAdd_fw, State.perf_fw]
theorem State.boughTick_fw (s : State) (b : Nat) : (s.boughTick b).fw = s.fw := by
  simp only [State.boughTick, fw_rules, State.cycAdd_fw, State.pipeTick_fw, eachIn_fw, implies_true]
theorem State.gristTick_fw (s : State) (q mhz : Nat) : (s.gristTick q mhz).fw = s.fw := by
  simp only [State.gristTick, State.cycAdd_fw, State.perf_fw]
theorem State.quadTick_fw (s : State) (q : Nat) : (s.quadTick q).fw = s.fw := by
  simp only [State.quadTick, fw_rules, State.gristTick_fw, State.cycAdd_fw]
theorem State.cellarTick_fw (s : State) : s.cellarTick.fw = s.fw := by simp only [State.cellarTick, fw_rules, State.cycAdd_fw]
theorem State.fecTick_fw (s : State) (p : Nat) : (s.fecTick p).fw = s.fw := by simp only [State.fecTick, fw_rules, eachIn_fw, implies_true]

/-! ## The OTP's writes (R522) -/

theorem State.otpKept_of_otp {s t : State} (h : t.fw.otp = s.fw.otp) : s.otpKept t := by
  obtain ⟨hkeys, hsvn, hrev⟩ : t.fw.keys = s.fw.keys ∧ t.fw.minSvn = s.fw.minSvn ∧ t.fw.rev = s.fw.rev := by
    simpa only [FwSt.otp, Prod.mk.injEq] using h
  exact ⟨hkeys, hsvn.ge, fun k hk => hrev ▸ hk⟩

theorem State.otpKept.trans {s t u : State} (h : s.otpKept t) (h' : t.otpKept u) : s.otpKept u := by
  obtain ⟨hkeys, hsvn, hrev⟩ := h
  obtain ⟨hkeys', hsvn', hrev'⟩ := h'
  exact ⟨hkeys'.trans hkeys, hsvn.trans hsvn', fun k hk => hrev' k (hrev k hk)⟩

theorem getD_set_true {l : List Bool} {k : Nat} (n : Nat) (h : l.getD k false = true) : (l.set n true).getD k false = true := by
  rw [List.getD_eq_getElem?_getD] at h ⊢
  rw [List.getElem?_set]
  split
  · split
    · rfl
    · simp_all
  · exact h

/-- The state after an activation's raise of MIN_SVN. -/
def State.svnRaised (s : State) (a : FwAct) (h : List Nat) : State :=
  if a.raise then { s with fw.minSvn := Nat.max s.fw.minSvn (hdrSvn h) } else s

/-- The state after an activation's revocation of the other key. -/
def State.keyRevoked (s : State) (a : FwAct) (h : List Nat) : State :=
  if a.revoke then { s with fw.rev := s.fw.rev.set (1 - hdrKey h) true } else s

theorem State.otpWrites_eq (s : State) (a : FwAct) (h : List Nat) :
    s.otpWrites a h = if a.raise || a.revoke then
      let t := ((s.svnRaised a h).keyRevoked a h).showFlash.ev SVC_FW_EVENT.OTP_WRITE
      t.raise 0x0B05 kCORRECTED (tgt cSVC 2) ((t.reg .SVC_OTP).toNat % 2 ^ 10)
    else s := rfl

/-- MIN_SVN takes the larger of two numbers. -/
theorem State.otpKept_svnRaised (s : State) (a : FwAct) (h : List Nat) : s.otpKept (s.svnRaised a h) := by
  unfold State.svnRaised
  split
  · exact ⟨rfl, Nat.le_max_left .., fun _ => id⟩
  · exact otpKept_of_otp rfl

/-- A revocation bit is only ever set. -/
theorem State.otpKept_keyRevoked (s : State) (a : FwAct) (h : List Nat) : s.otpKept (s.keyRevoked a h) := by
  unfold State.keyRevoked
  split
  · exact ⟨rfl, Nat.le_refl _, fun _ => getD_set_true _⟩
  · exact otpKept_of_otp rfl

theorem State.otpKept_otpWrites (s : State) (a : FwAct) (h : List Nat) : s.otpKept (s.otpWrites a h) := by
  have hwritten := (s.otpKept_svnRaised a h).trans (State.otpKept_keyRevoked _ a h)
  rw [State.otpWrites_eq]
  split
  · refine hwritten.trans (otpKept_of_otp ?_)
    simp only [fw_rules, State.raise_fw, State.showFlash_otp]
  · exact otpKept_of_otp rfl

theorem State.otpKept_actSettle (s : State) : s.otpKept s.actSettle := by
  unfold State.actSettle
  split
  · exact otpKept_of_otp rfl
  · split
    · exact otpKept_of_otp rfl
    · rename_i a _ _
      let idle : State := { s with fw.act := none }
      have hidle : s.otpKept idle := otpKept_of_otp rfl
      exact (hidle.trans (idle.otpKept_otpWrites a _)).trans (otpKept_of_otp (congrArg FwSt.otp (State.finish_fw ..)))

/-! ## The steps that reach it: the check-in of a trial image, the tick -/

theorem otpKept_execFwCheckin (s : State) : s.otpKept (nextOf s (execFwCheckin s)) := by
  simp only [execFwCheckin, nextOf]
  split
  · exact State.otpKept_of_otp rfl
  · refine State.otpKept.trans (State.otpKept_of_otp ?_) (State.otpKept_actSettle _)
    simp only [fw_rules, otp_rules, State.changeBases_otp, State.writeRec_otp]

/-- What a tick does before it settles an activation. -/
def State.tickStart (s : State) : State :=
  let s := ((({ s with now := s.now + 1 }.todTick).ppsTick).showSynce).busGoes
  eachIn ((List.range 9).filter (fun st => (s.store st).sw.isSome)) s State.switchStep

/-- What a tick does after it has settled an activation. -/
def State.tickEnd (s : State) : State :=
  let s := eachIn s.droopTick.confPorts s.droopTick State.fecTick
  (eachIn (List.range 4) (eachIn (List.range 8) s State.boughTick) State.quadTick).cellarTick

theorem State.tick_eq (s : State) : s.tick = s.tickStart.actSettle.tickEnd := rfl

theorem State.tickStart_otp (s : State) : s.tickStart.fw.otp = s.fw.otp := by
  simp only [State.tickStart, eachIn_fw, State.switchStep_fw, State.busGoes_otp, State.showSynce_fw, State.ppsTick_fw, State.todTick_fw,
    implies_true]

theorem State.tickEnd_fw (s : State) : s.tickEnd.fw = s.fw := by
  simp only [State.tickEnd, eachIn_fw, State.cellarTick_fw, State.quadTick_fw, State.boughTick_fw, State.fecTick_fw, State.droopTick_fw,
    implies_true]

theorem State.otpKept_tick (s : State) : s.otpKept s.tick := by
  rw [State.tick_eq]
  exact (otpKept_of_otp s.tickStart_otp).trans ((State.otpKept_actSettle _).trans (otpKept_of_otp (congrArg FwSt.otp (State.tickEnd_fw _))))

/-! ## Every command, every step -/

theorem exec_otp (s : State) {i : Instr} (h : i ≠ .fwCheckin) : (nextOf s (exec i s)).fw.otp = s.fw.otp := by
  cases i
  case fwCheckin => exact absurd rfl h
  all_goals simp [exec]

theorem otpKept_exec {s t : State} {i : Instr} (h : exec i s = .next t) : s.otpKept t := by
  have ht : nextOf s (exec i s) = t := by rw [h]; rfl
  subst ht
  by_cases hi : i = .fwCheckin
  · subst hi
    exact otpKept_execFwCheckin s
  · exact State.otpKept_of_otp (exec_otp s hi)

/-- Settles O60: a trial image's check-in and the tick that ends an activation write the OTP, and only by a maximum and by setting
bits; every other command leaves it as it is. -/
theorem otpNeverGoesBack : Obligations.OtpNeverGoesBack := by
  unfold Obligations.OtpNeverGoesBack
  intro s t h
  unfold step at h
  split at h
  · obtain rfl : s.tick = t := by injection h
    exact s.otpKept_tick
  · rename_i c rest _
    have htaken : s.otpKept { s with pending := rest } := State.otpKept_of_otp rfl
    exact htaken.trans (otpKept_exec h)

end Sys2Proof.Machine
end
